-- ==== Sys2Proof/Word.lean ====
section
/-! DEFINITION. The word types of the panel: a dictionary byte, a token payload, an FP32 pattern. -/

namespace Sys2Proof

/-- One byte of a store, an image, a descriptor or a dictionary value (R13). -/
abbrev Byte := BitVec 8

/-- A 64-bit word: a token payload (R77), an operand-buffer word (R41), a scratchpad word (R165). -/
abbrev Word := BitVec 64

/-- The 32 bits of an accumulator or of one lane of a scalar word (R42, R48). -/
abbrev Half := BitVec 32

end Sys2Proof
end

