-- ==== Sys2Proof/Syntax.lean ====
section
/-! DEFINITION. The commands and events of spec/opcode_table.json, one constructor a row, and the records
they carry: packets, frames, requests and test results. -/

namespace Sys2Proof

/-- A token: 64-bit payload and 8-bit tag (R77). -/
structure Token where
  pay : Word
  tag : Byte
  deriving DecidableEq, Repr

/-- A fabric packet: the header fields of R233 and the payload flits as bytes (64 B a flit, R232). -/
structure Packet where
  type : Nat
  vc : Nat := 0
  lane : Nat := 1
  adaptive : Bool := false
  wayValid : Bool := false
  last : Bool := false
  poison : Bool := false
  redInv : Bool := false
  redOvf : Bool := false
  dstPanel : Nat := 0
  dstC : Nat := 0
  dstR : Nat := 0
  dstUnit : Nat := 0
  dstSub : Nat := 0
  srcPanel : Nat := 0
  srcC : Nat := 0
  srcR : Nat := 0
  srcUnit : Nat := 0
  srcSub : Nat := 0
  wayC : Nat := 0
  wayR : Nat := 0
  transfer : Nat := 0
  total : Nat := 0
  index : Nat := 0
  address : Nat := 0
  typeData : Nat := 0
  stamp : Nat := 0
  mcEnd : Nat := 0
  mcMode : Nat := 0
  redCode : Nat := 0
  contribs : Nat := 0
  payload : List Byte := []
  deriving DecidableEq, Repr

/-- A frame of a die-to-die link as a Dowel receives it (R227, R228): the flits of 64 B in its valid slots by slot number, and
the fields of its sideband. -/
structure LinkFrame where
  slots : List (Nat × List Byte)
  seq : Nat
  ackValid : Bool
  ack : Nat
  nak : Bool
  creditValid : Bool
  creditVc : Nat
  creditLane : Nat
  creditCount : Nat
  crc : Nat
  deriving DecidableEq, Repr

/-- An edge frame as a port receives it (R309 to R311): the flits of 64 B in its valid slots 1 to 31 by slot number, the fields
of its control slot, whether every codeword that carried it was correctable, and how many symbols were corrected. -/
structure EdgeFrame where
  slots : List (Nat × List Byte)
  seq : Nat
  ack : Nat
  ackValid : Bool
  nak : Bool
  idle : Bool
  role : Nat
  senderPanel : Nat
  senderPort : Nat
  /-- channel, class and slots freed of the valid Credits entries -/
  credits : List (Nat × Nat × Nat)
  stamp : Nat
  echo : Nat
  echoHold : Nat
  crc : Nat
  fecGood : Bool
  corrected : Nat
  deriving DecidableEq, Repr

/-- The path of a dictionary access (R355, R356): a window channel, a Sacor requester, and the session it names. -/
structure Path where
  /-- a CXL window channel; otherwise the Sacor network -/
  cxl : Bool
  /-- channel 0..3, or the number of the Sacor source address and port -/
  chan : Nat
  session : Nat
  deriving DecidableEq, Repr

/-- The header and data of a dictionary request (R357). -/
structure Request where
  op : Nat
  more : Bool
  cont : Bool
  mac : Bool
  tag : Nat
  session : Nat
  counter : Nat
  index : Nat
  sub : Nat
  offset : Nat
  length : Nat
  data : List Byte
  code : List Byte
  deriving DecidableEq, Repr

/-- What the tests of one memory domain find at start-up (R187, R417): power good, Hutch self-test, the stacks
that fail training, and the milliseconds it took. -/
structure MemTest where
  pgOk : Bool
  sramOk : Bool
  badStacks : List Nat
  ms : Nat
  deriving DecidableEq, Repr

/-- What the PRBS and the eye sweep find of one wire of a link (R425): the wire, its PRBS errors, its eye in 1/64 UI and in mV,
whether its fault lies in the stitch segment, and, where it is replaced, the PRBS errors of each spare put in its place, in order. -/
structure WireTest where
  wire : Nat
  errors : Nat
  eyeUi : Nat
  eyeMv : Nat
  stitch : Bool := false
  again : List Nat := []
  deriving DecidableEq, Repr

/-- What the qualification of one link finds (R32, R425): the link as site·8 + code; the wires that showed an error or an eye below
the worst of the others; the worst eye of the others in 1/64 UI and in mV; and the temperature. -/
structure LinkTest where
  link : Nat
  wires : List WireTest
  eyeUi : Nat
  eyeMv : Nat
  temp : Nat
  deriving DecidableEq, Repr

/-- A unit that fails its self-test (R424): a site, or an array as site·20 + a, the pattern class, and the junction temperature and
the supply of the failing run. -/
structure Finding where
  unit : Nat
  pattern : Nat := 0
  temp : Nat := 0x80
  supply : Nat := 0
  deriving DecidableEq, Repr

/-- What the tests of a compute bay find (R424, R425): failed sites and failed arrays, links that are not without a flaw, and the
milliseconds it took. -/
structure BayTest where
  pgOk : Bool
  timedOut : Bool
  badSites : List Finding
  badArrays : List Finding
  links : List LinkTest
  ms : Nat
  deriving DecidableEq, Repr

/-- An access of an array's main port as it completes: words with a corrected bit, and the addresses of words that cannot be
corrected (R166, R170, R194). -/
structure PadAccess where
  array : Nat
  corrected : Nat := 0
  bad : List Nat := []
  deriving DecidableEq, Repr

/-- What bringing up an edge port finds (R319, R320, R428): for each of its 16 lanes nothing where it did not train, else the most
symbols corrected in one codeword and the uncorrectable codewords; bit errors and the symbol error rate before FEC as FP32, the
peer's identity, the optical engine's qualification code as bytes (R322). -/
structure PortTest where
  port : Nat
  lanes : List (Option (Nat × Nat))
  peerPanel : Nat
  peerPort : Nat
  peerRole : Nat
  peerHalf : Bool
  engine : List Byte
  ms : Nat
  errors : Nat := 0
  rate : Nat := 0
  /-- the half that the peer runs on is lanes 8 to 15 (R309, R320) -/
  peerHigh : Bool := false
  /-- GT/s at which each of the four UCIe modules of an optical port site has trained, 0 for one that has not (R321) -/
  modules : List Nat := []
  deriving DecidableEq, Repr

/-- A TSYNC as a child receives it (R380): T1 and PrevT4 in 1/256 ns. -/
structure TimeSync where
  t1 : Int
  depth : Nat
  rate : Int
  prevT4 : Int
  rateAt : Nat
  stepAt : Nat
  stepBy : Nat
  deriving DecidableEq, Repr

/-- A regulator's answer over PMBus (R394): domain, rail, millivolts, milliamperes, temperature in 1/16 °C,
STATUS_WORD; `answered` false when it gave no answer. -/
structure RailReading where
  dom : Nat
  rail : Nat
  answered : Bool
  mV : Nat
  mA : Nat
  temp : Int
  status : Nat
  deriving DecidableEq, Repr

/-- What a read of a cell's instruction or operand word finds (R163): good, a single-bit error, a double-bit error. -/
inductive CellWord where
  | good
  | corrected
  | uncorrectable
  deriving DecidableEq, Repr

/-- The steps of the panel, one constructor for each row of the opcode table, in its order. `a` is a logical
array by its record number k + 16·d (R135), `p` a cell 16·row + column (R123), `d` a logical die, `b` a bay. -/
inductive Instr where
  /-- PANEL_RST_N_ASSERT (R412) -/
  | panelRstNAssert (lowNs : Nat) (pgFall : Bool)
  /-- STARTUP_ROM_SELF_TEST (R417) -/
  | startupRomSelfTest (aOk bOk : Bool) (straps : Nat)
  /-- STARTUP_CLOCK_ROOT (R376) -/
  | startupClockRoot (aLock hostLock : Bool) (refclk : Nat)
  /-- STARTUP_HOST_DIE (R417) -/
  | startupHostDie (ok : Bool) (width rate : Nat)
  /-- STARTUP_MEMORY_DOMAIN (R417) -/
  | startupMemoryDomain (k : Nat) (west east : MemTest)
  /-- STARTUP_COMPUTE_BAY (R418) -/
  | startupComputeBay (b : Nat) (test : BayTest)
  /-- STARTUP_PORT_EDGE (R417) -/
  | startupPortEdge (edge : Nat) (tests : List PortTest)
  /-- SIDEBOARD_HEARTBEAT_SEND (R414) -/
  | sideboardHeartbeatSend
  /-- SIDEBOARD_TAKEOVER (R415) -/
  | sideboardTakeover (cause : Nat)
  /-- CLEAR_RECORD (R39) -/
  | clearRecord (record : Nat)
  /-- ADD_RECORD (R39) -/
  | addRecord (data : List Byte)
  /-- MAP_RECOMPUTE_COMPLETE (R37) -/
  | mapRecomputeComplete
  /-- REGISTER_WRITE (R352) -/
  | registerWrite (index sub : Nat) (data : List Byte)
  /-- NOP (R95) -/
  | nop (a p : Nat)
  /-- BAR (R118) -/
  | bar (a p : Nat)
  /-- PTCFG (R119) -/
  | ptcfg (a p : Nat)
  /-- PARK (R120) -/
  | park (a p : Nat)
  /-- SCLA (R121) -/
  | scla (a p : Nat)
  /-- SCLB (R121) -/
  | sclb (a p : Nat)
  /-- DOTH (R96) -/
  | doth (a p : Nat)
  /-- DOTF8 (R96) -/
  | dotf8 (a p : Nat)
  /-- DOTI8 (R56) -/
  | doti8 (a p : Nat)
  /-- DOTI4 (R56) -/
  | doti4 (a p : Nat)
  /-- DOTMX4 (R60) -/
  | dotmx4 (a p : Nat)
  /-- DOTMX8 (R60) -/
  | dotmx8 (a p : Nat)
  /-- SDOTH (R62) -/
  | sdoth (a p : Nat)
  /-- SDOTF8 (R62) -/
  | sdotf8 (a p : Nat)
  /-- SDOTI8 (R62) -/
  | sdoti8 (a p : Nat)
  /-- SDOTI4 (R62) -/
  | sdoti4 (a p : Nat)
  /-- SDOTMX4 (R62) -/
  | sdotmx4 (a p : Nat)
  /-- SDOTMX8 (R62) -/
  | sdotmx8 (a p : Nat)
  /-- DRAIN (R99) -/
  | drain (a p : Nat)
  /-- DRAINCV (R100) -/
  | draincv (a p : Nat)
  /-- ACCLD (R101) -/
  | accld (a p : Nat)
  /-- ACCADD (R101) -/
  | accadd (a p : Nat)
  /-- FADD (R102) -/
  | fadd (a p : Nat)
  /-- FSUB (R102) -/
  | fsub (a p : Nat)
  /-- FMUL (R102) -/
  | fmul (a p : Nat)
  /-- FFMA (R102) -/
  | ffma (a p : Nat)
  /-- FMIN (R63) -/
  | fmin (a p : Nat)
  /-- FMAX (R63) -/
  | fmax (a p : Nat)
  /-- IADD (R102) -/
  | iadd (a p : Nat)
  /-- ISUB (R102) -/
  | isub (a p : Nat)
  /-- IMUL (R102) -/
  | imul (a p : Nat)
  /-- IMIN (R102) -/
  | imin (a p : Nat)
  /-- IMAX (R102) -/
  | imax (a p : Nat)
  /-- AND (R102) -/
  | and (a p : Nat)
  /-- OR (R102) -/
  | or (a p : Nat)
  /-- XOR (R102) -/
  | xor (a p : Nat)
  /-- SHL (R102) -/
  | shl (a p : Nat)
  /-- SHR (R102) -/
  | shr (a p : Nat)
  /-- SAR (R102) -/
  | sar (a p : Nat)
  /-- FCMP (R103) -/
  | fcmp (a p : Nat)
  /-- ICMP (R103) -/
  | icmp (a p : Nat)
  /-- SEL (R104) -/
  | sel (a p : Nat)
  /-- STEER (R105) -/
  | steer (a p : Nat)
  /-- GATE (R106) -/
  | gate (a p : Nat)
  /-- MERGE (R107) -/
  | merge (a p : Nat)
  /-- CMERGE (R108) -/
  | cmerge (a p : Nat)
  /-- REPL (R109) -/
  | repl (a p : Nat)
  /-- RFWD (R110) -/
  | rfwd (a p : Nat)
  /-- CVT (R112) -/
  | cvt (a p : Nat)
  /-- MXPACK (R113) -/
  | mxpack (a p : Nat)
  /-- MXUNPK (R114) -/
  | mxunpk (a p : Nat)
  /-- MOV (R115) -/
  | mov (a p : Nat)
  /-- OBST (R116) -/
  | obst (a p : Nat)
  /-- SFU (R117) -/
  | sfu (a p : Nat)
  /-- SFU_SERVICE (R71) -/
  | sfuService (a col : Nat)
  /-- RESULT_WRITEBACK (R92) -/
  | resultWriteback (a p n : Nat)
  /-- TOKEN_ACCEPT (R91) -/
  | tokenAccept (a p dir : Nat)
  /-- PASS_THROUGH_MOVE (R45) -/
  | passThroughMove (a p dir : Nat)
  /-- STALE_TOKEN_REMOVAL (R79) -/
  | staleTokenRemoval (a p dir : Nat)
  /-- CELL_FAULT (R94) -/
  | cellFault (a p : Nat) (word : CellWord)
  /-- REGISTER (R134) -/
  | register
  /-- UNREGISTER (R135) -/
  | unregister (imageId : Nat)
  /-- LOAD_ARRAY (R135) -/
  | loadArray (imageId d k : Nat) (force : Bool)
  /-- ARRAY_LOAD (R137) -/
  | arrayLoad (a : Nat)
  /-- CLOSE_WAIT_TIMEOUT (R137) -/
  | closeWaitTimeout (a : Nat)
  /-- LOAD_WRITE_COMPLETE (R140) -/
  | loadWriteComplete (a : Nat)
  /-- ARRAY_RUN_START (R137) -/
  | arrayRunStart (a : Nat)
  /-- DRAIN_SUCCESS (R144) -/
  | drainSuccess (a : Nat)
  /-- DRAIN_DEADLINE (R144) -/
  | drainDeadline (a : Nat)
  /-- DRAIN_NO_PROGRESS (R144) -/
  | drainNoProgress (a : Nat)
  /-- PROGRESS_SUSPICION (R147) -/
  | progressSuspicion (a : Nat)
  /-- SPILL_REFILL (R150) -/
  | spillRefill (a p dir : Nat)
  /-- INCOMING_WINDOW_WORD (R130) -/
  | incomingWindowWord (a port : Nat)
  /-- OUTGOING_WINDOW_WRITE (R130) -/
  | outgoingWindowWrite (a port : Nat)
  /-- INCOMING_TOKEN_DELIVERY (R157) -/
  | incomingTokenDelivery (a port : Nat)
  /-- OPEN (R154) -/
  | openChan (pkt : Packet)
  /-- OPEN_REPEAT (R153) -/
  | openRepeat (a c : Nat)
  /-- GRANT (R153) -/
  | grant (pkt : Packet)
  /-- REJECT (R154) -/
  | reject (pkt : Packet)
  /-- OPEN_TIMEOUT (R154) -/
  | openTimeout (a : Nat)
  /-- DATA_LAUNCH (R156) -/
  | dataLaunch (a port : Nat)
  /-- DATA (R157) -/
  | data (pkt : Packet)
  /-- CREDIT (R158) -/
  | credit (pkt : Packet)
  /-- CLOSE (R159) -/
  | closeChan (pkt : Packet)
  /-- CLOSED (R153) -/
  | closed (pkt : Packet)
  /-- SCRATCHPAD_ACCESS_COMPLETE (R166) -/
  | scratchpadAccessComplete (access : PadAccess)
  /-- SRAM_PATROL (R194) -/
  | sramPatrol (b corrected : Nat) (bad : List Nat)
  /-- DRAM_PATROL_SCRUB (R189) -/
  | dramPatrolScrub (b corrected : Nat) (bad : List Nat)
  /-- HOST_CXL_READ (R344) -/
  | hostCxlRead (dpa bytes : Nat)
  /-- HOST_CXL_WRITE (R344) -/
  | hostCxlWrite (dpa : Nat) (data : List Byte) (enables : Nat)
  /-- MOVE (R203) -/
  | move (a e : Nat)
  /-- FILL (R171) -/
  | fill (a e : Nat)
  /-- COPY (R171) -/
  | copy (a e : Nat)
  /-- TCOPY (R171) -/
  | tcopy (a e : Nat)
  /-- INVALIDATE (R180) -/
  | invalidate (a e : Nat)
  /-- FEED (R204) -/
  | feed (a e : Nat)
  /-- COLLECT (R204) -/
  | collect (a e : Nat)
  /-- REDUCE (R251) -/
  | reduce (a e : Nat)
  /-- OPENRX (R210) -/
  | openrx (a e : Nat)
  /-- CLOSERX (R210) -/
  | closerx (a e : Nat)
  /-- CKSAVE (R226) -/
  | cksave (a e : Nat)
  /-- CKLOAD (R226) -/
  | ckload (a e : Nat)
  /-- DESCRIPTOR_COMPLETE (R215) -/
  | descriptorComplete (a e : Nat)
  /-- BARRIER_ARRIVAL_POST (R205) -/
  | barrierArrivalPost (a e : Nat)
  /-- CRQ (R213) -/
  | crq (pkt : Packet)
  /-- CREDIT_GRANT (R213) -/
  | creditGrant (a w : Nat)
  /-- CGR (R212) -/
  | cgr (pkt : Packet)
  /-- CRJ (R214) -/
  | crj (pkt : Packet)
  /-- CRQ_TIMEOUT (R214) -/
  | crqTimeout (a e : Nat)
  /-- WR (R212) -/
  | wr (pkt : Packet)
  /-- MWR_STEP (R250) -/
  | mwrStep (d : Nat) (pkt : Packet)
  /-- DONE (R215) -/
  | done (pkt : Packet)
  /-- CCAN (R211) -/
  | ccan (pkt : Packet)
  /-- MULTICAST_TIMEOUT (R217) -/
  | multicastTimeout (a e : Nat)
  /-- AWR (R234) -/
  | awr (pkt : Packet)
  /-- RDREQ (R234) -/
  | rdreq (pkt : Packet)
  /-- RDDATA (R248) -/
  | rddata (pkt : Packet)
  /-- CHECK_UNIT_LOAD (R225) -/
  | checkUnitLoad (data : List Byte)
  /-- CHECK_UNIT_RESET (R223) -/
  | checkUnitReset (unit : Nat)
  /-- LINK_FRAME_RECEIVE (R229) -/
  | linkFrameReceive (l : Nat) (frame : LinkFrame)
  /-- LINK_REPLAY (R229) -/
  | linkReplay (l : Nat)
  /-- LINK_DIRECTION_FAILS (R230) -/
  | linkDirectionFails (l : Nat)
  /-- ROUTER_HEADER_ARRIVAL (R240) -/
  | routerHeaderArrival (d inPort : Nat) (pkt : Packet)
  /-- OUTPUT_ARBITRATION (R237) -/
  | outputArbitration (d out : Nat)
  /-- UNREACH (R247) -/
  | unreach (pkt : Packet)
  /-- RED (R252) -/
  | red (d : Nat) (pkt : Packet)
  /-- RED_COMBINE (R252) -/
  | redCombine (d n : Nat)
  /-- REDUCE_DONE_TIMEOUT (R255) -/
  | reduceDoneTimeout (a e : Nat)
  /-- FMGR_TABLE (R257) -/
  | fmgrTable (d : Nat)
  /-- FMGR_STOP (R257) -/
  | fmgrStop (d : Nat)
  /-- FMGR_STOPPED (R257) -/
  | fmgrStopped (d : Nat)
  /-- FMGR_QUIESCED (R257) -/
  | fmgrQuiesced (d : Nat)
  /-- FMGR_SWAP (R257) -/
  | fmgrSwap (d : Nat)
  /-- FMGR_SWAPPED (R257) -/
  | fmgrSwapped (d : Nat)
  /-- FMGR_RESUME (R257) -/
  | fmgrResume
  /-- TABLE_DRAIN_TIMEOUT (R259) -/
  | tableDrainTimeout
  /-- CONGESTION_SAMPLE (R260) -/
  | congestionSample (d : Nat)
  /-- FMGR_MAPREQ (R260) -/
  | fmgrMapreq (d : Nat)
  /-- FMGR_MAPDATA (R260) -/
  | fmgrMapdata (d window : Nat) (data : List Byte)
  /-- DICT (R234) -/
  | dict (pkt : Packet)
  /-- DEFINE (R263) -/
  | define (set : Nat) (data : List Byte)
  /-- MODE (R262) -/
  | setMode (set mode : Nat)
  /-- NEW_GENERATION (R270) -/
  | newGeneration (set : Nat)
  /-- PUBLISH (R270) -/
  | publish (set gen : Nat)
  /-- SWITCH_CURRENT (R271) -/
  | switchCurrent (set gen : Nat)
  /-- DISCARD (R270) -/
  | discard (set gen : Nat)
  /-- PIN (R271) -/
  | pin (set : Nat)
  /-- UNPIN (R270) -/
  | unpin (set gen : Nat)
  /-- WRAPPED_KEY (R265) -/
  | wrappedKey (set : Nat) (data : List Byte)
  /-- INGEST (R266) -/
  | ingest (set : Nat) (data : List Byte)
  /-- DECRYPT_CHUNK (R267) -/
  | decryptChunk (b n : Nat)
  /-- INGEST_COMPLETE (R267) -/
  | ingestComplete (set : Nat)
  /-- CHUNK (R269) -/
  | chunk (pkt : Packet)
  /-- CHUNKDONE (R269) -/
  | chunkdone (pkt : Packet)
  /-- CHUNK_CONFIRM_TIMEOUT (R269) -/
  | chunkConfirmTimeout (b chunk : Nat)
  /-- UNDEFINE (R268) -/
  | undefine (set : Nat)
  /-- UNDEFINE_ZERO_COMPLETE (R268) -/
  | undefineZeroComplete (set : Nat)
  /-- WSTREAM (R273) -/
  | wstream (pkt : Packet)
  /-- WSTREAM_RUN (R273) -/
  | wstreamRun (b n : Nat)
  /-- WDONE (R286) -/
  | wdone (pkt : Packet)
  /-- UPDATE (R276) -/
  | update (pkt : Packet)
  /-- UDONE (R286) -/
  | udone (pkt : Packet)
  /-- ADAPTER_LOAD (R279) -/
  | adapterLoad (data : List Byte)
  /-- RELEASE (R279) -/
  | release (slot : Nat)
  /-- TRACKER_ENABLE (R280) -/
  | trackerEnable (on : Bool)
  /-- ADMIT (R281) -/
  | admitEntry (i : Nat) (data : List Byte)
  /-- END (R281) -/
  | endStream (i : Nat)
  /-- RETIRE (R281) -/
  | retire (i : Nat)
  /-- BATCH_FORM (R282) -/
  | batchForm (set : Nat)
  /-- TSTEP (R283) -/
  | tstep (pkt : Packet)
  /-- TACK (R285) -/
  | tack (pkt : Packet)
  /-- LIST_CREATE (R288) -/
  | listCreate (data : List Byte)
  /-- LIST_DELETE (R287) -/
  | listDelete (list : Nat)
  /-- LIST_POLL (R290) -/
  | listPoll (list : Nat)
  /-- RUN (R295) -/
  | run (d : Nat)
  /-- BATCH (R295) -/
  | batch (d : Nat)
  /-- FENCE (R295) -/
  | fence (d : Nat)
  /-- FENCE_COMPLETE (R295) -/
  | fenceComplete (d : Nat)
  /-- TASK_PLACEMENT (R293) -/
  | taskPlacement (d : Nat)
  /-- STEAL (R297) -/
  | steal (pkt : Packet)
  /-- GIVE (R297) -/
  | give (pkt : Packet)
  /-- STEAL_RETRY (R297) -/
  | stealRetry (d : Nat)
  /-- HOT_CHECK (R294) -/
  | hotCheck (d : Nat)
  /-- TPUSH (R295) -/
  | tpush (pkt : Packet)
  /-- PUSHACK (R300) -/
  | pushack (pkt : Packet)
  /-- TDONE (R297) -/
  | tdone (pkt : Packet)
  /-- BARRIVE (R296) -/
  | barrive (pkt : Packet)
  /-- BDONE (R296) -/
  | bdone (pkt : Packet)
  /-- TASK_COMPLETE (R298) -/
  | taskComplete (a : Nat)
  /-- TASK_ABORT (R298) -/
  | taskAbort (a : Nat)
  /-- TIME_LIMIT (R291) -/
  | timeLimit (d k : Nat) (waiting : Bool)
  /-- CONFIGURE (R301) -/
  | configure
  /-- START (R302) -/
  | start
  /-- STOP (R303) -/
  | stop
  /-- STOP_TIMEOUT (R303) -/
  | stopTimeout
  /-- KILL (R304) -/
  | kill
  /-- JOB_END (R305) -/
  | jobEnd
  /-- SCRUB_COMPLETE (R305) -/
  | scrubComplete
  /-- EDGE_FRAME_RECEIVE (R311) -/
  | edgeFrameReceive (k : Nat) (frame : EdgeFrame)
  /-- EDGE_REPLAY (R311) -/
  | edgeReplay (k : Nat)
  /-- PORT_FAILURE (R313) -/
  | portFailure (k cause : Nat)
  /-- PORT_RETRAIN (R313) -/
  | portRetrain (k : Nat) (test : PortTest)
  /-- ECRQ (R317) -/
  | ecrq (pkt : Packet)
  /-- ECGR (R317) -/
  | ecgr (pkt : Packet)
  /-- ECRET (R317) -/
  | ecret (pkt : Packet)
  /-- EGRESS_CREDIT_IDLE (R317) -/
  | egressCreditIdle (n : Nat)
  /-- XBARRIVE (R338) -/
  | xbarrive (pkt : Packet)
  /-- XBDONE (R338) -/
  | xbdone (pkt : Packet)
  /-- XSUSPECT (R339) -/
  | xsuspect (pkt : Packet)
  /-- HBEAT_SEND (R332) -/
  | hbeatSend
  /-- HBEAT (R332) -/
  | hbeat (pkt : Packet)
  /-- TWIN_LOSS (R332) -/
  | twinLoss
  /-- ATTACH (R331) -/
  | attach
  /-- DETACH (R331) -/
  | detach
  /-- HATTACH (R331) -/
  | hattach (pkt : Packet)
  /-- HACK (R331) -/
  | hack (pkt : Packet)
  /-- MRANGES (R334) -/
  | mranges (pkt : Packet)
  /-- MRACK (R334) -/
  | mrack (pkt : Packet)
  /-- MIRROR_COPY_COMPLETE (R335) -/
  | mirrorCopyComplete
  /-- MCOMMIT (R335) -/
  | mcommit (pkt : Packet)
  /-- MACK (R336) -/
  | mack (pkt : Packet)
  /-- PATTERN_TEST (R333) -/
  | patternTest (k ms : Nat)
  /-- CLEAR_SUSPECT (R339) -/
  | clearSuspect (panel : Nat)
  /-- PERST_N_ASSERT (R342) -/
  | perstNAssert
  /-- PERST_N_DEASSERT (R342) -/
  | perstNDeassert
  /-- FUNCTION_LEVEL_RESET (R342) -/
  | functionLevelReset
  /-- CXL_LINK_UP (R341) -/
  | cxlLinkUp (width rate : Nat)
  /-- WINDOW_GO (R358) -/
  | windowGo (chan tag : Nat) (req : Request)
  /-- SACOR_DATAGRAM (R363) -/
  | sacorDatagram (source : Nat) (multicast malformed : Bool) (req : Request)
  /-- DICT_READ (R355) -/
  | dictRead (path : Path) (index sub offset length : Nat) (cont : Bool)
  /-- DICT_WRITE (R354) -/
  | dictWrite (path : Path) (index sub offset : Nat) (data : List Byte) (more : Bool)
  /-- DICT_DESCRIBE (R353) -/
  | dictDescribe (path : Path) (index sub : Nat)
  /-- HELLO (R364) -/
  | hello (path : Path) (data : List Byte)
  /-- DICT_CLOSE (R365) -/
  | dictClose (path : Path)
  /-- SESSION_IDLE_TIMEOUT (R365) -/
  | sessionIdleTimeout (session : Nat)
  /-- SNAPSHOT_EXPIRY (R355) -/
  | snapshotExpiry (path : Path)
  /-- STAGING_EXPIRY (R355) -/
  | stagingExpiry (path : Path)
  /-- DISCOVERY_REPLY (R362) -/
  | discoveryReply
  /-- MSIX_MESSAGE (R350) -/
  | msixMessage (vector : Nat)
  /-- FREQUENCY_LIMIT_WINDOW (R369) -/
  | frequencyLimitWindow (region cycles : Nat)
  /-- REGION_SLOW_CLOCK (R369) -/
  | regionSlowClock (region : Nat)
  /-- MARGIN_RESPONSE (R371) -/
  | marginResponse (region code : Nat)
  /-- MARGIN_CAP_RESTORE (R437) -/
  | marginCapRestore (region : Nat)
  /-- TIME_WAVE (R381) -/
  | timeWave
  /-- TSYNC (R381) -/
  | tsync (d : Nat) (sync : TimeSync)
  /-- TECHO (R380) -/
  | techo (d : Nat)
  /-- TIME_STEP (R385) -/
  | timeStep
  /-- RATE_CHANGE (R381) -/
  | rateChange (d : Nat)
  /-- SET_SECONDS (R385) -/
  | setSeconds (seconds : Nat)
  /-- PPS_EDGE (R384) -/
  | ppsEdge
  /-- PPS_HOLDOVER (R384) -/
  | ppsHoldover
  /-- CLOCK_ROOT_LOSS (R377) -/
  | clockRootLoss
  /-- REPARENT (R386) -/
  | reparent (depth : Nat)
  /-- DOMAIN_ENABLE (R411) -/
  | domainEnable (dom : Nat) (test : BayTest)
  /-- DOMAIN_DISABLE (R409) -/
  | domainDisable (dom : Nat)
  /-- PG_ASSERT (R390) -/
  | pgAssert (dom : Nat)
  /-- PG_TIMEOUT (R390) -/
  | pgTimeout (dom : Nat)
  /-- PG_FALL (R441) -/
  | pgFall (dom : Nat)
  /-- PMBUS_POLL (R394) -/
  | pmbusPoll (readings : List RailReading)
  /-- PMBUS_ALERT (R394) -/
  | pmbusAlert (segment : Nat) (readings : List RailReading)
  /-- CURRENT_GUARD_SAMPLE (R396) -/
  | currentGuardSample (dom milliamps : Nat)
  /-- POWER_CAP_LOOP (R398) -/
  | powerCapLoop
  /-- SENSOR_READ (R401) -/
  | sensorRead (stack : Bool) (n : Nat) (reading : Int) (after : Nat)
  /-- JUNCTION_THROTTLE (R404) -/
  | junctionThrottle
  /-- THERMAL_TRIP (R403) -/
  | thermalTrip (n : Nat)
  /-- AIRFLOW_ESTIMATE (R406) -/
  | airflowEstimate
  /-- COOL_FAIL_N_ASSERT (R407) -/
  | coolFailNAssert
  /-- COOLING_RECOVERY (R407) -/
  | coolingRecovery
  /-- BAY_SWITCH_OFF (R409) -/
  | baySwitchOff (b : Nat)
  /-- DRAIN_GRACE_EXPIRY (R409) -/
  | drainGraceExpiry (b : Nat)
  /-- CLEAR_MARK (R421) -/
  | clearMark (step : Nat)
  /-- FIRMWARE_WRITE (R430) -/
  | firmwareWrite (offset : Nat) (data : List Byte) (more : Bool)
  /-- FIRMWARE_WRITE_ABANDON (R430) -/
  | firmwareWriteAbandon
  /-- ACTIVATE (R430) -/
  | activate (slot : Nat)
  /-- COMMIT_VERSION (R430) -/
  | commitVersion (version : Nat)
  /-- KEY_SLOT_WRITE (R432) -/
  | keySlotWrite (path : Path) (data : List Byte)
  /-- KEY_SLOT_CLEAR (R432) -/
  | keySlotClear (path : Path) (slot : Nat)
  /-- ATTEST (R433) -/
  | attest (data : List Byte)
  /-- KAT_RUN (R438) -/
  | katRun (a : Nat) (failed : Option Nat)
  /-- CLEAR_ARRAY_SUSPECT (R440) -/
  | clearArraySuspect (site : Nat)
  /-- INCIDENT_CLOSE (R446) -/
  | incidentClose
  /-- CLEAR_FIRST_FAILURE (R447) -/
  | clearFirstFailure
  /-- ALERT_ACK (R448) -/
  | alertAck (bits : Nat)
  /-- MAILBOX_COMMAND (R340) -/
  | mailboxCommand (op : Nat) (data : List Byte)
  /-- HDM_DECODER_COMMIT (R343) -/
  | hdmDecoderCommit (i dpa size : Nat)
  /-- COOL_FAIL_N_DEASSERT (R407) -/
  | coolFailNDeassert
  /-- PATTERN_TEST_COMPLETE (R333) -/
  | patternTestComplete (k : Nat)
  /-- ADAPTER_LOAD_COMPLETE (R279) -/
  | adapterLoadComplete (slot : Nat)
  /-- STREAM_ENTRY_SETTLED (R281) -/
  | streamEntrySettled (i : Nat)
  /-- ROUTER_QUIESCE_CHECK (R257) -/
  | routerQuiesceCheck (d : Nat)
  /-- FMGR_TABLE_ACK (R257) -/
  | fmgrTableAck (d : Nat)
  deriving DecidableEq, Repr

end Sys2Proof
end

