-- ==== Sys2Proof/Decode.lean ====
section
/-! DEFINITION. The command that a word spells by the bits of spec/opcode_table.json. -/

namespace Sys2Proof

/-- The opcode table gives bits to no row: the panel's commands arrive as packets, dictionary accesses, pins and
events, none of which is a word. So no word spells one. (The 64-bit cell instructions are decoded where a cell runs
them, in Machine/Operands.lean.) -/
def decodeTableWord (_nbits _w : Nat) : Option Instr := none

end Sys2Proof
end

