-- ==== Sys2Proof/Machine/Bits.lean ====
section
/-! DEFINITION. Bit fields, byte order and saturation (R13), and the numbered tables the state is made of. -/

namespace Sys2Proof.Machine

/-- Bits [lo + len − 1 : lo] of a number (R13). -/
def field (x lo len : Nat) : Nat := x / 2 ^ lo % 2 ^ len

/-- Bit `i` of a number (R13). -/
def bit (x i : Nat) : Bool := field x i 1 == 1

/-- A Bool as a number. -/
def ofBool (b : Bool) : Nat := if b then 1 else 0

/-- The low `n` bytes of a number, least significant first (R13). -/
def toBytes : Nat → Nat → List Byte
  | _, 0 => []
  | x, n + 1 => BitVec.ofNat 8 x :: toBytes (x / 256) n

/-- The number that bytes spell, least significant first (R13). -/
def ofBytes : List Byte → Nat
  | [] => 0
  | b :: bs => b.toNat + 256 * ofBytes bs

/-- `n` bytes of a list from `off`, short where the list ends. -/
def slice (bs : List Byte) (off n : Nat) : List Byte := (bs.drop off).take n

/-- The little-endian number in `n` bytes at `off` (R13). -/
def leAt (bs : List Byte) (off n : Nat) : Nat := ofBytes (slice bs off n)

/-- A counter that stops at its width's greatest value. -/
def satAdd (width x y : Nat) : Nat := min (x + y) (2 ^ width - 1)

/-- A two's complement reading of the low `w` bits. -/
def signed (w x : Nat) : Int :=
  let y := x % 2 ^ w
  if y < 2 ^ (w - 1) then y else (y : Int) - 2 ^ w

/-- The low `w` bits of an integer in two's complement. -/
def unsigned (w : Nat) (x : Int) : Nat := (x % (2 ^ w : Int)).toNat

/-- Every byte of a list is zero. -/
def allZero (bs : List Byte) : Bool := bs.all (· == 0)

/-- A list padded with zero bytes, or cut, to `n` bytes. -/
def padTo (n : Nat) (bs : List Byte) : List Byte := (bs ++ List.replicate (n - bs.length) 0).take n

/-- Bytes written into others at an offset. -/
def patch (bs : List Byte) (off : Nat) (new : List Byte) : List Byte := padTo off bs ++ new ++ bs.drop (off + new.length)

/-- A table entry by number; an unlisted number reads as the default. -/
def tget {V : Type} (d : V) : List (Nat × V) → Nat → V
  | [], _ => d
  | (j, v) :: t, k => if j = k then v else tget d t k

/-- A table with entry `k` replaced, or added at its end. -/
def tput {V : Type} : List (Nat × V) → Nat → V → List (Nat × V)
  | [], k, v => [(k, v)]
  | (j, w) :: t, k, v => if j = k then (j, v) :: t else (j, w) :: tput t k v

/-- A table with entry `k` rewritten by `f`. -/
def tmod {V : Type} (d : V) (t : List (Nat × V)) (k : Nat) (f : V → V) : List (Nat × V) :=
  tput t k (f (tget d t k))

/-- A table without entry `k`. -/
def tdel {V : Type} (t : List (Nat × V)) (k : Nat) : List (Nat × V) := t.filter (fun e => e.1 != k)

/-- Whether a table lists entry `k`. -/
def thas {V : Type} (t : List (Nat × V)) (k : Nat) : Bool := t.any (fun e => e.1 == k)

/-- A list with element `i` rewritten by `f`; a list too short is kept. -/
def lmod {A : Type} : List A → Nat → (A → A) → List A
  | [], _, _ => []
  | a :: l, 0, f => f a :: l
  | a :: l, i + 1, f => a :: lmod l i f

/-- A list with element `i` left out. -/
def ldrop {A : Type} : List A → Nat → List A
  | [], _ => []
  | _ :: l, 0 => l
  | a :: l, i + 1 => a :: ldrop l i

/-- An element put into a list ordered by `le`, before the first that it precedes. -/
def insertBy {A : Type} (le : A → A → Bool) (a : A) : List A → List A
  | [] => [a]
  | b :: l => if le a b then a :: b :: l else b :: insertBy le a l

/-- A list put in order. -/
def sortBy {A : Type} (le : A → A → Bool) : List A → List A
  | [] => []
  | a :: l => insertBy le a (sortBy le l)

/-- The number of the first element that satisfies `p`, counting from `i`. -/
def findAt {A : Type} (p : A → Bool) : List A → Nat → Option Nat
  | [], _ => none
  | a :: l, i => if p a then some i else findAt p l (i + 1)

end Sys2Proof.Machine
end

