-- ==== Sys2Proof/Machine/Float.lean ====
section
/-! DEFINITION. The number formats of R50 and their exact arithmetic: every result is formed exactly as a
dyadic number and rounded once (R55, R63 to R67, R70, R253, R276). -/

namespace Sys2Proof.Machine

/-- A floating-point format of R50: exponent bits, mantissa bits, bias, and whether the greatest exponent
field is kept for infinity and NaN. E4M3 alone keeps one NaN code in it. -/
structure Fmt where
  ew : Nat
  mw : Nat
  bias : Nat
  ieee : Bool
  oneNan : Bool
  deriving DecidableEq, Repr

def fp32 : Fmt := ⟨8, 23, 127, true, false⟩
def bf16 : Fmt := ⟨8, 7, 127, true, false⟩
/-- Double precision, of the bias corrections (R276). -/
def fp64 : Fmt := ⟨11, 52, 1023, true, false⟩
def fp16 : Fmt := ⟨5, 10, 15, true, false⟩
def e4m3 : Fmt := ⟨4, 3, 7, false, true⟩
def e5m2 : Fmt := ⟨5, 2, 15, true, false⟩
def e2m3 : Fmt := ⟨2, 3, 1, false, false⟩
def e3m2 : Fmt := ⟨3, 2, 3, false, false⟩
def e2m1 : Fmt := ⟨2, 1, 1, false, false⟩

/-- Bits of one element of a format. -/
def Fmt.width (f : Fmt) : Nat := 1 + f.ew + f.mw

/-- A number as read from a format: NaN, an infinity, or (−1)^neg · m · 2^e. -/
inductive Num where
  | nan
  | inf (neg : Bool)
  | fin (neg : Bool) (m : Nat) (e : Int)
  deriving DecidableEq, Repr

/-- The number a format's bits stand for (R50). -/
def decodeNum (f : Fmt) (x : Nat) : Num :=
  let man := field x 0 f.mw
  let ex := field x f.mw f.ew
  let neg := bit x (f.mw + f.ew)
  if f.ieee && ex == 2 ^ f.ew - 1 then (if man = 0 then .inf neg else .nan)
  else if f.oneNan && ex == 2 ^ f.ew - 1 && man == 2 ^ f.mw - 1 then .nan
  else if ex = 0 then .fin neg man (1 - (f.bias : Int) - f.mw)
  else .fin neg (2 ^ f.mw + man) ((ex : Int) - f.bias - f.mw)

/-- The canonical NaN of a format (R52). -/
def canonNan (f : Fmt) : Nat :=
  if f.oneNan then 0x7F
  else if f.mw = 2 then 0x7E
  else (2 ^ f.ew - 1) * 2 ^ f.mw + 2 ^ (f.mw - 1)

/-- The infinity of a sign in a format that has one. -/
def infBits (f : Fmt) (neg : Bool) : Nat := (2 ^ f.ew - 1) * 2 ^ f.mw + ofBool neg * 2 ^ (f.ew + f.mw)

/-- Largest finite value of a format as a significand (R50) and its exponent. -/
def Fmt.maxSig (f : Fmt) : Nat := if f.oneNan then 2 ^ (f.mw + 1) - 2 else 2 ^ (f.mw + 1) - 1

def Fmt.maxExp (f : Fmt) : Int :=
  (if f.ieee then (2 ^ f.ew : Int) - 2 else (2 ^ f.ew : Int) - 1) - f.bias - f.mw

/-- The largest finite code of a sign. -/
def maxBits (f : Fmt) (neg : Bool) : Nat :=
  (if f.ieee then (2 ^ f.ew - 2) * 2 ^ f.mw + (2 ^ f.mw - 1)
   else (2 ^ f.ew - 1) * 2 ^ f.mw + (if f.oneNan then 2 ^ f.mw - 2 else 2 ^ f.mw - 1))
    + ofBool neg * 2 ^ (f.ew + f.mw)

/-- How a magnitude is rounded (R64): to nearest with ties to even, or by the generator value of R70. -/
inductive Rounding where
  | rne
  | sr (u : BitVec 32)
  deriving DecidableEq, Repr

/-- Discards the low `t` bits of a magnitude (R64, R70). -/
def roundShift (mode : Rounding) (m t : Nat) : Nat :=
  let q := m / 2 ^ t
  let r := m % 2 ^ t
  match mode with
  | .rne => if 2 * r > 2 ^ t ∨ (2 * r = 2 ^ t ∧ q % 2 = 1) then q + 1 else q
  | .sr u =>
    let k := min t 16
    if r / 2 ^ (t - k) + u.toNat / 2 ^ (32 - k) ≥ 2 ^ k then q + 1 else q

/-- Exponent of a format's least significant bit at the value m · 2^e (R70): subnormals have a fixed one. -/
def Fmt.lsb (f : Fmt) (m : Nat) (e : Int) : Int :=
  max ((Nat.log2 m : Int) + e - f.mw) (1 - (f.bias : Int) - f.mw)

/-- Whether rounding m · 2^e into the format discards a nonzero bit (R70 step 2). -/
def inexact (f : Fmt) (m : Nat) (e : Int) : Bool :=
  m != 0 && m % 2 ^ (f.lsb m e - e).toNat != 0

/-- The outcome of rounding a finite magnitude into a format. -/
structure Rounded where
  /-- significand and exponent after rounding -/
  sig : Nat
  ex : Int
  /-- magnitude above the largest finite (R65: judged after rounding) -/
  exceeds : Bool
  /-- a nonzero value that became zero or subnormal (R65, R72) -/
  under : Bool
  deriving DecidableEq, Repr

/-- Rounds m · 2^e into a format (R55 step 6, R65, R70). -/
def roundTo (f : Fmt) (mode : Rounding) (m : Nat) (e : Int) : Rounded :=
  if m = 0 then ⟨0, 1 - (f.bias : Int) - f.mw, false, false⟩
  else
    let l := f.lsb m e
    let s := if l ≤ e then m * 2 ^ (e - l).toNat else roundShift mode m (l - e).toNat
    let carry := s = 2 ^ (f.mw + 1)
    let s' := if carry then 2 ^ f.mw else s
    let l' := if carry then l + 1 else l
    ⟨s', l', decide (l' > f.maxExp ∨ (l' = f.maxExp ∧ s' > f.maxSig)), decide (s' < 2 ^ f.mw)⟩

/-- The code of a rounded magnitude that is within range. -/
def packBits (f : Fmt) (neg : Bool) (r : Rounded) : Nat :=
  (if r.sig < 2 ^ f.mw then r.sig
   else (r.ex + f.mw + f.bias).toNat * 2 ^ f.mw + (r.sig - 2 ^ f.mw))
    + ofBool neg * 2 ^ (f.ew + f.mw)

/-- Numeric status flags of R72, by bit. -/
def fINV : Nat := 1
def fNANIN : Nat := 2
def fOVF : Nat := 4
def fSAT : Nat := 8
def fUNF : Nat := 16
def fFLUSH : Nat := 32
def fISAT : Nat := 64
def fSTALE : Nat := 128
def fSMETA : Nat := 256
def fLANE : Nat := 512
def fSFU : Nat := 1024

/-- Flags a set sets when `b` holds. -/
def flagIf (b : Bool) (f : Nat) : Nat := if b then f else 0

/-- A finite exact value rounded to nearest even in an IEEE format, overflowing to infinity (R55, R57, R63). -/
def finish (f : Fmt) (mode : Rounding) (neg : Bool) (m : Nat) (e : Int) : Nat × Nat :=
  let r := roundTo f mode m e
  if r.exceeds then (infBits f neg, fOVF) else (packBits f neg r, flagIf r.under fUNF)

/-- The signed integer of a finite number at exponent `e0`, for `e0 ≤ e`. -/
def scaled (neg : Bool) (m : Nat) (e e0 : Int) : Int :=
  let a : Int := (m * 2 ^ (e - e0).toNat : Nat)
  if neg then -a else a

/-- The exact sum of finite numbers: sign, magnitude, exponent. A zero sum is −0 only when every addend is (R53). -/
def exactSum (xs : List (Bool × Nat × Int)) : Bool × Nat × Int :=
  let e0 := xs.foldl (fun a x => min a x.2.2) (match xs with | [] => 0 | x :: _ => x.2.2)
  let s := xs.foldl (fun a x => a + scaled x.1 x.2.1 x.2.2 e0) (0 : Int)
  if s = 0 then (xs.all (fun x => x.1 && x.2.1 == 0) && !xs.isEmpty, 0, e0)
  else (decide (s < 0), s.natAbs, e0)

def nanOf (x : Num) : Bool := match x with | .nan => true | _ => false

/-- Adds two numbers into a format with one rounding (R63, R253): bits and flags. -/
def addNum (f : Fmt) (mode : Rounding) (a b : Num) : Nat × Nat :=
  match a, b with
  | .nan, _ => (canonNan f, fNANIN)
  | _, .nan => (canonNan f, fNANIN)
  | .inf x, .inf y => if x = y then (infBits f x, 0) else (canonNan f, fINV)
  | .inf x, .fin _ _ _ => (infBits f x, 0)
  | .fin _ _ _, .inf y => (infBits f y, 0)
  | .fin n m e, .fin n' m' e' =>
    let (s, k, x) := exactSum [(n, m, e), (n', m', e')]
    if k = 0 then (ofBool s * 2 ^ (f.ew + f.mw), 0) else finish f mode s k x

/-- The exact product of two numbers; `none` is infinity times zero. -/
def mulNum (a b : Num) : Option Num :=
  match a, b with
  | .nan, _ => some .nan
  | _, .nan => some .nan
  | .inf x, .inf y => some (.inf (x != y))
  | .inf x, .fin n m _ => if m = 0 then none else some (.inf (x != n))
  | .fin n m _, .inf y => if m = 0 then none else some (.inf (n != y))
  | .fin n m e, .fin n' m' e' => some (.fin (n != n') (m * m') (e + e'))

def negNum : Num → Num
  | .nan => .nan
  | .inf n => .inf (!n)
  | .fin n m e => .fin (!n) m e

/-- One number rounded into an IEEE format: bits and flags. -/
def roundNum (f : Fmt) (mode : Rounding) (a : Num) : Nat × Nat :=
  match a with
  | .nan => (canonNan f, fNANIN)
  | .inf n => (infBits f n, 0)
  | .fin n m e => if m = 0 then (ofBool n * 2 ^ (f.ew + f.mw), 0) else finish f mode n m e

def dec32 (x : Nat) : Num := decodeNum fp32 (x % 2 ^ 32)

/-- FP32 add, subtract, multiply and fused multiply-add of R63 and R102: bits and flags. -/
def fAdd (a b : Nat) : Nat × Nat := addNum fp32 .rne (dec32 a) (dec32 b)

def fSub (a b : Nat) : Nat × Nat :=
  addNum fp32 .rne (dec32 a) (negNum (dec32 b))

def fMul (a b : Nat) : Nat × Nat :=
  match mulNum (dec32 a) (dec32 b) with
  | none => (canonNan fp32, fINV)
  | some p => roundNum fp32 .rne p

def fFma (a b c : Nat) : Nat × Nat :=
  let anyNan := nanOf (dec32 a) || nanOf (dec32 b) || nanOf (dec32 c)
  if anyNan then (canonNan fp32, fNANIN)
  else match mulNum (dec32 a) (dec32 b) with
  | none => (canonNan fp32, fINV)
  | some p => addNum fp32 .rne p (dec32 c)

/-- The integer square root of n, by its bits from bit `b` − 1 down. -/
def isqrt (n : Nat) : Nat → Nat → Nat
  | 0, r => r
  | b + 1, r => isqrt n b (if (r + 2 ^ b) * (r + 2 ^ b) ≤ n then r + 2 ^ b else r)

/-- A quotient, correctly rounded (R276): more quotient bits than the format holds, with a sticky bit below them. -/
def divNum (f : Fmt) (a b : Num) : Nat :=
  let s := 2 * f.mw + 18
  match a, b with
  | .nan, _ => canonNan f
  | _, .nan => canonNan f
  | .inf _, .inf _ => canonNan f
  | .inf x, .fin y _ _ => infBits f (x != y)
  | .fin x _ _, .inf y => ofBool (x != y) * 2 ^ (f.ew + f.mw)
  | .fin x m e, .fin y m' e' =>
    if m' = 0 then (if m = 0 then canonNan f else infBits f (x != y))
    else if m = 0 then ofBool (x != y) * 2 ^ (f.ew + f.mw)
    else
      let q := m * 2 ^ s / m'
      (finish f .rne (x != y) (2 * q + ofBool (m * 2 ^ s % m' != 0)) (e - e' - s - 1)).1

/-- FP32 quotient, correctly rounded (R276). -/
def fDiv (a b : Nat) : Nat := divNum fp32 (dec32 a) (dec32 b)

/-- FP32 square root, correctly rounded (R276). -/
def fSqrt (a : Nat) : Nat :=
  match dec32 a with
  | .nan => canonNan fp32
  | .inf x => if x then canonNan fp32 else infBits fp32 false
  | .fin x m e =>
    if m = 0 then ofBool x * 2 ^ 31
    else if x then canonNan fp32
    else
      let odd := decide (e % 2 ≠ 0)
      let n := (if odd then 2 * m else m) * 2 ^ 64
      let r := isqrt n 48 0
      (finish fp32 .rne false (2 * r + ofBool (r * r != n)) (((if odd then e - 1 else e) - 64) / 2 - 1)).1

/-- The order of two FP32 patterns that are no NaN: −0 and +0 have one key. -/
def fKey (x : Nat) : Int :=
  let mag : Int := (field x 0 31 : Nat)
  if bit x 31 then -mag else mag

def fIsNan (x : Nat) : Bool := nanOf (dec32 x)

/-- FP32 minimum and maximum (R63): the other operand beside one NaN, −0 below +0. -/
def fMin (a b : Nat) : Nat × Nat :=
  match fIsNan a, fIsNan b with
  | true, true => (canonNan fp32, fNANIN)
  | true, false => (b % 2 ^ 32, fNANIN)
  | false, true => (a % 2 ^ 32, fNANIN)
  | false, false =>
    (if fKey a < fKey b ∨ (fKey a = fKey b ∧ bit a 31) then a % 2 ^ 32 else b % 2 ^ 32, 0)

def fMax (a b : Nat) : Nat × Nat :=
  match fIsNan a, fIsNan b with
  | true, true => (canonNan fp32, fNANIN)
  | true, false => (b % 2 ^ 32, fNANIN)
  | false, true => (a % 2 ^ 32, fNANIN)
  | false, false =>
    (if fKey a > fKey b ∨ (fKey a = fKey b ∧ !bit a 31) then a % 2 ^ 32 else b % 2 ^ 32, 0)

/-- A condition code of FCMP or ICMP (R103) on an order of two operands. -/
def condHolds (cc : Nat) (lt eq unord : Bool) : Bool :=
  match cc with
  | 0 => !unord && eq
  | 1 => unord || !eq
  | 2 => !unord && lt
  | 3 => !unord && (lt || eq)
  | 4 => !unord && !(lt || eq)
  | 5 => !unord && !lt
  | 6 => !unord
  | _ => unord

def fCmp (cc a b : Nat) : Bool × Nat :=
  let un := fIsNan a || fIsNan b
  (condHolds cc (decide (fKey a < fKey b)) (decide (fKey a = fKey b)) un, flagIf un fNANIN)

def iCmp (cc a b : Nat) : Bool :=
  condHolds cc (decide (signed 32 a < signed 32 b)) (decide (signed 32 a = signed 32 b)) false

/-- An exact integer clamped to INT32 (R56): bits and the ISAT flag. -/
def clamp32 (x : Int) : Nat × Nat :=
  if x > 2 ^ 31 - 1 then (2 ^ 31 - 1, fISAT)
  else if x < -(2 ^ 31) then (2 ^ 31, fISAT)
  else (unsigned 32 x, 0)

/-! ### The stochastic-rounding generator -/

/-- One step of the generator (R68). -/
def srStep (x : BitVec 32) : BitVec 32 :=
  let a := x ^^^ (x <<< 13)
  let b := a ^^^ (a >>> 17)
  b ^^^ (b <<< 5)

/-- The seed of a generator (R69). -/
def srSeed (jobSeed panel d k p : Nat) : BitVec 32 :=
  let z0 : BitVec 64 := BitVec.ofNat 64 jobSeed ^^^ (BitVec.ofNat 64 panel <<< 52) ^^^ (BitVec.ofNat 64 d <<< 24)
    ^^^ (BitVec.ofNat 64 k <<< 8) ^^^ BitVec.ofNat 64 p
  let z1 := (z0 ^^^ (z0 >>> 30)) * 0xBF58476D1CE4E5B9#64
  let z2 := (z1 ^^^ (z1 >>> 27)) * 0x94D049BB133111EB#64
  let z3 := z2 ^^^ (z2 >>> 31)
  let x := z3.setWidth 32
  if x = 0 then 0x6A09E667#32 else x

/-- The rounding of one element, and the generator after it: a stochastic rounding takes a step only when a
nonzero bit is discarded (R70). -/
def drawRound (sr : Bool) (g : BitVec 32) (needed : Bool) : Rounding × BitVec 32 :=
  if sr && needed then (.sr (srStep g), srStep g) else (.rne, g)

/-! ### Conversions -/

/-- The formats a conversion names: those of R111 and the elements of MXPACK (R113). -/
inductive CvtFmt where
  | flt (f : Fmt)
  | int (w : Nat)
  deriving DecidableEq, Repr

def CvtFmt.width : CvtFmt → Nat
  | .flt f => f.width
  | .int w => w

/-- The number that an element of a conversion's source stands for. -/
def readElem (f : CvtFmt) (x : Nat) : Num :=
  match f with
  | .flt g => decodeNum g (x % 2 ^ g.width)
  | .int w => let v := signed w x; .fin (decide (v < 0)) v.natAbs 0

/-- One conversion (R65, R70): bits, flags, and the generator after it. `sat` is SAT mode for E4M3 and E5M2;
`clamp` is the MX pack's rule for the elements that always saturate. -/
def convert (t : CvtFmt) (sr sat : Bool) (g : BitVec 32) (a : Num) : Nat × Nat × BitVec 32 :=
  match t with
  | .int w =>
    match a with
    | .nan => (0, fINV ||| fNANIN, g)
    | .inf n => (if n then 2 ^ (w - 1) else 2 ^ (w - 1) - 1, fINV, g)
    | .fin n m e =>
      let t := (-e).toNat
      let (mode, g') := drawRound sr g (decide (e < 0) && m % 2 ^ t != 0)
      let k := if e < 0 then roundShift mode m t else m * 2 ^ e.toNat
      let v : Int := if n then -(k : Int) else k
      if v > 2 ^ (w - 1) - 1 then (2 ^ (w - 1) - 1, fSAT, g')
      else if v < -(2 ^ (w - 1) : Int) then (2 ^ (w - 1), fSAT, g')
      else (unsigned w v, 0, g')
  | .flt f =>
    match a with
    | .nan => (canonNan f, fNANIN, g)
    | .inf n =>
      if f.oneNan then (if sat then maxBits f n else 0x7F, 0, g)
      else if f.ieee then (infBits f n, 0, g)
      else (maxBits f n, 0, g)
    | .fin n m e =>
      if m = 0 then (ofBool n * 2 ^ (f.ew + f.mw), 0, g)
      else
        let (mode, g') := drawRound sr g (inexact f m e)
        let r := roundTo f mode m e
        if r.exceeds then
          if f.mw = 2 && f.ew = 5 then
            (if sat then (maxBits f n, fSAT, g') else (infBits f n, fOVF, g'))
          else if f.oneNan then (if sat then (maxBits f n, fSAT, g') else (0x7F, fOVF, g'))
          else if f.ieee then (infBits f n, fOVF, g')
          else (maxBits f n, fSAT, g')
        else (packBits f n r, flagIf r.under fUNF, g')

/-- Conversions of a list in element order (R70), element 0 first. -/
def convertAll (t : CvtFmt) (sr sat : Bool) (g : BitVec 32) : List Num → List Nat × Nat × BitVec 32
  | [] => ([], 0, g)
  | a :: as =>
    let (x, fl, g1) := convert t sr sat g a
    let (xs, fl', g2) := convertAll t sr sat g1 as
    (x :: xs, fl ||| fl', g2)

/-- The elements of a payload, element 0 in the least significant bits (R48). -/
def elems (w n : Nat) (x : Nat) : List Nat := (List.range n).map (fun i => field x (w * i) w)

/-- A payload made of elements of width `w`. -/
def joinElems (w : Nat) : List Nat → Nat
  | [] => 0
  | x :: xs => x % 2 ^ w + 2 ^ w * joinElems w xs

/-! ### MX blocks -/

/-- Exponent of the largest normal of an MX element format (R66). -/
def mxEmax (f : Fmt) : Int := f.maxExp + f.mw

/-- The MX block pack (R66): element codes, the scale byte, flags and the generator after it. -/
def mxPack (f : Fmt) (sr : Bool) (g : BitVec 32) (vals : List Num) : List Nat × Nat × Nat × BitVec 32 :=
  let bad := vals.any (fun v => match v with | .fin _ _ _ => false | _ => true)
  let tops := vals.filterMap (fun v => match v with
    | .fin _ m e => if m = 0 then none else some ((Nat.log2 m : Int) + e)
    | _ => none)
  if bad then (vals.map (fun _ => 0), 0xFF, fINV ||| flagIf (vals.any nanOf) fNANIN, g)
  else match tops with
  | [] => (vals.map (fun _ => 0), 0, 0, g)
  | t :: ts =>
    let top := ts.foldl max t
    let shared := max (-127) (min 127 (top - mxEmax f))
    let (xs, fl, g') := convertAll (.flt f) sr true g
      (vals.map (fun v => match v with | .fin n m e => .fin n m (e - shared) | v => v))
    (xs, (shared + 127).toNat, fl, g')

/-- One unpacked MX element (R67): FP32 bits and flags. -/
def mxUnpack (f : Fmt) (scale : Nat) (x : Nat) : Nat × Nat :=
  if scale = 0xFF then (canonNan fp32, fNANIN)
  else match decodeNum f x with
  | .nan => (canonNan fp32, fNANIN)
  | .inf n => (infBits fp32 n, 0)
  | .fin n m e =>
    if m = 0 then (ofBool n * 2 ^ 31, 0) else finish fp32 .rne n m (e + (scale : Int) - 127)

/-! ### The dot product -/

/-- The fixed accumulation of R55 steps 3 to 6 over finite terms: bits and flags. -/
def dotFinite (terms : List (Bool × Nat × Int)) : Nat × Nat :=
  let live := terms.filter (fun t => t.2.1 != 0)
  match live with
  | [] => (ofBool (terms.all (fun t => t.1)) * 2 ^ 31, 0)
  | t0 :: ts =>
    let top (t : Bool × Nat × Int) : Int := (Nat.log2 t.2.1 : Int) + t.2.2
    let emax := ts.foldl (fun a t => max a (top t)) (top t0)
    let low := emax - 40
    let cut := live.map (fun t => if t.2.2 < low then (t.1, t.2.1 / 2 ^ (low - t.2.2).toNat, low) else t)
    let (s, m, e) := exactSum cut
    if m = 0 then (0, 0) else finish fp32 .rne s m e

/-- A floating-point dot product (R55, R57, R60): the element pairs, the accumulator, and for MX operands the
two scale codes, whose empty sum of products counts as +0 (assumption 91). Answers the accumulator's new bits and the
flags. -/
def dotFloat (pairs : List (Num × Num)) (acc : Nat) (scales : Option (Nat × Nat)) : Nat × Nat :=
  let a := dec32 acc
  let nanIn := nanOf a || pairs.any (fun p => nanOf p.1 || nanOf p.2)
    || (match scales with | some (x, y) => x == 0xFF || y == 0xFF | none => false)
  if nanIn then (canonNan fp32, fNANIN)
  else
    let prods := pairs.map (fun p => mulNum p.1 p.2)
    if prods.any (·.isNone) then (canonNan fp32, fINV)
    else
      let terms := prods.filterMap id ++ [a]
      let infs := terms.filterMap (fun t => match t with | .inf n => some n | _ => none)
      match infs with
      | n :: ns => if ns.all (· == n) then (infBits fp32 n, 0) else (canonNan fp32, fINV)
      | [] =>
        let fins := (prods.filterMap id).filterMap
          (fun t => match t with | .fin n m e => some (n, m, e) | _ => none)
        let accT := match a with | .fin n m e => [(n, m, e)] | _ => []
        match scales with
        | none => dotFinite (fins ++ accT)
        | some (x, y) =>
          let (s, m, e) := exactSum fins
          dotFinite ((s, m, e + (x : Int) + y - 254) :: accT)

/-- An integer dot product (R56): accumulator bits and flags. -/
def dotInt (pairs : List (Int × Int)) (acc : Nat) : Nat × Nat :=
  clamp32 (pairs.foldl (fun s p => s + p.1 * p.2) (signed 32 acc))

end Sys2Proof.Machine
end

