-- ==== Sys2Proof/Config.lean ====
section
/-! DEFINITION. What one panel fixes and the spec leaves open: free values (opaque constants with no
body, so that a claim holds whatever they are) and the functions that other standards define. -/

namespace Sys2Proof.Config

/-- A value the spec leaves undefined at one instant, by the number of the free value drawn (assumption 5).
Nothing constrains it. -/
opaque freeValue : Nat → Nat

/-- A byte of a store whose contents the spec calls undefined or lost: number of the loss, then the byte's address
(assumption 99). -/
opaque lostByte : Nat → Nat → BitVec 8

/-- Units of a receive window of another array as its senders know them, where the state of this panel does not show the open
window: target, then window (assumption 24). -/
opaque farUnits : Nat → Nat → Nat

/-- The special-function unit's fixed approximation (R71): function code, then the FP32 input. The same
input always gives the same bits; the spec does not define them beyond bounds (assumption 6). -/
opaque sfuApprox : Nat → BitVec 32 → BitVec 32

/-- The Hutch's bias correction 1 / (1 − βᵗ), worked in double precision and rounded to FP32 (R276): β, then t.
The spec does not say how the power is formed (assumption 7). -/
opaque biasCorrection : BitVec 32 → Nat → BitVec 32

/-- Whether PANEL_RST_N held low for a time between 9.4 and 10 µs is taken as a reset (R458): the sampling
oscillator's tolerance leaves it open (assumption 8). -/
opaque shortResetTaken : Nat → Bool

/-- The line that pseudo-LRU replacement evicts from a full set (R179, R183): set number, then how many
accesses the set has seen; taken modulo the number of ways (assumption 9). -/
opaque evictWay : Nat → Nat → Nat

/-- AES-256-GCM of R266: key, IV, AAD, ciphertext ↦ plaintext and tag (assumption 10). -/
opaque aesGcm : List Byte → List Byte → List Byte → List Byte → List Byte × List Byte

/-- AES key unwrap of R265 (RFC 3394): key-encryption key, wrapped key ↦ the key where it unwraps (assumption 10). -/
opaque aesUnwrap : List Byte → List Byte → Option (List Byte)

/-- ML-KEM-1024 decapsulation with a key the panel holds (R265, R364): twice the start count, plus 0 for sessions and 1
for wrapped keys; ciphertext ↦ shared secret (assumption 10). -/
opaque kemDecaps : Nat → List Byte → Option (List Byte)

/-- ML-KEM-1024 encapsulation to an operator key (R364): key, a fresh number ↦ ciphertext and shared secret
(assumption 10). -/
opaque kemEncaps : List Byte → Nat → List Byte × List Byte

/-- The ML-KEM-1024 encapsulation key generated at a start (R431): which key, start count (assumption 10). -/
opaque kemPublicKey : Nat → Nat → List Byte

/-- KMAC256 (R265, R364, R365): key, data, customisation string as bytes ↦ 32 bytes (assumption 10). -/
opaque kmac256 : List Byte → List Byte → List Byte → List Byte

/-- SHAKE256 (R429, R433, R439): data, output bytes wanted (assumption 10). -/
opaque shake256 : List Byte → Nat → List Byte

/-- Falcon-1024 verification (R429): public key, digest, signature (assumption 10). -/
opaque falconVerify : List Byte → List Byte → List Byte → Bool

/-- Falcon-1024 signature with the identity key (R431, R433): digest, a fresh number (assumption 10). -/
opaque falconSign : List Byte → Nat → List Byte

/-- What manufacture puts into one panel and the spec does not state: the root key hash (R429), identity
and certificates (R431), serial number, MAC address, ROM digest, fuse digest; by number (assumption 11). -/
opaque factoryBytes : Nat → List Byte

/-- The guard floor Unholt sets for a clock region at manufacture (R368): region number ↦ 0..15 (assumption 11). -/
opaque guardFloor : Nat → Nat

/-- The contents of a CXL mailbox or register answer that the CXL specification, not this one, lays out
(R340): command, input ↦ output (assumption 12). -/
opaque cxlAnswer : Nat → List Byte → List Byte

/-- Whether UPDATE converts to E4M3 and E5M2 with saturation: R276 names the conversion of R65 and not its SAT mode
(assumption 26). -/
opaque updateSaturates : Bool

/-- The current cap, mA, that firmware sets a domain's guard to for a CapW, an F32 by its bits (R395): domain, CapW. Only the
hardware cap bounds it (assumption 43). -/
opaque loweredCap : Nat → Nat → Nat

/-- The estimate of an array die's core current, mA, in a sample of its bay's guard (R396): site, number of the sample
(assumption 49). -/
opaque dieCurrent : Nat → Nat → Nat

/-- The host-die and port-die microcode in a firmware image, whose place in the body the spec does not give (R429, R433): image
(assumption 52). -/
opaque microcodeOf : List Byte → List Byte

/-- The fuse map as the bytes that its digest covers, which the spec does not lay out (R433): the fuses, as numbers (assumption
52). -/
opaque fuseMap : List Nat → List Byte

/-- What the tests find of a bay that is enabled through the dictionary, whose write carries no findings: number of the draw, then
which finding (assumption 54): 0 a timeout, 1 failed sites, 2 failed arrays, 3 tested links, 4 to 9 and on what a link's test shows. -/
opaque enableFinding : Nat → Nat → List Nat

end Sys2Proof.Config
end

