-- ==== Sys2Proof/Machine/Objects.lean ====
section
/-! DEFINITION. The object dictionary as the object tables of the spec's chapters give it: every subindex with its
type, access class, attributes, default, range and greatest length (R351 to R353). -/

namespace Sys2Proof.Machine

/-- One subindex (R353). The object stands at `base` + i for i < `count`. Types and access classes by the codes of
R351 and R352. `attr` bits: 1 needs a session, 2 refused while a job runs, 4 applies at the next start-up, 8 applies at
job start. `lo` and `hi` bound a scalar's value; hi 0 is no bound but its width. `max` is a BLOB's greatest length.
`readable` marks a CMD object that is also RO. -/
structure Obj where
  base : Nat
  count : Nat
  sub : Nat
  name : String
  type : Nat
  access : Nat
  attr : Nat
  dflt : Nat
  lo : Nat
  hi : Nat
  max : Nat
  readable : Bool
  deriving DecidableEq, Repr

/-- Object 0x1000. -/
def objects1000 : List Obj :=
  [⟨0x1000, 1, 0x00, "Entries", 1, 1, 0, 11, 0, 0, 0, false⟩,
   ⟨0x1000, 1, 0x01, "Vendor", 8, 1, 0, 0, 0, 0, 0, false⟩,
   ⟨0x1000, 1, 0x02, "Family", 8, 1, 0, 0, 0, 0, 0, false⟩,
   ⟨0x1000, 1, 0x03, "OrderingCode", 8, 1, 0, 0, 0, 0, 0, false⟩,
   ⟨0x1000, 1, 0x04, "Serial", 8, 1, 0, 0, 0, 0, 0, false⟩,
   ⟨0x1000, 1, 0x05, "IdentityKey", 9, 1, 0, 0, 0, 0, 1793, false⟩,
   ⟨0x1000, 1, 0x06, "Certificates", 9, 1, 0, 0, 0, 0, 65536, false⟩,
   ⟨0x1000, 1, 0x07, "EnabledArrayDies", 2, 1, 0, 0, 0, 0, 0, false⟩,
   ⟨0x1000, 1, 0x08, "EnabledArrays", 2, 1, 0, 0, 0, 0, 0, false⟩,
   ⟨0x1000, 1, 0x09, "StackBytes", 4, 1, 0, 0, 0, 0, 0, false⟩,
   ⟨0x1000, 1, 0x0A, "PortKind", 1, 1, 0, 0, 0, 0, 0, false⟩,
   ⟨0x1000, 1, 0x0B, "FirmwareVersion", 3, 1, 0, 0, 0, 0, 0, false⟩]

/-- Object 0x1100. -/
def objects1100 : List Obj :=
  [⟨0x1100, 1, 0x00, "Entries", 1, 1, 0, 9, 0, 0, 0, false⟩,
   ⟨0x1100, 1, 0x01, "HostDie", 1, 1, 0, 0, 0, 0, 0, false⟩,
   ⟨0x1100, 1, 0x02, "Sideboards", 1, 1, 0, 0, 0, 0, 0, false⟩,
   ⟨0x1100, 1, 0x03, "ComputeBays", 2, 1, 0, 0, 0, 0, 0, false⟩,
   ⟨0x1100, 1, 0x04, "Hutches", 2, 1, 0, 0, 0, 0, 0, false⟩,
   ⟨0x1100, 1, 0x05, "EdgePorts", 2, 1, 0, 0, 0, 0, 0, false⟩,
   ⟨0x1100, 1, 0x06, "Failed", 9, 1, 0, 0, 0, 0, 6, false⟩,
   ⟨0x1100, 1, 0x07, "CurrentStep", 2, 1, 0, 0, 0, 0, 0, false⟩,
   ⟨0x1100, 1, 0x08, "StartupState", 1, 1, 0, 0, 0, 0, 0, false⟩,
   ⟨0x1100, 1, 0x09, "TimeReady", 7, 1, 0, 0, 0, 0, 0, false⟩]

/-- Object 0x1200. -/
def objects1200 : List Obj :=
  [⟨0x1200, 1, 0x00, "Entries", 1, 1, 0, 20, 0, 0, 0, false⟩,
   ⟨0x1200, 1, 0x01, "ManagementState", 1, 1, 0, 0, 0, 0, 0, false⟩,
   ⟨0x1200, 1, 0x02, "PlcaNodeId", 1, 1, 0, 0, 0, 0, 0, false⟩,
   ⟨0x1200, 1, 0x03, "PlcaNodeCount", 1, 3, 0, 8, 1, 32, 0, false⟩,
   ⟨0x1200, 1, 0x04, "PlcaTimerBits", 1, 3, 0, 32, 1, 255, 0, false⟩,
   ⟨0x1200, 1, 0x05, "MacAddress", 9, 1, 0, 0, 0, 0, 6, false⟩,
   ⟨0x1200, 1, 0x06, "LinkLocal", 9, 1, 0, 0, 0, 0, 16, false⟩,
   ⟨0x1200, 1, 0x07, "SessionKey", 9, 1, 0, 0, 0, 0, 1568, false⟩,
   ⟨0x1200, 1, 0x08, "SessionsOpen", 1, 1, 0, 0, 0, 0, 0, false⟩,
   ⟨0x1200, 1, 0x09, "SessionIdleSeconds", 2, 2, 0, 300, 30, 3600, 0, false⟩,
   ⟨0x1200, 1, 0x0A, "SacorRequests", 4, 1, 0, 0, 0, 0, 0, false⟩,
   ⟨0x1200, 1, 0x0B, "SacorDropped", 3, 1, 0, 0, 0, 0, 0, false⟩,
   ⟨0x1200, 1, 0x0C, "CxlState", 1, 1, 0, 0, 0, 0, 0, false⟩,
   ⟨0x1200, 1, 0x0D, "CxlWidth", 1, 1, 0, 0, 0, 0, 0, false⟩,
   ⟨0x1200, 1, 0x0E, "CxlRate", 1, 1, 0, 0, 0, 0, 0, false⟩,
   ⟨0x1200, 1, 0x0F, "CxlCorrected", 4, 1, 0, 0, 0, 0, 0, false⟩,
   ⟨0x1200, 1, 0x10, "IngestWindows", 9, 2, 0, 0, 0, 0, 128, false⟩,
   ⟨0x1200, 1, 0x11, "MsixMap", 9, 2, 0, 0, 0, 0, 16, false⟩,
   ⟨0x1200, 1, 0x12, "HostReadsPoisoned", 4, 1, 0, 0, 0, 0, 0, false⟩,
   ⟨0x1200, 1, 0x13, "HostWritesDropped", 4, 1, 0, 0, 0, 0, 0, false⟩,
   ⟨0x1200, 1, 0x14, "MsixGapMicroseconds", 2, 2, 0, 10, 1, 10000, 0, false⟩]

/-- Object 0x1201. -/
def objects1201 : List Obj :=
  [⟨0x1201, 1, 0x00, "Entries", 1, 1, 0, 1, 0, 0, 0, false⟩,
   ⟨0x1201, 1, 0x01, "Domain", 10, 1, 0, 0, 0, 0, 0, false⟩]

/-- Object 0x1800. -/
def objects1800 : List Obj :=
  [⟨0x1800, 1, 0x00, "Entries", 1, 1, 0, 5, 0, 0, 0, false⟩,
   ⟨0x1800, 1, 0x01, "StartCount", 3, 1, 0, 0, 0, 0, 0, false⟩,
   ⟨0x1800, 1, 0x02, "Runs", 9, 1, 0, 0, 0, 0, 8192, false⟩,
   ⟨0x1800, 1, 0x03, "Marks", 9, 1, 0, 0, 0, 0, 152, false⟩,
   ⟨0x1800, 1, 0x04, "ClearMark", 2, 5, 5, 0, 0, 0, 0, false⟩,
   ⟨0x1800, 1, 0x05, "LastStartMs", 3, 1, 0, 0, 0, 0, 0, false⟩]

/-- Object 0x2010. -/
def objects2010 : List Obj :=
  [⟨0x2010, 1, 0x00, "Entries", 1, 1, 0, 2, 0, 0, 0, false⟩,
   ⟨0x2010, 1, 0x01, "DieStoreScratchSlices", 1, 2, 10, 0, 0, 8, 0, false⟩,
   ⟨0x2010, 1, 0x02, "DieStoreModesInForce", 1, 1, 0, 0, 0, 0, 0, false⟩]

/-- Object 0x2100. -/
def objects2100 : List Obj :=
  [⟨0x2100, 1, 0x00, "Entries", 1, 1, 0, 14, 0, 0, 0, false⟩,
   ⟨0x2100, 1, 0x01, "SiteCount", 2, 1, 0, 416, 0, 0, 0, false⟩,
   ⟨0x2100, 1, 0x02, "EnabledSites", 2, 1, 0, 0, 0, 0, 0, false⟩,
   ⟨0x2100, 1, 0x03, "SpareSites", 2, 1, 0, 0, 0, 0, 0, false⟩,
   ⟨0x2100, 1, 0x04, "FusedSites", 2, 1, 0, 0, 0, 0, 0, false⟩,
   ⟨0x2100, 1, 0x05, "DefectiveSites", 2, 1, 0, 0, 0, 0, 0, false⟩,
   ⟨0x2100, 1, 0x06, "AbsentLogical", 2, 1, 0, 0, 0, 0, 0, false⟩,
   ⟨0x2100, 1, 0x07, "LogicalColumns", 1, 1, 0, 24, 0, 0, 0, false⟩,
   ⟨0x2100, 1, 0x08, "LogicalRows", 1, 1, 0, 16, 0, 0, 0, false⟩,
   ⟨0x2100, 1, 0x09, "MapGeneration", 3, 1, 0, 0, 0, 0, 0, false⟩,
   ⟨0x2100, 1, 0x0A, "LogicalMap", 9, 1, 0, 0, 0, 0, 768, false⟩,
   ⟨0x2100, 1, 0x0B, "SiteStates", 9, 1, 0, 0, 0, 0, 416, false⟩,
   ⟨0x2100, 1, 0x0C, "LinkStates", 9, 1, 0, 0, 0, 0, 3328, false⟩,
   ⟨0x2100, 1, 0x0D, "PendingDefects", 2, 1, 0, 0, 0, 0, 0, false⟩,
   ⟨0x2100, 1, 0x0E, "RemapPolicy", 1, 3, 0, 1, 0, 1, 0, false⟩]

/-- Object 0x2101. -/
def objects2101 : List Obj :=
  [⟨0x2101, 1, 0x00, "Entries", 1, 1, 0, 4, 0, 0, 0, false⟩,
   ⟨0x2101, 1, 0x01, "RecordCount", 2, 1, 0, 0, 0, 0, 0, false⟩,
   ⟨0x2101, 1, 0x02, "Records", 9, 1, 0, 0, 0, 0, 65536, false⟩,
   ⟨0x2101, 1, 0x03, "ClearRecord", 2, 5, 5, 0, 0, 0, 0, false⟩,
   ⟨0x2101, 1, 0x04, "AddRecord", 9, 5, 1, 0, 0, 0, 16, false⟩]

/-- Object 0x2400. -/
def objects2400 : List Obj :=
  [⟨0x2400, 1, 0x00, "Entries", 1, 1, 0, 20, 0, 0, 0, false⟩,
   ⟨0x2400, 1, 0x01, "State", 1, 1, 0, 0, 0, 0, 0, false⟩,
   ⟨0x2400, 1, 0x02, "JobId", 3, 2, 0, 0, 0, 0, 0, false⟩,
   ⟨0x2400, 1, 0x03, "Seed", 4, 2, 0, 0, 0, 0, 0, false⟩,
   ⟨0x2400, 1, 0x04, "ScrubPolicy", 1, 2, 0, 0, 0, 7, 0, false⟩,
   ⟨0x2400, 1, 0x05, "Configure", 3, 5, 0, 0, 0, 0, 0, false⟩,
   ⟨0x2400, 1, 0x06, "Start", 3, 5, 0, 0, 0, 0, 0, false⟩,
   ⟨0x2400, 1, 0x07, "Stop", 3, 5, 0, 0, 0, 0, 0, false⟩,
   ⟨0x2400, 1, 0x08, "Kill", 3, 5, 0, 0, 0, 0, 0, false⟩,
   ⟨0x2400, 1, 0x09, "CommandStatus", 3, 1, 0, 0, 0, 0, 0, false⟩,
   ⟨0x2400, 1, 0x0A, "StopTimeoutMs", 3, 2, 0, 10000, 10, 600000, 0, false⟩,
   ⟨0x2400, 1, 0x0B, "PollNanoseconds", 3, 2, 0, 1000, 200, 100000, 0, false⟩,
   ⟨0x2400, 1, 0x0C, "RotateThresholdC", 1, 2, 0, 8, 2, 40, 0, false⟩,
   ⟨0x2400, 1, 0x0D, "BarrierExpected", 9, 2, 0, 0, 0, 0, 16384, false⟩,
   ⟨0x2400, 1, 0x0E, "BarrierCounts", 9, 1, 0, 0, 0, 0, 16384, false⟩,
   ⟨0x2400, 1, 0x0F, "StartTime", 4, 1, 0, 0, 0, 0, 0, false⟩,
   ⟨0x2400, 1, 0x10, "EndTime", 4, 1, 0, 0, 0, 0, 0, false⟩,
   ⟨0x2400, 1, 0x11, "TasksCompleted", 4, 1, 0, 0, 0, 0, 0, false⟩,
   ⟨0x2400, 1, 0x12, "TasksAborted", 4, 1, 0, 0, 0, 0, 0, false⟩,
   ⟨0x2400, 1, 0x13, "FirstAbort", 9, 1, 0, 0, 0, 0, 64, false⟩,
   ⟨0x2400, 1, 0x14, "Report", 9, 1, 0, 0, 0, 0, 32, false⟩]

/-- Object 0x2401. -/
def objects2401 : List Obj :=
  [⟨0x2401, 1, 0x00, "Entries", 1, 1, 0, 5, 0, 0, 0, false⟩,
   ⟨0x2401, 1, 0x01, "ListCount", 2, 1, 0, 0, 0, 0, 0, false⟩,
   ⟨0x2401, 1, 0x02, "Create", 9, 5, 2, 0, 0, 0, 32, false⟩,
   ⟨0x2401, 1, 0x03, "Delete", 2, 5, 2, 0, 0, 0, 0, false⟩,
   ⟨0x2401, 1, 0x04, "Table", 9, 1, 0, 0, 0, 0, 32768, false⟩,
   ⟨0x2401, 1, 0x05, "CommandStatus", 3, 1, 0, 0, 0, 0, 0, false⟩]

/-- Object 0x2800. -/
def objects2800 : List Obj :=
  [⟨0x2800, 1, 0x00, "Entries", 1, 1, 0, 8, 0, 0, 0, false⟩,
   ⟨0x2800, 1, 0x01, "ImageCount", 2, 1, 0, 0, 0, 0, 0, false⟩,
   ⟨0x2800, 1, 0x02, "ImageCapacity", 2, 1, 0, 4096, 0, 0, 0, false⟩,
   ⟨0x2800, 1, 0x03, "SourceAddress", 4, 2, 0, 0, 0, 0, 0, false⟩,
   ⟨0x2800, 1, 0x04, "Register", 3, 5, 0, 0, 0, 0, 0, false⟩,
   ⟨0x2800, 1, 0x05, "RegisterStatus", 3, 1, 0, 0, 0, 0, 0, false⟩,
   ⟨0x2800, 1, 0x06, "Unregister", 3, 5, 0, 0, 0, 0, 0, false⟩,
   ⟨0x2800, 1, 0x07, "Table", 9, 1, 0, 0, 0, 0, 131072, false⟩,
   ⟨0x2800, 1, 0x08, "LoadArray", 9, 5, 2, 0, 0, 0, 8, false⟩]

/-- Object 0x2801. -/
def objects2801 : List Obj :=
  [⟨0x2801, 1, 0x00, "Entries", 1, 1, 0, 1, 0, 0, 0, false⟩,
   ⟨0x2801, 1, 0x01, "Records", 9, 1, 0, 0, 0, 0, 98304, false⟩]

/-- Object 0x3000. -/
def objects3000 : List Obj :=
  [⟨0x3000, 16, 0x00, "Entries", 1, 1, 0, 5, 0, 0, 0, false⟩,
   ⟨0x3000, 16, 0x01, "Name", 8, 1, 0, 0, 0, 0, 0, false⟩,
   ⟨0x3000, 16, 0x02, "FirstShelf", 1, 1, 0, 0, 0, 0, 0, false⟩,
   ⟨0x3000, 16, 0x03, "EnabledSites", 1, 1, 0, 0, 0, 0, 0, false⟩,
   ⟨0x3000, 16, 0x04, "SpareSites", 1, 1, 0, 0, 0, 0, 0, false⟩,
   ⟨0x3000, 16, 0x05, "HutchAttach", 1, 1, 0, 0, 0, 0, 0, false⟩]

/-- Object 0x3100. -/
def objects3100 : List Obj :=
  [⟨0x3100, 416, 0x00, "Entries", 1, 1, 0, 23, 0, 0, 0, false⟩,
   ⟨0x3100, 416, 0x01, "X", 1, 1, 0, 0, 0, 0, 0, false⟩,
   ⟨0x3100, 416, 0x02, "Y", 1, 1, 0, 0, 0, 0, 0, false⟩,
   ⟨0x3100, 416, 0x03, "State", 1, 1, 0, 0, 0, 0, 0, false⟩,
   ⟨0x3100, 416, 0x04, "LogicalColumn", 1, 1, 0, 0, 0, 0, 0, false⟩,
   ⟨0x3100, 416, 0x05, "LogicalRow", 1, 1, 0, 0, 0, 0, 0, false⟩,
   ⟨0x3100, 416, 0x06, "Bay", 1, 1, 0, 0, 0, 0, 0, false⟩,
   ⟨0x3100, 416, 0x07, "ArrayStates", 9, 1, 0, 0, 0, 0, 20, false⟩,
   ⟨0x3100, 416, 0x08, "LogicalArrays", 9, 1, 0, 0, 0, 0, 20, false⟩,
   ⟨0x3100, 416, 0x09, "LinkStates", 4, 1, 0, 0, 0, 0, 0, false⟩,
   ⟨0x3100, 416, 0x0A, "Attach", 1, 1, 0, 0, 0, 0, 0, false⟩,
   ⟨0x3100, 416, 0x0B, "Stitched", 1, 1, 0, 0, 0, 0, 0, false⟩,
   ⟨0x3100, 416, 0x0C, "DefectRecords", 2, 1, 0, 0, 0, 0, 0, false⟩,
   ⟨0x3100, 416, 0x10, "Sensors", 9, 1, 0, 0, 0, 0, 8, false⟩,
   ⟨0x3100, 416, 0x11, "FreqCapMHz", 2, 1, 0, 1050, 0, 0, 0, false⟩,
   ⟨0x3100, 416, 0x12, "IssueDuty", 1, 1, 0, 8, 0, 0, 0, false⟩,
   ⟨0x3100, 416, 0x13, "CoreCurrentA", 6, 1, 0, 0, 0, 0, 0, false⟩,
   ⟨0x3100, 416, 0x14, "ArrayMarks", 9, 1, 0, 0, 0, 0, 20, false⟩,
   ⟨0x3100, 416, 0x15, "CorrectedWords", 3, 1, 0, 0, 0, 0, 0, false⟩,
   ⟨0x3100, 416, 0x16, "LastSuspect", 4, 1, 0, 0, 0, 0, 0, false⟩,
   ⟨0x3100, 416, 0x17, "CleanChecks", 9, 1, 0, 0, 0, 0, 20, false⟩]

/-- Object 0x4000. -/
def objects4000 : List Obj :=
  [⟨0x4000, 1, 0x00, "Entries", 1, 1, 0, 10, 0, 0, 0, false⟩,
   ⟨0x4000, 1, 0x01, "TableGeneration", 3, 1, 0, 0, 0, 0, 0, false⟩,
   ⟨0x4000, 1, 0x02, "RouteTables", 9, 1, 0, 0, 0, 0, 294912, false⟩,
   ⟨0x4000, 1, 0x03, "UnreachablePairs", 3, 1, 0, 0, 0, 0, 0, false⟩,
   ⟨0x4000, 1, 0x04, "FabricState", 1, 1, 0, 0, 0, 0, 0, false⟩,
   ⟨0x4000, 1, 0x05, "LastStopMicroseconds", 3, 1, 0, 0, 0, 0, 0, false⟩,
   ⟨0x4000, 1, 0x06, "DrainTimeouts", 3, 1, 0, 0, 0, 0, 0, false⟩,
   ⟨0x4000, 1, 0x07, "AdaptiveEnable", 7, 2, 10, 1, 0, 0, 0, false⟩,
   ⟨0x4000, 1, 0x08, "LinkReplays", 9, 1, 0, 0, 0, 0, 13312, false⟩,
   ⟨0x4000, 1, 0x09, "LinkFailures", 3, 1, 0, 0, 0, 0, 0, false⟩,
   ⟨0x4000, 1, 0x0A, "ReplayWarnPerSecond", 3, 2, 0, 10000, 0, 0, 0, false⟩]

/-- Object 0x4100. -/
def objects4100 : List Obj :=
  [⟨0x4100, 1, 0x00, "Entries", 1, 1, 0, 5, 0, 0, 0, false⟩,
   ⟨0x4100, 1, 0x01, "WindowNanoseconds", 3, 1, 0, 10000, 0, 0, 0, false⟩,
   ⟨0x4100, 1, 0x02, "CollectPeriodMs", 2, 2, 0, 10, 1, 1000, 0, false⟩,
   ⟨0x4100, 1, 0x03, "WindowStart", 4, 1, 0, 0, 0, 0, 0, false⟩,
   ⟨0x4100, 1, 0x04, "Map", 9, 1, 0, 0, 0, 0, 110592, false⟩,
   ⟨0x4100, 1, 0x05, "HotPorts", 9, 1, 0, 0, 0, 0, 256, false⟩]

/-- Object 0x4800. -/
def objects4800 : List Obj :=
  [⟨0x4800, 16, 0x00, "Entries", 1, 1, 0, 17, 0, 0, 0, false⟩,
   ⟨0x4800, 16, 0x01, "State", 1, 1, 0, 0, 0, 0, 0, false⟩,
   ⟨0x4800, 16, 0x02, "Role", 1, 3, 4, 0, 0, 3, 0, false⟩,
   ⟨0x4800, 16, 0x03, "PeerPanel", 2, 3, 4, 0, 0, 0, 0, false⟩,
   ⟨0x4800, 16, 0x04, "PeerPort", 1, 3, 4, 0, 0, 15, 0, false⟩,
   ⟨0x4800, 16, 0x05, "InForce", 9, 1, 0, 0, 0, 0, 4, false⟩,
   ⟨0x4800, 16, 0x06, "Lanes", 1, 1, 0, 0, 0, 0, 0, false⟩,
   ⟨0x4800, 16, 0x07, "LimitGBps", 2, 1, 0, 800, 0, 0, 0, false⟩,
   ⟨0x4800, 16, 0x08, "FecCorrected", 4, 1, 0, 0, 0, 0, 0, false⟩,
   ⟨0x4800, 16, 0x09, "FecUncorrected", 4, 1, 0, 0, 0, 0, 0, false⟩,
   ⟨0x4800, 16, 0x0A, "Replays", 4, 1, 0, 0, 0, 0, 0, false⟩,
   ⟨0x4800, 16, 0x0B, "Failures", 3, 1, 0, 0, 0, 0, 0, false⟩,
   ⟨0x4800, 16, 0x0C, "RoundTripNs", 3, 1, 0, 0, 0, 0, 0, false⟩,
   ⟨0x4800, 16, 0x0D, "AttachMask", 1, 1, 0, 0, 0, 0, 0, false⟩,
   ⟨0x4800, 16, 0x0E, "CheckFeed", 1, 2, 0, 0, 0, 2, 0, false⟩,
   ⟨0x4800, 16, 0x0F, "PatternTest", 3, 5, 0, 0, 0, 0, 0, false⟩,
   ⟨0x4800, 16, 0x10, "LastFailure", 1, 1, 0, 0, 0, 0, 0, false⟩,
   ⟨0x4800, 16, 0x11, "Engine", 9, 1, 0, 0, 0, 0, 18, false⟩]

/-- Object 0x4810. -/
def objects4810 : List Obj :=
  [⟨0x4810, 1, 0x00, "Entries", 1, 1, 0, 11, 0, 0, 0, false⟩,
   ⟨0x4810, 1, 0x01, "PanelId", 2, 3, 4, 0, 0, 4095, 0, false⟩,
   ⟨0x4810, 1, 0x02, "Kind", 1, 3, 4, 0, 0, 0, 0, false⟩,
   ⟨0x4810, 1, 0x03, "SizeX", 1, 3, 4, 1, 0, 0, 0, false⟩,
   ⟨0x4810, 1, 0x04, "SizeY", 1, 3, 4, 1, 0, 0, 0, false⟩,
   ⟨0x4810, 1, 0x05, "SizeZ", 1, 3, 4, 1, 0, 0, 0, false⟩,
   ⟨0x4810, 1, 0x06, "BasePanel", 2, 3, 4, 0, 0, 0, 0, false⟩,
   ⟨0x4810, 1, 0x07, "Coordinates", 9, 1, 0, 0, 0, 0, 3, false⟩,
   ⟨0x4810, 1, 0x08, "UnreachablePanels", 2, 1, 0, 0, 0, 0, 0, false⟩,
   ⟨0x4810, 1, 0x09, "GroupsUp", 9, 1, 0, 0, 0, 0, 6, false⟩,
   ⟨0x4810, 1, 0x0A, "EgressCreditWaits", 4, 1, 0, 0, 0, 0, 0, false⟩,
   ⟨0x4810, 1, 0x0B, "TopologyStatus", 3, 1, 0, 0, 0, 0, 0, false⟩]

/-- Object 0x4900. -/
def objects4900 : List Obj :=
  [⟨0x4900, 1, 0x00, "Entries", 1, 1, 0, 9, 0, 0, 0, false⟩,
   ⟨0x4900, 1, 0x01, "State", 1, 1, 0, 0, 0, 0, 0, false⟩,
   ⟨0x4900, 1, 0x02, "TwinPanel", 2, 2, 0, 0, 0, 0, 0, false⟩,
   ⟨0x4900, 1, 0x03, "DomainTags", 9, 3, 0, 0, 0, 0, 16, false⟩,
   ⟨0x4900, 1, 0x04, "TwinDomainTags", 9, 1, 0, 0, 0, 0, 16, false⟩,
   ⟨0x4900, 1, 0x05, "Attach", 3, 5, 3, 0, 0, 0, 0, false⟩,
   ⟨0x4900, 1, 0x06, "Detach", 3, 5, 3, 0, 0, 0, 0, false⟩,
   ⟨0x4900, 1, 0x07, "HeartbeatMicroseconds", 3, 2, 0, 100, 10, 10000, 0, false⟩,
   ⟨0x4900, 1, 0x08, "LossMicroseconds", 3, 2, 0, 1000, 100, 1000000, 0, false⟩,
   ⟨0x4900, 1, 0x09, "CommandStatus", 3, 1, 0, 0, 0, 0, 0, false⟩]

/-- Object 0x5000. -/
def objects5000 : List Obj :=
  [⟨0x5000, 16, 0x00, "Entries", 1, 1, 0, 17, 0, 0, 0, false⟩,
   ⟨0x5000, 16, 0x01, "SramMiB", 2, 1, 0, 1536, 0, 0, 0, false⟩,
   ⟨0x5000, 16, 0x02, "CacheMiB", 2, 2, 8, 1024, 0, 0, 0, false⟩,
   ⟨0x5000, 16, 0x03, "ScratchMiB", 2, 1, 0, 512, 0, 0, 0, false⟩,
   ⟨0x5000, 16, 0x04, "ScratchReservedMiB", 2, 1, 0, 0, 0, 0, 0, false⟩,
   ⟨0x5000, 16, 0x05, "InlineEcc", 7, 3, 4, 0, 0, 0, 0, false⟩,
   ⟨0x5000, 16, 0x06, "DramBytes", 4, 1, 0, 0, 0, 0, 0, false⟩,
   ⟨0x5000, 16, 0x07, "StackStates", 9, 1, 0, 0, 0, 0, 8, false⟩,
   ⟨0x5000, 16, 0x08, "CacheHits", 4, 1, 0, 0, 0, 0, 0, false⟩,
   ⟨0x5000, 16, 0x09, "CacheMisses", 4, 1, 0, 0, 0, 0, 0, false⟩,
   ⟨0x5000, 16, 0x0A, "Writebacks", 4, 1, 0, 0, 0, 0, 0, false⟩,
   ⟨0x5000, 16, 0x0B, "SramCorrected", 3, 1, 0, 0, 0, 0, 0, false⟩,
   ⟨0x5000, 16, 0x0C, "SramUncorrected", 3, 1, 0, 0, 0, 0, 0, false⟩,
   ⟨0x5000, 16, 0x0D, "DramCorrected", 3, 1, 0, 0, 0, 0, 0, false⟩,
   ⟨0x5000, 16, 0x0E, "DramUncorrected", 3, 1, 0, 0, 0, 0, 0, false⟩,
   ⟨0x5000, 16, 0x0F, "DramPatrolSeconds", 3, 2, 0, 86400, 3600, 604800, 0, false⟩,
   ⟨0x5000, 16, 0x10, "PoisonCount", 2, 1, 0, 0, 0, 0, 0, false⟩,
   ⟨0x5000, 16, 0x11, "PoisonList", 9, 1, 0, 0, 0, 0, 32768, false⟩]

/-- Object 0x5800. -/
def objects5800 : List Obj :=
  [⟨0x5800, 1, 0x00, "Entries", 1, 1, 0, 5, 0, 0, 0, false⟩,
   ⟨0x5800, 1, 0x01, "UnitCount", 2, 1, 0, 417, 0, 0, 0, false⟩,
   ⟨0x5800, 1, 0x02, "States", 9, 1, 0, 0, 0, 0, 13344, false⟩,
   ⟨0x5800, 1, 0x03, "Owners", 9, 2, 2, 0, 0, 0, 384, false⟩,
   ⟨0x5800, 1, 0x04, "Load", 9, 5, 0, 0, 0, 0, 34, false⟩,
   ⟨0x5800, 1, 0x05, "Reset", 2, 5, 0, 0, 0, 0, 0, false⟩]

/-- Object 0x6000. -/
def objects6000 : List Obj :=
  [⟨0x6000, 38, 0x00, "Entries", 1, 1, 0, 17, 0, 0, 0, false⟩,
   ⟨0x6000, 38, 0x01, "Kind", 1, 1, 0, 0, 0, 0, 0, false⟩,
   ⟨0x6000, 38, 0x02, "State", 1, 1, 0, 0, 0, 0, 0, false⟩,
   ⟨0x6000, 38, 0x03, "Enable", 3, 5, 0, 0, 0, 0, 0, false⟩,
   ⟨0x6000, 38, 0x04, "Disable", 3, 5, 0, 0, 0, 0, 0, false⟩,
   ⟨0x6000, 38, 0x05, "PowerW", 6, 1, 0, 0, 0, 0, 0, false⟩,
   ⟨0x6000, 38, 0x06, "CapW", 6, 2, 0, 0, 0, 0, 0, false⟩,
   ⟨0x6000, 38, 0x07, "CapInForceW", 6, 1, 0, 0, 0, 0, 0, false⟩,
   ⟨0x6000, 38, 0x08, "GuardCapA", 6, 1, 0, 0, 0, 0, 0, false⟩,
   ⟨0x6000, 38, 0x09, "GuardSlewAPerUs", 6, 1, 0, 0, 0, 0, 0, false⟩,
   ⟨0x6000, 38, 0x0A, "Rails", 9, 1, 0, 0, 0, 0, 256, false⟩,
   ⟨0x6000, 38, 0x0B, "RailMap", 9, 3, 4, 0, 0, 0, 64, false⟩,
   ⟨0x6000, 38, 0x0C, "VcoreMv", 2, 2, 0, 700, 620, 800, 0, false⟩,
   ⟨0x6000, 38, 0x0D, "FaultEnables", 1, 1, 0, 0, 0, 0, 0, false⟩,
   ⟨0x6000, 38, 0x0E, "LastOff", 4, 1, 0, 0, 0, 0, 0, false⟩,
   ⟨0x6000, 38, 0x0F, "LastPgFall", 4, 1, 0, 0, 0, 0, 0, false⟩,
   ⟨0x6000, 38, 0x10, "GatedCycles", 4, 1, 0, 0, 0, 0, 0, false⟩,
   ⟨0x6000, 38, 0x11, "CommandStatus", 3, 1, 0, 0, 0, 0, 0, false⟩]

/-- Object 0x6400. -/
def objects6400 : List Obj :=
  [⟨0x6400, 1, 0x00, "Entries", 1, 1, 0, 13, 0, 0, 0, false⟩,
   ⟨0x6400, 1, 0x01, "SensorCount", 2, 1, 0, 1846, 0, 0, 0, false⟩,
   ⟨0x6400, 1, 0x02, "Readings", 9, 1, 0, 0, 0, 0, 3692, false⟩,
   ⟨0x6400, 1, 0x03, "StackReadings", 9, 1, 0, 0, 0, 0, 1024, false⟩,
   ⟨0x6400, 1, 0x04, "Flags", 9, 1, 0, 0, 0, 0, 2870, false⟩,
   ⟨0x6400, 1, 0x05, "SuspectCount", 2, 1, 0, 0, 0, 0, 0, false⟩,
   ⟨0x6400, 1, 0x06, "DisagreeC", 1, 2, 0, 6, 3, 15, 0, false⟩,
   ⟨0x6400, 1, 0x07, "HottestJunction", 9, 1, 0, 0, 0, 0, 4, false⟩,
   ⟨0x6400, 1, 0x08, "HottestStack", 9, 1, 0, 0, 0, 0, 4, false⟩,
   ⟨0x6400, 1, 0x09, "ThrottledDies", 2, 1, 0, 0, 0, 0, 0, false⟩,
   ⟨0x6400, 1, 0x0A, "ThrottleEvents", 3, 1, 0, 0, 0, 0, 0, false⟩,
   ⟨0x6400, 1, 0x0B, "MemoryShutdowns", 2, 1, 0, 0, 0, 0, 0, false⟩,
   ⟨0x6400, 1, 0x0C, "SlopeMax", 6, 1, 0, 0, 0, 0, 0, false⟩,
   ⟨0x6400, 1, 0x0D, "TripSource", 2, 1, 0, 65535, 0, 0, 0, false⟩]

/-- Object 0x6500. -/
def objects6500 : List Obj :=
  [⟨0x6500, 1, 0x00, "Entries", 1, 1, 0, 12, 0, 0, 0, false⟩,
   ⟨0x6500, 1, 0x01, "Policy", 1, 3, 1, 0, 0, 1, 0, false⟩,
   ⟨0x6500, 1, 0x02, "HardLimitC", 1, 3, 0, 105, 96, 114, 0, false⟩,
   ⟨0x6500, 1, 0x03, "InletC", 6, 2, 0, 1108082688, 0, 0, 0, false⟩,
   ⟨0x6500, 1, 0x04, "LidLimitC", 1, 3, 0, 82, 60, 90, 0, false⟩,
   ⟨0x6500, 1, 0x05, "AirWarnKPerW", 6, 3, 0, 998445679, 994352038, 1008981770, 0, false⟩,
   ⟨0x6500, 1, 0x06, "REstimate", 6, 1, 0, 0, 0, 0, 0, false⟩,
   ⟨0x6500, 1, 0x07, "CoolingCapW", 6, 1, 0, 1179123712, 0, 0, 0, false⟩,
   ⟨0x6500, 1, 0x08, "State", 1, 1, 0, 0, 0, 0, 0, false⟩,
   ⟨0x6500, 1, 0x09, "CoolFail", 7, 1, 0, 0, 0, 0, 0, false⟩,
   ⟨0x6500, 1, 0x0A, "DrainGraceMs", 2, 2, 0, 1, 0, 1000, 0, false⟩,
   ⟨0x6500, 1, 0x0B, "LastChange", 4, 1, 0, 0, 0, 0, 0, false⟩,
   ⟨0x6500, 1, 0x0C, "BaysOffForHeat", 2, 1, 0, 0, 0, 0, 0, false⟩]

/-- Object 0x7000. -/
def objects7000 : List Obj :=
  [⟨0x7000, 1, 0x00, "Entries", 1, 1, 0, 7, 0, 0, 0, false⟩,
   ⟨0x7000, 1, 0x01, "SetsInUse", 1, 1, 0, 0, 0, 0, 0, false⟩,
   ⟨0x7000, 1, 0x02, "SetCapacity", 1, 1, 0, 64, 0, 0, 0, false⟩,
   ⟨0x7000, 1, 0x03, "DebugReadback", 7, 3, 5, 0, 0, 0, 0, false⟩,
   ⟨0x7000, 1, 0x04, "DebugReadbackInForce", 7, 1, 0, 0, 0, 0, 0, false⟩,
   ⟨0x7000, 1, 0x05, "WrapKey", 9, 1, 0, 0, 0, 0, 1568, false⟩,
   ⟨0x7000, 1, 0x06, "HutchCheckFeed", 9, 2, 0, 0, 0, 0, 16, false⟩,
   ⟨0x7000, 1, 0x07, "DecryptFailures", 3, 1, 0, 0, 0, 0, 0, false⟩]

/-- Object 0x7001. -/
def objects7001 : List Obj :=
  [⟨0x7001, 64, 0x00, "Entries", 1, 1, 0, 21, 0, 0, 0, false⟩,
   ⟨0x7001, 64, 0x01, "State", 1, 1, 0, 0, 0, 0, 0, false⟩,
   ⟨0x7001, 64, 0x02, "Define", 9, 5, 0, 0, 0, 0, 16, false⟩,
   ⟨0x7001, 64, 0x03, "SetId", 3, 1, 0, 0, 0, 0, 0, false⟩,
   ⟨0x7001, 64, 0x04, "LayerCount", 2, 1, 0, 0, 0, 0, 0, false⟩,
   ⟨0x7001, 64, 0x05, "Mode", 1, 2, 2, 0, 0, 1, 0, false⟩,
   ⟨0x7001, 64, 0x06, "Current", 2, 1, 0, 0, 0, 0, 0, false⟩,
   ⟨0x7001, 64, 0x07, "Generations", 9, 1, 0, 0, 0, 0, 64, false⟩,
   ⟨0x7001, 64, 0x08, "NewGeneration", 2, 5, 0, 0, 0, 0, 0, false⟩,
   ⟨0x7001, 64, 0x09, "LastCreated", 2, 1, 0, 0, 0, 0, 0, false⟩,
   ⟨0x7001, 64, 0x0A, "Publish", 2, 5, 0, 0, 0, 0, 0, false⟩,
   ⟨0x7001, 64, 0x0B, "SwitchCurrent", 2, 5, 0, 0, 0, 0, 0, false⟩,
   ⟨0x7001, 64, 0x0C, "Discard", 2, 5, 0, 0, 0, 0, 0, false⟩,
   ⟨0x7001, 64, 0x0D, "Pin", 2, 5, 0, 0, 0, 0, 0, false⟩,
   ⟨0x7001, 64, 0x0E, "PinResult", 2, 1, 0, 0, 0, 0, 0, false⟩,
   ⟨0x7001, 64, 0x0F, "Unpin", 2, 5, 0, 0, 0, 0, 0, false⟩,
   ⟨0x7001, 64, 0x10, "WrappedKey", 9, 4, 1, 0, 0, 0, 1624, false⟩,
   ⟨0x7001, 64, 0x11, "Ingest", 9, 5, 0, 0, 0, 0, 16, false⟩,
   ⟨0x7001, 64, 0x12, "IngestStatus", 9, 1, 0, 0, 0, 0, 16, false⟩,
   ⟨0x7001, 64, 0x13, "BroadcastPeers", 9, 2, 0, 0, 0, 0, 32, false⟩,
   ⟨0x7001, 64, 0x14, "UpdateConfig", 9, 2, 0, 0, 0, 0, 48, false⟩,
   ⟨0x7001, 64, 0x15, "Undefine / CommandStatus", 3, 5, 2, 0, 0, 0, 0, true⟩]

/-- Object 0x7100. -/
def objects7100 : List Obj :=
  [⟨0x7100, 1, 0x00, "Entries", 1, 1, 0, 6, 0, 0, 0, false⟩,
   ⟨0x7100, 1, 0x01, "SlotCapacity", 3, 1, 0, 65536, 0, 0, 0, false⟩,
   ⟨0x7100, 1, 0x02, "SlotsInUse", 3, 1, 0, 0, 0, 0, 0, false⟩,
   ⟨0x7100, 1, 0x03, "SlotTable", 4, 1, 0, 0, 0, 0, 0, false⟩,
   ⟨0x7100, 1, 0x04, "Load", 9, 5, 0, 0, 0, 0, 66, false⟩,
   ⟨0x7100, 1, 0x05, "Release", 2, 5, 0, 0, 0, 0, 0, false⟩,
   ⟨0x7100, 1, 0x06, "Status", 3, 1, 0, 0, 0, 0, 0, false⟩]

/-- Object 0x7200. -/
def objects7200 : List Obj :=
  [⟨0x7200, 1, 0x00, "Entries", 1, 1, 0, 14, 0, 0, 0, false⟩,
   ⟨0x7200, 1, 0x01, "Enable", 7, 2, 2, 0, 0, 0, 0, false⟩,
   ⟨0x7200, 1, 0x02, "Capacity", 3, 1, 0, 262144, 0, 0, 0, false⟩,
   ⟨0x7200, 1, 0x03, "CachedEntries", 2, 1, 0, 16384, 0, 0, 0, false⟩,
   ⟨0x7200, 1, 0x04, "ActiveStreams", 3, 1, 0, 0, 0, 0, 0, false⟩,
   ⟨0x7200, 1, 0x05, "TaskList", 2, 2, 0, 0, 0, 0, 0, false⟩,
   ⟨0x7200, 1, 0x06, "BatchMax", 2, 2, 0, 256, 1, 1024, 0, false⟩,
   ⟨0x7200, 1, 0x07, "TokenBudget", 3, 2, 0, 8192, 1, 1048576, 0, false⟩,
   ⟨0x7200, 1, 0x08, "MaxInFlight", 1, 2, 0, 2, 1, 8, 0, false⟩,
   ⟨0x7200, 1, 0x09, "BatchArea", 4, 2, 0, 0, 0, 0, 0, false⟩,
   ⟨0x7200, 1, 0x0A, "BatchAreaBytes", 3, 2, 0, 0, 0, 0, 0, false⟩,
   ⟨0x7200, 1, 0x0B, "RejectedWrites", 3, 1, 0, 0, 0, 0, 0, false⟩,
   ⟨0x7200, 1, 0x0C, "DeadlineMisses", 3, 1, 0, 0, 0, 0, 0, false⟩,
   ⟨0x7200, 1, 0x0D, "BatchesFormed", 4, 1, 0, 0, 0, 0, 0, false⟩,
   ⟨0x7200, 1, 0x0E, "TableAddress", 4, 1, 0, 0, 0, 0, 0, false⟩]

/-- Object 0x7800. -/
def objects7800 : List Obj :=
  [⟨0x7800, 1, 0x00, "Entries", 1, 1, 0, 15, 0, 0, 0, false⟩,
   ⟨0x7800, 1, 0x01, "GlobalBarriers", 9, 2, 0, 0, 0, 0, 2048, false⟩,
   ⟨0x7800, 1, 0x02, "MarginMicroseconds", 3, 2, 0, 50, 1, 100000, 0, false⟩,
   ⟨0x7800, 1, 0x03, "SuspectSelf", 7, 1, 0, 0, 0, 0, 0, false⟩,
   ⟨0x7800, 1, 0x04, "LateHistory", 9, 1, 0, 0, 0, 0, 3072, false⟩,
   ⟨0x7800, 1, 0x05, "SuspectList", 9, 1, 0, 0, 0, 0, 512, false⟩,
   ⟨0x7800, 1, 0x06, "ClearSuspect", 2, 5, 0, 0, 0, 0, 0, false⟩,
   ⟨0x7800, 1, 0x07, "MirrorMode", 1, 2, 2, 0, 0, 2, 0, false⟩,
   ⟨0x7800, 1, 0x08, "MirrorInterval", 2, 2, 2, 16, 2, 1024, 0, false⟩,
   ⟨0x7800, 1, 0x09, "StepBarrier", 2, 2, 2, 0, 0, 4095, 0, false⟩,
   ⟨0x7800, 1, 0x0A, "Regions", 9, 2, 2, 0, 0, 0, 8192, false⟩,
   ⟨0x7800, 1, 0x0B, "AcceptRanges", 9, 2, 2, 0, 0, 0, 4096, false⟩,
   ⟨0x7800, 1, 0x0C, "MirroredStep", 3, 1, 0, 0, 0, 0, 0, false⟩,
   ⟨0x7800, 1, 0x0D, "TwinCopy", 9, 1, 0, 0, 0, 0, 8, false⟩,
   ⟨0x7800, 1, 0x0E, "MirrorLastMicroseconds", 3, 1, 0, 0, 0, 0, 0, false⟩,
   ⟨0x7800, 1, 0x0F, "CommandStatus", 3, 1, 0, 0, 0, 0, 0, false⟩]

/-- Object 0x8000. -/
def objects8000 : List Obj :=
  [⟨0x8000, 1, 0x00, "Entries", 1, 1, 0, 13, 0, 0, 0, false⟩,
   ⟨0x8000, 1, 0x01, "Lifecycle", 1, 1, 0, 0, 0, 0, 0, false⟩,
   ⟨0x8000, 1, 0x02, "RootKeyHash", 9, 1, 0, 0, 0, 0, 32, false⟩,
   ⟨0x8000, 1, 0x03, "FusedSecurityVersion", 2, 1, 0, 0, 0, 0, 0, false⟩,
   ⟨0x8000, 1, 0x04, "Slots", 9, 1, 0, 0, 0, 0, 48, false⟩,
   ⟨0x8000, 1, 0x05, "FirmwareWrite", 9, 5, 1, 0, 0, 0, 62917664, false⟩,
   ⟨0x8000, 1, 0x06, "Activate", 1, 5, 1, 0, 0, 0, 0, false⟩,
   ⟨0x8000, 1, 0x07, "CommitVersion", 2, 5, 1, 0, 0, 0, 0, false⟩,
   ⟨0x8000, 1, 0x08, "KeySlotWrite", 9, 5, 0, 0, 0, 0, 1572, false⟩,
   ⟨0x8000, 1, 0x09, "KeySlotClear", 1, 5, 0, 0, 0, 0, 0, false⟩,
   ⟨0x8000, 1, 0x0A, "KeySlotDigests", 9, 1, 0, 0, 0, 0, 256, false⟩,
   ⟨0x8000, 1, 0x0B, "Attest", 9, 5, 0, 0, 0, 0, 32, false⟩,
   ⟨0x8000, 1, 0x0C, "Report", 9, 1, 0, 0, 0, 0, 1794, false⟩,
   ⟨0x8000, 1, 0x0D, "CommandStatus", 3, 1, 0, 0, 0, 0, 0, false⟩]

/-- Object 0x9000. -/
def objects9000 : List Obj :=
  [⟨0x9000, 1, 0x00, "Entries", 1, 1, 0, 19, 0, 0, 0, false⟩,
   ⟨0x9000, 1, 0x01, "Now", 4, 1, 0, 0, 0, 0, 0, false⟩,
   ⟨0x9000, 1, 0x02, "ClockRoot", 1, 1, 0, 0, 0, 0, 0, false⟩,
   ⟨0x9000, 1, 0x03, "RefclkState", 1, 1, 0, 0, 0, 0, 0, false⟩,
   ⟨0x9000, 1, 0x04, "PpsState", 1, 1, 0, 0, 0, 0, 0, false⟩,
   ⟨0x9000, 1, 0x05, "PpsOffsetNs", 5, 1, 0, 0, 0, 0, 0, false⟩,
   ⟨0x9000, 1, 0x06, "Rate", 5, 1, 0, 0, 0, 0, 0, false⟩,
   ⟨0x9000, 1, 0x07, "PpsEnable", 7, 3, 0, 1, 0, 0, 0, false⟩,
   ⟨0x9000, 1, 0x08, "SetSeconds", 4, 5, 2, 0, 0, 0, 0, false⟩,
   ⟨0x9000, 1, 0x09, "CommandStatus", 3, 1, 0, 0, 0, 0, 0, false⟩,
   ⟨0x9000, 1, 0x0A, "WavePeriodUs", 2, 1, 0, 1000, 0, 0, 0, false⟩,
   ⟨0x9000, 1, 0x0B, "TreeDepth", 1, 1, 0, 0, 0, 0, 0, false⟩,
   ⟨0x9000, 1, 0x0C, "Tree", 9, 1, 0, 0, 0, 0, 1536, false⟩,
   ⟨0x9000, 1, 0x0D, "SyncCorrections", 9, 1, 0, 0, 0, 0, 384, false⟩,
   ⟨0x9000, 1, 0x0E, "TimeFaults", 3, 1, 0, 0, 0, 0, 0, false⟩,
   ⟨0x9000, 1, 0x0F, "Clocks", 9, 1, 0, 0, 0, 0, 3072, false⟩,
   ⟨0x9000, 1, 0x10, "HutchClocks", 9, 1, 0, 0, 0, 0, 128, false⟩,
   ⟨0x9000, 1, 0x11, "Margins", 9, 1, 0, 0, 0, 0, 768, false⟩,
   ⟨0x9000, 1, 0x12, "MarginWarnCode", 1, 2, 0, 3, 1, 7, 0, false⟩,
   ⟨0x9000, 1, 0x13, "ClockWindowMs", 2, 2, 0, 100, 1, 10000, 0, false⟩]

/-- Object 0xA000. -/
def objectsA000 : List Obj :=
  [⟨0xA000, 1, 0x00, "Entries", 1, 1, 0, 11, 0, 0, 0, false⟩,
   ⟨0xA000, 1, 0x01, "Records", 9, 1, 0, 0, 0, 0, 5242880, false⟩,
   ⟨0xA000, 1, 0x02, "ClassCounts", 9, 1, 0, 0, 0, 0, 20, false⟩,
   ⟨0xA000, 1, 0x03, "DropCounts", 9, 1, 0, 0, 0, 0, 20, false⟩,
   ⟨0xA000, 1, 0x04, "NextSeq", 3, 1, 0, 1, 0, 0, 0, false⟩,
   ⟨0xA000, 1, 0x05, "Incident", 9, 1, 0, 0, 0, 0, 24, false⟩,
   ⟨0xA000, 1, 0x06, "FirstFailure", 9, 1, 0, 0, 0, 0, 65536, false⟩,
   ⟨0xA000, 1, 0x07, "ClearFirstFailure", 3, 5, 1, 0, 0, 0, 0, false⟩,
   ⟨0xA000, 1, 0x08, "CorrectedWarnPerHour", 3, 2, 0, 1000, 1, 1000000000, 0, false⟩,
   ⟨0xA000, 1, 0x09, "AlertCauses", 2, 1, 0, 0, 0, 0, 0, false⟩,
   ⟨0xA000, 1, 0x0A, "AlertAck", 2, 5, 0, 0, 0, 0, 0, false⟩,
   ⟨0xA000, 1, 0x0B, "RateLimit", 2, 1, 0, 1000, 0, 0, 0, false⟩]

/-- Object 0xB000. -/
def objectsB000 : List Obj :=
  [⟨0xB000, 1, 0x00, "Entries", 1, 1, 0, 25, 0, 0, 0, false⟩,
   ⟨0xB000, 1, 0x01, "LinkResults", 9, 1, 0, 0, 0, 0, 53248, false⟩,
   ⟨0xB000, 1, 0x02, "StitchErrors", 9, 1, 0, 0, 0, 0, 13312, false⟩,
   ⟨0xB000, 1, 0x03, "EdgeResults", 9, 1, 0, 0, 0, 0, 512, false⟩,
   ⟨0xB000, 1, 0x10, "CheckedPer4096", 2, 2, 10, 0, 0, 64, 0, false⟩,
   ⟨0xB000, 1, 0x11, "CheckedInstances", 4, 1, 0, 0, 0, 0, 0, false⟩,
   ⟨0xB000, 1, 0x12, "Mismatches", 3, 1, 0, 0, 0, 0, 0, false⟩,
   ⟨0xB000, 1, 0x13, "KatPeriodS", 2, 2, 0, 60, 10, 3600, 0, false⟩,
   ⟨0xB000, 1, 0x14, "KatRuns", 4, 1, 0, 0, 0, 0, 0, false⟩,
   ⟨0xB000, 1, 0x15, "KatFailures", 3, 1, 0, 0, 0, 0, 0, false⟩,
   ⟨0xB000, 1, 0x16, "KatPreempted", 4, 1, 0, 0, 0, 0, 0, false⟩,
   ⟨0xB000, 1, 0x17, "ClearSuspect", 9, 5, 1, 0, 0, 0, 2, false⟩,
   ⟨0xB000, 1, 0x18, "TraceEnable", 7, 2, 0, 0, 0, 0, 0, false⟩,
   ⟨0xB000, 1, 0x19, "TraceTruncated", 3, 1, 0, 0, 0, 0, 0, false⟩]
/-- The object of an index, and how far the index lies above its base (R356, dictionary index ranges). -/
def objectsAt (i : Nat) : Nat × List Obj :=
  if i < 0x2000 then
    (0, if i = 0x1000 then objects1000 else if i = 0x1100 then objects1100 else if i = 0x1200 then objects1200
        else if i = 0x1201 then objects1201 else if i = 0x1800 then objects1800 else [])
  else if i < 0x3000 then
    (0, if i = 0x2010 then objects2010 else if i = 0x2100 then objects2100 else if i = 0x2101 then objects2101
        else if i = 0x2400 then objects2400 else if i = 0x2401 then objects2401 else if i = 0x2800 then objects2800
        else if i = 0x2801 then objects2801 else [])
  else if i < 0x3010 then (i - 0x3000, objects3000)
  else if 0x3100 ≤ i ∧ i < 0x32A0 then (i - 0x3100, objects3100)
  else if i < 0x5000 then
    if 0x4800 ≤ i ∧ i < 0x4810 then (i - 0x4800, objects4800)
    else (0, if i = 0x4000 then objects4000 else if i = 0x4100 then objects4100 else if i = 0x4810 then objects4810
             else if i = 0x4900 then objects4900 else [])
  else if i < 0x5010 then (i - 0x5000, objects5000)
  else if i = 0x5800 then (0, objects5800)
  else if 0x6000 ≤ i ∧ i < 0x6026 then (i - 0x6000, objects6000)
  else if 0x7001 ≤ i ∧ i < 0x7041 then (i - 0x7001, objects7001)
  else
    (0, if i = 0x6400 then objects6400 else if i = 0x6500 then objects6500 else if i = 0x7000 then objects7000
        else if i = 0x7100 then objects7100 else if i = 0x7200 then objects7200 else if i = 0x7800 then objects7800
        else if i = 0x8000 then objects8000 else if i = 0x9000 then objects9000 else if i = 0xA000 then objectsA000
        else if i = 0xB000 then objectsB000 else [])

/-- The subindex of a list of subindexes. -/
def findSub : List Obj → Nat → Option Obj
  | [], _ => none
  | o :: l, sub => if o.sub = sub then some o else findSub l sub

/-- The object that index.sub names; none where the spec defines none (0x70). -/
def objAt (index sub : Nat) : Option Obj := findSub (objectsAt index).2 sub

/-- Bytes of a scalar type; 0 for STR, BLOB and DOMAIN (R351). -/
def typeSize (t : Nat) : Nat :=
  if t = 1 ∨ t = 7 then 1 else if t = 2 then 2 else if t = 3 ∨ t = 5 ∨ t = 6 then 4 else if t = 4 then 8 else 0

/-- The key of a dictionary scalar in the state's tables. -/
def key (index sub : Nat) : Nat := 256 * index + sub

/-- The default of a scalar by its key; 0 where the table gives none. -/
def regDefault (k : Nat) : Nat :=
  match objAt (k / 256) (k % 256) with
  | some o => o.dflt
  | none => 0

end Sys2Proof.Machine
end

