-- ==== Sys2Proof/Machine/Parts.lean ====
section
/-! DEFINITION. The units that State is made of: cells, arrays, stream engines, routers, links, Hutches, task
units, ports, domains, the dictionary server and the event log, each as plain data with its reset values. -/

namespace Sys2Proof.Machine

/-! ### Cells -/

/-- A result that has been issued and has not yet reached its place (R92, R93). -/
structure Flight where
  /-- output registers it enters, in dest order: bit 3 N, 2 S, 1 E, 0 W; 0 none -/
  mask : Nat := 0
  tok : Token := ⟨0, 0⟩
  /-- the previous-result register's new value and lane code (R83) -/
  prev : Option (Word × Nat) := none
  /-- an accumulator and its new value -/
  acc : Option (Nat × Half) := none
  /-- the accumulator write comes from a dot product, which a later one takes by forwarding (R47) -/
  dot : Bool := false
  /-- the result of a special-function request (R93) -/
  sfu : Bool := false
  /-- a scale register (true SCB) and its new value -/
  scale : Option (Bool × Word) := none
  deriving DecidableEq, Repr

/-- One cell (R41, R88). Directions are 0 N, 1 S, 2 E, 3 W (R82). -/
structure Cell where
  /-- operand buffer, 64 words (R41); unlisted words read 0 -/
  ob : List (Nat × Word) := []
  /-- instruction store, 32 words (R41); unlisted words read 0 -/
  prog : List (Nat × Word) := []
  progLen : Nat := 1
  idx : Nat := 0
  /-- firings of the current run already made (R86) -/
  run : Nat := 0
  lc0 : Nat := 0
  lc1 : Nat := 0
  lc0Reload : Nat := 0
  lc1Reload : Nat := 0
  acc : List (Nat × Half) := []
  queues : List (Nat × List Token) := []
  outs : List (Nat × Option Token) := []
  prev : Word := 0
  prevLane : Nat := 0
  sca : Word := 0x7F7F7F7F7F7F7F7F
  scb : Word := 0x7F7F7F7F7F7F7F7F
  ptrA : Nat := 0
  ptrB : Nat := 0
  /-- elements of the current 32-element block already consumed (R59) -/
  cntA : Nat := 0
  cntB : Nat := 0
  /-- the pointer wrapped with no load since (R59, STALE) -/
  wrapA : Bool := false
  wrapB : Bool := false
  /-- numeric status register (R72) -/
  nstat : BitVec 32 := 0
  /-- stochastic-rounding generator (R68) -/
  sr : BitVec 32 := 0
  /-- staging of a narrowing CVT: element codes (R112) -/
  stage : List Nat := []
  /-- group that a widening CVT or MXUNPK converts next (R112, R114) -/
  group : Nat := 0
  /-- bytes of the outgoing scale token (R66) -/
  scaleOut : List Nat := []
  /-- the previous MERGE took B (R107) -/
  mergedB : Bool := true
  parked : Bool := true
  /-- path bytes by input direction, Open in bit 6 (R127, R119) -/
  paths : List (Nat × Nat) := []
  /-- results in flight, oldest first (R92, R93) -/
  flight : List Flight := []
  /-- a special-function request that waits for service: function, input (R71, R93) -/
  sfu : Option (Nat × Half) := none
  deriving DecidableEq, Repr

/-! ### Arrays -/

/-- State of an array (R135). -/
inductive ArraySt where
  | empty | loading | opening | ready | run | drain | held
  deriving DecidableEq, Repr

/-- One end of a remote token channel (R133, R152 to R159). -/
structure ChanEnd where
  /-- the 128-bit channel record -/
  record : Nat := 0
  /-- GRANT received (send) or sent (receive) -/
  granted : Bool := false
  /-- CLOSE sent and CLOSED not yet received -/
  closing : Bool := false
  closed : Bool := false
  /-- tokens of credit held by the sender -/
  credit : Nat := 0
  /-- Seq of the next DATA packet sent, or expected -/
  seq : Nat := 0
  /-- tokens gathered for the next DATA packet (R156) -/
  gather : List Token := []
  /-- array cycles since the first token gathered (R156) -/
  age : Nat := 0
  /-- credits to return (R158) -/
  owed : Nat := 0
  /-- packets that arrived ahead of their turn: Seq and tokens (R157) -/
  early : List (Nat × List Token) := []
  /-- time counter of the last OPEN sent (R153) -/
  openAt : Nat := 0
  deriving DecidableEq, Repr

/-- A spill run (R148): what its marker says and its tokens in order. -/
structure SpillRun where
  /-- which of the 224 runs -/
  num : Nat
  where_ : Nat
  queue : Nat
  origin : Nat
  residue : Bool
  toks : List Token
  /-- a run of a spill round whose tokens a drain has left as residue: it is no longer open (R141, R145) -/
  kept : Bool := false
  deriving DecidableEq, Repr

/-- The fields of a stream descriptor (R199, R200). -/
structure Desc where
  src : Nat := 0
  dst : Nat := 0
  lineBytes : Nat := 0
  lines : Nat := 0
  srcPitch : Nat := 0
  dstPitch : Nat := 0
  srcStride : Nat := 0
  dstStride : Nat := 0
  tiles : Nat := 0
  op : Nat := 0
  depth : Nat := 0
  flags : Nat := 0
  barrierId : Nat := 0
  window : Nat := 0
  mcMode : Nat := 0
  mcEnd : Nat := 0
  redOp : Nat := 0
  next : Nat := 0
  engine : Nat := 0
  deriving DecidableEq, Repr

/-- A transfer an engine has open: its packets, who must answer, and what has been answered (R211, R215, R217). -/
structure Transfer where
  id : Nat
  /-- targets that send DONE, by `tKey`; empty for a read and for a write to a memory -/
  targets : List Nat := []
  done : List Nat := []
  /-- packets launched -/
  packets : Nat := 0
  /-- first address of a write to a memory, or of a read -/
  address : Nat := 0
  /-- a read: bytes wanted, and the 256 B units that have landed -/
  read : Option (Nat × List Nat) := none
  /-- position in the descriptor's byte stream of the first byte -/
  start : Nat := 0
  /-- time at which its final packet was launched -/
  launched : Nat := 0
  /-- a contribution to a reduction (R251) -/
  red : Bool := false
  deriving DecidableEq, Repr

/-- A credit request sent to one target: tag, target by `tKey`, units, time sent; `granted` once answered
(R211 to R214). -/
structure Credit where
  tag : Nat
  target : Nat
  units : Nat
  sentAt : Nat
  granted : Bool := false
  deriving DecidableEq, Repr

/-- Units that every target of one request has granted, and how many have been launched (R211, R212, R216). -/
structure Grant where
  tag : Nat
  units : Nat
  used : Nat := 0
  id : Nat
  start : Nat := 0
  deriving DecidableEq, Repr

/-- A stream engine (R198 to R206, R467). -/
structure Engine where
  /-- template that runs, or is to run next; none: idle -/
  tmpl : Option Nat := none
  /-- the descriptor has passed its setup checks and runs -/
  started : Bool := false
  /-- the running descriptor, its addresses rewritten under R292 -/
  desc : Desc := {}
  /-- bytes of the stream whose move has been issued -/
  issued : Nat := 0
  /-- words handed to ports (FEED) or taken from ports (COLLECT) -/
  words : Nat := 0
  /-- open barrier: the ports that have delivered (R205) -/
  barrier : Option (List Nat) := none
  /-- a complete barrier's arrival waits for the writes before it (R205) -/
  arrival : Bool := false
  /-- the open barrier was begun after the last word -/
  barrierLast : Bool := false
  /-- the barrier that BarrierAtEnd asks for has been sent or taken -/
  endDone : Bool := false
  /-- bytes fed to the check-value unit as they came from another space, and those that came ahead of their turn: position and
  bytes (R224) -/
  fed : Nat := 0
  unfed : List (Nat × List Byte) := []
  transfers : List Transfer := []
  credits : List Credit := []
  grants : List Grant := []
  /-- units asked for so far -/
  asked : Nat := 0
  nextTag : Nat := 0
  /-- the tag of the running descriptor's first credit request -/
  firstTag : Nat := 0
  deriving DecidableEq, Repr

/-- A receive window (R210). -/
structure Window where
  isOpen : Bool := false
  closing : Bool := false
  /-- first byte in the scratchpad -/
  base : Nat := 0
  units : Nat := 0
  /-- unit granted next, and granted and read so far -/
  wr : Nat := 0
  /-- units granted or landed and not yet freed -/
  used : Nat := 0
  /-- units landed and not yet read -/
  landed : List Nat := []
  rd : Nat := 0
  /-- of each such unit, who sent it (`senderKey`) and under which tag -/
  from_ : List (Nat × Nat × Nat) := []
  deriving DecidableEq, Repr

/-- A request at a credit manager (R213): who asks, for how many units of which window. -/
structure Crq where
  req : Packet
  window : Nat
  tag : Nat
  units : Nat
  /-- ring offset, once granted -/
  offset : Option Nat := none
  /-- units of the grant already written, and those of them already read and freed -/
  written : List Nat := []
  freed : List Nat := []
  /-- cancelled by its sender: units not written are free, and packets already launched still land (R211, R220) -/
  cancelled : Bool := false
  deriving DecidableEq, Repr

/-- A transfer that a receiver counts (R215, R248, R255). -/
structure RxCount where
  panel : Nat
  src : Nat
  sub : Nat
  id : Nat
  count : Nat
  fault : Bool := false
  deriving DecidableEq, Repr

/-- A task descriptor (R291). -/
structure TaskDesc where
  seq : Nat := 0
  kind : Nat := 0
  flags : Nat := 0
  array : Nat := 0
  fanout : Nat := 0
  imageId : Nat := 0
  die : Nat := 0xFFFF
  waitBarrier : Nat := 0
  waitCount : Nat := 0
  stride : Nat := 0
  base0 : Nat := 0
  base1 : Nat := 0
  base2 : Nat := 0
  completion : Nat := 0
  timeLimit : Nat := 0
  zeros : Bool := true
  deriving DecidableEq, Repr

/-- An instance of a descriptor, queued or running (R293 to R297). -/
structure Inst where
  desc : TaskDesc := {}
  inst : Nat := 0
  /-- the die whose task unit took the descriptor -/
  origin : Nat := 0
  list : Nat := 0
  /-- pushed instances are pinned (R295) -/
  pinned : Bool := false
  /-- when its holder took the descriptor, on the holder's own counter (R291, R383) -/
  takenAt : Nat := 0
  /-- this is the second copy of a checked instance (R439) -/
  copy : Bool := false
  /-- selected for checked mode, and the comparison digests known so far -/
  checked : Bool := false
  deriving DecidableEq, Repr

/-- What a completion record says of a fault (R220, R298, R299). -/
structure Cause where
  status : Nat
  detail : Nat := 0
  cell : Nat := 0
  idx : Nat := 0
  /-- engine and template, as the record's field has them -/
  engine : Nat := 0
  tile : Nat := 0
  address : Nat := 0
  deriving DecidableEq, Repr

/-- The task on an array (R298). -/
structure Active where
  inst : Inst := {}
  startAt : Nat := 0
  /-- counters of the array state record when the task began -/
  stale0 : Nat := 0
  discard0 : Nat := 0
  spills0 : Nat := 0
  susp0 : Nat := 0
  /-- the task has started: the array has reached READY and then RUN -/
  running : Bool := false
  /-- generator states saved by checked mode, by cell (R75) -/
  savedSr : List (Nat × BitVec 32) := []
  /-- CRC-64 comparison digest of each engine (R439) -/
  digests : List (Nat × Nat) := []
  /-- flags of reductions rooted here (R253), ORed into the completion record -/
  redFlags : Nat := 0
  /-- the first fault, which the completion record reports (R220, R298) -/
  fault : Option Cause := none
  /-- delivery bitmap of the completion record (R217) -/
  delivery : Nat := 0
  /-- array of the copy of a checked instance, or of its original (R439), and the other's digests once it has ended -/
  twin : Option Nat := none
  other : Option (List (Nat × Nat)) := none
  /-- non-finite gradients met by its UPDATEs (R275, R286) -/
  nonFinite : Nat := 0
  deriving DecidableEq, Repr

/-- Where a load stands (R137). -/
inductive LoadStep where
  | none
  /-- asked for by a task or by LoadArray -/
  | asked
  /-- step 1: the drain runs -/
  | draining
  /-- step 2: CLOSE sent, CLOSED awaited since the time given -/
  | closing (since : Nat)
  /-- step 3: the write runs -/
  | writing
  deriving DecidableEq, Repr

/-- An issue in the scratchpad's main-port pipeline (R166, R170). -/
structure Issue where
  write : Bool
  /-- requester: 0..3 engines, 4 windows, 5 dictionary, 6 other agents -/
  who : Nat
  words : List Nat
  deriving DecidableEq, Repr

/-- One logical array (R135 and the chapters on images, spill, channels, windows and engines). -/
structure Arr where
  /-- drained, or draining, because the job stops (R303) -/
  stopDrained : Bool := false
  imageId : Nat := 0
  graphId : Nat := 0
  epoch : Nat := 0
  st : ArraySt := .empty
  stale : Nat := 0
  discarded : Nat := 0
  spills : Nat := 0
  suspicions : Nat := 0
  lastStatus : Nat := 0
  /-- when its last task ended (R437) -/
  idleAt : Nat := 0
  /-- keep-denormal option of the loaded image (R58, R124) -/
  keepDenorm : Bool := false
  /-- edge-port table, 64-bit entries (R129) -/
  ports : List (Nat × Nat) := []
  /-- descriptor templates, as bytes (R132) -/
  templates : List (List Byte) := []
  chans : List (Nat × ChanEnd) := []
  cells : List (Nat × Cell) := []
  /-- issue stopped in every cell (R94, R142, R220) -/
  stopped : Bool := false
  task : Option Active := none
  /-- incoming buffers by port (R131) -/
  inBuf : List (Nat × List Token) := []
  /-- words an incoming window has read, by port (R130) -/
  inWin : List (Nat × Nat) := []
  /-- tokens an outgoing window has accepted, by port (R130) -/
  outWin : List (Nat × Nat) := []
  /-- words that an incoming window holds for its next tokens, and payloads that an outgoing window has gathered, by port
  (R169) -/
  inHold : List (Nat × List Nat) := []
  outHold : List (Nat × List Nat) := []
  pipe : List Issue := []
  engines : List (Nat × Engine) := []
  windows : List (Nat × Window) := []
  /-- requests at the credit manager, oldest first (R213) -/
  crqs : List Crq := []
  rx : List RxCount := []
  runs : List SpillRun := []
  /-- progress counter (R147) -/
  progress : Nat := 0
  /-- a cell has fired since the last spill round ended (R151) -/
  firedSince : Bool := true
  /-- in the present array cycle: a cell fired; a cell fired, a pass-through path or an edge port moved a token (R144,
  R147) -/
  fired : Bool := false
  moved : Bool := false
  /-- cycles of a drain without movement, and when the drain began (R144) -/
  still : Nat := 0
  drainAt : Nat := 0
  load : LoadStep := .none
  loadImage : Nat := 0
  loadForced : Bool := false
  /-- the load was asked for by a task (R137, R293) -/
  commitAt : Nat := 0
  /-- OPENs that wait for the array to leave EMPTY or LOADING (R154) -/
  heldOpens : List Packet := []
  /-- cell last served by each column's special-function unit (R71) -/
  sfuLast : List (Nat × Nat) := []
  /-- when a cell last fired, and since when the array has been issuing without 1 µs of rest (R396) -/
  issuedAt : Nat := 0
  slewAt : Option Nat := none
  /-- share of an issue cycle in hand, in 1/96,000, and whether the present cycle is gated (R396, R404, R407) -/
  share : Nat := 0
  gated : Bool := false
  deriving DecidableEq, Repr

/-! ### Dies: task unit, router, die store, clock -/

/-- State of a task unit's stealing (R297). -/
inductive StealSt where
  | idle
  | asking (victim : Nat) (round : Nat)
  | waiting (since wait : Nat)
  deriving DecidableEq, Repr

/-- A descriptor taken from a list and not yet acted on, and when it was taken (R290, R291). -/
structure Taken where
  list : Nat
  bytes : List Byte
  at_ : Nat
  deriving DecidableEq, Repr

/-- Instances of a descriptor that a task unit still counts (R295): list, number taken, outstanding. -/
structure Count where
  list : Nat
  seq : Nat
  left : Nat
  /-- BATCH: the batch record's address and first abort status -/
  batch : Option (Nat × Nat) := none
  /-- when the descriptor was taken, on the counter of the die (R291, R383) -/
  at_ : Nat := 0
  deriving DecidableEq, Repr

/-- A FENCE that waits (R295). -/
structure Fence where
  list : Nat
  desc : TaskDesc
  /-- the die that took it from its list, where another holds it (R295) -/
  pushedFrom : Option Nat := none
  deriving DecidableEq, Repr

/-- The task unit of a die (R290 to R298). -/
structure TaskUnit where
  /-- descriptors taken from lists and not yet acted on (R290) -/
  taken : List Taken := []
  /-- the list served last, for the round-robin order (R290) -/
  lastList : Option Nat := none
  queue : List Inst := []
  counts : List Count := []
  fences : List Fence := []
  rotation : Nat := 0
  hot : Bool := false
  hotAt : Nat := 0
  rotatedAt : Nat := 0
  steal : StealSt := .idle
  wait : Nat := 2000
  /-- TPUSH sent and PUSHACK not yet received: Seq and entry (R300) -/
  pushed : List Inst := []
  /-- completion counts as told by BDONE (R296) -/
  barriers : List (Nat × Nat) := []
  /-- the bay is being switched off: no slots, no stealing (R409) -/
  quiet : Bool := false
  deriving DecidableEq, Repr

/-- A packet that waits in an input buffer or output queue of a router (R235, R236). -/
structure Slot where
  /-- input port it came in on: 0 N, 1 S, 2 E, 3 W, 4 local, 5 external -/
  inPort : Nat
  pkt : Packet
  /-- channel and lane of the buffer it stands in (R235) -/
  vc : Nat
  lane : Nat
  /-- output chosen, on the same numbering; `none` until the header is routed -/
  out : Option Nat := none
  /-- the attach link that it came in on, as site·8 + code -/
  link : Option Nat := none
  deriving DecidableEq, Repr

/-- A reduction context of a router (R254). -/
structure RedCtx where
  panel : Nat
  root : Nat
  transfer : Nat
  upstream : List Packet := []
  local_ : List Packet := []
  deriving DecidableEq, Repr

/-- The router of a die (R235 to R257). -/
structure Router where
  slots : List Slot := []
  /-- route entries of the active and the inactive bank, by destination die (R241, R256) -/
  active : List (Nat × Nat) := []
  inactive : List (Nat × Nat) := []
  /-- round-robin pointers of an output: channel and input last served (R237) -/
  rrVc : List (Nat × Nat) := []
  rrIn : List (Nat × Nat) := []
  /-- packet slots free downstream, by output·12 + channel·2 + lane, as slots spent (R236) -/
  spent : List (Nat × Nat) := []
  stopped : Bool := false
  /-- the inactive bank is filled; the first of the two emptiness checks of step 3 has passed, at this time; QUIESCED
  reported; the banks switched (R257) -/
  filled : Bool := false
  checkedAt : Option Nat := none
  quiesced : Bool := false
  swapped : Bool := false
  reds : List RedCtx := []
  sr : BitVec 32 := 0
  /-- congestion bins by (port·6 + channel)·4 + bin: of the window last sampled, with its number (its start in 10 µs), and of the
  one sampled before it (R260) -/
  bins : List (Nat × Nat) := []
  window : Nat := 0
  closedBins : List (Nat × Nat) := []
  deriving DecidableEq, Repr

/-- A die's clock: offset from the root's counter and the last exchange with the parent (R379 to R381). -/
structure DieClock where
  running : Bool := false
  /-- offset from the root's counter, in 1/256 ns -/
  offset : Int := 0
  parent : Nat := 0xFFFF
  parentDir : Nat := 0
  depth : Nat := 0
  /-- last T1, T2, T3 in 1/256 ns -/
  t1 : Int := 0
  t2 : Int := 0
  t3 : Int := 0
  /-- time at which the parent took this die's last TECHO -/
  prevT4 : Int := 0
  /-- link delays of the last 16 waves (R381) -/
  delays : List Int := []
  rate : Int := 0
  rateNew : Int := 0
  rateAt : Nat := 0
  /-- root time since which the rate has differed from the root's (R379) -/
  rateFrom : Nat := 0
  stepAt : Nat := 0
  stepBy : Nat := 0
  holdover : Bool := false
  /-- correction still to be slewed, in 1/256 ns, and since when (R381) -/
  slew : Int := 0
  slewAt : Nat := 0
  /-- largest correction in the last second, 1/16 ns (0x9000.0D), and since when -/
  worst : Nat := 0
  worstAt : Nat := 0
  deriving DecidableEq, Repr

/-- One line of a die-store cache: DRAM line address and its 128 bytes (R179). -/
structure CacheLine where
  addr : Nat
  bytes : List Byte
  deriving DecidableEq, Repr

/-- A logical die (R174 to R180, R241, R290, R379). -/
structure Die where
  tu : TaskUnit := {}
  router : Router := {}
  clock : DieClock := {}
  cache : List CacheLine := []
  /-- accesses the cache has served, for the replacement order -/
  cacheUse : Nat := 0
  /-- prefetch hints not yet read (R179) -/
  hints : List Nat := []
  /-- writes to the die store that are being counted (R215) -/
  rx : List RxCount := []
  deriving DecidableEq, Repr

/-- A clock region (R367 to R371, R437). -/
structure Region where
  /-- guard code above the region's floor -/
  g : Nat := 0
  margin : Nat := 15
  /-- cap that margin checks leave (R437), and when a step of it was last given back -/
  capMHz : Nat := 1050
  restoredAt : Nat := 0
  /-- cycles in the last 1 µs, which are MHz -/
  mhz : Nat := 900
  /-- guard steps the limiter adds for the next 1 µs (R369) -/
  extra : Nat := 0
  slowSince : Option Nat := none
  /-- the ERROR event of this slow spell has been raised -/
  slowTold : Bool := false
  /-- since when the margin code has stayed at 8 or more (R371) -/
  goodSince : Option Nat := none
  /-- sum of the 1 µs windows of the present ClockWindowMs and their number, and the last window's mean (R373) -/
  sum : Nat := 0
  count : Nat := 0
  mean : Nat := 900
  deriving DecidableEq, Repr

/-- What the junction throttle has done to an array die or a Hutch quadrant (R404). -/
structure Throttle where
  /-- cap of its regions, and its arrays' issue duty in eighths -/
  capMHz : Nat := 1050
  duty : Nat := 8
  /-- the throttle condition holds -/
  hot : Bool := false
  /-- since when the die has been at 500 MHz and 95 °C or more -/
  hotAt : Option Nat := none
  liftedAt : Nat := 0
  deriving DecidableEq, Repr

/-- One direction of a die-to-die link (R227 to R230), by site number·8 + link code, ·2 + direction. -/
structure Link where
  failed : Bool := false
  /-- Seq of the next frame sent, and of the last frame received in order -/
  sendSeq : Nat := 0
  lastGood : Nat := 63
  /-- the receiver discards until the replay, and its Nak has still to go out (R229) -/
  waits : Bool := false
  nak : Bool := false
  /-- flits received of a packet that is not yet whole (R232) -/
  part : List Byte := []
  /-- the sender's last 32 frames, and those of them to be sent again (R229) -/
  sent : List LinkFrame := []
  resend : List LinkFrame := []
  /-- a Nak has come in; replays since the last good frame, and all of them (R229, R230) -/
  asked : Bool := false
  tries : Nat := 0
  replays : Nat := 0
  /-- slots freed behind the opposite direction, as channel and lane: credit for this direction's frames to return (R236) -/
  owed : List (Nat × Nat) := []
  /-- of the direction out of an external die: slots of the router's input that it has spent, by channel·2 + lane (R236) -/
  spent : List (Nat × Nat) := []
  /-- replays in the second that began then (0x4000.0A) -/
  secondAt : Nat := 0
  inSecond : Nat := 0
  deriving DecidableEq, Repr

/-! ### Hutches, weight sets, adapters, tracker -/

/-- A weight-stream request (R273, R285): its fields, the units already launched, and the round of credit in hand. -/
structure WStream where
  req : Packet
  address : Nat
  bytes : Nat
  shelfMask : Nat
  window : Nat
  k : Nat
  rangeEnd : Nat
  /-- units of 256 B launched so far -/
  sent : Nat := 0
  /-- tag, units and time of the present round of credit requests; units 0: none -/
  tag : Nat := 0
  units : Nat := 0
  askedAt : Nat := 0
  /-- targets that have granted, by `tKey` -/
  grants : List Nat := []
  /-- the round's packets are launched, since when, and the targets that have answered DONE -/
  launched : Bool := false
  launchedAt : Nat := 0
  done : List Nat := []
  /-- UPDATE requests that wait at the Hutch and came before it (R277) -/
  after : List Packet := []
  deriving DecidableEq, Repr

/-- A decryption chunk that waits for an engine: a manifest entry (R266, R267, R269). -/
structure Chunk where
  set : Nat
  generation : Nat
  keyId : Nat
  dest : Nat
  length : Nat
  chunk : Nat
  tag : List Byte
  /-- place in the manifest -/
  entry : Nat
  /-- what is awaited before decryption (R269): panel, for its CHUNKDONE; 4,096 + panel, for the DONE of its data -/
  peers : List Nat := []
  /-- sent to the peers, and when -/
  sent : Bool := false
  sentAt : Nat := 0
  /-- received from another panel -/
  remote : Bool := false
  deriving DecidableEq, Repr

/-- A reservation of Hutch scratch (R182): feature (1 tracker table, 2 adapter slot table, 3 adapter data,
4 decryption staging), who, offset and bytes. -/
structure Reserve where
  feature : Nat
  who : Nat
  offset : Nat
  bytes : Nat
  deriving DecidableEq, Repr

/-- One Hutch (R181 to R195, R267, R273, R276). -/
structure Hutch where
  /-- cache size in force, MiB (R182) -/
  cacheMiB : Nat := 1024
  /-- inline ECC in force (R189) -/
  ecc : Bool := false
  /-- state codes of the eight stacks (R39) -/
  stackStates : List (Nat × Nat) := []
  reserves : List Reserve := []
  /-- lines held by the memory-side cache: offset and dirty (R183) -/
  lines : List (Nat × Bool) := []
  uses : Nat := 0
  poison : List Nat := []
  overflow : List Nat := []
  /-- the overflow list overflowed: poison-full until restart (R195) -/
  stuck : Bool := false
  wrun : List WStream := []
  wqueue : List WStream := []
  /-- UPDATE requests that have arrived and wait for streams before them, oldest first (R273, R277) -/
  updWait : List Packet := []
  /-- the next request tag of its engines -/
  nextTag : Nat := 0
  chunks : List Chunk := []
  /-- stochastic-rounding generators of the quadrants (R276) -/
  sr : List (Nat × BitVec 32) := []
  /-- DRAM command rate halved for heat (R405), limited for power (R398) -/
  halfRate : Bool := false
  powerLimited : Bool := false
  rx : List RxCount := []
  deriving DecidableEq, Repr

/-- A layer record (R263). -/
structure Layer where
  format : Nat
  hutch : Nat
  flags : Nat
  elements : Nat
  master : Nat
  moment1 : Nat
  moment2 : Nat
  working : List Nat
  deriving DecidableEq, Repr

/-- State of a weight set (R262). -/
inductive SetSt where
  | free | defined | ready | training
  deriving DecidableEq, Repr

/-- State of a generation (R270). -/
inductive GenSt where
  | free | building | live | current | retiring
  deriving DecidableEq, Repr

/-- A generation record (R270). -/
structure Gen where
  number : Nat := 0
  st : GenSt := .free
  pins : Nat := 0
  created : Nat := 0
  /-- an Ingest for it runs; a chunk of it failed (R270) -/
  ingesting : Bool := false
  chunkFailed : Bool := false
  deriving DecidableEq, Repr

/-- The progress of an Ingest (R266, R267). -/
structure Ingest where
  generation : Nat
  entries : Nat
  done : Nat := 0
  failed : Nat := 0
  firstFailed : Nat := 0
  status : Nat := 0
  /-- chunk ranges not yet begun: address and length (R268) -/
  waiting : List (Nat × Nat) := []
  running : Bool := true
  deriving DecidableEq, Repr

/-- A weight set (R262 to R272). -/
structure WSet where
  st : SetSt := .free
  setId : Nat := 0
  layers : List Layer := []
  gens : List (Nat × Gen) := []
  nextNumber : Nat := 1
  /-- weight key: KeyId and key (R265) -/
  key : Option (Nat × List Byte) := none
  ingest : Option Ingest := none
  /-- chunk ranges that an Ingest has begun: address and length (R268) -/
  begun : List (Nat × Nat) := []
  /-- the protected ranges are being zeroed (R268) -/
  zeroing : Bool := false
  /-- generation of the batch formed last (R282) -/
  lastGen : Nat := 0
  deriving DecidableEq, Repr

/-- An adapter slot (R278). -/
structure Adapter where
  st : Nat := 0
  set : Nat := 0
  rank : Nat := 0
  baseGen : Nat := 0
  layerCount : Nat := 0
  pins : Nat := 0
  scale : Nat := 0
  table : Nat := 0
  scratch : Nat := 0
  deriving DecidableEq, Repr

/-- A stream entry's state (R280). -/
inductive StreamSt where
  | free | waiting | ready | running | done | error
  deriving DecidableEq, Repr

/-- A stream entry (R280). -/
structure Stream where
  st : StreamSt := .free
  priority : Nat := 0
  set : Nat := 0
  flags : Nat := 0
  generation : Nat := 0
  error : Nat := 0
  adapter : Nat := 0
  stepTokens : Nat := 0
  seqPos : Nat := 0
  seqLimit : Nat := 0
  handle : Nat := 0
  kvList : Nat := 0
  deadline : Nat := 0
  admitted : Nat := 0
  ioArea : Nat := 0
  lastBatch : Nat := 0
  /-- pins held (R281): the generation's slot, and the adapter -/
  genSlot : Nat := 0
  pinned : Bool := false
  /-- a RETIRE that waits for the batch (R281) -/
  retiring : Bool := false
  /-- order of admission, among streams admitted at one time -/
  order : Nat := 0
  deriving DecidableEq, Repr

/-- A batch in flight (R282, R283). -/
structure Batch where
  id : Nat
  set : Nat
  slot : Nat
  generation : Nat
  results : Nat
  streams : List Nat
  deriving DecidableEq, Repr

/-! ### Lists, registry, job -/

/-- A task list (R287, R288). -/
structure TList where
  holder : Nat
  slots : Nat
  ring : Nat
  status : Nat
  taken : Nat := 0
  deriving DecidableEq, Repr

/-- An entry of the image registry (R135). -/
structure Image where
  id : Nat
  graph : Nat
  address : Nat
  length : Nat
  epoch : Nat
  templates : Nat
  channels : Nat
  loads : Nat := 0
  deriving DecidableEq, Repr

/-- State of the job (R301 to R305). -/
inductive JobSt where
  | idle | configured | running | stopping | killing | retained | scrubbing
  deriving DecidableEq, Repr

/-- The job (R301 to R306). -/
structure Job where
  st : JobSt := .idle
  /-- a Configure that waits for the scrub (R305) -/
  configWaits : Bool := false
  /-- a Start that waits for the scrub or the recomputation (R35, R302) -/
  startWaits : Bool := false
  stopAt : Nat := 0
  /-- the drains of a stop have begun (R303) -/
  drains : Bool := false
  /-- when the kill began (R304) -/
  killAt : Nat := 0
  /-- the last job ended retained, and its scrub is still to come (R302, R305) -/
  retained : Bool := false
  /-- barriers: expected values and arrivals and completions by ID (R296) -/
  arrivals : List (Nat × Nat) := []
  completions : List (Nat × Nat) := []
  /-- waiting for the twin's MRACK (R334) -/
  mirrorWaits : Bool := false
  firstAbort : List Byte := []
  notRun : Nat := 0
  /-- modes applied at Start: scratch slices, adaptive, checked rate -/
  slices : Nat := 0
  adaptive : Bool := true
  checkedRate : Nat := 0
  /-- number of Starts (R440: the run) -/
  runNo : Nat := 0
  deriving DecidableEq, Repr

/-! ### Site map and defects -/

/-- A defect record (R40). -/
structure Defect where
  kind : Nat
  source : Nat
  site : Nat
  sub : Nat
  wire : Nat := 0
  temp : Nat := 0x80
  supply : Nat := 0
  pattern : Nat := 0
  count : Nat := 1
  time : Nat := 0
  deriving DecidableEq, Repr

/-- The marks of a physical array (R440). -/
structure Mark where
  suspect : Bool := false
  retire : Bool := false
  failures : Nat := 0
  pattern : Nat := 0
  /-- source of the first failure, and the run of the last one counted -/
  source : Nat := 0
  lastRun : Option Nat := none
  clean : Nat := 0
  /-- junction temperature and supply at the first failure, and its time (R436, R465) -/
  temp : Nat := 0x80
  supply : Nat := 0
  time : Nat := 0
  deriving DecidableEq, Repr

/-- Fuses (R2, R429, R430): nothing clears one. -/
structure Fuses where
  /-- 0 VW-P384-4T, 1 VW-P320-4T, 2 VW-P384-2T, 3 VW-P384-4T-O (R1) -/
  variant : Nat := 0
  sites : List Nat := []
  /-- fused arrays as site·20 + a -/
  arrays : List Nat := []
  /-- fused links as site·8 + code -/
  links : List Nat := []
  ports : List Nat := []
  /-- anti-rollback count (R430) -/
  securityVersion : Nat := 0
  deriving DecidableEq, Repr

/-- The site map in force (R21 to R23, R33, R39). -/
structure SiteMap where
  /-- site number of each logical die; absent when unlisted -/
  logical : List (Nat × Nat) := []
  /-- state code of each site, physical array and link that is not "enabled" -/
  siteState : List (Nat × Nat) := []
  arrayState : List (Nat × Nat) := []
  linkState : List (Nat × Nat) := []
  /-- logical index of a physical array, by site·20 + a -/
  logicalArray : List (Nat × Nat) := []
  computed : Bool := false
  /-- a recomputation runs (R35, R37) -/
  recomputing : Bool := false
  deriving DecidableEq, Repr

/-- What the qualification of a link has found (R32, R425, R427): link and stitch spares used, PRBS errors before repair,
errors in the stitch segment, the worst eye in 1/64 UI and mV, temperature, and when. -/
structure LinkResult where
  spares : Nat
  stitch : Nat
  errors : Nat
  stitchErrors : Nat
  eyeUi : Nat
  eyeMv : Nat
  temp : Nat
  ms : Nat
  deriving DecidableEq, Repr

/-! ### Edge ports, Hinge, fleet -/

/-- State of an edge port (0x4800+k.01). -/
inductive PortSt where
  | down | training | up | half | miswired | unqualified | failed | fused | defective | testing
  deriving DecidableEq, Repr

/-- An edge port (R308 to R322). -/
structure Port where
  st : PortSt := .down
  role : Nat := 0
  peerPanel : Nat := 0
  peerPort : Nat := 0
  lanes : Nat := 0
  /-- at half width, the half in use is lanes 8 to 15 (R309) -/
  high : Bool := false
  sendSeq : Nat := 0
  lastGood : Nat := 0
  nak : Bool := false
  /-- a frame was discarded, and every later one is until the one that is due arrives (R311) -/
  waits : Bool := false
  /-- bytes of a packet whose last flits are still to come (R232) -/
  part : List Byte := []
  /-- the peer's Nak has asked for a replay -/
  asked : Bool := false
  /-- ingress slots freed and not yet returned: channel and class (R315) -/
  owed : List (Nat × Nat) := []
  /-- Stamp of the last frame received, and when it came (R310) -/
  lastStamp : Nat := 0
  lastStampAt : Nat := 0
  /-- non-idle frames sent and not acknowledged (R311) -/
  sent : List EdgeFrame := []
  /-- the frame sent last, and the frames of the last replay; frames since one without credits (R311, R312) -/
  last : Option EdgeFrame := none
  resend : List EdgeFrame := []
  sinceBlank : Nat := 0
  badReplays : Nat := 0
  /-- packets held in the egress buffer, transit and local (R317) -/
  egress : List Packet := []
  /-- egress credits granted to holders: holder·8 + channel ↦ credits (R317) -/
  egGranted : List (Nat × Nat) := []
  /-- ingress slots the peer has told free: channel·2 + class ↦ spent (R315) -/
  spent : List (Nat × Nat) := []
  /-- requests for egress credit that wait: holder, channel, wanted -/
  waiting : List (Nat × Nat × Nat) := []
  retryAt : Nat := 0
  wait : Nat := 100000000
  upAt : Nat := 0
  testUntil : Nat := 0
  /-- what its last bring-up found (R427, R428): lanes passed, bit errors, worst codeword's symbols, symbol error rate -/
  passed : Nat := 0
  bitErrors : Nat := 0
  worst : Nat := 0
  rate : Nat := 0
  /-- state to which a pattern test returns the port -/
  before : PortSt := .down
  deriving DecidableEq, Repr

/-- A packet that arrived on an edge port and has not entered a router: the port, the class of the slot it holds there, none
where the slot's credit has become void, and the packet (R246, R315, R316). -/
structure Arrival where
  port : Nat
  cls : Option Nat
  pkt : Packet
  deriving DecidableEq, Repr

/-- Egress credits a source holds (R317): holder, port, channel, credits, time of last use. -/
structure Egress where
  holder : Nat
  port : Nat
  vc : Nat
  credits : Nat
  usedAt : Nat
  deriving DecidableEq, Repr

/-- The Hinge and the mirror engine (R331 to R336). -/
structure Hinge where
  st : Nat := 0
  twin : Nat := 0
  /-- Attach written here; HATTACH received from the twin -/
  attachWritten : Bool := false
  attachSeen : Bool := false
  twinTags : List Nat := []
  lastBeat : Nat := 0
  beats : Nat := 0
  /-- when the last heartbeat was sent; heartbeats that wait for egress credit, by port (R317, R332) -/
  beatAt : Nat := 0
  beatWaits : List (Nat × Packet) := []
  /-- region whose range an MRANGES of the twin named outside AcceptRanges, until the last MRANGES (R334) -/
  badRegion : Option Nat := none
  /-- the copy that runs: step and half (R335); MCOMMIT sent -/
  copying : Option (Nat × Nat) := none
  committed : Bool := false
  /-- AWR transfers of the copy still open -/
  copyLeft : Nat := 0
  copyAt : Nat := 0
  /-- a completion held until MACK: barrier ID; further completions of it that wait behind (R336) -/
  heldStep : Option Nat := none
  heldNext : Nat := 0
  twinCopy : Option (Nat × Nat) := none
  deriving DecidableEq, Repr

/-- A global barrier at its master (R338, R339): arrivals as panel, time, PPS locked. -/
structure Global where
  id : Nat
  arrivals : List (Nat × Nat × Bool) := []
  completions : Nat := 0
  deriving DecidableEq, Repr

/-- A participant's lateness history (R339). -/
structure Late where
  panel : Nat
  history : BitVec 64 := 0
  deriving DecidableEq, Repr

/-! ### Power, heat, air -/

/-- State of a power domain (0x6000+d.02). -/
inductive DomSt where
  | off | ramping | on | switchingOff | offHeat | supplyFault | trip
  deriving DecidableEq, Repr

/-- What the last answer of a rail's regulator said (R394): setpoint and measured mV, mA, temperature in 1/16 °C,
STATUS_WORD, and when it last answered. -/
structure Rail where
  setMv : Nat := 0
  mV : Nat := 0
  mA : Nat := 0
  temp : Int := 0
  status : Nat := 0
  lastAt : Nat := 0
  /-- the WARN event for 1 s without an answer has been raised -/
  silent : Bool := false
  deriving DecidableEq, Repr

/-- A power domain (R387 to R398, R409). -/
structure Domain where
  st : DomSt := .off
  /-- PWR_EN released (R389) -/
  enabled : Bool := false
  pg : Bool := false
  rampAt : Nat := 0
  /-- when PG last asserted, and the end of the minimum off time (R391, R392) -/
  pgAt : Nat := 0
  mayEnableAt : Nat := 0
  /-- an Enable waits for another compute domain's ramp (R392) -/
  enableWaits : Bool := false
  /-- the domain has gone off by a supply fault and not been enabled since (R393) -/
  faulted : Bool := false
  /-- times of Enable commands after supply faults (R393) -/
  faultEnables : List Nat := []
  /-- step of a switch-off that runs (R409), whether it is for heat, and when the grace began -/
  step : Nat := 0
  forHeat : Bool := false
  stepAt : Nat := 0
  /-- measured power of the last polls, 10 ms apart, mW, newest first, at most 100 -/
  powers : List Nat := []
  /-- the bay's last current estimate, mA, and whether the guard gates issue (R396) -/
  current : Nat := 0
  gated : Bool := false
  /-- frequency cap that the power cap loop holds the bay's regions to (R398) -/
  capMHz : Nat := 1050
  /-- what the tests of the bay will find once PG asserts (R411) -/
  bringUp : Option BayTest := none
  /-- the bay has passed its tests and waits for its tables and its places in the tree (R411 step 3) -/
  joining : Bool := false
  /-- number of the guard's last sample (R396) -/
  sample : Nat := 0
  rails : List (Nat × Rail) := []
  deriving DecidableEq, Repr

/-- A temperature sensor (R399 to R402). -/
structure Sensor where
  /-- reading in 1/16 °C (stack dies: whole °C); `none` unread -/
  reading : Option Int := none
  disagree : Bool := false
  suspect : Bool := false
  /-- when the present disagreement began, the reading then, and whether it has read lowest throughout -/
  since : Nat := 0
  first : Int := 0
  lowest : Bool := false
  /-- of its group: readings of the last second with their times, newest first; whether they span a second; and the least-squares
  slope over it, 1/16 °C per second (R407) -/
  history : List (Nat × Int) := []
  spanned : Bool := false
  slope : Int := 0
  /-- of its group: the warning and the firmware limit have been met and have not ended; no sensor is left -/
  warned : Bool := false
  limited : Bool := false
  empty : Bool := false
  deriving DecidableEq, Repr

/-- Cooling policy state (R406 to R408). -/
structure Cooling where
  /-- 0 normal, 1 slow loss, 2 sudden stop, 3 recovering, 4 shut down -/
  st : Nat := 0
  /-- cooling cap, W -/
  capW : Nat := 12800
  /-- values of R_est kept, in µK/W, newest first, at most 60 -/
  rest : List Int := []
  /-- hottest stack reading and panel power of the last 5 minutes, newest first, for the memory trend -/
  trend : List (Int × Nat) := []
  changedAt : Nat := 0
  /-- since when every slope has stayed below 0.5 °C/s -/
  calmSince : Nat := 0
  /-- since when the mean has stayed below AirWarnKPerW -/
  goodSince : Option Nat := none
  raisedAt : Nat := 0
  /-- cap and issue duty of every region, as a sudden stop leaves them (R407), and when a step was last lifted -/
  capMHz : Nat := 1050
  duty : Nat := 8
  liftedAt : Nat := 0
  deriving DecidableEq, Repr

/-! ### Start-up, Sideboards, security -/

/-- A journal record (R420). -/
structure JRec where
  step : Nat
  path : Nat
  outcome : Nat
  startMs : Nat
  durationMs : Nat
  status : Nat
  deriving DecidableEq, Repr

/-- A firmware slot (R429, R430). -/
structure FwSlot where
  version : Nat := 0
  security : Nat := 0
  /-- 0 empty, 1 valid, 2 refused, 3 staged -/
  st : Nat := 0
  image : List Byte := []
  deriving DecidableEq, Repr

/-- The Sideboards and start-up (R412 to R423, R429 to R433). -/
structure Boot where
  /-- 0 running, 1 complete, 2 service state -/
  st : Nat := 0
  /-- steps of the sequence done -/
  done : Nat := 0
  /-- leading Sideboard: 0 A, 1 B, 2 neither -/
  lead : Nat := 0
  standby : Bool := false
  /-- Sideboard B has passed its ROM self-test (R414) -/
  boardB : Bool := false
  beatAt : Nat := 0
  /-- journal marks by step (R421), and the steps whose marks ClearMark clears at the next start -/
  marks : List (Nat × Nat) := []
  clearMark : List Nat := []
  /-- step of the root bay whose failed alternate has brought the service state (R419) -/
  service : Option Nat := none
  /-- journal runs, newest first -/
  runs : List (List JRec) := []
  starts : Nat := 0
  /-- bays, Hutches and ports that have failed or were skipped (0x1100.06) -/
  failedBays : List Nat := []
  failedHutches : List Nat := []
  failedPorts : List Nat := []
  /-- bays whose start-up or Enable has brought them up, Hutches whose stacks are trained -/
  readyBays : List Nat := []
  trained : List Nat := []
  hostReady : Bool := false
  /-- firmware slots: 0 and 1 of flash A, 2 and 3 of flash B, by number; the factory's image is in slot 0 (assumption 11) -/
  slots : List (Nat × FwSlot) := [(0, { version := 1, st := 1 }), (2, { version := 1, st := 1 })]
  activeSlot : Nat := 0
  nextSlot : Nat := 0
  runningSlot : Option Nat := none
  /-- a FirmwareWrite under way: bytes so far, and when the last segment came -/
  writing : Option (Nat × Nat) := none
  keys : List (Nat × List Byte) := []
  /-- the report before the last attestation, the last attestation's, and until when that attestation runs (R433) -/
  report : List Byte := []
  attested : List Byte := []
  attestUntil : Nat := 0
  /-- the fused count that the command at work burns as it ends (R430) -/
  burn : Option Nat := none
  /-- PLCA node ID as sampled at release (R460) -/
  nodeId : Nat := 0
  /-- ms from the deassertion of PANEL_RST_N when the counter stood at `zeroAt` ns (R420) -/
  bootMs : Nat := 0
  zeroAt : Nat := 0
  /-- the longest that a port edge of step 6 has taken, ms: the four come up together (R417) -/
  edgeMs : Nat := 0
  /-- ms from reset at which the links of a bay were qualified (R427) -/
  qualified : List (Nat × Nat) := []
  deriving DecidableEq, Repr

/-- A die's place in the clock tree as the tree object shows it (R375, R386). -/
structure TreePlace where
  parent : Nat
  depth : Nat
  dir : Nat
  deriving DecidableEq, Repr

/-- The clock root and PPS (R376, R384, R385). -/
structure Root where
  /-- 0 Sideboard A, 1 host die, 0xFF none -/
  who : Nat := 0
  running : Bool := false
  lost : Bool := false
  refclk : Nat := 0
  pps : Nat := 0
  goodEdges : Nat := 0
  badEdges : Nat := 0
  lastEdge : Nat := 0
  rate : Int := 0
  rateNew : Int := 0
  rateAt : Nat := 0
  stepAt : Nat := 0
  stepBy : Nat := 0
  /-- a step waits for the job's end (R385) -/
  stepWaits : Nat := 0
  /-- the correction of REFCLK that state 3 of the PPS slews around (R384) -/
  refRate : Int := 0
  lastWave : Nat := 0
  /-- the tree as 0x9000.0B and .0C show it: a die that moves is shown once all have moved (R386 step 4) -/
  shown : List (Nat × TreePlace) := []
  deriving DecidableEq, Repr

/-! ### Dictionary server, CXL, event log -/

/-- A session (R364, R365). -/
structure Session where
  id : Nat
  path : Path
  keySlot : Nat
  key : List Byte
  counterIn : Nat := 0
  counterOut : Nat := 0
  lastAt : Nat
  /-- last 16 responses by Tag (R363) -/
  answers : List (Nat × List Byte) := []
  deriving DecidableEq, Repr

/-- A snapshot or a staged write (R355). -/
structure Held where
  path : Path
  index : Nat
  sub : Nat
  bytes : List Byte
  at_ : Nat
  deriving DecidableEq, Repr

/-- A window channel: its page with header, Go word, Done word and message code, and its data buffer (R349, R358). -/
structure Channel where
  go : Nat := 0
  done : Nat := 0
  /-- the request that Go began -/
  request : Option Request := none
  header : List Byte := []
  code : List Byte := []
  data : List Byte := []
  deriving DecidableEq, Repr

/-- The CXL device (R340 to R343, R349, R350). -/
structure Cxl where
  perst : Bool := true
  /-- 0 down, 1 PCIe only, 2 CXL; lanes and GT/s (0x1200.0C to .0E) -/
  st : Nat := 0
  width : Nat := 0
  rate : Nat := 0
  /-- HDM decoders: DPA base and size, committed (R343) -/
  decoders : List (Nat × (Nat × Nat × Bool)) := []
  /-- MSI-X pending bits and time of the last message, by vector (R350) -/
  pending : List (Nat × Bool) := []
  sentAt : List (Nat × Nat) := []
  /-- messages sent, newest first: vector and time -/
  msix : List (Nat × Nat) := []
  channels : List (Nat × Channel) := []
  /-- the primary mailbox's last return code and output payload (R340, R349) -/
  mailCode : Nat := 0
  mailbox : List Byte := []
  /-- the last datum returned to the host: bytes, poisoned -/
  readData : List Byte := []
  readPoison : Bool := false
  /-- the MSI-X table, 16 entries of 16 B (R349) -/
  table : List Byte := []
  /-- when configuration requests are answered without retry status (R342); Memory_Active reported (R341) -/
  configAt : Nat := 0
  memActive : Bool := false
  deriving DecidableEq, Repr

/-- An event record (R444). -/
structure Event where
  time : Nat
  seq : Nat
  cls : Nat
  flags : Nat
  code : Nat
  kind : Nat
  number : Nat
  repeats : Nat
  detail : Nat
  /-- protected under R446 -/
  kept : Bool := false
  deriving DecidableEq, Repr

/-- The event log and alarm pins (R444 to R448). -/
structure Log where
  ring : List Event := []
  counts : List (Nat × Nat) := []
  drops : List (Nat × Nat) := []
  nextSeq : Nat := 1
  incident : Bool := false
  head : Nat := 0
  tail : Nat := 0
  openedAt : Nat := 0
  lastBad : Nat := 0
  /-- records of the incident so far -/
  headCount : Nat := 0
  overflow : List Event := []
  /-- corrected errors of a unit in the hour of the time counter that runs: source ↦ hour and count (R435) -/
  hours : List (Nat × Nat × Nat) := []
  alerts : Nat := 0
  /-- first-failure record: written to flash, kept across reset (R447) -/
  firstFailure : List Event := []
  firstFailed : Bool := false
  /-- the registers it keeps (R447), as bytes -/
  firstRegs : List Byte := []
  deriving DecidableEq, Repr

/-- The fabric manager (R256 to R260). -/
structure Fmgr where
  /-- 0 running, 1 writing, 2 stopped or draining, 3 swapping -/
  st : Nat := 0
  acked : List Nat := []
  stopped : List Nat := []
  quiesced : List Nat := []
  swapped : List Nat := []
  stopAt : Nat := 0
  /-- a change asked for while one runs -/
  again : Bool := false
  /-- sites of logical dies that the mesh-port steering of the active banks follows, and of those that have swapped (R23,
  R256) -/
  steer : List (Nat × Nat) := []
  next : List (Nat × Nat) := []
  deriving DecidableEq, Repr

/-- A check-value unit (R221 to R223). -/
structure Check where
  poly : Nat := 0
  running : Nat := 0xFFFFFFFF
  bytes : Nat := 0
  active : Bool := false
  deriving DecidableEq, Repr

end Sys2Proof.Machine
end

