-- ==== Sys2Proof/Machine/State.lean ====
section
/-! DEFINITION. The state of the panel: every register, queue, buffer, store and mark the spec gives it, as plain
data, with the waiting commands; the reasons a step can stop; and the panel right after reset. -/

namespace Sys2Proof.Machine

/-- The answer of the last dictionary access (R357, R359): status code with its detail, the Other field, the data; and, on a
session, the response's Counter and message code (R365). -/
structure Reply where
  status : Nat := 0
  detail : Nat := 0
  other : Nat := 0
  data : List Byte := []
  counter : Nat := 0
  code : List Byte := []
  /-- the session that the header names, where it is not the request's; data of the value is left beyond this response -/
  session : Nat := 0
  more : Bool := false
  /-- the messages sent on the management network, each with its header, data and code (R357, R363) -/
  messages : List (List Byte) := []
  deriving DecidableEq, Repr

/-- Everything of the panel but its fuses, the bytes of its stores and the waiting commands. -/
structure Panel where
  /-- the model's own: how many free values have been drawn (assumption 5) -/
  free : Nat := 0
  /-- the clock root's time counter, in 2⁻³² ns (R379) -/
  clock : Nat := 0
  /-- dictionary scalars that differ from their defaults, by 256·index + subindex (R351, R352) -/
  regs : List (Nat × Nat) := []
  /-- values of RWS scalars in flash (R352) -/
  flash : List (Nat × Nat) := []
  /-- values in force of scalars that apply only at a start-up or a job start, where they differ from the default -/
  inForce : List (Nat × Nat) := []
  /-- dictionary BLOBs that are held as bytes, and those in flash (R351, R352) -/
  blobs : List (Nat × List Byte) := []
  flashBlobs : List (Nat × List Byte) := []
  /-- the last access's answer (R357) -/
  reply : Reply := {}
  sessions : List Session := []
  nextSession : Nat := 1
  /-- first segment of a HELLO, by path (R364) -/
  hellos : List Held := []
  snapshots : List Held := []
  staging : List Held := []
  /-- multicast reads whose answers are due, oldest first (R362) -/
  discovery : List (Nat × Request) := []
  /-- words that hold an uncorrectable error, by global address (R194) -/
  badWords : List Nat := []
  /-- ranges of the stores whose contents are lost or undefined: first address, bytes, number of the loss (R182, R185, R220) -/
  lost : List (Nat × Nat × Nat) := []
  /-- the site map in force and the defect map (R21 to R40) -/
  siteMap : SiteMap := {}
  defects : List Defect := []
  /-- records marked for removal at the next start-up (R39), and records that wait for room (R40) -/
  defectMarks : List Nat := []
  heldDefects : List Defect := []
  /-- results of link qualification by site·8 + link code (R427) -/
  linkResults : List (Nat × LinkResult) := []
  /-- marks of physical arrays by site·20 + a (R440) -/
  marks : List (Nat × Mark) := []
  /-- logical arrays by record number k + 16·d (R135) -/
  arrays : List (Nat × Arr) := []
  /-- logical dies by d = c + r·LogicalColumns; from 1,000 on the dies that hang below them, of which only the clock is used:
  Hutch b, 16 + port die k, 32 the host die, 33 Sideboard B, 34 Sideboard A (R375, R379) -/
  dies : List (Nat × Die) := []
  /-- directions of die-to-die links, by (site·8 + link code)·2 + direction -/
  links : List (Nat × Link) := []
  fmgr : Fmgr := {}
  /-- packets that have been launched and have not entered a router, by their sources -/
  net : List Packet := []
  /-- packets that arrived on an edge port and have not entered a router (R246) -/
  entering : List Arrival := []
  /-- packets that a router has handed to an endpoint, which has still to take them -/
  arrived : List Packet := []
  hutches : List (Nat × Hutch) := []
  /-- check-value units 0 to 416 (R221) -/
  checks : List (Nat × Check) := []
  sets : List (Nat × WSet) := []
  adapters : List (Nat × Adapter) := []
  streams : List (Nat × Stream) := []
  batches : List Batch := []
  nextBatch : Nat := 1
  nextOrder : Nat := 0
  /-- WSTREAM targets and other requests that wait for TACK, by TSTEP (R285) -/
  tsteps : List Packet := []
  registry : List Image := []
  lists : List (Nat × TList) := []
  job : Job := {}
  ports : List (Nat × Port) := []
  egress : List Egress := []
  hinge : Hinge := {}
  globals : List Global := []
  lates : List Late := []
  suspects : List Nat := []
  domains : List (Nat × Domain) := []
  /-- clock regions (R367): site·22 + physical array, + 20 for the die store, + 21 for the router; quadrant q of Hutch b
  at 9,152 + 4·b + q -/
  regions : List (Nat × Region) := []
  sensors : List (Nat × Sensor) := []
  stackSensors : List (Nat × Sensor) := []
  /-- junction throttles by site, quadrant q of Hutch b at 416 + 4·b + q (R404) -/
  throttles : List (Nat × Throttle) := []
  cooling : Cooling := {}
  boot : Boot := {}
  root : Root := {}
  cxl : Cxl := {}
  log : Log := {}
  /-- THERM_TRIP_N pulled low (R403), ALERT_N pulled low (R448), COOL_FAIL_N sampled low (R407) -/
  thermTrip : Bool := false
  alertPin : Bool := false
  coolFailPin : Bool := false
  deriving DecidableEq, Repr

/-- The state of the machine. `mem` is the bytes of global address spaces 0x0 to 0x3 (R190), by global address,
strictly rising, with no zero byte listed: an unlisted byte reads as zero (assumption 4). -/
structure State extends Panel where
  /-- the commands that are waiting, first in, first out -/
  pending : List Instr := []
  /-- fuse data (R2): nothing but COMMIT_VERSION changes it, and that only upwards (R430) -/
  fuses : Fuses := {}
  mem : List Host.Cell := []
  deriving DecidableEq, Repr

/-- Why the machine stops. The panel answers every failure with a status, an event or a fault of its own, so no
meaning raises one. -/
inductive Fault where
  /-- An address that exists nowhere: raised by no meaning (the spec answers such accesses with a status); safe. -/
  | unmapped (address : Nat)
  deriving DecidableEq, Repr

/-- Why a command is turned away. -/
inductive Refusal where
  /-- The command has no meaning in the model: raised by an arm of exec for a row not modelled; safe. -/
  | notModelled (mnemonic : String)
  deriving DecidableEq, Repr

/-- The panel right after reset and before its first start-up step (R412, R417): no power in any domain but the
always-on one, PERST_N low, every counter at the default of its object, no image, no job, and no byte of memory
listed. Where the spec gives a field no reset value, its value is assumption 2, 3, 4 or 11. -/
def State.reset : State := {}

end Sys2Proof.Machine
end

