-- ==== Sys2Proof/Machine/Wire.lean ====
section
/-! DEFINITION. Packets as the bytes of their flits, and frames of die-to-die links as they are put on the wires
(R227, R228, R232, R233). -/

namespace Sys2Proof.Machine

/-! ### Packets as flits (R232, R233) -/

/-- The header flit and the payload flits of a packet (R232, R233). -/
def packetBytes (p : Packet) : List Byte :=
  toBytes p.type 1 ++ toBytes (p.vc + 8 * p.lane + 16 * ofBool p.adaptive + 32 * ofBool p.wayValid) 1 ++ toBytes (p.payload.length / 64) 1 ++
    toBytes (ofBool p.last + 2 * ofBool p.poison + 4 * ofBool p.redInv + 8 * ofBool p.redOvf) 1 ++
    toBytes p.dstPanel 2 ++ toBytes p.dstC 1 ++ toBytes p.dstR 1 ++ toBytes p.dstUnit 1 ++ toBytes p.dstSub 1 ++
    toBytes p.srcPanel 2 ++ toBytes p.srcC 1 ++ toBytes p.srcR 1 ++ toBytes p.srcUnit 1 ++ toBytes p.srcSub 1 ++
    toBytes p.wayC 1 ++ toBytes p.wayR 1 ++ [0, 0] ++ toBytes p.transfer 4 ++ toBytes p.total 4 ++ toBytes p.index 4 ++
    toBytes p.address 8 ++ toBytes p.typeData 8 ++ toBytes p.stamp 4 ++
    toBytes (p.mcEnd + p.mcMode * 2 ^ 8 + p.redCode * 2 ^ 16 + p.contribs * 2 ^ 24) 4 ++ List.replicate 8 0 ++ p.payload

/-- The packet that a header flit and its payload flits spell (R233). -/
def packetOf (bs : List Byte) : Packet :=
  let v := leAt bs 1 1
  let f := leAt bs 3 1
  let m := leAt bs 0x34 4
  { type := leAt bs 0 1, vc := v % 8, lane := ofBool (bit v 3), adaptive := bit v 4, wayValid := bit v 5
    last := bit f 0, poison := bit f 1, redInv := bit f 2, redOvf := bit f 3
    dstPanel := leAt bs 4 2 % 4096, dstC := leAt bs 6 1, dstR := leAt bs 7 1, dstUnit := leAt bs 8 1, dstSub := leAt bs 9 1
    srcPanel := leAt bs 0xA 2 % 4096, srcC := leAt bs 0xC 1, srcR := leAt bs 0xD 1, srcUnit := leAt bs 0xE 1, srcSub := leAt bs 0xF 1
    wayC := leAt bs 0x10 1, wayR := leAt bs 0x11 1, transfer := leAt bs 0x14 4, total := leAt bs 0x18 4, index := leAt bs 0x1C 4
    address := leAt bs 0x20 8, typeData := leAt bs 0x28 8, stamp := leAt bs 0x30 4
    mcEnd := m % 256, mcMode := field m 8 2, redCode := field m 16 8, contribs := field m 24 8, payload := bs.drop 64 }

/-- Slots that a packet takes: its flits (R232). -/
def flitCount (p : Packet) : Nat := 1 + (p.payload.length + 63) / 64

/-- Bytes cut into flits of 64 B. -/
def flitsOf (bs : List Byte) : List (List Byte) := (List.range (bs.length / 64)).map (fun i => slice bs (64 * i) 64)

/-- The packets that flits in their order spell, after the flits of one that is not yet whole: the header says how many
payload flits follow, and the next flit after them is a header (R232). Answers what is left over too. -/
def assemble : List Byte → List (List Byte) → List Byte × List Packet
  | part, [] => (part, [])
  | part, f :: fs =>
    let bs := part ++ f
    if 64 * (1 + min 4 (leAt bs 2 1 % 8)) ≤ bs.length then
      let (rest, ps) := assemble [] fs
      (rest, packetOf bs :: ps)
    else assemble bs fs

/-! ### Frames (R227 to R229) -/

/-- Sideband bits [47:0] of a frame (R228). -/
def sideband (f : LinkFrame) : Nat :=
  (f.slots.map (fun s => 2 ^ (s.1 % 16))).sum + f.seq * 2 ^ 16 + ofBool f.ackValid * 2 ^ 22 + f.ack * 2 ^ 23 + ofBool f.nak * 2 ^ 29 +
    ofBool f.creditValid * 2 ^ 30 + f.creditVc * 2 ^ 31 + f.creditLane * 2 ^ 34 + f.creditCount * 2 ^ 35

/-- The 1,024 data bytes of a frame: flits in their slots, zeros in a slot that is not valid (R227). -/
def frameData (f : LinkFrame) : List Byte := (List.range 16).flatMap (fun s => padTo 64 (tget [] f.slots s))

/-- The flits of a frame in the order of their slots (R232). -/
def frameFlits (f : LinkFrame) : List (List Byte) := ((List.range 16).filter (thas f.slots)).map (fun s => padTo 64 (tget [] f.slots s))

/-- Packets in the frames that the sender keeps (R229). -/
def Link.kept (x : Link) : List Packet := (assemble [] (x.sent.flatMap frameFlits)).2

/-- Frames kept that the receiver has not yet taken. -/
def Link.wire (x : Link) : List LinkFrame :=
  match x.sent with
  | [] => []
  | f :: _ => x.sent.drop ((x.lastGood + 64 + 1 - f.seq) % 64)

/-- Packets on their way over a link. -/
def Link.onWire (x : Link) : List Packet := (assemble x.part (x.wire.flatMap frameFlits)).2

end Sys2Proof.Machine
end

