-- ==== Sys2Proof/Machine/Ops.lean ====
section
/-! DEFINITION. What a command works on, the stores of the panel, its registers, events, interrupts and packets:
the operations that every family shares. -/

namespace Sys2Proof

/-- The answer to a packet: its source becomes the destination. -/
def Packet.answer (p : Packet) (type : Nat) : Packet :=
  { type := type, vc := p.vc, dstPanel := p.srcPanel, dstC := p.srcC, dstR := p.srcR, dstUnit := p.srcUnit,
    dstSub := p.srcSub, srcPanel := p.dstPanel, srcC := p.dstC, srcR := p.dstR, srcUnit := p.dstUnit,
    srcSub := p.dstSub, transfer := p.transfer }

end Sys2Proof

namespace Sys2Proof.Machine

/-! ### The stores -/

/-- The byte at an address; an unlisted address reads as zero (assumption 4). -/
def memGet : List Host.Cell → Nat → Byte
  | [], _ => 0
  | (b, v) :: t, a => if b = a then v else memGet t a

/-- The byte `v` put at address `a`, the list kept rising and free of zero bytes. -/
def memPut : List Host.Cell → Nat → Byte → List Host.Cell
  | [], a, v => if v = 0 then [] else [(a, v)]
  | (b, x) :: t, a, v =>
    if a < b then (if v = 0 then (b, x) :: t else (a, v) :: (b, x) :: t)
    else if a = b then (if v = 0 then t else (a, v) :: t)
    else (b, x) :: memPut t a v

/-- Bytes put at consecutive addresses. -/
def memPuts : List Host.Cell → Nat → List Byte → List Host.Cell
  | m, _, [] => m
  | m, a, v :: vs => memPuts (memPut m a v) (a + 1) vs

/-- A range of addresses zeroed. -/
def memZero (m : List Host.Cell) (a n : Nat) : List Host.Cell := m.filter (fun c => c.1 < a || a + n ≤ c.1)

/-- The canonical form: addresses strictly rising from `lo`, no zero byte listed. -/
def memWfFrom : Nat → List Host.Cell → Bool
  | _, [] => true
  | lo, (a, v) :: t => decide (lo ≤ a) && v != 0 && memWfFrom (a + 1) t

/-- Memory is in its one canonical form. -/
def Memory.wf (m : List Host.Cell) : Bool := memWfFrom 0 m

/-- One change to the stores: bytes written from an address, or a range zeroed. -/
inductive Store where
  | bytes (addr : Nat) (data : List Byte)
  | zero (addr len : Nat)
  deriving DecidableEq, Repr

/-- A change made to memory. -/
def applyStore (m : List Host.Cell) : Store → List Host.Cell
  | .bytes a bs => memPuts m a bs
  | .zero a n => memZero m a n

/-- Changes made to memory, the newest standing first. -/
def applyStores (m : List Host.Cell) : List Store → List Host.Cell
  | [] => m
  | st :: older => applyStore (applyStores m older) st

/-- The byte that the newest change to address `a` left there. -/
def storeAt : List Store → Nat → Option Byte
  | [], _ => none
  | .bytes b bs :: t, a => if b ≤ a ∧ a < b + bs.length then some (bs.getD (a - b) 0) else storeAt t a
  | .zero b n :: t, a => if b ≤ a ∧ a < b + n then some 0 else storeAt t a

/-- The loss that has taken the byte at an address, where nothing has been written there since (assumption 99). -/
def lostAt (l : List (Nat × Nat × Nat)) (a : Nat) : Option Nat :=
  (l.find? (fun e => decide (e.1 ≤ a) && decide (a < e.1 + e.2.1))).map (·.2.2)

/-- The two ends of a range that `n` bytes from `a` leave. -/
def ends (a n : Nat) (e : Nat × Nat × Nat) : List (Nat × Nat × Nat) :=
  [(e.1, min e.2.1 (a - e.1), e.2.2), (max e.1 (a + n), e.1 + e.2.1 - max e.1 (a + n), e.2.2)].filter (fun x => x.2.1 != 0)

/-- Lost ranges without `n` bytes from `a`. -/
def carve (l : List (Nat × Nat × Nat)) (a n : Nat) : List (Nat × Nat × Nat) := l.flatMap (ends a n)

/-! ### What a command works on -/

/-- The panel a command works on: everything of State but the queue, with the fuses and the bytes of the stores to
read and the changes it has made to the stores, newest first. -/
structure Work extends Panel where
  fuses : Fuses := {}
  mem : List Host.Cell := []
  stores : List Store := []
  deriving DecidableEq, Repr

/-- The state as a command begins to work on it. -/
def State.work (s : State) : Work := { toPanel := s.toPanel, fuses := s.fuses, mem := s.mem, stores := [] }

/-- The state with a command's work in place. Fuses and the queue are as before. -/
def State.commit (s : State) (w : Work) : State :=
  { s with toPanel := w.toPanel, mem := applyStores s.mem w.stores }

/-- A command whose effect is `f`: it completes. -/
def run (f : Work → Work) (s : State) : Host.Outcome State Fault Refusal := .next (s.commit (f s.work))

/-- Work done where a condition holds, and nothing otherwise. -/
def Work.whenever (c : Bool) (f : Work → Work) (w : Work) : Work := if c then f w else w

/-- The byte at a global address, as the command's own changes have left it. -/
def Work.readByte (w : Work) (a : Nat) : Byte :=
  match lostAt w.lost a with
  | some k => Config.lostByte k a
  | none =>
    match storeAt w.stores a with
    | some b => b
    | none => memGet w.mem a

/-- `n` bytes from a global address. -/
def Work.read (w : Work) (a n : Nat) : List Byte := (List.range n).map (fun i => w.readByte (a + i))

/-- The little-endian number in `n` bytes at a global address (R13). -/
def Work.readNat (w : Work) (a n : Nat) : Nat := ofBytes (w.read a n)

/-- Bytes written from a global address; a scratchpad or die-store word written whole is good again (R194). -/
def Work.write (w : Work) (a : Nat) (bs : List Byte) : Work :=
  { w with stores := .bytes a bs :: w.stores,
           lost := carve w.lost a bs.length,
           badWords := w.badWords.filter (fun x => !(decide (a ≤ x) && decide (x + 8 ≤ a + bs.length))) }

/-- A number written in `n` bytes (R13). -/
def Work.writeNat (w : Work) (a n x : Nat) : Work := w.write a (toBytes x n)

/-- A range zeroed. -/
def Work.zero (w : Work) (a n : Nat) : Work :=
  { w with stores := .zero a n :: w.stores,
           lost := carve w.lost a n,
           badWords := w.badWords.filter (fun x => !(decide (a ≤ x) && decide (x < a + n))) }

/-- A range whose contents are lost: every byte is a free value until it is written; no stored byte stays behind (assumption
99). -/
def Work.forget (w : Work) (a n : Nat) : Work :=
  if n = 0 then w
  else { w.zero a n with lost := (a, n, w.free) :: carve w.lost a n, free := w.free + 1 }

/-- A value the spec leaves undefined, drawn fresh (assumption 5). -/
def Work.draw (w : Work) : Nat × Work := (Config.freeValue w.free, { w with free := w.free + 1 })

/-! ### Time -/

/-- The root's time counter, ns (R379). -/
def Work.now (w : Work) : Nat := w.clock / 2 ^ 32 % 2 ^ 64

/-- Time has reached `t` ns at least. -/
def Work.reach (w : Work) (t : Nat) : Work := { w with clock := max w.clock (t * 2 ^ 32) }

/-! ### Dictionary registers -/

/-- A dictionary scalar. -/
def Work.reg (w : Work) (i sub : Nat) : Nat :=
  match w.regs.find? (fun e => e.1 == key i sub) with
  | some e => e.2
  | none => regDefault (key i sub)

/-- A dictionary scalar given a value. -/
def Work.setReg (w : Work) (i sub v : Nat) : Work := { w with regs := tput w.regs (key i sub) v }

/-- The width in bits of a scalar. -/
def regWidth (i sub : Nat) : Nat :=
  match objAt i sub with
  | some o => 8 * typeSize o.type
  | none => 64

/-- A counter raised by `n`, stopping at its width's greatest value (assumption 13). -/
def Work.addReg (w : Work) (i sub n : Nat) : Work := w.setReg i sub (satAdd (regWidth i sub) (w.reg i sub) n)

/-- The value in force of a scalar that applies at a start-up or at a job start. -/
def Work.eff (w : Work) (i sub : Nat) : Nat :=
  match w.inForce.find? (fun e => e.1 == key i sub) with
  | some e => e.2
  | none => regDefault (key i sub)

/-- A value put in force. -/
def Work.setEff (w : Work) (i sub v : Nat) : Work := { w with inForce := tput w.inForce (key i sub) v }

/-- A BLOB that is held as bytes. -/
def Work.blob (w : Work) (i sub : Nat) : List Byte := tget [] w.blobs (key i sub)

/-- A BLOB given its bytes. -/
def Work.setBlob (w : Work) (i sub : Nat) (bs : List Byte) : Work := { w with blobs := tput w.blobs (key i sub) bs }

/-! ### Sizes of the grid, and the numbering of dies and arrays -/

/-- LogicalColumns (R1, R4). -/
def Fuses.columns (f : Fuses) : Nat := if f.variant = 1 then 20 else 24

/-- LogicalColumns of the panel. -/
def Work.cols (w : Work) : Nat := w.fuses.columns

/-- Logical dies: LogicalColumns × 16. -/
def Work.numDies (w : Work) : Nat := w.cols * 16

/-- Logical die d = c + r·LogicalColumns (R135). -/
def Work.dieOf (w : Work) (c r : Nat) : Nat := c + r * w.cols

/-- Column of a logical die. -/
def Work.colOf (w : Work) (d : Nat) : Nat := d % w.cols

/-- Row of a logical die. -/
def Work.rowOf (w : Work) (d : Nat) : Nat := d / w.cols

/-- The record number of array k of die d (R135). -/
def arrOf (d k : Nat) : Nat := k + 16 * d

/-- The site that carries a logical die; none when absent (R21). -/
def Work.siteOf (w : Work) (d : Nat) : Option Nat :=
  if d < w.numDies then (w.siteMap.logical.find? (fun e => e.1 == d)).map (·.2) else none

/-- Records that count: those of the map and those held in Sideboard memory (R40). -/
def Work.allDefects (w : Work) : List Defect := w.defects ++ w.heldDefects

/-- A defect record of a kind names this unit. -/
def Defect.names (r : Defect) (kind site sub : Nat) : Bool := r.kind == kind && r.site == site && r.sub == sub

/-- A unit has a defect record. -/
def Work.hasDefect (w : Work) (kind site sub : Nat) : Bool := w.allDefects.any (·.names kind site sub)

/-- State code of a site (R3, R39). Until the first map is computed nothing is in use: a unit reports fused or defective
by its fuse and its record, else spare (DESIGN CHOICE, assumption 81). -/
def Work.siteState (w : Work) (n : Nat) : Nat :=
  if w.siteMap.computed then tget 0 w.siteMap.siteState n
  else if w.fuses.sites.contains n then 2 else if w.hasDefect 0 n 0 then 3 else 1

/-- Bay of a site (R11). -/
def bayOfSite (n : Nat) : Nat := if n % 26 ≤ 12 then n / 26 / 2 else 8 + n / 26 / 2

/-- The compute domain of a bay is on, or on its way off with its tables not yet changed (R256, R409). -/
def Work.bayUp (w : Work) (b : Nat) : Bool :=
  let x : Domain := tget {} w.domains b
  x.st == .on || (x.st == .switchingOff && decide (x.step < 3))

/-- A logical die is present: it has a site, that site is in use, and its bay is on (R21, R36, R256, R441). -/
def Work.diePresent (w : Work) (d : Nat) : Bool :=
  match w.siteOf d with
  | some n => w.siteState n == 0 && w.bayUp (bayOfSite n)
  | none => false

/-- The physical array behind logical array k of die d, as site·20 + a (R33). -/
def Work.physical (w : Work) (d k : Nat) : Option Nat :=
  match w.siteOf d with
  | none => none
  | some n => (List.range 20).findSome? (fun a =>
      if (w.siteMap.logicalArray.find? (fun e => e.1 == n * 20 + a)).map (·.2) = some k then some (n * 20 + a) else none)

/-- A logical array is present (R25, R33). -/
def Work.arrPresent (w : Work) (a : Nat) : Bool :=
  w.diePresent (a / 16) &&
    (match w.physical (a / 16) (a % 16) with
     | some f => tget 0 w.siteMap.arrayState f == 0
     | none => false)

/-- Bay of a logical die's site. -/
def Work.bayOf (w : Work) (d : Nat) : Nat :=
  match w.siteOf d with
  | some n => bayOfSite n
  | none => if w.colOf d < w.cols / 2 then w.rowOf d / 2 else 8 + w.rowOf d / 2

/-! ### Reading and changing a unit -/

def Work.arr (w : Work) (a : Nat) : Arr := tget {} w.arrays a
def Work.modArr (w : Work) (a : Nat) (f : Arr → Arr) : Work := { w with arrays := tmod {} w.arrays a f }
def Arr.cell (x : Arr) (p : Nat) : Cell := tget {} x.cells p
def Arr.modCell (x : Arr) (p : Nat) (f : Cell → Cell) : Arr := { x with cells := tmod {} x.cells p f }
def Work.cell (w : Work) (a p : Nat) : Cell := (w.arr a).cell p
def Work.modCell (w : Work) (a p : Nat) (f : Cell → Cell) : Work := w.modArr a (·.modCell p f)
def Arr.engine (x : Arr) (e : Nat) : Engine := tget {} x.engines e
def Arr.modEngine (x : Arr) (e : Nat) (f : Engine → Engine) : Arr := { x with engines := tmod {} x.engines e f }
def Work.engine (w : Work) (a e : Nat) : Engine := (w.arr a).engine e
def Work.modEngine (w : Work) (a e : Nat) (f : Engine → Engine) : Work := w.modArr a (·.modEngine e f)
def Arr.window (x : Arr) (i : Nat) : Window := tget {} x.windows i
def Arr.modWindow (x : Arr) (i : Nat) (f : Window → Window) : Arr := { x with windows := tmod {} x.windows i f }
def Arr.chan (x : Arr) (c : Nat) : ChanEnd := tget {} x.chans c
def Arr.modChan (x : Arr) (c : Nat) (f : ChanEnd → ChanEnd) : Arr := { x with chans := tmod {} x.chans c f }
def Work.die (w : Work) (d : Nat) : Die := tget {} w.dies d
def Work.modDie (w : Work) (d : Nat) (f : Die → Die) : Work := { w with dies := tmod {} w.dies d f }
def Work.modTu (w : Work) (d : Nat) (f : TaskUnit → TaskUnit) : Work := w.modDie d (fun x => { x with tu := f x.tu })
def Work.modRouter (w : Work) (d : Nat) (f : Router → Router) : Work :=
  w.modDie d (fun x => { x with router := f x.router })
def Work.modDieClock (w : Work) (d : Nat) (f : DieClock → DieClock) : Work :=
  w.modDie d (fun x => { x with clock := f x.clock })
def Work.hutch (w : Work) (b : Nat) : Hutch := tget {} w.hutches b
def Work.modHutch (w : Work) (b : Nat) (f : Hutch → Hutch) : Work := { w with hutches := tmod {} w.hutches b f }
def Work.link (w : Work) (l : Nat) : Link := tget {} w.links l
def Work.modLink (w : Work) (l : Nat) (f : Link → Link) : Work := { w with links := tmod {} w.links l f }
def Work.port (w : Work) (k : Nat) : Port := tget {} w.ports k
def Work.modPort (w : Work) (k : Nat) (f : Port → Port) : Work := { w with ports := tmod {} w.ports k f }
def Work.wset (w : Work) (s : Nat) : WSet := tget {} w.sets s
def Work.modSet (w : Work) (s : Nat) (f : WSet → WSet) : Work := { w with sets := tmod {} w.sets s f }
def Work.adapter (w : Work) (i : Nat) : Adapter := tget {} w.adapters i
def Work.modAdapter (w : Work) (i : Nat) (f : Adapter → Adapter) : Work := { w with adapters := tmod {} w.adapters i f }
def Work.stream (w : Work) (i : Nat) : Stream := tget {} w.streams i
def Work.modStream (w : Work) (i : Nat) (f : Stream → Stream) : Work := { w with streams := tmod {} w.streams i f }
def Work.domain (w : Work) (d : Nat) : Domain := tget {} w.domains d
def Work.modDomain (w : Work) (d : Nat) (f : Domain → Domain) : Work := { w with domains := tmod {} w.domains d f }
def Work.check (w : Work) (u : Nat) : Check := tget {} w.checks u
def Work.modCheck (w : Work) (u : Nat) (f : Check → Check) : Work := { w with checks := tmod {} w.checks u f }
def Work.region (w : Work) (r : Nat) : Region := tget {} w.regions r
def Work.modRegion (w : Work) (r : Nat) (f : Region → Region) : Work := { w with regions := tmod {} w.regions r f }
def Work.modJob (w : Work) (f : Job → Job) : Work := { w with job := f w.job }

/-! ### Interrupts, alarms, events -/

/-- A cause of MSI-X source `s`: its vector becomes pending unless the map disables it, or PERST_N holds the MSI-X table in
reset (R342, R350). -/
def Work.interrupt (w : Work) (s : Nat) : Work :=
  let v := match (w.blobs.find? (fun e => e.1 == key 0x1200 0x11)) with
    | some e => (e.2.getD s 0xFF).toNat
    | none => s
  if v = 0xFF ∨ w.cxl.perst then w else { w with cxl := { w.cxl with pending := tput w.cxl.pending v true } }

/-- Alert causes latched: ALERT_N asserts while any is set (R448). -/
def Work.alert (w : Work) (bits : Nat) : Work :=
  let a := w.log.alerts ||| bits
  { w with log := { w.log with alerts := a }, alertPin := a != 0 }.setReg 0xA000 0x09 a

/-- Records of the ring that each class may hold (R444). -/
def classShare (c : Nat) : Nat :=
  if c = 0 then 13107 else if c = 1 then 39322 else if c = 2 then 39322 else if c = 3 then 26214 else 13107

/-- Records the 1 MiB overflow area holds (R443, R444). -/
def overflowShare : Nat := 32768

/-- An event came from this source (R444). -/
def Event.from (e : Event) (kind number : Nat) : Bool := e.kind == kind && e.number == number

/-- The newest record of a source. -/
def newestFrom (l : List Event) (kind number : Nat) : Option Event :=
  l.foldl (fun acc e => if e.from kind number && acc.all (fun x => decide (x.seq ≤ e.seq)) then some e else acc) none

/-- A list without its oldest element that satisfies `p`. -/
def dropFirst {A : Type} (p : A → Bool) : List A → List A
  | [] => []
  | a :: l => if p a then l else a :: dropFirst p l

/-- The records of an incident lose their protection once the next incident opens (R446). -/
def Log.unprotect (l : Log) : Log :=
  { l with ring := l.ring.map (fun e => { e with kept := false }), overflow := l.overflow.map (fun e => { e with kept := false }) }

/-- An incident opens at a FATAL or ERROR event when none is open (R446). -/
def Log.openIncident (l : Log) (now : Nat) : Log :=
  if l.incident then { l with lastBad := now }
  else { l.unprotect with incident := true, head := l.nextSeq, openedAt := now, lastBad := now, headCount := 0 }

/-- An event dropped and counted in its class (R444, R445). -/
def Log.drop (l : Log) (cls : Nat) : Log := { l with drops := tmod 0 l.drops cls (satAdd 32 · 1) }

/-- A new record written (R444): into its class's share, over the oldest unprotected record of the class, into the
overflow area for FATAL and ERROR, or not at all. Answers whether it was written. -/
def Log.put (l : Log) (e : Event) : Log × Bool :=
  let e := { e with seq := l.nextSeq }
  let e := if l.incident && decide (l.headCount < 64) then { e with kept := true, flags := e.flags ||| 2 } else e
  let l1 := { l with nextSeq := l.nextSeq + 1, headCount := l.headCount + ofBool l.incident,
                     counts := tmod 0 l.counts e.cls (satAdd 32 · 1) }
  if (l.ring.filter (fun x => x.cls == e.cls)).length < classShare e.cls then ({ l1 with ring := l1.ring ++ [e] }, true)
  else if l.ring.any (fun x => x.cls == e.cls && !x.kept) then
    ({ l1 with ring := dropFirst (fun x => x.cls == e.cls && !x.kept) l1.ring ++ [e] }, true)
  else if e.cls ≤ 1 ∧ l.overflow.length < overflowShare then
    ({ l1 with overflow := l1.overflow ++ [{ e with flags := e.flags ||| 8 }] }, true)
  else (l.drop e.cls, false)

/-- The records of the ring and the overflow area by number (R444, 0xA000.01). -/
def Log.records (l : Log) : List Event := sortBy (fun a b => decide (a.seq ≤ b.seq)) (l.ring ++ l.overflow)

/-- The first FATAL record is kept after the 512 records before it (R447); the registers beside it follow as the command
ends. -/
def Work.firstFailure (w : Work) (e : Event) : Work :=
  if w.log.firstFailed then w
  else
    let before := w.log.records.filter (fun x => decide (x.seq < e.seq))
    { w with log := { w.log with firstFailure := before.drop (before.length - 512) ++ [e], firstFailed := true, firstRegs := [] } }

/-- An event as detected (R435, R444 to R448): the alert latch of a FATAL event first, then coalescing, the rate limit
of its source, and the record; FATAL, ERROR and WARN events that are logged raise sources 4 to 6 (R350). -/
def Work.event (w : Work) (cls code kind number detail : Nat) : Work :=
  let w := if cls = 0 then w.alert 1 else w
  let now := w.now
  let l := if cls ≤ 1 then w.log.openIncident now else w.log
  let same := fun (e : Event) => e.from kind number && e.code == code && e.detail == detail && decide (now ≤ e.time + 1000000000)
  match newestFrom (l.ring ++ l.overflow) kind number with
  | some e =>
    if same e then
      let e' := { e with repeats := satAdd 32 e.repeats 1, flags := e.flags ||| 1 }
      let upd := fun (x : Event) => if x.seq = e.seq then e' else x
      let w := { w with log := { l with ring := l.ring.map upd, overflow := l.overflow.map upd } }
      let w := if cls ≤ 2 then w.interrupt (4 + cls) else w
      if cls = 0 then w.firstFailure e' else w
    else if ((l.ring ++ l.overflow).filter (fun x => x.from kind number && decide (now < x.time + 1000000000))).length ≥ 1000 then
      { w with log := l.drop cls }
    else fresh w l now
  | none => fresh w l now
where
  /-- A record that neither coalesces nor exceeds its source's rate. -/
  fresh (w : Work) (l : Log) (now : Nat) : Work :=
    let e : Event := ⟨now, l.nextSeq, cls, 0, code, kind, number, 1, detail, false⟩
    let (l', ok) := l.put e
    let spilled := decide (l.overflow.length < l'.overflow.length)
    let w := { w with log := l' }.setReg 0xA000 0x04 l'.nextSeq
    let w := if spilled && w.reg 0xB000 0x18 == 1 then (w.addReg 0xB000 0x19 1).setReg 0xB000 0x18 0 else w
    let w := if ok && decide (cls ≤ 2) then w.interrupt (4 + cls) else w
    if cls = 0 then w.firstFailure e else w

/-- A task ended with its first status: an INFO event (R435). -/
def Work.taskEvent (w : Work) (a status detail : Nat) : Work :=
  w.event 3 status 2 (match w.physical (a / 16) (a % 16) with
    | some f => 32 * (f / 20) + f % 20
    | none => 0) detail

/-- Corrected errors of a unit in an hour of the time counter: a WARN event as their count passes CorrectedWarnPerHour (R435;
assumption 14). -/
def Work.hourly (w : Work) (n kind number : Nat) : Work :=
  let unit := kind + 256 * number
  let hour := w.now / 3600000000000
  let last := tget (0, 0) w.log.hours unit
  let before := if last.1 = hour then last.2 else 0
  let limit := w.reg 0xA000 0x08
  let w : Work := { w with log := { w.log with hours := tput w.log.hours unit (hour, before + n) } }
  if before ≤ limit ∧ limit < before + n then w.event 2 0 kind number (before + n) else w

/-- A corrected error counted for a unit in register index.sub, and in its hour (R435). -/
def Work.corrected (w : Work) (i sub n kind number : Nat) : Work := (w.addReg i sub n).hourly n kind number

/-- Words corrected on a die, counted for its site (R163, R194). -/
def Work.wordsCorrected (w : Work) (d n : Nat) : Work :=
  match w.siteOf d with
  | some s => w.corrected (0x3100 + s) 0x15 n 1 s
  | none => w

/-! ### Counters of the dies (R379, R381, R383) -/

/-- The part of a die's pending slew that has been made: at most 1/16 ns per µs (R381). -/
def DieClock.slewed (c : DieClock) (now : Nat) : Int :=
  let most : Nat := 16 * ((now - c.slewAt) / 1000)
  if c.slew < 0 then -(Int.ofNat (min c.slew.natAbs most)) else Int.ofNat (min c.slew.natAbs most)

/-- What a rate other than the root's has moved a die's counter by since it has differed, 1/256 ns (R379). -/
def DieClock.drift (c : DieClock) (root : Int) (now : Nat) : Int :=
  if c.rate = root then 0 else (c.rate - root) * Int.ofNat (256 * (now - c.rateFrom)) / 2 ^ 32

/-- The root's counter in 1/256 ns, and a die's: the root's with its offset, its slew and what its own rate makes of it (assumption
111). -/
def Work.rootCounter (w : Work) : Int := Int.ofNat (w.clock / 2 ^ 24)
def Work.dieCounter (w : Work) (d : Nat) : Int :=
  let c := (w.die d).clock
  w.rootCounter + c.offset + c.slewed w.now + c.drift w.root.rate w.now

/-- A die's own counter, ns (R379, R383). -/
def Work.dieNow (w : Work) (d : Nat) : Nat := (w.dieCounter d).toNat / 256

/-- The counter of die d has passed the tick `t` (R214, R383). -/
def Work.past (w : Work) (d t : Nat) : Bool := decide (t < w.dieNow d)

/-- Time has reached `t` ns at least on the counter of die d (R383); what a slew keeps back in the meantime is waited for as well. -/
def Work.reachOn (w : Work) (d t : Nat) : Work :=
  let v := w.reach (w.now + (t - w.dieNow d))
  v.reach (v.now + (t - v.dieNow d))

/-! ### Packets -/

/-- This panel's ID in force (R324). -/
def Work.panelId (w : Work) : Nat := w.eff 0x4810 0x01

/-- The die whose time counter stamps what a unit of this panel sends, a leaf of the tree for an external die (R233, R379;
assumption 111). -/
def Work.stampDie (w : Work) (p : Packet) : Nat :=
  let c := p.srcUnit / 16
  if c < 4 then w.dieOf p.srcC p.srcR else if c = 4 then 1000 + p.srcUnit % 16 else if c = 5 then 1016 + p.srcUnit % 16
  else if c = 6 then 1032 else 1034 - p.srcUnit % 2

/-- A packet with the stamp of its source's own counter; one of another panel keeps the stamp it has (R233). -/
def Work.stamped (w : Work) (p : Packet) : Packet :=
  if p.srcPanel = w.panelId then { p with stamp := w.dieNow (w.stampDie p) % 2 ^ 32 } else p

/-- A packet launched: its destination has still to take it. The stamp that it carries is made anew where it enters a router
(R233). -/
def Work.send (w : Work) (p : Packet) : Work := { w with net := w.net ++ [w.stamped p] }

/-- Packets that leave the ingress buffers of edge ports: their slots are owed to the peers (R315). -/
def Work.leaveIngress (w : Work) (es : List Arrival) : Work :=
  es.foldl (fun w e => match e.cls with
    | some c => w.modPort e.port (fun x => { x with owed := x.owed ++ [(e.pkt.vc, c)] })
    | none => w) w

/-- A packet taken: from those handed to their endpoints, those launched, or those that came in on an edge port. -/
def Work.take (w : Work) (p : Packet) : Work :=
  if w.arrived.contains p then { w with arrived := dropFirst (fun q => decide (q = p)) w.arrived }
  else if w.net.contains p then { w with net := dropFirst (fun q => decide (q = p)) w.net }
  else
    let mine := fun (e : Arrival) => decide (e.pkt = p)
    ({ w with entering := dropFirst mine w.entering } : Work).leaveIngress (w.entering.find? mine).toList

/-- Every packet outside the routers. -/
def Work.flying (w : Work) : List Packet := w.arrived ++ w.net ++ w.entering.map (·.pkt)

/-- Packets outside the routers that fail a test are dropped. -/
def Work.keepPackets (w : Work) (f : Packet → Bool) : Work :=
  ({ w with arrived := w.arrived.filter f, net := w.net.filter f, entering := w.entering.filter (fun e => f e.pkt) } : Work).leaveIngress
    (w.entering.filter (fun e => !f e.pkt))

/-- A packet from unit `unit`, sub `sub`, of die d of this panel to die d' of this panel. -/
def Work.packet (w : Work) (type d unit sub d' unit' sub' : Nat) : Packet :=
  { type := type, srcPanel := w.panelId, srcC := w.colOf d, srcR := w.rowOf d, srcUnit := unit, srcSub := sub,
    dstPanel := w.panelId, dstC := w.colOf d', dstR := w.rowOf d', dstUnit := unit', dstSub := sub' }

/-- The logical die a packet is bound for, and the one it came from. -/
def Work.dstDie (w : Work) (p : Packet) : Nat := w.dieOf p.dstC p.dstR
def Work.srcDie (w : Work) (p : Packet) : Nat := w.dieOf p.srcC p.srcR

/-! ### Order (R238) -/

/-- A packet on a channel whose order the fabric keeps: CTRL, REQ, RSP, or BULK-E where it did not ask for BULK-A (R238,
R244). -/
def ordered (p : Packet) : Bool := (decide (p.vc ≤ 2) || p.vc == 4) && !p.adaptive

/-- Two units, each with its position, are one endpoint: an external die is the same wherever its traffic enters. -/
def sameUnit (panel c r unit panel' c' r' unit' : Nat) : Bool :=
  panel == panel' && unit == unit' && (decide (4 ≤ unit / 16) || (c == c' && r == r'))

/-- Two packets of one source endpoint to one destination endpoint on one deterministic channel (R238). -/
def sameFlow (p q : Packet) : Bool :=
  ordered p && ordered q && p.vc == q.vc && sameUnit p.srcPanel p.srcC p.srcR p.srcUnit q.srcPanel q.srcC q.srcR q.srcUnit &&
    sameUnit p.dstPanel p.dstC p.dstR p.dstUnit q.dstPanel q.dstC q.dstR q.dstUnit

/-- No other packet of its flow stands before a packet in a list. -/
def firstIn (l : List Packet) (p : Packet) : Bool :=
  match l.find? (sameFlow p) with
  | some q => decide (q = p)
  | none => true

/-- Packets in the buffers of the routers and on the links between them. -/
def Work.inRouters (w : Work) : List Packet :=
  w.dies.flatMap (fun e => e.2.router.slots.map (·.pkt)) ++ w.links.flatMap (fun e => e.2.onWire)

/-- It is a packet's turn to be taken: what was sent before it in its flow has arrived and has been taken (R238). -/
def Work.inTurn (w : Work) (p : Packet) : Bool :=
  if w.arrived.any (sameFlow p) then firstIn w.arrived p
  else !w.inRouters.any (sameFlow p) && firstIn (w.net ++ w.entering.map (·.pkt)) p

/-- An arrival has its effect in its turn; out of turn the packet has not arrived (R238; assumption 85). -/
def onTurn (p : Packet) (f : Work → Work) (w : Work) : Work := if w.inTurn p then f w else w

/-- The array a packet is bound for, and the one it came from. -/
def Work.dstArr (w : Work) (p : Packet) : Nat := arrOf (w.dstDie p) p.dstUnit
def Work.srcArr (w : Work) (p : Packet) : Nat := arrOf (w.srcDie p) p.srcUnit

/-! ### Dictionary answers and command statuses -/

/-- The 40 B header of the response to a request, with its message counter. Flag more says that the value goes on beyond this response,
and continue is the request's (R357, R365; DESIGN CHOICE, assumption 129). -/
def responseHeader (q : Request) (r : Reply) (session counter : Nat) (mac : Bool) : List Byte :=
  [1] ++ toBytes (q.op % 128 + 128) 1 ++ toBytes (ofBool r.more + 2 * ofBool q.cont + 4 * ofBool mac) 2 ++ toBytes q.tag 4 ++ toBytes session 4 ++ toBytes counter 4 ++
    toBytes q.index 2 ++ toBytes q.sub 1 ++ [0] ++ toBytes q.offset 4 ++ toBytes r.data.length 2 ++ [0, 0] ++ toBytes r.status 1 ++
    toBytes r.detail 1 ++ [0, 0] ++ toBytes r.other 4 ++ toBytes (q.offset / 2 ^ 32) 4

/-- The header of the response to a request as it stands in a channel page, or at the head of a message (R357, R358). -/
def headerBytes (q : Request) (r : Reply) : List Byte :=
  responseHeader q r (if r.session = 0 then q.session else r.session) r.counter (!r.code.isEmpty)

/-- The response to a request as one message: header, data and code (R357, R363). -/
def responseBytes (q : Request) (r : Reply) : List Byte := headerBytes q r ++ r.data ++ r.code

/-- The messages that carry an answer on the management network: one, or two for the 1,604 B of a HELLO, 1,024 B and 580 B, the code in
the last (R363, R364). -/
def messagesOf (q : Request) (r : Reply) : List (List Byte) :=
  if r.data.length ≤ 1024 then [responseBytes q r]
  else [responseBytes { q with offset := 0 } { r with data := r.data.take 1024, more := true, code := [] },
        responseBytes { q with offset := 1024 } { r with data := r.data.drop 1024 }]

/-- An answer goes out on the management network. -/
def Work.framed (w : Work) (q : Request) : Work := { w with reply := { w.reply with messages := messagesOf q w.reply } }

/-- The server's response in place: header and code in the page, data in the buffer, and Done (R358). -/
def Channel.answered (c : Channel) (q : Request) (r : Reply) : Channel :=
  { c with done := c.go, header := headerBytes q r, code := if r.code.isEmpty then c.code else r.code, data := patch c.data 0 r.data }

/-- A dictionary access refused with a code of R359 and the Other field. -/
def Work.refuse (w : Work) (code : Nat) (other : Nat := 0) : Work :=
  { w with reply := { status := code, other := other } }

/-- A dictionary access that succeeds with data. -/
def Work.accept (w : Work) (data : List Byte := []) : Work := { w with reply := { data := data } }

/-- index.sub as the Other field names it (R356). -/
def nameOf (i sub : Nat) : Nat := 256 * i + sub

/-- A job runs: RUNNING, STOPPING or KILLING (R301). -/
def JobSt.runs : JobSt → Bool
  | .running | .stopping | .killing => true
  | _ => false

/-- A job runs. -/
def Work.jobRuns (w : Work) : Bool := w.job.st.runs

/-- The refusal while a job runs: 0x7A with JobId in Other (R356). -/
def Work.refuseJob (w : Work) : Work := w.refuse 0x7A (w.reg 0x2400 2)

end Sys2Proof.Machine
end

