-- ==== Sys2Proof/Machine/Operands.lean ====
section
/-! DEFINITION. The 64-bit cell instruction word and the operand forms it names: source select codes, consume and
repeat control, immediates, tags (R77, R81 to R87). -/

namespace Sys2Proof

open Sys2Proof.Machine

/-! ### Tags and tokens (R77) -/

def Token.epoch (t : Token) : Nat := field t.tag.toNat 6 2
def Token.last (t : Token) : Bool := bit t.tag.toNat 5
def Token.kind (t : Token) : Nat := field t.tag.toNat 3 2
def Token.lane (t : Token) : Nat := field t.tag.toNat 0 3

/-- A token with the tag fields given (R77). -/
def mkTok (epoch : Nat) (last : Bool) (kind lane pay : Nat) : Token :=
  ⟨BitVec.ofNat 64 pay, BitVec.ofNat 8 (epoch % 4 * 64 + ofBool last * 32 + kind % 4 * 8 + lane % 8)⟩

/-- A token with its epoch and last bit replaced. -/
def Token.retag (t : Token) (epoch : Nat) (last : Bool) : Token := mkTok epoch last t.kind t.lane t.pay.toNat

end Sys2Proof

namespace Sys2Proof.Machine

/-! ### Fields of the instruction word (R81) -/

def iOp (w : Nat) : Nat := field w 56 8
def iSrcA (w : Nat) : Nat := field w 52 4
def iSrcB (w : Nat) : Nat := field w 48 4
def iSrcC (w : Nat) : Nat := field w 44 4
def iObA (w : Nat) : Nat := field w 38 6
def iObB (w : Nat) : Nat := field w 32 6
def iDest (w : Nat) : Nat := field w 28 4
def iAcc (w : Nat) : Nat := field w 25 3
def iCA (w : Nat) : Bool := bit w 24
def iCB (w : Nat) : Bool := bit w 23
def iCC (w : Nat) : Bool := bit w 22
def iLT (w : Nat) : Bool := bit w 21
def iFwd (w : Nat) : Bool := bit w 20
def iImm (w : Nat) : Nat := field w 8 12
def iSAcc (w : Nat) : Bool := bit w 19
def iSObA (w : Nat) : Bool := bit w 18
def iSObB (w : Nat) : Bool := bit w 17
def iHold (w : Nat) : Bool := bit w 16
def iMode (w : Nat) : Nat := field w 6 2
def iLc (w : Nat) : Bool := bit w 5
def iTarget (w : Nat) : Nat := field w 0 5

/-- Opcodes whose immediate field is repeat control (R95). -/
def isRType (op : Nat) : Bool :=
  op == 0x00 || (decide (0x10 ≤ op) && decide (op ≤ 0x4F)) || op == 0x9C || op == 0xB0 || op == 0xB1

/-- Dot products, dense and sparse (R95). -/
def isDot (op : Nat) : Bool := decide (0x10 ≤ op) && decide (op ≤ 0x4F)

/-- The sparse dot products (R95). -/
def isSparse (op : Nat) : Bool :=
  (decide (0x30 ≤ op) && decide (op ≤ 0x3A)) || (decide (0x40 ≤ op) && decide (op ≤ 0x4F))

/-- Firings of a run: COUNT, 0 meaning 256; an I-type instruction fires once (R86). -/
def iCount (w : Nat) : Nat :=
  if isRType (iOp w) then (if field w 8 8 = 0 then 256 else field w 8 8) else 1

/-- A select code names an input queue (R82). -/
def isQueue (code : Nat) : Bool := decide (code < 4)

/-! ### Parts of a cell -/

def Cell.instr (c : Cell) : Nat := (tget 0 c.prog c.idx).toNat
def Cell.obWord (c : Cell) (i : Nat) : Nat := (tget (0 : Word) c.ob (i % 64)).toNat
def Cell.queue (c : Cell) (d : Nat) : List Token := tget [] c.queues d
def Cell.out (c : Cell) (d : Nat) : Option Token := tget none c.outs d
def Cell.accBits (c : Cell) (k : Nat) : Nat := (tget (0 : Half) c.acc (k % 8)).toNat
def Cell.setAcc (c : Cell) (k v : Nat) : Cell := { c with acc := tput c.acc (k % 8) (BitVec.ofNat 32 v) }
def Cell.setQueue (c : Cell) (d : Nat) (q : List Token) : Cell := { c with queues := tput c.queues d q }
def Cell.setOut (c : Cell) (d : Nat) (t : Option Token) : Cell := { c with outs := tput c.outs d t }
def Cell.pathByte (c : Cell) (d : Nat) : Nat := tget 0 c.paths d

/-- The mask bit of direction d: bit 3 N, 2 S, 1 E, 0 W (R81). -/
def dirBit (d : Nat) : Nat := 2 ^ (3 - d)

/-- A mask names direction d. -/
def inMask (m d : Nat) : Bool := bit m (3 - d)

/-- The head of queue d that an instruction may see: a token of the current epoch (R79, R89). -/
def Cell.head (c : Cell) (epoch d : Nat) : Option Token :=
  match c.queue d with
  | t :: _ => if t.epoch = epoch then some t else none
  | [] => none

/-- An output register bound to a declared pass-through path (R46). -/
def Cell.outBound (c : Cell) (d : Nat) : Bool :=
  (List.range 4).any (fun i => bit (c.pathByte i) 7 && field (c.pathByte i) 0 2 == d)

/-- Every register of a mask is empty and awaits no earlier token (R44, R92). -/
def Cell.outsFree (c : Cell) (mask : Nat) : Bool :=
  (List.range 4).all (fun d => !inMask mask d || (c.out d == none && c.flight.all (fun f => !inMask f.mask d)))

/-- A write of accumulator k is still in flight (R47). -/
def Cell.accPending (c : Cell) (k : Nat) : Bool :=
  c.flight.any (fun f => match f.acc with | some (j, _) => j == k % 8 | none => false)

/-- A write of accumulator k that no dot product forwards is still in flight (R47). -/
def Cell.accPendingHard (c : Cell) (k : Nat) : Bool :=
  c.flight.any (fun f => !f.dot && (match f.acc with | some (j, _) => j == k % 8 | none => false))

/-- The accumulator value that a dot product takes: the newest pending one, or the one held (R47). -/
def Cell.accForward (c : Cell) (k : Nat) : Nat :=
  c.flight.foldl (fun v f => match f.acc with | some (j, x) => if j = k % 8 then x.toNat else v | none => v) (c.accBits k)

/-- A write of the previous-result register is still in flight, or a special-function request waits (R93). -/
def Cell.prevPending (c : Cell) : Bool := c.sfu.isSome || c.flight.any (fun f => f.prev.isSome)

/-- A load of a scale register is still in flight. -/
def Cell.scalePending (c : Cell) (b : Bool) : Bool :=
  c.flight.any (fun f => match f.scale with | some (x, _) => x == b | none => false)

/-! ### One firing -/

/-- What an instruction sees of its array as it fires: the current epoch and the keep-denormal option. -/
structure Env where
  epoch : Nat
  keepDenorm : Bool
  deriving DecidableEq, Repr

/-- The accumulator of a firing: stepped by SACC (R86). -/
def Cell.accIdx (c : Cell) (w : Nat) : Nat :=
  if isRType (iOp w) && iSAcc w then (iAcc w + c.run) % 8 else iAcc w

/-- OBA's address in a firing (R82, R86). -/
def Cell.addrA (c : Cell) (w : Nat) : Nat := if isRType (iOp w) && iSObA w then (iObA w + c.run) % 64 else iObA w

/-- OBB's address in a firing (R82, R86). -/
def Cell.addrB (c : Cell) (w : Nat) : Nat := if isRType (iOp w) && iSObB w then (iObB w + c.run) % 64 else iObB w

/-- The immediate as IMM supplies it: by FP32, by logical and shift, and by other opcodes (R83). -/
def immValue (w : Nat) : Nat :=
  let op := iOp w
  let x := iImm w
  if (decide (0x60 ≤ op) && decide (op ≤ 0x65)) || (decide (0x80 ≤ op) && decide (op ≤ 0x87)) || op == 0x52 then x * 2 ^ 20
  else if decide (0x70 ≤ op) && decide (op ≤ 0x75) then x
  else unsigned 32 (signed 12 x)

/-- The 64 bits that a select code supplies (R82). ACCP reads the accumulator in force and the next one, counted modulo 8, an odd
one that SACC has stepped to as well (DESIGN CHOICE, assumption 119). -/
def Cell.source (c : Cell) (w code : Nat) : Nat :=
  if code < 4 then (match c.queue code with | t :: _ => t.pay.toNat | [] => 0)
  else if code = 4 then c.obWord (c.addrA w)
  else if code = 5 then c.obWord (c.addrB w)
  else if code = 6 then c.accBits (c.accIdx w)
  else if code = 7 then immValue w
  else if code = 9 then c.prev.toNat
  else if code = 10 then c.nstat.toNat
  else if code = 11 then c.accBits (c.accIdx w) + c.accBits (c.accIdx w + 1) * 2 ^ 32
  else 0

/-- The token that a select code supplies, where it names a queue. -/
def Cell.srcToken (c : Cell) (code : Nat) : Option Token :=
  if code < 4 then (c.queue code).head? else none

/-- What a source reads has been written by all earlier instructions (R89 condition 3). -/
def Cell.srcWritten (c : Cell) (w code : Nat) : Bool :=
  if code = 6 then !c.accPending (c.accIdx w)
  else if code = 11 then !(c.accPending (c.accIdx w) || c.accPending (c.accIdx w + 1))
  else if code = 9 then !c.prevPending
  else true

/-- The queues that an instruction names. -/
def named (w : Nat) : List Nat := [iSrcA w, iSrcB w, iSrcC w].filter isQueue

/-- Queue sources with the consume bit set (R85). -/
def consumeBits (w : Nat) : List Nat :=
  (if iCA w && isQueue (iSrcA w) then [iSrcA w] else []) ++ (if iCB w && isQueue (iSrcB w) then [iSrcB w] else [])
    ++ (if iCC w && isQueue (iSrcC w) then [iSrcC w] else [])

/-- Peeked queue sources, which HOLD releases; of a sparse dot product source A alone (R86, R98). -/
def held (w : Nat) : List Nat :=
  (if isSparse (iOp w) then [iSrcA w] else [iSrcA w, iSrcB w, iSrcC w]).filter
    (fun d => isQueue d && !(consumeBits w).contains d)

/-- A token that carries last is at the head of one of these queues. -/
def Cell.anyLast (c : Cell) (ds : List Nat) : Bool :=
  ds.any (fun d => match c.queue d with | t :: _ => t.last | [] => false)

/-- The queues whose heads a firing consumes, and whether it is the last of its run (R85, R86). -/
def Cell.consumed (c : Cell) (w : Nat) : List Nat × Bool :=
  let base := consumeBits w
  let final := decide (c.run + 1 ≥ iCount w) || (iLT w && isRType (iOp w) && c.anyLast base)
  if isRType (iOp w) && iHold w && (final || (iSAcc w && c.accIdx w == 7)) then
    (base ++ held w, final || (iLT w && c.anyLast (base ++ held w)))
  else (base, final)

end Sys2Proof.Machine
end

