-- ==== Sys2Proof/Machine/Aborts.lean ====
section
/-! DEFINITION. The first fault of a task (R220, R298). -/

namespace Sys2Proof.Machine

/-- A fault of the task on array a: the first is kept for the completion record (R298), issue stops, and the array's
LastStatus takes it (R196). TASK_ABORT ends the task. With no active task only LastStatus changes. -/
def Work.taskFault (w : Work) (a : Nat) (f : Cause) : Work :=
  w.modArr a (fun x =>
    match x.task with
    | some t =>
      match t.fault with
      | some _ => x
      | none => { x with task := some { t with fault := some f }, stopped := true, lastStatus := f.status }
    | none => { x with lastStatus := f.status })

/-- The task on array a has a fault. -/
def Arr.faulted (x : Arr) : Bool :=
  match x.task with
  | some t => t.fault.isSome
  | none => false

/-! ### Where a descriptor stands (R203, R220) -/

/-- Bytes of a tile. -/
def Desc.tileBytes (d : Desc) : Nat := d.lineBytes * d.lines

/-- The engine field of a completion record: engine and template (R298). -/
def Engine.where_ (en : Engine) (e : Nat) : Nat := e + 4 * en.tmpl.getD 0

/-- Position of the stream that an engine works on: words for FEED and COLLECT, bytes issued for the others. -/
def Engine.position (en : Engine) : Nat := if en.desc.op = 5 ∨ en.desc.op = 6 then 8 * en.words else en.issued

/-- The tile that position k of a stream lies in. -/
def Desc.tileAt (d : Desc) (k : Nat) : Nat := if d.tileBytes = 0 then 0 else k / d.tileBytes

/-- The tile of a running descriptor that reads an address: the one whose source lines hold it, else the one the engine stands in. -/
def Engine.tileOf (en : Engine) (x : Nat) : Nat :=
  let d := en.desc
  ((List.range d.tiles).find? (fun t => (List.range d.lines).any (fun l =>
    let s := d.src + t * d.srcStride + l * d.srcPitch
    decide (s ≤ x) && decide (x < s + d.lineBytes)))).getD (d.tileAt (en.position - 1))

end Sys2Proof.Machine
end

