-- ==== Sys2Proof/Machine/Flags.lean ====
section
/-! DEFINITION. The numeric status register of a cell and the lane-format check (R49, R72). -/

namespace Sys2Proof.Machine

/-- Sticky flags set and flushed elements counted (R72). -/
def nstatSet (n : BitVec 32) (flags flushes : Nat) : BitVec 32 :=
  let low := field n.toNat 0 11 ||| flags % 2 ^ 11
  let cnt := min (field n.toNat 16 16 + flushes) 0xFFFF
  BitVec.ofNat 32 (low + cnt * 2 ^ 16)

/-- Flags set in a cell. -/
def Cell.flag (c : Cell) (flags : Nat) (flushes : Nat := 0) : Cell := { c with nstat := nstatSet c.nstat flags flushes }

/-- The lane code an element format arrives with (R48). -/
def laneOf (f : Fmt) : Nat :=
  if f = bf16 ∨ f = fp16 then 1 else if f = e4m3 ∨ f = e5m2 then 2 else if f = e2m3 ∨ f = e3m2 then 4
  else if f = e2m1 then 5 else 0

/-- LANE for a queue token whose code is not the class expected (R49); other sources are not checked. -/
def Cell.laneFlag (c : Cell) (code lane : Nat) : Nat :=
  match c.srcToken code with
  | some t => flagIf (t.lane != lane) fLANE
  | none => 0

/-- A subnormal BF16 or binary16 element as flush mode takes it, and whether it was flushed (R58). -/
def flushNum (f : Fmt) (keep : Bool) (x : Nat) : Num × Bool :=
  if !keep && (f == bf16 || f == fp16) && field x f.mw f.ew == 0 && field x 0 f.mw != 0 then
    (.fin (bit x (f.mw + f.ew)) 0 0, true)
  else (decodeNum f x, false)

end Sys2Proof.Machine
end

