-- ==== Sys2Proof/Machine/Firing.lean ====
section
/-! DEFINITION. The firing of a cell instruction: when the current instruction fires, what it consumes, where its
results go and which instruction comes next (R43, R44, R47, R79 to R94). -/

namespace Sys2Proof.Machine

/-- What one firing of an instruction would do: the queues whose heads it needs and consumes, the output registers it
writes, whether no wait of its opcode applies, the cell after it, the results it issues, its flags, and whether the run
ends with it. -/
structure Eff where
  need : List Nat := []
  deq : List Nat := []
  outs : Nat := 0
  ready : Bool := true
  cell : Cell := {}
  flights : List Flight := []
  flags : Nat := 0
  flushes : Nat := 0
  final : Bool := true
  /-- the instruction stays current without ending a firing of its run (R112, R114) -/
  again : Bool := false
  deriving DecidableEq, Repr

/-- The next instruction index after a run's last firing, and the loop counters (R87). -/
def Cell.sequence (c : Cell) (w : Nat) (last : Bool) : Cell :=
  let nxt := (c.idx + 1) % max c.progLen 1
  let m := iMode w
  if m = 1 then { c with idx := iTarget w }
  else if m = 2 then
    if iLc w then
      (if c.lc1 ≠ 0 then { c with lc1 := c.lc1 - 1, idx := iTarget w } else { c with lc1 := c.lc1Reload, idx := nxt })
    else
      (if c.lc0 ≠ 0 then { c with lc0 := c.lc0 - 1, idx := iTarget w } else { c with lc0 := c.lc0Reload, idx := nxt })
  else if m = 3 then { c with idx := if last then iTarget w else nxt }
  else { c with idx := nxt }

/-- Heads removed from the queues named. -/
def Cell.dequeue (c : Cell) : List Nat → Cell
  | [] => c
  | d :: ds => (c.setQueue d (c.queue d).tail).dequeue ds

/-- The predicate of a CMERGE is there to be read (R104, R108). -/
def Cell.predHere (c : Cell) (epoch w : Nat) : Bool :=
  if isQueue (iSrcC w) then (match c.head epoch (iSrcC w) with | some t => t.kind != 3 | none => false)
  else c.srcWritten w (iSrcC w)

/-- The queue that a CMERGE's predicate selects (R108). -/
def Cell.selected (c : Cell) (w : Nat) : Nat := if bit (c.source w (iSrcC w)) 0 then iSrcA w else iSrcB w

/-- The queues whose heads the current instruction examines: those it names, but of a CMERGE the predicate's, and the
selected one once the predicate is there (R94, R108). -/
def Cell.examined (c : Cell) (epoch w : Nat) : List Nat :=
  if iOp w = 0x9B then
    [iSrcC w].filter isQueue ++ (if c.predHere epoch w then [c.selected w] else [])
  else named w

/-- No examined queue shows a barrier token at its head, which would be cell fault 0x01 (R94). -/
def Cell.noBarrier (c : Cell) (epoch w : Nat) : Bool :=
  (c.examined epoch w).all (fun d => match c.head epoch d with | some t => t.kind != 3 | none => true)

/-- The cell after a firing, where the firing rule holds (R89). -/
def Cell.fired (c : Cell) (env : Env) (w : Nat) (e : Eff) : Option Cell :=
  if e.ready && c.outsFree e.outs && c.noBarrier env.epoch w && e.need.all (fun d => (c.head env.epoch d).isSome) then
    let last := c.anyLast e.deq
    let c1 := ((e.cell.flag e.flags e.flushes).dequeue e.deq)
    let c2 := { c1 with flight := c1.flight ++ e.flights }
    some (if e.again then c2 else if e.final then { c2 with run := 0 }.sequence w last else { c2 with run := c2.run + 1 })
  else none

/-- An array issues instructions: it is in RUN or DRAIN, issue is not stopped, and the present cycle is not gated (R94, R137, R143,
R396). -/
def Arr.issues (x : Arr) : Bool := (x.st == .run || x.st == .drain) && !x.stopped && !x.gated

/-- What the instructions of an array see of it. -/
def Arr.env (x : Arr) : Env := ⟨x.epoch, x.keepDenorm⟩

/-- The firing of cell p's current instruction, where its opcode is one of a row's and the firing rule holds; nothing
otherwise (R89, R90). -/
def fire (a p : Nat) (row : Nat → Bool) (op : Env → Cell → Nat → Eff) (w : Work) : Work :=
  let x := w.arr a
  let c := x.cell p
  let i := c.instr
  if x.issues && !c.parked && row (iOp i) then
    match c.fired x.env i (op x.env c i) with
    | some c' => w.modArr a (fun x => { x.modCell p (fun _ => c') with fired := true, moved := true, firedSince := true })
    | none => w
  else w

/-- What every instruction has in common: its queues, what it consumes, its sources written. -/
def Cell.base (c : Cell) (w : Nat) : Eff :=
  let (deq, fin) := c.consumed w
  { need := named w, deq := deq, final := fin, cell := c,
    ready := c.srcWritten w (iSrcA w) && c.srcWritten w (iSrcB w) && c.srcWritten w (iSrcC w) }

/-- The forwarded copy of source A's token, in the firing that consumes it (R85). -/
def Cell.forward (c : Cell) (w : Nat) (e : Eff) : Eff :=
  if iFwd w && e.deq.contains (iSrcA w) then
    match c.srcToken (iSrcA w) with
    | some t => { e with outs := e.outs ||| iDest w, flights := e.flights ++ [{ mask := iDest w, tok := t }] }
    | none => e
  else e

/-- A result token to dest, and to the previous-result register, which waits for a special-function request
(R83, R92, R93). -/
def Eff.emit (e : Eff) (w : Nat) (t : Token) : Eff :=
  { e with outs := e.outs ||| iDest w, ready := e.ready && e.cell.sfu.isNone,
           flights := e.flights ++ [{ mask := iDest w, tok := t, prev := some (t.pay, t.lane) }] }

/-- A token to a mask that leaves the previous-result register alone. -/
def Eff.emitOnly (e : Eff) (mask : Nat) (t : Token) : Eff :=
  { e with outs := e.outs ||| mask, flights := e.flights ++ [{ mask := mask, tok := t }] }

/-- A pending write of an accumulator. -/
def Eff.writeAcc (e : Eff) (k v : Nat) (dot : Bool) : Eff :=
  { e with flights := e.flights ++ [{ acc := some (k % 8, BitVec.ofNat 32 v), dot := dot }] }

/-- Bits [31:0] of a source. -/
def low32 (x : Nat) : Nat := x % 2 ^ 32

/-- The lane code emitted for a source: the queue token's, PREV's kept code, or the acc field (R83, R104). -/
def Cell.emitLane (c : Cell) (w code : Nat) : Nat :=
  match c.srcToken code with
  | some t => t.lane
  | none => if code = 9 then c.prevLane else iAcc w

end Sys2Proof.Machine
end

