-- ==== Sys2Proof/Machine/CellDot.lean ====
section
/-! DEFINITION. Dot products, dense and sparse, and the control and scale instructions: opcodes 0x00 to 0x4F
(R54 to R62, R95 to R98, R118 to R121). -/

namespace Sys2Proof.Machine

/-! ### Control -/

/-- NOP: a firing with no effect (R95). -/
def opNop (_ : Env) (c : Cell) (w : Nat) : Eff := c.base w

/-- BAR (R118): waits for a barrier token on every queue it names, for every earlier result and for every register
not bound to a path. -/
def barReady (env : Env) (c : Cell) (w : Nat) : Bool :=
  c.flight.isEmpty && c.sfu.isNone && (List.range 4).all (fun d => c.outBound d || c.out d == none) &&
    (named w).all (fun d => match c.head env.epoch d with
      | some t => t.kind == 3
      | none => false)

/-- Every barrier token that BAR consumes carries its ID (R118). -/
def barIds (env : Env) (c : Cell) (w : Nat) : Bool :=
  (named w).all (fun d => match c.head env.epoch d with
    | some t => field t.pay.toNat 0 12 == iImm w
    | none => true)

/-- A BAR that may fire meets a token with another ID (R94, R118). -/
def barWrong (env : Env) (c : Cell) (w : Nat) : Bool :=
  barReady env c w && !barIds env c w && c.outsFree (iDest w)

/-- A cell fault: issue stops in every cell of the array, and the task aborts with status 0x53, the code, the cell and
the instruction index (R94, R299). -/
def Work.faultCell (w : Work) (a p code : Nat) : Work :=
  (w.taskFault a { status := 0x53, detail := code, cell := p, idx := ((w.arr a).cell p).idx }).modArr a
    (fun x => { x with stopped := true })

/-- A BAR on a token with another ID has consumed the barrier tokens, and the cell faults with code 0x03 (R94, R118). -/
def Work.barFault (w : Work) (a p : Nat) : Work :=
  (w.modArr a (fun x => x.modCell p (fun c => c.dequeue (named c.instr)))).faultCell a p 0x03

/-- BAR fires: the tokens go, and one barrier token goes to each register of dest (R118). -/
def opBar (env : Env) (c : Cell) (w : Nat) : Option Cell :=
  if barReady env c w && barIds env c w && c.outsFree (iDest w) then
    let c1 := c.dequeue (named w)
    let c2 : Cell := { c1 with flight := c1.flight ++ [{ mask := iDest w, tok := mkTok env.epoch false 3 0 (iImm w) }] }
    some (c2.sequence w false)
  else none

/-- PTCFG: declared paths opened or closed (R119). -/
def opPtcfg (_ : Env) (c : Cell) (w : Nat) : Eff :=
  let upd := fun (b d : Nat) =>
    if bit (iImm w) (3 - d) && bit b 7 then b % 64 + 128 + ofBool (bit (iImm w) (7 - d)) * 64 else b
  { c.base w with cell := { c with paths := (List.range 4).map (fun d => (d, upd (c.pathByte d) d)) } }

/-- PARK: no further issue until the next load (R120). -/
def opPark (_ : Env) (c : Cell) (w : Nat) : Eff := { c.base w with cell := { c with parked := true } }

/-- SCLA and SCLB: a scale register loaded (R59, R121). -/
def opScale (b : Bool) (_ : Env) (c : Cell) (w : Nat) : Eff :=
  let v : Word := BitVec.ofNat 64 (c.source w (iSrcA w))
  let e := c.base w
  c.forward w { e with flights := e.flights ++ [{ scale := some (b, v) }], flags := c.laneFlag (iSrcA w) 7 }

/-! ### Dot products -/

/-- 8-bit and 6-bit formats of DOTMX8 by their code (R96). -/
def mxFmt (code : Nat) : Fmt := if code = 0 then e4m3 else if code = 1 then e5m2 else if code = 2 then e2m3 else e3m2

/-- The E8M0 code a block pointer selects (R59, R60). -/
def scaleAt (reg : Word) (ptr : Nat) : Nat := field reg.toNat (8 * ptr) 8

/-- A side's element count after `n` more elements: count in the block, block pointer, wrapped (R59). -/
def countElems (cnt ptr : Nat) (wrapped : Bool) (n : Nat) : Nat × Nat × Bool :=
  if cnt + n < 32 then (cnt + n, ptr, wrapped)
  else (cnt + n - 32, (ptr + 1) % 8, wrapped || ptr == 7)

/-- Elements that sources consume in a firing: on dequeue for a queue, on every firing otherwise (R97). -/
def countOf (code n : Nat) (deq : List Nat) : Nat :=
  if code = 15 then 0 else if isQueue code then (if deq.contains code then n else 0) else n

/-- SCA counts its elements. -/
def Cell.countA (c : Cell) (n : Nat) : Cell :=
  let (x, p, wr) := countElems c.cntA c.ptrA (c.wrapA && !(c.cntA == 0 && n != 0)) n
  { c with cntA := x, ptrA := p, wrapA := wr }

/-- SCB counts its elements. -/
def Cell.countB (c : Cell) (n : Nat) : Cell :=
  let (x, p, wr) := countElems c.cntB c.ptrB (c.wrapB && !(c.cntB == 0 && n != 0)) n
  { c with cntB := x, ptrB := p, wrapB := wr }

/-- STALE for a block that starts after a wrap with no load (R59). -/
def staleFlag (cnt : Nat) (wrapped : Bool) : Nat := flagIf (cnt == 0 && wrapped) fSTALE

/-- The pairs of a sparse firing: two stored values of every group of four dense positions, by the group's metadata;
a group whose positions do not rise gives none, and SMETA (R61, R62). -/
def sparsePairs {A B : Type} (dense : List A) (stored : List B) (md : Nat) : Nat → List (A × B) × Bool
  | 0 => ([], false)
  | g + 1 =>
    let (rest, bad) := sparsePairs dense stored md g
    let p0 := field md (4 * g) 2
    let p1 := field md (4 * g + 2) 2
    if p0 < p1 then
      match dense[4 * g + p0]?, stored[2 * g]?, dense[4 * g + p1]?, stored[2 * g + 1]? with
      | some a0, some b0, some a1, some b1 => (rest ++ [(a0, b0), (a1, b1)], bad)
      | _, _, _, _ => (rest, bad)
    else (rest, true)

/-- The metadata slice of a sparse firing, for n stored values: 2n bits (R62). -/
def Cell.metaSlice (c : Cell) (w n : Nat) : Nat :=
  let s := 64 / (2 * n)
  field (c.obWord (iObA w + c.run / s)) (2 * n * (c.run % s)) (2 * n)

/-- The element pairs of a firing as raw element codes, and whether SMETA is set (R55, R61). -/
def Cell.rawPairs (c : Cell) (w : Nat) (sparse : Bool) (n wa wb : Nat) : List (Nat × Nat) × Bool :=
  let a := elems wa n (c.source w (iSrcA w))
  let b := elems wb n (c.source w (iSrcB w))
  if sparse then sparsePairs (a ++ elems wa n (c.source w (iSrcC w))) b (c.metaSlice w n) (n / 2)
  else (a.zip b, false)

/-- LANE over the sources of a dot product (R49). -/
def Cell.dotLanes (c : Cell) (w : Nat) (sparse : Bool) (la lb : Nat) : Nat :=
  c.laneFlag (iSrcA w) la ||| c.laneFlag (iSrcB w) lb ||| (if sparse then c.laneFlag (iSrcC w) la else 0)

/-- The accumulator's interlock and forwarding around a dot product's result (R47), and FWD (R85). -/
def Cell.dotEff (c : Cell) (w : Nat) (value flags flushes : Nat) (ready : Bool) (cell : Cell) : Eff :=
  let e := c.base w
  let k := c.accIdx w
  c.forward w ({ e with ready := e.ready && ready && !c.accPendingHard k, cell := cell, flags := flags,
                        flushes := flushes }.writeAcc k value true)

/-- A floating-point dot product: formats of A and B, n elements, scaled as MX or not, sparse or not
(R54, R55, R57 to R62). -/
def opDotF (fa fb : Fmt) (n : Nat) (mx sparse : Bool) (env : Env) (c : Cell) (w : Nat) : Eff :=
  let (raw, bad) := c.rawPairs w sparse n fa.width fb.width
  let fl := raw.map (fun p => (flushNum fa env.keepDenorm p.1, flushNum fb env.keepDenorm p.2))
  let flushes := (fl.map (fun p => ofBool p.1.2 + ofBool p.2.2)).sum
  let scales := if mx then some (scaleAt c.sca c.ptrA, scaleAt c.scb c.ptrB) else none
  let (v, flags) := dotFloat (fl.map (fun p => (p.1.1, p.2.1))) (c.accForward (c.accIdx w)) scales
  let deq := (c.consumed w).1
  let dense := if sparse then 2 * n else n
  let c' := if mx then
      (c.countA (countOf (iSrcA w) n deq + (if sparse then countOf (iSrcC w) n deq else 0))).countB (countOf (iSrcB w) dense deq)
    else c
  let stale := if mx then staleFlag c.cntA c.wrapA ||| staleFlag c.cntB c.wrapB else 0
  c.dotEff w v (flags ||| flagIf (flushes != 0) fFLUSH ||| flagIf bad fSMETA ||| stale
      ||| c.dotLanes w sparse (laneOf fa) (laneOf fb)) flushes
    (!mx || !(c.scalePending false || c.scalePending true)) c'

/-- An integer dot product of elements of width ew (R56). -/
def opDotI (ew n lane : Nat) (sparse : Bool) (_ : Env) (c : Cell) (w : Nat) : Eff :=
  let (raw, bad) := c.rawPairs w sparse n ew ew
  let (v, flags) := dotInt (raw.map (fun p => (signed ew p.1, signed ew p.2))) (c.accForward (c.accIdx w))
  c.dotEff w v (flags ||| flagIf bad fSMETA ||| c.dotLanes w sparse lane lane) 0 true c

/-- A 16-bit format of DOTH by its bit: BF16 or binary16 (R96). -/
def halfFmt (b : Bool) : Fmt := if b then fp16 else bf16

/-- An 8-bit format of DOTF8 by its bit: E4M3 or E5M2 (R96). -/
def f8Fmt (b : Bool) : Fmt := if b then e5m2 else e4m3

def opDoth (sparse : Bool) (env : Env) (c : Cell) (w : Nat) : Eff :=
  opDotF (halfFmt (bit (iOp w) 0)) (halfFmt (bit (iOp w) 1)) 4 false sparse env c w
def opDotf8 (sparse : Bool) (env : Env) (c : Cell) (w : Nat) : Eff :=
  opDotF (f8Fmt (bit (iOp w) 0)) (f8Fmt (bit (iOp w) 1)) 8 false sparse env c w
def opDotmx8 (sparse : Bool) (env : Env) (c : Cell) (w : Nat) : Eff :=
  opDotF (mxFmt (field (iOp w) 2 2)) (mxFmt (field (iOp w) 0 2)) 8 true sparse env c w

/-- Opcodes from `lo` to `hi`. -/
def ops (lo hi op : Nat) : Bool := decide (lo ≤ op) && decide (op ≤ hi)

/-! ### The meanings -/

/-- NOP (R95). -/
def execNop (a p : Nat) (s : State) : Host.Outcome State Fault Refusal := run (fire a p (ops 0x00 0x00) opNop) s

/-- BAR (R118). -/
def execBar (a p : Nat) (s : State) : Host.Outcome State Fault Refusal :=
  run (fun w =>
    let x := w.arr a
    let c := x.cell p
    if x.issues && !c.parked && iOp c.instr == 0x01 then
      match opBar x.env c c.instr with
      | some c' => w.modArr a (fun x => { x.modCell p (fun _ => c') with fired := true, moved := true, firedSince := true })
      | none => if barWrong x.env c c.instr then w.barFault a p else w
    else w) s

/-- PTCFG (R119). -/
def execPtcfg (a p : Nat) (s : State) : Host.Outcome State Fault Refusal := run (fire a p (ops 0x02 0x02) opPtcfg) s
/-- PARK (R120). -/
def execPark (a p : Nat) (s : State) : Host.Outcome State Fault Refusal := run (fire a p (ops 0x03 0x03) opPark) s
/-- SCLA (R121). -/
def execScla (a p : Nat) (s : State) : Host.Outcome State Fault Refusal :=
  run (fire a p (ops 0x04 0x04) (opScale false)) s
/-- SCLB (R121). -/
def execSclb (a p : Nat) (s : State) : Host.Outcome State Fault Refusal :=
  run (fire a p (ops 0x05 0x05) (opScale true)) s
/-- DOTH (R96). -/
def execDoth (a p : Nat) (s : State) : Host.Outcome State Fault Refusal :=
  run (fire a p (ops 0x10 0x13) (opDoth false)) s
/-- DOTF8 (R96). -/
def execDotf8 (a p : Nat) (s : State) : Host.Outcome State Fault Refusal :=
  run (fire a p (ops 0x14 0x17) (opDotf8 false)) s
/-- DOTI8 (R56). -/
def execDoti8 (a p : Nat) (s : State) : Host.Outcome State Fault Refusal :=
  run (fire a p (ops 0x18 0x18) (opDotI 8 8 3 false)) s
/-- DOTI4 (R56). -/
def execDoti4 (a p : Nat) (s : State) : Host.Outcome State Fault Refusal :=
  run (fire a p (ops 0x19 0x19) (opDotI 4 16 6 false)) s
/-- DOTMX4 (R60). -/
def execDotmx4 (a p : Nat) (s : State) : Host.Outcome State Fault Refusal :=
  run (fire a p (ops 0x1A 0x1A) (opDotF e2m1 e2m1 16 true false)) s
/-- DOTMX8 (R60). -/
def execDotmx8 (a p : Nat) (s : State) : Host.Outcome State Fault Refusal :=
  run (fire a p (ops 0x20 0x2F) (opDotmx8 false)) s
/-- SDOTH (R62). -/
def execSdoth (a p : Nat) (s : State) : Host.Outcome State Fault Refusal :=
  run (fire a p (ops 0x30 0x33) (opDoth true)) s
/-- SDOTF8 (R62). -/
def execSdotf8 (a p : Nat) (s : State) : Host.Outcome State Fault Refusal :=
  run (fire a p (ops 0x34 0x37) (opDotf8 true)) s
/-- SDOTI8 (R62). -/
def execSdoti8 (a p : Nat) (s : State) : Host.Outcome State Fault Refusal :=
  run (fire a p (ops 0x38 0x38) (opDotI 8 8 3 true)) s
/-- SDOTI4 (R62). -/
def execSdoti4 (a p : Nat) (s : State) : Host.Outcome State Fault Refusal :=
  run (fire a p (ops 0x39 0x39) (opDotI 4 16 6 true)) s
/-- SDOTMX4 (R62). -/
def execSdotmx4 (a p : Nat) (s : State) : Host.Outcome State Fault Refusal :=
  run (fire a p (ops 0x3A 0x3A) (opDotF e2m1 e2m1 16 true true)) s
/-- SDOTMX8 (R62). -/
def execSdotmx8 (a p : Nat) (s : State) : Host.Outcome State Fault Refusal :=
  run (fire a p (ops 0x40 0x4F) (opDotmx8 true)) s

end Sys2Proof.Machine
end

