-- ==== Sys2Proof/Machine/Special.lean ====
section
/-! DEFINITION. The special functions of R71: their values in fixed point, the bounds of the table, the special cases and
the flags. -/

namespace Sys2Proof.Machine

/-! ### Values with 256 fraction bits -/

/-- One. -/
def fxOne : Int := 2 ^ 256

/-- A product. -/
def fxMul (a b : Int) : Int := a * b / 2 ^ 256

/-- A quotient. -/
def fxDiv (a b : Int) : Int := a * 2 ^ 256 / b

/-- An FP32 number, exactly. -/
def fxNum (n : Bool) (m : Nat) (e : Int) : Int := scaled n m e (-256)

/-- The first terms of the exponential series, from the k-th on. -/
def expTerms (y : Int) : Nat → Nat → Int
  | 0, _ => fxOne
  | n + 1, k => fxOne + fxMul y (expTerms y n (k + 1)) / k

/-- A value squared `n` times. -/
def squared : Nat → Int → Int
  | 0, x => x
  | n + 1, x => squared n (fxMul x x)

/-- The exponential. -/
def fxExp (x : Int) : Int := squared 8 (expTerms (x / 2 ^ 8) 45 1)

/-- The series of the inverse hyperbolic tangent over the square of its argument, from the k-th term on. -/
def atanhTerms (zz : Int) : Nat → Nat → Int
  | 0, _ => 0
  | n + 1, k => fxOne / (2 * k + 1) + fxMul zz (atanhTerms zz n (k + 1))

/-- The inverse hyperbolic tangent of a value of at most a third. -/
def fxAtanh (z : Int) : Int := fxMul z (atanhTerms (fxMul z z) 90 0)

/-- The binary logarithm of m · 2^e. -/
def fxLog2 (m : Nat) (e : Int) : Int :=
  let v := fxNum false m (-(Nat.log2 m : Int))
  (e + Nat.log2 m) * fxOne + fxDiv (fxAtanh (fxDiv (v - fxOne) (v + fxOne))) (fxAtanh (fxOne / 3))

/-- The value of a function on a finite number outside the table's special cases: R117's codes. -/
def sfuValue (fn : Nat) (n : Bool) (m : Nat) (e : Int) : Int :=
  let x := fxNum n m e
  if fn = 0 then fxExp x
  else if fn = 1 then fxLog2 m e
  else if fn = 2 then fxDiv fxOne x
  else if fn = 3 then (isqrt (2 ^ 768 / x.toNat) 320 0 : Nat)
  else if fn = 4 then fxDiv (fxExp (2 * x) - fxOne) (fxExp (2 * x) + fxOne)
  else fxDiv (fxExp x) (fxOne + fxExp x)

/-- One ulp of FP32 at a value. -/
def fxUlp (v : Int) : Int := 2 ^ (Nat.log2 v.natAbs - 23)

/-- The greatest error that the table allows, beside one unit for the fixed point (R71). -/
def sfuBound (fn : Nat) (x v : Int) : Int :=
  if fn = 0 then 2 * fxUlp v
  else if fn = 1 then (if fxOne ≤ 2 * x ∧ x ≤ 2 * fxOne then max (2 * fxUlp v) (2 ^ 234) else 2 * fxUlp v)
  else if fn ≤ 3 then fxUlp v
  else if fn = 4 then 2 ^ 234
  else 2 ^ 233

/-- FP32 bits that lie within the table's bound of a value. -/
def sfuWithin (fn : Nat) (x v : Int) (y : Nat) : Bool :=
  match dec32 y with
  | .fin n m e => decide ((fxNum n m e - v).natAbs ≤ sfuBound fn x v + 1)
  | _ => false

/-- The bits of a result: those of the unit's fixed approximation, which the spec leaves open within the bounds; a constant
that breaks them counts for nothing (assumption 6). -/
def sfuBits (fn : Nat) (b : Nat) (x v : Int) : Nat :=
  let y := (Config.sfuApprox fn (BitVec.ofNat 32 b)).toNat
  if sfuWithin fn x v y then y else (finish fp32 .rne (decide (v < 0)) v.natAbs (-256)).1

/-! ### Special cases and flags -/

/-- An FP32 number compared with a decimal given in thousandths. -/
def ltMilli (x : Num) (milli : Int) : Bool :=
  match x with
  | .nan => false
  | .inf n => n
  | .fin n m e =>
    let v : Int := if n then -(m : Int) else m
    if e < 0 then decide (v * 1000 < milli * 2 ^ (-e).toNat) else decide (v * 2 ^ e.toNat * 1000 < milli)

/-- An FP32 number above a decimal given in thousandths. -/
def gtMilli (x : Num) (milli : Int) : Bool :=
  match x with
  | .nan => false
  | .inf n => !n
  | .fin n m e => ltMilli (.fin (!n) m e) (-milli)

/-- The special cases of R71's table for a number that is no NaN: result and flags; none where the unit's fixed
approximation gives the result. -/
def sfuSpecial (fn : Nat) (x : Num) : Option (Nat × Nat) :=
  let one := 0x3F800000
  let pinf := infBits fp32 false
  if fn = 0 then
    match x with
    | .inf n => some (if n then 0 else pinf, 0)
    | _ => if gtMilli x 88722 then some (pinf, fOVF) else if ltMilli x (-87336) then some (0, fSFU) else none
  else if fn = 1 then
    match x with
    | .inf n => some (if n then (canonNan fp32, fINV) else (pinf, 0))
    | .fin n m _ => if m = 0 then some (infBits fp32 true, 0) else if n then some (canonNan fp32, fINV) else none
    | .nan => none
  else if fn = 2 then
    match x with
    | .inf n => some (ofBool n * 2 ^ 31, 0)
    | .fin n m _ => if m = 0 then some (infBits fp32 n, 0) else none
    | .nan => none
  else if fn = 3 then
    match x with
    | .inf n => some (if n then (canonNan fp32, fINV) else (0, 0))
    | .fin n m _ => if m = 0 then some (infBits fp32 n, 0) else if n then some (canonNan fp32, fINV) else none
    | .nan => none
  else if fn = 4 then
    match x with
    | .inf n => some (one + ofBool n * 2 ^ 31, 0)
    | _ => if !ltMilli x 9011 then some (one, 0) else if !gtMilli x (-9011) then some (one + 2 ^ 31, 0) else none
  else
    match x with
    | .inf n => some (if n then 0 else one, 0)
    | _ => if !ltMilli x 17330 then some (one, 0) else if !gtMilli x (-87336) then some (0, fSFU) else none

/-- The special-function unit's result and flags (R71): a denormal input counts as zero; a result below the normal range
is returned as zero of the same sign, with SFU. -/
def sfuResult (fn : Nat) (x : Half) : Nat × Nat :=
  let b := x.toNat
  if fIsNan b then (canonNan fp32, fNANIN)
  else
    let denorm := field b 23 8 == 0 && field b 0 23 != 0
    let b' := if denorm then field b 31 1 * 2 ^ 31 else b
    let fl := flagIf denorm fSFU
    match sfuSpecial fn (dec32 b'), dec32 b' with
    | some (v, f), _ => (v, f ||| fl)
    | none, .fin n m e =>
      let v := sfuValue fn n m e
      let y := sfuBits fn b' (fxNum n m e) v
      if field y 23 8 = 0 ∧ (field y 0 23 ≠ 0 ∨ (v ≠ 0 ∧ v.natAbs < 2 ^ 130)) then (field y 31 1 * 2 ^ 31, fSFU ||| fl) else (y, fl)
    | none, _ => (canonNan fp32, fNANIN)

end Sys2Proof.Machine
end

