-- ==== Sys2Proof/Machine/CellAlu.lean ====
section
/-! DEFINITION. Accumulator drains and loads, the scalar ALU, selection, steering, conversion, moves and the
special-function request: opcodes 0x50 to 0xB8 (R63 to R71, R99 to R117). -/

namespace Sys2Proof.Machine

/-! ### Accumulators (R99 to R101, R110) -/

/-- Bit k of the immediate field. -/
def immBit (w k : Nat) : Bool := bit (iImm w) k

/-- Accumulators cleared, from acc, `n` of them. -/
def Cell.clearAccs (c : Cell) (k : Nat) : Nat → Cell
  | 0 => c
  | n + 1 => (c.clearAccs k n).setAcc (k + n) 0

/-- No write of the `n` accumulators from k is in flight. -/
def Cell.accsWritten (c : Cell) (k n : Nat) : Bool := (List.range n).all (fun i => !c.accPending (k + i))

/-- The last bits of the queue tokens a firing consumes, ORed (R80). -/
def Cell.lastOf (c : Cell) (e : Eff) : Bool := c.anyLast e.deq

/-- DRAIN (R99). -/
def opDrain (env : Env) (c : Cell) (w : Nat) : Eff :=
  let k := iAcc w
  let n := if immBit w 1 then 2 else 1
  let pay := c.accBits k + (if immBit w 1 then c.accBits (k + 1) * 2 ^ 32 else 0)
  let e := c.base w
  Eff.emit { e with ready := e.ready && c.accsWritten k n, cell := if immBit w 0 then c.clearAccs k n else c } w
    (mkTok env.epoch (immBit w 2) 0 0 pay)

/-- The target of DRAINCV: format, accumulators read, lane code (R100). -/
def drainFmt (code : Nat) : CvtFmt × Nat × Nat :=
  if code = 0 then (.flt bf16, 4, 1) else if code = 1 then (.flt fp16, 4, 1) else if code = 2 then (.flt e4m3, 8, 2)
  else if code = 3 then (.flt e5m2, 8, 2) else (.int 8, 8, 3)

/-- DRAINCV (R100). -/
def opDraincv (env : Env) (c : Cell) (w : Nat) : Eff :=
  let code := field (iImm w) 0 3
  let (f, n, lane) := drainFmt code
  let k := iAcc w
  let src : CvtFmt := if code = 4 then .int 32 else .flt fp32
  let vals := (List.range n).map (fun i => readElem src (c.accBits (k + i)))
  let (xs, flags, g) := convertAll f (immBit w 3) (immBit w 4) c.sr vals
  let c1 : Cell := { (if immBit w 5 then c.clearAccs k n else c) with sr := g }
  let e := c.base w
  Eff.emit { e with ready := e.ready && c.accsWritten k n, cell := c1, flags := flags } w
    (mkTok env.epoch (immBit w 6) 0 lane (joinElems f.width xs))

/-- ACCLD (R101). -/
def opAccld (_ : Env) (c : Cell) (w : Nat) : Eff :=
  let e := c.base w
  c.forward w (Eff.writeAcc { e with ready := e.ready && !c.accPending (iAcc w) } (iAcc w) (low32 (c.source w (iSrcA w))) false)

/-- An addition into an accumulator: FP32 to nearest even, or integer with saturation (R63, R101, R110). -/
def accSum (int : Bool) (x y : Nat) : Nat × Nat :=
  if int then clamp32 (signed 32 x + signed 32 y) else fAdd x y

/-- ACCADD (R101). -/
def opAccadd (_ : Env) (c : Cell) (w : Nat) : Eff :=
  let k := iAcc w
  let n := if immBit w 1 then 2 else 1
  let x := c.source w (iSrcA w)
  let (v0, f0) := accSum (immBit w 0) (c.accBits k) (low32 x)
  let (v1, f1) := accSum (immBit w 0) (c.accBits (k + 1)) (low32 (x / 2 ^ 32))
  let e := c.base w
  let e := Eff.writeAcc { e with ready := e.ready && c.accsWritten k n, flags := f0 ||| (if immBit w 1 then f1 else 0) } k v0 false
  c.forward w (if immBit w 1 then e.writeAcc (k + 1) v1 false else e)

/-- One lane of RFWD (R110). -/
def rfwdLane (int : Bool) (code x y : Nat) : Nat × Nat :=
  if code = 0 then accSum int x y
  else if code = 1 then (if int then (if signed 32 x < signed 32 y then y else x, 0) else fMax x y)
  else (if int then (if signed 32 x < signed 32 y then x else y, 0) else fMin x y)

/-- RFWD (R110). -/
def opRfwd (env : Env) (c : Cell) (w : Nat) : Eff :=
  let k := iAcc w
  let n := if immBit w 1 then 2 else 1
  let x := c.source w (iSrcA w)
  let code := field (iImm w) 3 2
  let (v0, f0) := rfwdLane (immBit w 0) code (low32 x) (c.accBits k)
  let (v1, f1) := rfwdLane (immBit w 0) code (low32 (x / 2 ^ 32)) (c.accBits (k + 1))
  let e := c.base w
  let pay := if immBit w 1 then v0 + v1 * 2 ^ 32 else v0
  Eff.emit { e with ready := e.ready && c.accsWritten k n, cell := if immBit w 2 then c.clearAccs k n else c,
                    flags := f0 ||| (if immBit w 1 then f1 else 0) } w (mkTok env.epoch (c.lastOf e) 0 0 pay)

/-! ### The scalar ALU (R63, R102, R103) -/

/-- A scalar operation on bits [31:0] of A, B and C: a scalar-word token of the kind given. -/
def opScalar (kind : Nat) (f : Nat → Nat → Nat → Nat × Nat) (env : Env) (c : Cell) (w : Nat) : Eff :=
  let (v, flags) := f (low32 (c.source w (iSrcA w))) (low32 (c.source w (iSrcB w))) (low32 (c.source w (iSrcC w)))
  let e := c.base w
  Eff.emit { e with flags := flags } w (mkTok env.epoch (c.lastOf e) kind 0 (low32 v))

/-- An integer result with no flag. -/
def plain (f : Nat → Nat → Nat) (x y _ : Nat) : Nat × Nat := (f x y % 2 ^ 32, 0)

def iAddBits (x y : Nat) : Nat := x + y
def iSubBits (x y : Nat) : Nat := x + (2 ^ 32 - y)
def iMulBits (x y : Nat) : Nat := x * y
def iMinBits (x y : Nat) : Nat := if signed 32 x ≤ signed 32 y then x else y
def iMaxBits (x y : Nat) : Nat := if signed 32 x ≤ signed 32 y then y else x
def shlBits (x y : Nat) : Nat := x * 2 ^ (y % 32)
def shrBits (x y : Nat) : Nat := x / 2 ^ (y % 32)
def sarBits (x y : Nat) : Nat := unsigned 32 (signed 32 x / 2 ^ (y % 32))

/-- FCMP.cc: a control token holding 1 or 0 (R103). -/
def opFcmp (env : Env) (c : Cell) (w : Nat) : Eff :=
  opScalar 1 (fun x y _ => let (r, fl) := fCmp (field (iOp w) 0 3) x y; (ofBool r, fl)) env c w

/-- ICMP.cc (R103). -/
def opIcmp (env : Env) (c : Cell) (w : Nat) : Eff :=
  opScalar 1 (fun x y _ => (ofBool (iCmp (field (iOp w) 0 3) x y), 0)) env c w

/-! ### Select, steer, gate, merge, replicate (R104 to R109) -/

/-- The predicate: bit 0 of source C (R104). -/
def Cell.pred (c : Cell) (w : Nat) : Bool := bit (c.source w (iSrcC w)) 0

/-- SEL (R104). -/
def opSel (env : Env) (c : Cell) (w : Nat) : Eff :=
  let code := if c.pred w then iSrcA w else iSrcB w
  let e := c.base w
  e.emit w (mkTok env.epoch (c.lastOf e) 0 (c.emitLane w code) (c.source w code))

/-- Source A's token, which STEER, GATE and the merges pass on unchanged. -/
def Cell.tokenA (c : Cell) (w : Nat) : Token := (c.srcToken (iSrcA w)).getD ⟨0, 0⟩

/-- STEER (R105): both masks must be free; the chosen one takes the token. -/
def opSteer (_ : Env) (c : Cell) (w : Nat) : Eff :=
  let mask := if c.pred w then iDest w else field (iImm w) 0 4
  let e := (c.base w).emitOnly mask (c.tokenA w)
  { e with outs := iDest w ||| field (iImm w) 0 4 }

/-- GATE (R106): imm[0] inverts the predicate; a token not forwarded is discarded. -/
def opGate (_ : Env) (c : Cell) (w : Nat) : Eff :=
  if xor (c.pred w) (immBit w 0) then (c.base w).emitOnly (iDest w) (c.tokenA w) else c.base w

/-- MERGE (R107): takes from A or B, whichever holds a token; both: alternate, or A first. One mark to each cell says which
queue the previous MERGE took from, whichever instruction and mode it was (DESIGN CHOICE, assumption 117). -/
def opMerge (env : Env) (c : Cell) (w : Nat) : Eff :=
  let qa := iSrcA w
  let qb := iSrcB w
  let hasA := (c.head env.epoch qa).isSome
  let hasB := (c.head env.epoch qb).isSome
  let takeA := hasA && (!hasB || immBit w 0 || c.mergedB)
  let q := if takeA then qa else qb
  ({ need := [q], deq := [q], ready := hasA || hasB, cell := { c with mergedB := !takeA } } : Eff).emitOnly (iDest w)
    ((c.srcToken q).getD ⟨0, 0⟩)

/-- CMERGE (R108): the predicate chooses the queue; the other is not examined. -/
def opCmerge (_ : Env) (c : Cell) (w : Nat) : Eff :=
  let q := c.selected w
  let qs := q :: (if isQueue (iSrcC w) then [iSrcC w] else [])
  ({ need := qs, deq := qs, ready := c.srcWritten w (iSrcC w), cell := c } : Eff).emitOnly (iDest w)
    ((c.srcToken q).getD ⟨0, 0⟩)

/-- REPL (R109): one copy a firing; the last copy consumes A and carries its last bit. -/
def opRepl (env : Env) (c : Cell) (w : Nat) : Eff :=
  let final := decide (c.run + 1 ≥ iCount w)
  let t := c.srcToken (iSrcA w)
  let kind := match t with | some t => t.kind | none => 0
  let last := match t with | some t => final && t.last | none => false
  let e := c.base w
  Eff.emit { e with deq := if final then consumeBits w else [], final := final } w
    (mkTok env.epoch last kind (c.emitLane w (iSrcA w)) (c.source w (iSrcA w)))

/-! ### Convert and pack (R111 to R114) -/

/-- A CVT format by its code, with its elements' lane code (R111, R48). -/
def cvtFmt (code : Nat) : CvtFmt × Nat :=
  if code = 0 then (.flt fp32, 0) else if code = 1 then (.flt bf16, 1) else if code = 2 then (.flt fp16, 1)
  else if code = 3 then (.flt e4m3, 2) else if code = 4 then (.flt e5m2, 2) else if code = 5 then (.int 32, 0)
  else if code = 6 then (.int 8, 3) else (.int 4, 6)

/-- Elements per token of a CVT format (R112). -/
def perToken (f : CvtFmt) : Nat := 64 / f.width

/-- CVT (R111, R112): one token to one, several into a staged one, or one into several; a firing that only stages elements
leaves the previous-result register (R93; assumption 92). One staging register to each cell gathers the codes of every narrowing
CVT, packed at the width of the one that fires (DESIGN CHOICE, assumption 120). -/
def opCvt (env : Env) (c : Cell) (w : Nat) : Eff :=
  let (fs, laneS) := cvtFmt (field (iImm w) 0 4)
  let (ft, laneT) := cvtFmt (field (iImm w) 4 4)
  let p := perToken fs
  let q := perToken ft
  let src := (elems fs.width p (c.source w (iSrcA w))).map (readElem fs)
  let e := c.base w
  let lane := c.laneFlag (iSrcA w) laneS
  let last := c.lastOf e
  if p = q then
    let (xs, flags, g) := convertAll ft (immBit w 8) (immBit w 9) c.sr src
    Eff.emit { e with cell := { c with sr := g }, flags := flags ||| lane } w (mkTok env.epoch last 0 laneT (joinElems ft.width xs))
  else if p < q then
    let (xs, flags, g) := convertAll ft (immBit w 8) (immBit w 9) c.sr src
    let all := c.stage ++ xs
    if all.length ≥ q ∨ last then
      Eff.emit { e with cell := { c with sr := g, stage := [] }, flags := flags ||| lane } w
        (mkTok env.epoch last 0 laneT (joinElems ft.width all))
    else { e with cell := { c with sr := g, stage := all }, flags := flags ||| lane }
  else
    let final := decide ((c.group + 1) * q ≥ p)
    let (xs, flags, g) := convertAll ft (immBit w 8) (immBit w 9) c.sr ((src.drop (c.group * q)).take q)
    let tl := match c.srcToken (iSrcA w) with | some t => final && t.last | none => false
    Eff.emit { e with deq := if final then e.deq else [], again := !final, flags := flags ||| lane,
                      cell := { c with sr := g, group := if final then 0 else c.group + 1 } } w
      (mkTok env.epoch tl 0 laneT (joinElems ft.width xs))

/-- An MX element format by its code (R113). -/
def packFmt (code : Nat) : Fmt :=
  if code = 0 then e4m3 else if code = 1 then e5m2 else if code = 2 then e2m3 else if code = 3 then e3m2 else e2m1

/-- Element tokens of a pack: `per` elements of width ew to a token; the final one carries last. -/
def packTokens (epoch lane ew per : Nat) (last : Bool) (xs : List Nat) : Nat → List Token
  | 0 => []
  | n + 1 =>
    packTokens epoch lane ew per false xs n ++ [mkTok epoch last 0 lane (joinElems ew ((xs.drop (n * per)).take per))]

/-- MXPACK (R66, R113). -/
def opMxpack (env : Env) (c : Cell) (w : Nat) : Eff :=
  let f := packFmt (field (iImm w) 0 3)
  let mask := field (iImm w) 4 4
  let last := immBit w 8
  let vals := (List.range 32).map (fun i => dec32 (field (c.obWord (iObA w + i / 2)) (32 * (i % 2)) 32))
  let (xs, scale, flags, g) := mxPack f (immBit w 3) c.sr vals
  let per := if f.width = 4 then 16 else 8
  let toks := packTokens env.epoch (laneOf f) f.width per last xs (32 / per)
  let sc := c.scaleOut ++ [scale]
  let full := decide (sc.length ≥ 8) || last
  let sctok := mkTok env.epoch last 0 7 (joinElems 8 (sc ++ List.replicate (8 - sc.length) 0x7F))
  let e := c.base w
  { e with outs := iDest w ||| mask, flags := flags,
           cell := { c with sr := g, scaleOut := if full then [] else sc },
           flights := toks.map (fun t => { mask := iDest w, tok := t }) ++ (if full then [{ mask := mask, tok := sctok }] else []) }

/-- MXUNPK (R67, R114). -/
def opMxunpk (env : Env) (c : Cell) (w : Nat) : Eff :=
  let f := packFmt (field (iImm w) 0 3)
  let n := if f.width = 4 then 16 else 8
  let final := decide ((c.group + 1) * 2 ≥ n)
  let pair := (((elems f.width n (c.source w (iSrcA w))).drop (c.group * 2)).take 2).map (mxUnpack f (scaleAt c.sca c.ptrA))
  let flags := pair.foldl (fun a x => a ||| x.2) 0
  let tl := match c.srcToken (iSrcA w) with | some t => final && t.last | none => false
  let e := c.base w
  let c1 := if final then c.countA n else c
  Eff.emit { e with deq := if final then e.deq else [], again := !final, ready := e.ready && !c.scalePending false,
                    flags := flags ||| c.laneFlag (iSrcA w) (laneOf f) ||| staleFlag c.cntA c.wrapA,
                    cell := { c1 with group := if final then 0 else c.group + 1 } } w
    (mkTok env.epoch tl 0 0 (joinElems 32 (pair.map (·.1))))

/-! ### Moves, operand-buffer stores, special functions (R115 to R117) -/

/-- MOV (R115): a queue token keeps its tag, apart from the epoch. -/
def opMov (env : Env) (c : Cell) (w : Nat) : Eff :=
  let t := match c.srcToken (iSrcA w) with
    | some t => t.retag env.epoch t.last
    | none => mkTok env.epoch false 0 (c.emitLane w (iSrcA w)) (c.source w (iSrcA w))
  (c.base w).emit w t

/-- OBST (R116). -/
def opObst (_ : Env) (c : Cell) (w : Nat) : Eff :=
  let e := c.base w
  c.forward w { e with cell := { c with ob := tput c.ob (c.addrB w) (BitVec.ofNat 64 (c.source w (iSrcA w))) } }

/-- SFU: the request goes to the column's unit; one at a time (R93, R117). -/
def opSfu (_ : Env) (c : Cell) (w : Nat) : Eff :=
  let e := c.base w
  { e with ready := e.ready && c.sfu.isNone && c.flight.all (fun f => !f.sfu),
           cell := { c with sfu := some (field (iImm w) 0 3, BitVec.ofNat 32 (c.source w (iSrcA w))) } }

/-! ### The meanings -/

/-- DRAIN (R99). -/
def execDrain (a p : Nat) (s : State) : Host.Outcome State Fault Refusal := run (fire a p (ops 0x50 0x50) opDrain) s
/-- DRAINCV (R100). -/
def execDraincv (a p : Nat) (s : State) : Host.Outcome State Fault Refusal := run (fire a p (ops 0x51 0x51) opDraincv) s
/-- ACCLD (R101). -/
def execAccld (a p : Nat) (s : State) : Host.Outcome State Fault Refusal := run (fire a p (ops 0x52 0x52) opAccld) s
/-- ACCADD (R101). -/
def execAccadd (a p : Nat) (s : State) : Host.Outcome State Fault Refusal := run (fire a p (ops 0x53 0x53) opAccadd) s
/-- FADD (R102). -/
def execFadd (a p : Nat) (s : State) : Host.Outcome State Fault Refusal :=
  run (fire a p (ops 0x60 0x60) (opScalar 0 (fun x y _ => fAdd x y))) s
/-- FSUB (R102). -/
def execFsub (a p : Nat) (s : State) : Host.Outcome State Fault Refusal :=
  run (fire a p (ops 0x61 0x61) (opScalar 0 (fun x y _ => fSub x y))) s
/-- FMUL (R102). -/
def execFmul (a p : Nat) (s : State) : Host.Outcome State Fault Refusal :=
  run (fire a p (ops 0x62 0x62) (opScalar 0 (fun x y _ => fMul x y))) s
/-- FFMA (R102). -/
def execFfma (a p : Nat) (s : State) : Host.Outcome State Fault Refusal :=
  run (fire a p (ops 0x63 0x63) (opScalar 0 fFma)) s
/-- FMIN (R63). -/
def execFmin (a p : Nat) (s : State) : Host.Outcome State Fault Refusal :=
  run (fire a p (ops 0x64 0x64) (opScalar 0 (fun x y _ => fMin x y))) s
/-- FMAX (R63). -/
def execFmax (a p : Nat) (s : State) : Host.Outcome State Fault Refusal :=
  run (fire a p (ops 0x65 0x65) (opScalar 0 (fun x y _ => fMax x y))) s
/-- IADD (R102). -/
def execIadd (a p : Nat) (s : State) : Host.Outcome State Fault Refusal :=
  run (fire a p (ops 0x68 0x68) (opScalar 0 (plain iAddBits))) s
/-- ISUB (R102). -/
def execIsub (a p : Nat) (s : State) : Host.Outcome State Fault Refusal :=
  run (fire a p (ops 0x69 0x69) (opScalar 0 (plain iSubBits))) s
/-- IMUL (R102). -/
def execImul (a p : Nat) (s : State) : Host.Outcome State Fault Refusal :=
  run (fire a p (ops 0x6A 0x6A) (opScalar 0 (plain iMulBits))) s
/-- IMIN (R102). -/
def execImin (a p : Nat) (s : State) : Host.Outcome State Fault Refusal :=
  run (fire a p (ops 0x6B 0x6B) (opScalar 0 (plain iMinBits))) s
/-- IMAX (R102). -/
def execImax (a p : Nat) (s : State) : Host.Outcome State Fault Refusal :=
  run (fire a p (ops 0x6C 0x6C) (opScalar 0 (plain iMaxBits))) s
/-- AND (R102). -/
def execAnd (a p : Nat) (s : State) : Host.Outcome State Fault Refusal :=
  run (fire a p (ops 0x70 0x70) (opScalar 0 (plain (· &&& ·)))) s
/-- OR (R102). -/
def execOr (a p : Nat) (s : State) : Host.Outcome State Fault Refusal :=
  run (fire a p (ops 0x71 0x71) (opScalar 0 (plain (· ||| ·)))) s
/-- XOR (R102). -/
def execXor (a p : Nat) (s : State) : Host.Outcome State Fault Refusal :=
  run (fire a p (ops 0x72 0x72) (opScalar 0 (plain (· ^^^ ·)))) s
/-- SHL (R102). -/
def execShl (a p : Nat) (s : State) : Host.Outcome State Fault Refusal :=
  run (fire a p (ops 0x73 0x73) (opScalar 0 (plain shlBits))) s
/-- SHR (R102). -/
def execShr (a p : Nat) (s : State) : Host.Outcome State Fault Refusal :=
  run (fire a p (ops 0x74 0x74) (opScalar 0 (plain shrBits))) s
/-- SAR (R102). -/
def execSar (a p : Nat) (s : State) : Host.Outcome State Fault Refusal :=
  run (fire a p (ops 0x75 0x75) (opScalar 0 (plain sarBits))) s
/-- FCMP (R103). -/
def execFcmp (a p : Nat) (s : State) : Host.Outcome State Fault Refusal := run (fire a p (ops 0x80 0x87) opFcmp) s
/-- ICMP (R103). -/
def execIcmp (a p : Nat) (s : State) : Host.Outcome State Fault Refusal := run (fire a p (ops 0x88 0x8D) opIcmp) s
/-- SEL (R104). -/
def execSel (a p : Nat) (s : State) : Host.Outcome State Fault Refusal := run (fire a p (ops 0x90 0x90) opSel) s
/-- STEER (R105). -/
def execSteer (a p : Nat) (s : State) : Host.Outcome State Fault Refusal := run (fire a p (ops 0x98 0x98) opSteer) s
/-- GATE (R106). -/
def execGate (a p : Nat) (s : State) : Host.Outcome State Fault Refusal := run (fire a p (ops 0x99 0x99) opGate) s
/-- MERGE (R107). -/
def execMerge (a p : Nat) (s : State) : Host.Outcome State Fault Refusal := run (fire a p (ops 0x9A 0x9A) opMerge) s
/-- CMERGE (R108). -/
def execCmerge (a p : Nat) (s : State) : Host.Outcome State Fault Refusal := run (fire a p (ops 0x9B 0x9B) opCmerge) s
/-- REPL (R109). -/
def execRepl (a p : Nat) (s : State) : Host.Outcome State Fault Refusal := run (fire a p (ops 0x9C 0x9C) opRepl) s
/-- RFWD (R110). -/
def execRfwd (a p : Nat) (s : State) : Host.Outcome State Fault Refusal := run (fire a p (ops 0x9D 0x9D) opRfwd) s
/-- CVT (R112). -/
def execCvt (a p : Nat) (s : State) : Host.Outcome State Fault Refusal := run (fire a p (ops 0xA0 0xA0) opCvt) s
/-- MXPACK (R113). -/
def execMxpack (a p : Nat) (s : State) : Host.Outcome State Fault Refusal := run (fire a p (ops 0xA1 0xA1) opMxpack) s
/-- MXUNPK (R114). -/
def execMxunpk (a p : Nat) (s : State) : Host.Outcome State Fault Refusal := run (fire a p (ops 0xA2 0xA2) opMxunpk) s
/-- MOV (R115). -/
def execMov (a p : Nat) (s : State) : Host.Outcome State Fault Refusal := run (fire a p (ops 0xB0 0xB0) opMov) s
/-- OBST (R116). -/
def execObst (a p : Nat) (s : State) : Host.Outcome State Fault Refusal := run (fire a p (ops 0xB1 0xB1) opObst) s
/-- SFU (R117). -/
def execSfu (a p : Nat) (s : State) : Host.Outcome State Fault Refusal := run (fire a p (ops 0xB8 0xB8) opSfu) s

end Sys2Proof.Machine
end

