-- ==== Sys2Proof/Machine/CellMove.lean ====
section
/-! DEFINITION. What moves between firings: special-function service, results reaching their places, tokens between
cells and along pass-through paths, stale tokens, and cell faults (R45, R71, R79, R91 to R94). -/

namespace Sys2Proof.Machine

/-! ### Special-function service and results -/

/-- The cell of a column that the unit serves next: round robin from the cell after the last one served (R71). -/
def Arr.sfuNext (x : Arr) (col : Nat) : Option Nat :=
  let start := (tget 15 x.sfuLast col + 1) % 16
  (List.range 16).findSome? (fun i =>
    let r := (start + i) % 16
    if (x.cell (16 * r + col)).sfu.isSome then some r else none)

/-- A column's unit serves one request: the result goes toward the previous-result register, with lane code 0b000 and bits
[63:32] zero (R71, R117; assumption 93). -/
def sfuServe (a col : Nat) (w : Work) : Work :=
  let x := w.arr a
  match x.sfuNext col with
  | none => w
  | some r =>
    let p := 16 * r + col
    let c := x.cell p
    match c.sfu with
    | none => w
    | some (fn, v) =>
      let (y, fl) := sfuResult fn v
      let c' : Cell := { c.flag fl with sfu := none, flight := c.flight ++ [{ prev := some (BitVec.ofNat 64 y, 0), sfu := true }] }
      w.modArr a (fun x => { x.modCell p (fun _ => c') with sfuLast := tput x.sfuLast col r })

/-- SFU_SERVICE (R71). -/
def execSfuService (a col : Nat) (s : State) : Host.Outcome State Fault Refusal := run (sfuServe a col) s

/-- Two results share a destination, so that the earlier one lands first (R92, R93). -/
def Flight.clashes (f g : Flight) : Bool :=
  (f.mask &&& g.mask) != 0 || (f.prev.isSome && g.prev.isSome) ||
    (match f.acc, g.acc with | some (i, _), some (j, _) => i == j | _, _ => false) ||
    (match f.scale, g.scale with | some (i, _), some (j, _) => i == j | _, _ => false)

/-- The cell with a result in its places: its output registers, the previous-result register and its lane code, the
accumulator, the scale register with its block pointer at 0 and a block begun anew (R59, R83, R92, R121; assumption 94). -/
def Cell.land (c : Cell) (f : Flight) : Cell :=
  let c1 := { c with outs := (List.range 4).foldl (fun o d => if inMask f.mask d then tput o d (some f.tok) else o) c.outs }
  let c2 := match f.prev with
    | some (v, lane) => { c1 with prev := v, prevLane := lane }
    | none => c1
  let c3 := match f.acc with
    | some (k, v) => { c2 with acc := tput c2.acc k v }
    | none => c2
  match f.scale with
  | some (false, v) => { c3 with sca := v, ptrA := 0, cntA := 0, wrapA := false }
  | some (true, v) => { c3 with scb := v, ptrB := 0, cntB := 0, wrapB := false }
  | none => c3

/-- The cell after its n-th result in flight has landed, where no earlier one shares its destination and its output
registers are empty (R92, R93). A token that goes to several registers enters all of them at once, when all are free, one of
MXPACK too (R113; DESIGN CHOICE, assumption 118). -/
def Cell.deliver (c : Cell) (n : Nat) : Option Cell :=
  match c.flight[n]? with
  | none => none
  | some f =>
    if (c.flight.take n).all (fun g => !g.clashes f) && (List.range 4).all (fun d => !inMask f.mask d || c.out d == none) then
      some { c.land f with flight := ldrop c.flight n }
    else none

/-- A result reaches its places. -/
def writeback (a p n : Nat) (w : Work) : Work :=
  match (w.cell a p).deliver n with
  | some c => w.modArr a (fun x => x.modCell p (fun _ => c))
  | none => w

/-- RESULT_WRITEBACK (R92). -/
def execResultWriteback (a p n : Nat) (s : State) : Host.Outcome State Fault Refusal := run (writeback a p n) s

/-! ### Generators (R69) -/

/-- The generator of a cell: as it stands, or as the start of the job has seeded it where nothing has been drawn since; 0
before the first job (R69, R302; assumption 3). -/
def Work.generator (w : Work) (a p : Nat) : BitVec 32 :=
  let g := (w.cell a p).sr
  if g = 0 && thas w.inForce (key 0x2400 3) then srSeed (w.eff 0x2400 3) w.panelId (a / 16) (a % 16) p else g

/-! ### Queues (R91, R150) -/

/-- A run of a spill round that is open: no drain has left its tokens as residue (R145, R150). -/
def SpillRun.isOpen (r : SpillRun) : Bool := r.origin == 0 && !r.residue && !r.kept

/-- The open spill run behind queue d of cell p (R150). -/
def Arr.openRun (x : Arr) (p d : Nat) : Option SpillRun :=
  x.runs.find? (fun r => r.isOpen && r.where_ == p && r.queue == d)

/-- The queue, or the run behind it, has room for one more token (R91, R150). -/
def Arr.hasRoom (x : Arr) (p d : Nat) : Bool :=
  match x.openRun p d with
  | some r => decide (r.toks.length < 7)
  | none => decide (((x.cell p).queue d).length < 4)

/-- A token accepted at the tail of a queue, or of the run behind it (R91, R150). -/
def Arr.enqueue (x : Arr) (p d : Nat) (t : Token) : Arr :=
  match x.openRun p d with
  | some r => { x with runs := x.runs.map (fun q => if q.num = r.num then { q with toks := q.toks ++ [t] } else q) }
  | none => x.modCell p (fun c => c.setQueue d (c.queue d ++ [t]))

/-- The cell beyond direction d of cell p, and the queue there that joins; none at the array boundary (R128). -/
def neighbour (p d : Nat) : Option (Nat × Nat) :=
  let r := p / 16
  let c := p % 16
  if d = 0 then (if r = 0 then none else some (p - 16, 1))
  else if d = 1 then (if r = 15 then none else some (p + 16, 0))
  else if d = 2 then (if c = 15 then none else some (p + 1, 3))
  else (if c = 0 then none else some (p - 1, 2))

/-- Tokens move in an array: it runs or drains, or stands READY between tasks, where only issue stops (R137, R143,
R298). -/
def Arr.moving (x : Arr) : Bool := x.st == .run || x.st == .drain || x.st == .ready

/-- A neighbour's queue accepts the token in output register d (R44, R91). -/
def Work.passOn (w : Work) (a p d : Nat) : Work :=
  let x := w.arr a
  match (x.cell p).out d, neighbour p d with
  | some t, some (p', d') =>
    if x.moving && x.hasRoom p' d' then
      w.modArr a (fun x => (x.modCell p (fun c => c.setOut d none)).enqueue p' d' t)
    else w
  | _, _ => w

/-- The head of the queue of input direction d moves along its open path into the path's output register (R45). -/
def passThrough (a p d : Nat) (w : Work) : Work :=
  let x := w.arr a
  let c := x.cell p
  let b := c.pathByte d
  match c.head x.epoch d with
  | some t =>
    if x.moving && bit b 7 && bit b 6 && c.out (field b 0 2) == none then
      w.modArr a (fun x =>
        { x.modCell p (fun c => (c.setQueue d (c.queue d).tail).setOut (field b 0 2) (some t)) with moved := true })
    else w
  | none => w

/-- PASS_THROUGH_MOVE (R45). -/
def execPassThroughMove (a p dir : Nat) (s : State) : Host.Outcome State Fault Refusal := run (passThrough a p dir) s

/-- A head token of another epoch is removed and counted (R79). -/
def staleRemoval (a p d : Nat) (w : Work) : Work :=
  let x := w.arr a
  match (x.cell p).queue d with
  | t :: rest =>
    if t.epoch ≠ x.epoch then
      w.modArr a (fun x => { x.modCell p (fun c => c.setQueue d rest) with stale := satAdd 16 x.stale 1 })
    else w
  | [] => w

/-- STALE_TOKEN_REMOVAL (R79). -/
def execStaleTokenRemoval (a p dir : Nat) (s : State) : Host.Outcome State Fault Refusal := run (staleRemoval a p dir) s

/-! ### Cell faults (R94) -/

/-- The fault code that the current instruction of a cell meets, if any (R94). -/
def Cell.faultCode (c : Cell) (epoch : Nat) : Option Nat :=
  let w := c.instr
  let heads := (c.examined epoch w).filterMap (fun d => c.head epoch d)
  if iOp w = 0x01 then
    if heads.any (fun t => t.kind != 3) then some 0x02
    else if barWrong ⟨epoch, false⟩ c w then some 0x03
    else none
  else if heads.any (fun t => t.kind == 3) then some 0x01
  else none

/-- CELL_FAULT: a cell fault that the current instruction meets, with code 0x04 for an uncorrectable word; a word with a
single-bit error is corrected and counted for the site (R94, R163). -/
def cellFault (a p : Nat) (word : CellWord) (w : Work) : Work :=
  let x := w.arr a
  let c := x.cell p
  if x.issues && !c.parked then
    match word with
    | .corrected => w.wordsCorrected (a / 16) 1
    | .uncorrectable => w.faultCell a p 0x04
    | .good =>
      match c.faultCode x.epoch with
      | some code => if code = 0x03 then w.barFault a p else w.faultCell a p code
      | none => w
  else w

/-- CELL_FAULT (R94). -/
def execCellFault (a p : Nat) (word : CellWord) (s : State) : Host.Outcome State Fault Refusal := run (cellFault a p word) s

end Sys2Proof.Machine
end

