-- ==== Sys2Proof/Machine/Sites.lean ====
section
/-! DEFINITION. Sites, links, the logical grid and the site map, the defect map, and the routes that follow from the
map (R19 to R40, R240 to R245, R465). -/

namespace Sys2Proof.Machine

/-! ### Links of a site (R19, R26, R31) -/

/-- The site at the other end of a mesh link code, where the link exists (R19). -/
def linkEnd (n code : Nat) : Option Nat :=
  let x := n % 26
  let y := n / 26
  if code = 0 then (if x ≤ 24 then some (n + 1) else none)
  else if code = 1 then (if x ≤ 23 then some (n + 2) else none)
  else if code = 2 then (if x = 11 then some (n + 3) else none)
  else if code = 3 then (if y ≤ 14 then some (n + 26) else none)
  else if code = 4 then (if y ≤ 14 ∧ 1 ≤ x then some (n + 25) else none)
  else if code = 5 then (if y ≤ 14 ∧ x ≤ 24 then some (n + 27) else none)
  else none

/-- Columns of the two attach sites of each port die of a row of port dies (R26). -/
def portColumns : List Nat := [2, 5, 8, 11, 13, 16, 19, 22]

/-- The port die attached at a site by XV (R26). -/
def portAt (n : Nat) : Option Nat :=
  let x := n % 26
  let y := n / 26
  if y = 0 ∨ y = 15 then
    (findAt (fun c => x == c || x == c + 1) portColumns 0).map (fun i => i + (if y = 15 then 8 else 0))
  else none

/-- The two attach sites of port die k, first and second (R26). -/
def portSites (k : Nat) : Nat × Nat :=
  let x := portColumns.getD (k % 8) 0
  let y := if k < 8 then 0 else 15
  (y * 26 + x, y * 26 + x + 1)

/-- Sites that the host die, Sideboard A and Sideboard B attach to: primary, alternate (R26). -/
def hostSites : Nat × Nat := (0, 1)
def boardASites : Nat × Nat := (25, 24)
def boardBSites : Nat × Nat := (390, 391)

/-- A site carries an XH link (R19). -/
def hasXH (n : Nat) : Bool := n % 26 ≤ 1 || 24 ≤ n % 26

/-- A site carries an XV link (R26). -/
def hasXV (n : Nat) : Bool :=
  (portAt n).isSome || n == 0 || n == 1 || n == 25 || n == 24 || n == 390 || n == 391

/-- The attach code and port number of a site: 0x3100+n.0A (R26). -/
def attachByte (n : Nat) : Nat :=
  match portAt n with
  | some k => 2 + 16 * k
  | none =>
    if n ≤ 1 then 6 else if n = 24 ∨ n = 25 then 7 else if n = 390 ∨ n = 391 then 8 else if hasXH n then 1 else 0

/-- A link code of a site is stitched (R31). -/
def stitched (n code : Nat) : Bool :=
  let x := n % 26
  let y := n / 26
  if code = 0 then [0, 3, 7, 10, 14, 17, 21, 24].contains x
  else if code = 1 then [0, 2, 3, 6, 7, 9, 10, 13, 14, 16, 17, 20, 21, 23].contains x
  else if 3 ≤ code ∧ code ≤ 5 then (linkEnd n code).isSome && y % 2 == 0
  else false

/-- A link code exists at a site (R19). -/
def linkExists (n code : Nat) : Bool :=
  if code = 6 then hasXH n else if code = 7 then hasXV n else (linkEnd n code).isSome

/-! ### The map (R21 to R24, R33, R39) -/

/-- A site is usable: neither fused nor defective (R21). -/
def Work.siteUsable (w : Work) (n : Nat) : Bool := !w.fuses.sites.contains n && !w.hasDefect 0 n 0

/-- The usable sites of a half-shelf, from the panel edge inward (R21). -/
def Work.halfList (w : Work) (y : Nat) (west : Bool) : List Nat :=
  ((List.range 13).map (fun i => y * 26 + (if west then i else 25 - i))).filter w.siteUsable

/-- Logical dies of a half-shelf with their sites, and the sites left over (R21). -/
def Work.halfMap (w : Work) (y : Nat) (west : Bool) : List (Nat × Nat) × List Nat :=
  let list := w.halfList y west
  let half := w.cols / 2
  let cs := (List.range half).map (fun i => w.dieOf (if west then i else w.cols - 1 - i) y)
  (cs.zip list, list.drop half)

/-- Shelves, each with its two halves. -/
def halves : List (Nat × Bool) := (List.range 16).flatMap (fun y => [(y, true), (y, false)])

/-- A physical array of a site is usable (R33). -/
def Work.arrayUsable (w : Work) (n a : Nat) : Bool := !w.fuses.arrays.contains (n * 20 + a) && !w.hasDefect 1 n a

/-- Logical indexes of the arrays of one row of a die: its usable arrays in order of column, four at most (R33). -/
def Work.rowArrays (w : Work) (n row : Nat) : List (Nat × Nat) :=
  let good := ((List.range 5).map (fun c => 5 * row + c)).filter (w.arrayUsable n)
  (good.zip ((List.range 4).map (fun i => 4 * row + i))).map (fun p => (n * 20 + p.1, p.2))

/-- The link that joins two sites as horizontal neighbours, west then east, or vertical ones, north then south (R23). -/
def selectLink (n m : Nat) : Option Nat :=
  let x := n % 26
  let x' := m % 26
  if n / 26 = m / 26 then
    if x' = x + 1 then some (n * 8) else if x' = x + 2 then some (n * 8 + 1)
    else if x = 11 ∧ x' = 14 then some (n * 8 + 2) else none
  else if x' = x then some (n * 8 + 3)
  else if x' + 1 = x then some (n * 8 + 4)
  else if x' = x + 1 then some (n * 8 + 5)
  else none

/-- The map computed from fuses and records (R21, R33, R34): logical dies, states of sites and arrays, logical array
indexes, and links that are fused or have failed. -/
def Work.computeMap (w : Work) : SiteMap :=
  let parts := halves.map (fun h => w.halfMap h.1 h.2)
  let logical := parts.flatMap (·.1)
  let spares := parts.flatMap (·.2)
  let sites := List.range 416
  let siteCode : Nat → Nat := fun n => if w.fuses.sites.contains n then 2 else if w.hasDefect 0 n 0 then 3 else if spares.contains n then 1 else 0
  let siteState := (sites.map (fun n => (n, siteCode n))).filter (fun e => e.2 != 0)
  let carried := logical.map (·.2)
  let logicalArray := carried.flatMap (fun n => (List.range 4).flatMap (w.rowArrays n))
  let listed := logicalArray.map (·.1)
  let arrCode : Nat → Nat → Nat := fun n a =>
    if w.fuses.arrays.contains (n * 20 + a) ∨ siteCode n = 2 then 2
    else if siteCode n = 3 ∨ w.hasDefect 1 n a then 3
    else if listed.contains (n * 20 + a) then 0 else 1
  let arrayState := sites.flatMap (fun n => ((List.range 20).map (fun a => (n * 20 + a, arrCode n a))).filter (fun e => e.2 != 0))
  let linkState := sites.flatMap (fun n => (List.range 8).filterMap (fun k =>
    if w.fuses.links.contains (n * 8 + k) then some (n * 8 + k, 2)
    else if w.hasDefect 2 n k then some (n * 8 + k, 3) else none))
  { logical := logical, siteState := siteState, arrayState := arrayState, linkState := linkState,
    logicalArray := logicalArray, computed := true, recomputing := false }

/-! ### Reading the map -/

/-- The mesh link of logical die d in direction dir (0 N, 1 S, 2 E, 3 W), where dies lie on the sites given (R23). -/
def Work.linkBy (w : Work) (site : Nat → Option Nat) (d dir : Nat) : Option Nat :=
  let c := w.colOf d
  let r := w.rowOf d
  let at' := fun c r => site (w.dieOf c r)
  if dir = 0 then (if r = 0 then none else (at' c (r - 1)).bind (fun m => (site d).bind (fun n => selectLink m n)))
  else if dir = 1 then (if r = 15 then none else (at' c (r + 1)).bind (fun m => (site d).bind (fun n => selectLink n m)))
  else if dir = 2 then (if c + 1 ≥ w.cols then none else (at' (c + 1) r).bind (fun m => (site d).bind (fun n => selectLink n m)))
  else (if c = 0 then none else (at' (c - 1) r).bind (fun m => (site d).bind (fun n => selectLink m n)))

/-- The mesh link of logical die d in direction dir, where the site map selects one (R23). -/
def Work.meshLink (w : Work) (d dir : Nat) : Option Nat := w.linkBy w.siteOf d dir

/-- Sites of logical dies as the steering of die d's active bank has them (R256). -/
def Work.steering (w : Work) (d : Nat) : List (Nat × Nat) := if (w.die d).router.swapped then w.fmgr.next else w.fmgr.steer

/-- The link that the active bank of die d's router steers a mesh port to (R23, R256). -/
def Work.steered (w : Work) (d dir : Nat) : Option Nat :=
  w.linkBy (fun e => ((w.steering d).find? (fun x => x.1 == e)).map (·.2)) d dir

/-- The die beyond direction dir. -/
def Work.beyond (w : Work) (d dir : Nat) : Nat :=
  if dir = 0 then d - w.cols else if dir = 1 then d + w.cols else if dir = 2 then d + 1 else d - 1

/-- A link's own state: 2 fused, 3 failed, 0 otherwise. -/
def Work.linkOwn (w : Work) (l : Nat) : Nat :=
  if w.siteMap.computed then tget 0 w.siteMap.linkState l
  else if w.fuses.links.contains l then 2 else if w.hasDefect 2 (l / 8) (l % 8) then 3 else 0

/-- The logical link of die d in direction dir is present (R23, R25). -/
def Work.linkPresent (w : Work) (d dir : Nat) : Bool :=
  match w.meshLink d dir with
  | some l => w.linkOwn l == 0 && w.diePresent d && w.diePresent (w.beyond d dir)
  | none => false

/-- An attach link of a site is usable: its site is neither fused nor defective, and the link is good (R26, R27). -/
def Work.attachUsable (w : Work) (n code : Nat) : Bool :=
  w.siteState n ≤ 1 && w.linkOwn (n * 8 + code) == 0 && w.siteMap.computed

/-- Usable XH links of a bay: bit 0 outer and bit 1 inner on the first shelf, bits 2 and 3 on the second (0x3000+b.05). -/
def Work.hutchAttach (w : Work) (b : Nat) : Nat :=
  let xo := if b < 8 then 0 else 25
  let xi := if b < 8 then 1 else 24
  let y := 2 * (b % 8)
  ofBool (w.attachUsable (y * 26 + xo) 6) + 2 * ofBool (w.attachUsable (y * 26 + xi) 6) +
    4 * ofBool (w.attachUsable ((y + 1) * 26 + xo) 6) + 8 * ofBool (w.attachUsable ((y + 1) * 26 + xi) 6)

/-- The attach site in use of a die with a primary and an alternate site (R26). -/
def Work.activeSite (w : Work) (p : Nat × Nat) : Option Nat :=
  if w.attachUsable p.1 7 then some p.1 else if w.attachUsable p.2 7 then some p.2 else none

/-- A link is selected by the map: a mesh link between logical neighbours, an XH link, or an XV link in use. -/
def Work.linkSelected (w : Work) (n code : Nat) : Bool :=
  if code = 6 then true
  else if code = 7 then
    (portAt n).isSome || w.activeSite hostSites == some n || w.activeSite boardASites == some n || w.activeSite boardBSites == some n
  else (List.range w.numDies).any (fun d => w.meshLink d 1 == some (n * 8 + code) || w.meshLink d 2 == some (n * 8 + code))

/-- The reported state code of a link (R39): the states of its ends first. -/
def Work.linkCode (w : Work) (n code : Nat) : Nat :=
  if !linkExists n code then 0xFF
  else
    let ends := n :: (linkEnd n code).toList
    if ends.any (fun m => w.siteState m == 2) then 2
    else if ends.any (fun m => w.siteState m == 3) then 3
    else if w.linkOwn (n * 8 + code) ≠ 0 then w.linkOwn (n * 8 + code)
    else if w.siteMap.computed && w.linkSelected n code then 0 else 1

/-- State code of a physical array (R33). -/
def Work.arrayCode (w : Work) (n a : Nat) : Nat :=
  if w.siteMap.computed then tget 0 w.siteMap.arrayState (n * 20 + a)
  else if w.fuses.arrays.contains (n * 20 + a) then 2
  else if 2 ≤ w.siteState n then w.siteState n
  else if w.hasDefect 1 n a then 3 else 1

/-- The logical die at a site (0x3100+n.04, .05). -/
def Work.dieAt (w : Work) (n : Nat) : Option Nat := (w.siteMap.logical.find? (fun e => e.2 == n)).map (·.1)

/-! ### Routes (R240 to R245) -/

/-- Output that dimension order gives from die d toward a target: 4 local (R240). -/
def Work.dimOut (w : Work) (d c r : Nat) : Nat :=
  if c > w.colOf d then 2 else if c < w.colOf d then 3 else if r > w.rowOf d then 1 else if r < w.rowOf d then 0 else 4

/-- What is absent from the grid: dies, and links from a die to the east (2) or south (1) between present dies. -/
structure Gaps where
  /-- absent dies -/
  dies : List Nat
  /-- absent links, named by their west or north die -/
  links : List (Nat × Nat)
  deriving DecidableEq, Repr

/-- The absent dies and links of the map in force; the dies of a bay that is being switched off count as absent (R23, R25,
R256). -/
def Work.gaps (w : Work) : Gaps :=
  let ds := List.range w.numDies
  { dies := ds.filter (fun d => !w.diePresent d || (w.domain (w.bayOf d)).st == .switchingOff)
    links := ds.flatMap (fun d =>
      (if w.colOf d + 1 == w.cols || w.linkPresent d 2 then [] else [(d, 2)]) ++
        (if w.rowOf d == 15 || w.linkPresent d 1 then [] else [(d, 1)])) }

/-- The link of a die in a direction is absent. -/
def Work.gapLink (w : Work) (g : Gaps) (d dir : Nat) : Bool :=
  if dir = 0 then g.links.contains (w.beyond d 0, 1)
  else if dir = 3 then g.links.contains (w.beyond d 3, 2)
  else g.links.contains (d, dir)

/-- A dimension-order path crosses no absent die and no absent link (R242); `fuel` bounds the hops. -/
def Work.pathClear (w : Work) (g : Gaps) (c r : Nat) : Nat → Nat → Bool
  | 0, _ => false
  | fuel + 1, d =>
    !g.dies.contains d &&
      (let o := w.dimOut d c r
       o == 4 || (!w.gapLink g d o && w.pathClear g c r fuel (w.beyond d o)))

/-- The direct path between two dies is clear. -/
def Work.clearPath (w : Work) (g : Gaps) (d d' : Nat) : Bool := w.pathClear g (w.colOf d') (w.rowOf d') 48 d

/-- Hops of a dimension-order path. -/
def Work.hops (w : Work) (d d' : Nat) : Nat :=
  ((w.colOf d : Int) - w.colOf d').natAbs + ((w.rowOf d : Int) - w.rowOf d').natAbs

/-- A die lies in the rectangle spanned by two dies (R241). -/
def Work.inRect (w : Work) (d d' e : Nat) : Bool :=
  decide (min (w.colOf d) (w.colOf d') ≤ w.colOf e) && decide (w.colOf e ≤ max (w.colOf d) (w.colOf d')) &&
    decide (min (w.rowOf d) (w.rowOf d') ≤ w.rowOf e) && decide (w.rowOf e ≤ max (w.rowOf d) (w.rowOf d'))

/-- The rectangle spanned by two dies has no absent die or link (R241). -/
def Work.rectClear (w : Work) (g : Gaps) (d d' : Nat) : Bool :=
  g.dies.all (fun e => !w.inRect d d' e) && g.links.all (fun l => !(w.inRect d d' l.1 && w.inRect d d' (w.beyond l.1 l.2)))

/-- The better of two waypoints: fewer hops, then smaller r, then smaller c (R242). -/
def Work.betterWay (w : Work) (a : Option (Nat × Nat)) (h d : Nat) : Option (Nat × Nat) :=
  match a with
  | none => some (h, d)
  | some (h', d') =>
    if h < h' ∨ (h = h' ∧ (w.rowOf d < w.rowOf d' ∨ (w.rowOf d = w.rowOf d' ∧ w.colOf d < w.colOf d'))) then some (h, d)
    else some (h', d')

/-- The route entry of a source for a destination (R241, R242). -/
def Work.routeEntry (w : Work) (g : Gaps) (d d' : Nat) : Nat :=
  if g.dies.contains d || g.dies.contains d' then 2 ^ 11
  else if w.rectClear g d d' then 2 ^ 10
  else
    if w.clearPath g d d' then 0
    else
      let best := (List.range w.numDies).foldl (fun acc v =>
        if w.clearPath g d v && w.clearPath g v d' then w.betterWay acc (w.hops d v + w.hops v d') v else acc) none
      match best with
      | some (_, v) => w.colOf v + w.rowOf v * 2 ^ 5 + 2 ^ 9
      | none => 2 ^ 11

/-- An entry that a table lists only where it differs from "clear, no waypoint". -/
def Work.routeList (w : Work) (g : Gaps) (d : Nat) : List (Nat × Nat) :=
  ((List.range w.numDies).map (fun d' => (d', w.routeEntry g d d'))).filter (fun e => e.2 != 2 ^ 10)

/-- The entry in force at a router; with no table computed every entry is zero, and an absent source's are Unreachable
(R242). -/
def Work.route (w : Work) (d d' : Nat) : Nat :=
  if !w.siteMap.computed then 0 else if !w.diePresent d then 2 ^ 11 else tget (2 ^ 10) (w.die d).router.active d'

/-- Two dies have no route (R242). -/
def Work.unreachable (w : Work) (d d' : Nat) : Bool := bit (w.route d d') 11

/-- Hops of the route in force between two dies: through the waypoint where there is one (R245). -/
def Work.routeHops (w : Work) (d d' : Nat) : Nat :=
  let e := w.route d d'
  if bit e 9 then
    let v := w.dieOf (field e 0 5) (field e 5 4)
    w.hops d v + w.hops v d'
  else w.hops d d'

/-- Entries between present dies that are unreachable (0x4000.03). -/
def Work.unreachablePairs (w : Work) : Nat :=
  let ds := (List.range w.numDies).filter w.diePresent
  (ds.map (fun d => (ds.filter (fun d' => w.unreachable d d')).length)).sum

/-- The sites of Hutch b's XH links, in the order of R245. -/
def hutchSites (b : Nat) : List Nat :=
  let xo := if b < 8 then 0 else 25
  let xi := if b < 8 then 1 else 24
  let y := 2 * (b % 8)
  [y * 26 + xo, y * 26 + xi, (y + 1) * 26 + xo, (y + 1) * 26 + xi]

/-- Dies with a usable XH link of Hutch b, in the order of R245. -/
def Work.hutchDies (w : Work) (b : Nat) : List Nat := ((hutchSites b).filter (fun n => w.attachUsable n 6)).filterMap w.dieAt

/-- The logical die at whose router the attach links of a site end: a spare site passes to the logical die of its half nearest to it
(R26, R27; assumption 35). -/
def Work.attachDie (w : Work) (n : Nat) : Nat :=
  (w.dieAt n).getD (w.dieOf (if n % 26 ≤ 12 then w.cols / 2 - 1 else w.cols / 2) (n / 26))

/-- The attach links of an external unit that can be used, as site·8 + code (R26, R245). -/
def Work.attachLinks (w : Work) (unit : Nat) : List Nat :=
  let k := unit % 16
  let xv := fun (l : List Nat) => l.map (· * 8 + 7)
  if unit / 16 = 4 then ((hutchSites k).filter (fun n => w.attachUsable n 6)).map (· * 8 + 6)
  else if unit / 16 = 5 then xv ([(portSites k).1, (portSites k).2].filter (fun n => w.attachUsable n 7))
  else if unit / 16 = 6 then xv (w.activeSite hostSites).toList
  else if unit / 16 = 7 then xv (w.activeSite (if k = 1 then boardBSites else boardASites)).toList
  else []

/-- The attach link by which die d's router reaches an external unit; none where d is no attach die of it, or the clock that all links
need is lost (R245, R377). -/
def Work.attachLink (w : Work) (d unit : Nat) : Option Nat :=
  if w.root.lost then none
  else (w.attachLinks unit).find? (fun m => w.attachDie (m / 8) == d && !(w.link (2 * m)).failed && !(w.link (2 * m + 1)).failed)

/-- The nearest of several dies from die d by the routes in force; ties to the first, or to the last (R245). -/
def Work.nearest (w : Work) (d : Nat) (ds : List Nat) (last : Bool) : Option Nat :=
  (ds.filter (fun e => !w.unreachable d e)).foldl (fun acc e =>
    match acc with
    | none => some e
    | some f => if w.routeHops d e < w.routeHops d f ∨ (last ∧ w.routeHops d e = w.routeHops d f) then some e else some f) none

/-- The tables of a start-up step, where the fabric carries no job's traffic (R242, R256): every router's inactive bank is
written from the map in force, and all banks change places. -/
def Work.applyTables (w : Work) : Work :=
  let g := w.gaps
  let w := (List.range w.numDies).foldl (fun w d =>
    let l := if g.dies.isEmpty && g.links.isEmpty then [] else w.routeList g d
    if l.isEmpty && (w.die d).router.active.isEmpty && (w.die d).router.inactive.isEmpty then w
    else w.modRouter d (fun r => { r with active := l, inactive := r.active })) w
  (({ w with fmgr := { w.fmgr with steer := w.siteMap.logical } } : Work).addReg 0x4000 1 1).interrupt 15

/-! ### Table changes and recomputation (R35, R37, R162, R256) -/

/-- The fabric state (0x4000.04). -/
def Work.fabricTo (w : Work) (st : Nat) : Work := ({ w with fmgr := { w.fmgr with st := st } } : Work).setReg 0x4000 4 st

/-- New tables are asked for: the change begins, or follows the one that runs (R256). -/
def Work.startTables (w : Work) : Work :=
  if w.fmgr.st ≠ 0 then { w with fmgr := { w.fmgr with again := true } }
  else
    let w : Work := { w with
      fmgr := { steer := w.fmgr.steer, next := w.siteMap.logical }
      dies := w.dies.map (fun e => (e.1, { e.2 with router := { e.2.router with
        filled := false, checkedAt := none, quiesced := false, swapped := false } })) }
    w.fabricTo 1

/-- A logical array on another physical array: no image, nothing held; its record's counters stay until a job starts (R135,
R162). -/
def Arr.onAnother (x : Arr) : Arr :=
  { stale := x.stale, discarded := x.discarded, spills := x.spills, suspicions := x.suspicions, lastStatus := x.lastStatus }

/-- Arrays whose physical array has changed carry no image and are seeded anew (R69, R162). -/
def Work.substitute (old w : Work) : Work :=
  { w with arrays := w.arrays.map (fun e =>
      if old.physical (e.1 / 16) (e.1 % 16) = w.physical (e.1 / 16) (e.1 % 16) then e else (e.1, e.2.onAnother)) }

/-- The map computed anew with every recorded defect (R21, R34); substituted arrays lose their images (R162). -/
def Work.newMap (w : Work) : Work := Work.substitute w { w with siteMap := { w.computeMap with recomputing := w.siteMap.recomputing } }

/-- A recomputation begins, or begins again with a defect that has come up meanwhile: the new map, and its tables by a drain
and swap (R35, R37, R256). -/
def Work.beginRecompute (w : Work) : Work :=
  (({ w with siteMap := { w.siteMap with recomputing := true } } : Work).newMap).startTables

/-- A map computation has completed: no defect is pending, and the count goes up (R36, R37). -/
def Work.mapDone (w : Work) : Work :=
  ((({ w with siteMap := { w.siteMap with recomputing := false } } : Work).setReg 0x2100 0x0D 0).addReg 0x2100 0x09 1).interrupt 9

/-- The map and the tables of a start-up step (R34, R37). A recomputation that runs for a job start begins again with what the step
has found, and its end is still to come (R35, R37). -/
def Work.installMap (w : Work) : Work := if w.siteMap.recomputing then w.beginRecompute else (w.newMap.applyTables).mapDone

/-- A defect has been recorded: a recomputation that runs begins again with it (R37). -/
def Work.restartMap (w : Work) : Work := if w.siteMap.recomputing then w.beginRecompute else w

/-! ### Defects (R36, R40, R465) -/

/-- The junction temperature that a record of a site or array takes: the hottest reading of the site's four sensors that are
not suspect, in whole °C as a signed byte; 0x80 with none (R399, R401, R465; assumption 82). -/
def Work.siteTemp (w : Work) (n : Nat) : Nat :=
  let rs := ((List.range 4).map (fun i => (tget {} w.sensors (4 * n + i) : Sensor))).filterMap (fun x => if x.suspect then none else x.reading)
  match rs with
  | [] => 0x80
  | r :: rs => unsigned 8 ((rs.foldl max r) / 16)

/-- The measured supply of a site's regions, mV: VDD_CORE, the first rail of its bay's compute domain; 0 with no reading
(R387, R465; assumption 82). -/
def Work.siteSupply (w : Work) (n : Nat) : Nat := (tget {} (w.domain (bayOfSite n)).rails 0).mV % 2 ^ 12

/-- A defect record added, or the count of the unit's record raised (R40). With the map full the record is held and an
ERROR event raised: code 0, source the panel, detail 4,096 (assumption 83). -/
def Work.addDefect (w : Work) (r : Defect) : Work :=
  if w.allDefects.any (fun x => x.names r.kind r.site r.sub && x.wire == r.wire) then
    let up := fun (x : Defect) =>
      if x.names r.kind r.site r.sub && x.wire == r.wire then { x with count := min (x.count + 1) 255 } else x
    { w with defects := w.defects.map up, heldDefects := w.heldDefects.map up }
  else if w.defects.length < 4096 then { w with defects := w.defects ++ [r] }
  else ({ w with heldDefects := w.heldDefects ++ [r] } : Work).event 1 0 0 0 4096

/-- The unit of a record becomes defective at once and its logical positions absent (R36); every array of a defective site
reports defective but a fused one (R33). -/
def Work.applyDefect (w : Work) (r : Defect) : Work :=
  let m := w.siteMap
  if r.kind = 0 then
    let mine := (List.range 20).map (r.site * 20 + ·)
    { w with siteMap := { m with
        siteState := tput m.siteState r.site 3, logical := m.logical.filter (fun e => e.2 != r.site)
        arrayState := mine.foldl (fun t f => if w.fuses.arrays.contains f then t else tput t f 3) m.arrayState
        logicalArray := m.logicalArray.filter (fun e => e.1 / 20 != r.site) } }
  else if r.kind = 1 then
    { w with siteMap := { m with arrayState := tput m.arrayState (r.site * 20 + r.sub) 3,
                                 logicalArray := tdel m.logicalArray (r.site * 20 + r.sub) } }
  else if r.kind = 2 then { w with siteMap := { m with linkState := tput m.linkState (r.site * 8 + r.sub) 3 } }
  else if r.kind = 4 then w.modPort r.site (fun p => { p with st := .defective })
  else w

/-- The unit of a record is fused or already defective: a further failure changes its record alone (R2, R3, R40). -/
def Work.isOut (w : Work) (r : Defect) : Bool :=
  if r.kind = 0 then decide (2 ≤ w.siteState r.site)
  else if r.kind = 1 then decide (2 ≤ w.arrayCode r.site r.sub)
  else if r.kind = 2 then decide (2 ≤ w.linkOwn (r.site * 8 + r.sub))
  else if r.kind = 4 then w.fuses.ports.contains r.site || (w.port r.site).st == .defective
  else w.allDefects.any (fun x => x.names 3 r.site r.sub && x.wire == r.wire)

/-- A failure recorded: the record, the unit defective at once, and the defect pending until the next recomputation, for
sites, arrays, links and every unit that an operator's record names (R36, 0x2101.04; assumption 87). A recomputation that runs
begins again (R37). -/
def Work.recordDefect (w : Work) (r : Defect) : Work :=
  let w1 := w.addDefect r
  if w.isOut r then w1
  else
    let w2 := w1.applyDefect r
    let w3 := if r.kind ≤ 2 ∨ r.source = 5 then w2.addReg 0x2100 0x0D 1 else w2
    w3.restartMap

/-- The bytes of a defect record (R40). -/
def Defect.bytes (r : Defect) : List Byte :=
  toBytes (r.kind + r.source * 2 ^ 4 + r.site * 2 ^ 7 + r.sub * 2 ^ 16 + r.wire * 2 ^ 21 + r.temp * 2 ^ 32 + r.supply * 2 ^ 40
    + r.pattern * 2 ^ 52 + r.count * 2 ^ 56 + r.time * 2 ^ 64) 16

/-- The record that 16 bytes spell (R40). -/
def defectOf (bs : List Byte) : Defect :=
  let x := ofBytes bs
  { kind := field x 0 4, source := field x 4 3, site := field x 7 9, sub := field x 16 5, wire := field x 21 11,
    temp := field x 32 8, supply := field x 40 12, pattern := field x 52 4, count := field x 56 8, time := field x 64 64 }

/-! ### The meanings -/

/-- CLEAR_RECORD: record k marked for removal at the next start-up (0x2101.03). A number with no record is refused
with 0x73 (assumption 15). -/
def clearRecord (k : Nat) (w : Work) : Work :=
  if k < w.defects.length then { w with defectMarks := w.defectMarks.filter (· != k) ++ [k] }.accept else w.refuse 0x73

/-- CLEAR_RECORD (R39). -/
def execClearRecord (record : Nat) (s : State) : Host.Outcome State Fault Refusal := run (clearRecord record) s

/-- The fields of an operator record lie in their ranges (0x2101.04). -/
def Defect.operatorOk (r : Defect) : Bool :=
  r.source == 5 && decide (r.kind ≤ 4) && decide (r.site ≤ (if r.kind = 4 then 15 else 415)) &&
    (if r.kind = 1 then decide (r.sub ≤ 19) else if r.kind = 2 ∨ r.kind = 3 then decide (r.sub ≤ 7) else r.sub == 0) &&
    (if r.kind = 3 then decide (r.wire ≤ 1063) else r.wire == 0)

/-- What a start-up does to the defect map: marked records go, held ones take what room there is (R39, R40;
assumption 16). -/
def Work.startupDefects (w : Work) : Work :=
  let kept := (w.defects.zipIdx.filter (fun e => !w.defectMarks.contains e.2)).map (·.1)
  { w with defects := kept ++ w.heldDefects.take (4096 - kept.length), heldDefects := [], defectMarks := [] }

end Sys2Proof.Machine
end

