-- ==== Sys2Proof/Machine/Stores.lean ====
section
/-! DEFINITION. Global addresses, the stores behind them, poison and uncorrectable words, the die-store and Hutch
caches (R165 to R195). -/

namespace Sys2Proof.Machine

/-! ### Addresses (R190 to R192) -/

def aSpace (a : Nat) : Nat := field a 60 4
def aHutch (a : Nat) : Nat := field a 38 4
def aOffset (a : Nat) : Nat := field a 0 38
def aScratch (a : Nat) : Nat := field a 0 31
def aCol (a : Nat) : Nat := field a 39 5
def aRow (a : Nat) : Nat := field a 35 4
def aSlice (a : Nat) : Nat := field a 21 3
def aArr (a : Nat) : Nat := field a 31 4
def aByte (a : Nat) : Nat := field a 0 19

/-- A byte of array a's scratchpad (R190). -/
def Work.padAddr (w : Work) (a off : Nat) : Nat :=
  3 * 2 ^ 60 + w.colOf (a / 16) * 2 ^ 39 + w.rowOf (a / 16) * 2 ^ 35 + (a % 16) * 2 ^ 31 + off

/-- A byte of a Hutch's scratch (R190). -/
def scratchAddr (b off : Nat) : Nat := 2 ^ 60 + b * 2 ^ 38 + off

/-- A byte of a Hutch's DRAM (R190). -/
def dramAddr (b off : Nat) : Nat := b * 2 ^ 38 + off

/-- A remote address that names this panel is the local address it contains (R190). -/
def Work.localAddr (w : Work) (a : Nat) : Nat :=
  if aSpace a = 8 ∧ field a 48 12 = w.panelId then field a 44 4 * 2 ^ 60 + field a 0 44 else a

/-- An address on another panel. -/
def Work.isRemote (w : Work) (a : Nat) : Bool := aSpace (w.localAddr a) == 8

/-- Where a DRAM offset lies (R191). -/
structure DramPlace where
  stack : Nat
  channel : Nat
  rank : Nat
  /-- [1:0] bank group, [3:2] bank in group -/
  bank : Nat
  row : Nat
  /-- byte of the 2 KiB page -/
  column : Nat
  deriving DecidableEq, Repr

/-- DRAM offset decoding (R191). -/
def dramPlace (off : Nat) : DramPlace :=
  { stack := field off 12 3, channel := field off 8 3, rank := field off 37 1, bank := field off 17 4, row := field off 21 16
    column := field off 15 2 * 512 + field off 11 1 * 256 + field off 0 8 }

/-- The quadrant of a Hutch that holds an address: stacks 2q and 2q + 1 of its cache, or scratch by offset bits [9:8]
(R181). -/
def quadrantOf (addr : Nat) : Nat := if aSpace addr = 1 then field addr 8 2 else (dramPlace (aOffset addr)).stack / 2

/-- Usable DRAM bytes of a Hutch in force (R5, R187, R189). -/
def Work.dramBytes (w : Work) (b : Nat) : Nat :=
  let full := if w.fuses.variant = 2 then 128 * 2 ^ 30 else 256 * 2 ^ 30
  if (w.hutch b).ecc then full / 32 * 31 else full

/-- Scratch bytes of a Hutch in force (R182). -/
def Work.scratchBytes (w : Work) (b : Nat) : Nat := (1536 - (w.hutch b).cacheMiB) * 2 ^ 20

/-- Die-store slices in scratch mode (R176). -/
def Work.slices (w : Work) : Nat := w.eff 0x2010 0x01

/-- A nonzero bit outside the fields of a space (R192); spaces 0 to 3 and, within a remote address, the same. -/
def badBits (space x : Nat) : Bool :=
  if space = 0 then field x 42 18 != 0
  else if space = 1 then field x 42 18 != 0 || field x 31 7 != 0
  else if space = 2 then field x 44 16 != 0 || field x 24 11 != 0
  else if space = 3 then field x 44 16 != 0 || field x 19 12 != 0
  else true

/-- An address is invalid under R192. -/
def Work.invalid (w : Work) (a0 : Nat) : Bool :=
  let a := w.localAddr a0
  let s := aSpace a
  if s = 8 then
    badBits (field a 44 4) (field a 0 44) || (field a 44 4 == 1 && decide (aScratch a ≥ 1536 * 2 ^ 20)) ||
      (field a 44 4 == 3 && decide (aByte a ≥ 393216))
  else badBits s (field a 0 60) ||
    (if s = 0 then decide (aOffset a ≥ w.dramBytes (aHutch a)) || (w.fuses.variant == 2 && (dramPlace (aOffset a)).rank != 0)
     else if s = 1 then decide (aScratch a ≥ w.scratchBytes (aHutch a))
     else if s = 2 then decide (aSlice a ≥ w.slices)
     else decide (aByte a ≥ 393216))

/-- The logical die that an address in space 2 or 3 names. -/
def Work.addrDie (w : Work) (a : Nat) : Nat := w.dieOf (aCol a) (aRow a)

/-- The logical array that an address in space 3 names. -/
def Work.addrArr (w : Work) (a : Nat) : Nat := arrOf (w.addrDie a) (aArr a)

/-- An address names an absent die or array: one that carries no logical die, or lies beyond the columns (R25, R192). -/
def Work.absent (w : Work) (a0 : Nat) : Bool :=
  let a := w.localAddr a0
  if aSpace a = 2 then decide (w.cols ≤ aCol a) || !w.diePresent (w.addrDie a)
  else if aSpace a = 3 then decide (w.cols ≤ aCol a) || !w.arrPresent (w.addrArr a)
  else false

/-- A word of a scratchpad's spill area (R168, R173): words 47,104 and up. -/
def inSpill (a : Nat) : Bool := aSpace a == 3 && decide (47104 * 8 ≤ aByte a)

/-- A range of a scratchpad, here or on another panel, that ends in the spill area (R168, R173). -/
def spills (a n : Nat) : Bool :=
  (aSpace a == 3 || (aSpace a == 8 && field a 44 4 == 3)) && decide (376832 < aByte a + n)

/-! ### Hutches: reach and poison (R186, R194, R195) -/

/-- A Hutch is reached: its bay's compute domain is on, or its links are not yet gated, its memory domain is on, an XH link is
usable, and the clock that all links need is there (R186, R377, R409). -/
def Work.hutchReached (w : Work) (b : Nat) : Bool :=
  !w.root.lost && ((w.domain b).st == .on || ((w.domain b).st == .switchingOff && decide ((w.domain b).step < 5))) && (w.domain (16 + b)).st == .on && w.hutchAttach b != 0

/-- The poison-full condition (R195). -/
def Hutch.poisonFull (h : Hutch) : Bool := h.stuck || !h.overflow.isEmpty

/-- The 256 B line of an address. -/
def lineOf (a : Nat) : Nat := a / 256 * 256

/-- Lines of 256 B that `n` bytes from `a` touch. -/
def linesOf (a n : Nat) : List Nat := (List.range ((a % 256 + n + 255) / 256)).map (fun i => lineOf a + 256 * i)

/-- A line is listed as poisoned (R195). -/
def Hutch.poisoned (h : Hutch) (line : Nat) : Bool := h.poison.contains line || h.overflow.contains line

/-- An uncorrectable error in a line of Hutch SRAM or DRAM: the line enters the poison list, or the overflow list with
an ERROR event, or leaves the Hutch poison-full until restart (R194, R195). -/
def Work.poisonLine (w : Work) (b line : Nat) : Work :=
  let h := w.hutch b
  if h.poisoned line then w
  else if h.poison.length < 4096 then w.modHutch b (fun h => { h with poison := h.poison ++ [line] })
  else if h.overflow.length < 64 then
    (w.modHutch b (fun h => { h with overflow := h.overflow ++ [line] })).event 1 0x25 4 b line
  else (w.modHutch b (fun h => { h with stuck := true })).event 1 0x25 4 b line

/-- A line written whole: its entry goes, and the oldest overflow address moves into the list (R195). -/
def Hutch.clearLine (h : Hutch) (line : Nat) : Hutch :=
  let h1 := { h with poison := h.poison.filter (· != line), overflow := h.overflow.filter (· != line) }
  match h1.overflow with
  | x :: rest => if h1.poison.length < 4096 then { h1 with poison := h1.poison ++ [x], overflow := rest } else h1
  | [] => h1

/-- A line lies wholly within `n` bytes from `a`. -/
def covers (a n line : Nat) : Bool := decide (a ≤ line) && decide (line + 256 ≤ a + n)

/-- Bytes stored in a Hutch: full lines clear their poison (R195). -/
def Work.hutchWrite (w : Work) (a : Nat) (bs : List Byte) : Work :=
  let b := aHutch a
  let whole := (linesOf a bs.length).filter (covers a bs.length)
  let w1 := w.write a bs
  if whole.any (w.hutch b).poisoned then w1.modHutch b (fun h => whole.foldl Hutch.clearLine h) else w1

/-- A range of a Hutch filled with zeros: the lines written whole lose their poison (R195). -/
def Work.hutchZero (w : Work) (a n : Nat) : Work :=
  let b := aHutch a
  let gone := ((w.hutch b).poison ++ (w.hutch b).overflow).filter (covers a n)
  let w1 := w.zero a n
  if gone.isEmpty then w1 else w1.modHutch b (fun h => gone.foldl Hutch.clearLine h)

/-! ### The Hutch cache (R183) -/

/-- log₂ of the cache's sets: 16, 17 or 18 (R183). -/
def Hutch.setBits (h : Hutch) : Nat := if h.cacheMiB = 256 then 16 else if h.cacheMiB = 512 then 17 else 18

/-- The lines that a full set holds with a new line in place of the one replacement evicts (assumption 9). -/
def evict {A : Type} (set uses : Nat) (ways : List A) : Option A := ways[Config.evictWay set uses % 16]?

/-- One access to a line of a Hutch's stacks through its cache (R183): counted as hit or miss; a miss allocates unless it
is marked no-allocate; an evicted dirty line is written back. -/
def Work.hutchAccess (w : Work) (b off : Nat) (write noAlloc : Bool) : Work :=
  let h := w.hutch b
  if h.cacheMiB = 0 then w
  else
    let line := off / 256
    match h.lines.find? (fun e => e.1 == line) with
    | some e =>
      (w.modHutch b (fun h => { h with lines := tput h.lines line (e.2 || write), uses := h.uses + 1 })).addReg (0x5000 + b) 0x08 1
    | none =>
      let w1 := w.addReg (0x5000 + b) 0x09 1
      if noAlloc then w1
      else
        let set := line % 2 ^ h.setBits
        let ways := h.lines.filter (fun e => e.1 % 2 ^ h.setBits == set)
        if ways.length < 16 then
          w1.modHutch b (fun h => { h with lines := h.lines ++ [(line, write)], uses := h.uses + 1 })
        else
          match evict set h.uses ways with
          | some v =>
            let w2 := w1.modHutch b (fun h => { h with lines := tdel h.lines v.1 ++ [(line, write)], uses := h.uses + 1 })
            if v.2 then w2.addReg (0x5000 + b) 0x0A 1 else w2
          | none => w1

/-- Every access of a range of a Hutch's stacks, line by line; Hutch scratch passes no cache. -/
def Work.hutchAccesses (w : Work) (a n : Nat) (write noAlloc : Bool) : Work :=
  if aSpace a = 0 then (linesOf a n).foldl (fun w l => w.hutchAccess (aHutch a) (aOffset l) write noAlloc) w else w

/-- A range of a Hutch filled with zeros by one of its engines, through its cache (R183). -/
def Work.clearRange (w : Work) (a n : Nat) : Work := (w.hutchAccesses a n true false).hutchZero a n

/-- Unwritten contents of a range of a Hutch are undefined, and its poison entries go with them (R182). -/
def Work.hutchForget (w : Work) (a n : Nat) : Work :=
  let b := aHutch a
  let gone := ((w.hutch b).poison ++ (w.hutch b).overflow).filter (covers a n)
  let w1 := w.forget a n
  if gone.isEmpty then w1 else w1.modHutch b (fun h => gone.foldl Hutch.clearLine h)

/-- The whole cache written back and invalidated (R184). -/
def Work.flushHutch (w : Work) (b : Nat) : Work :=
  let dirty := ((w.hutch b).lines.filter (·.2)).length
  (w.modHutch b (fun h => { h with lines := [] })).addReg (0x5000 + b) 0x0A dirty

/-! ### The die-store cache (R179, R180) -/

/-- Cache slices of a die store. -/
def Work.cacheSlices (w : Work) : Nat := 8 - w.slices

/-- Slice and set of a DRAM line, as one number (R179). -/
def Work.dieSet (w : Work) (a : Nat) : Nat :=
  let s := max w.cacheSlices 1
  (w.slices + a / 128 % s) * 1024 + a / 128 / s % 1024

/-- A die-store cache line's bytes: a hit; or the Hutch's, kept unless the read is marked no-allocate (R179). A hit on a
line with stale data returns it (R180). -/
def Work.dieLine (w : Work) (d line : Nat) (noAlloc : Bool) : List Byte × Work :=
  match (w.die d).cache.find? (fun e => e.addr == line) with
  | some e => (e.bytes, w.modDie d (fun x => { x with cacheUse := x.cacheUse + 1, hints := x.hints.filter (· != line) }))
  | none =>
    let bs := w.read line 128
    let w1 := w.hutchAccess (aHutch line) (aOffset line) false noAlloc
    if noAlloc || w.cacheSlices == 0 then (bs, w1)
    else
      let set := w.dieSet line
      let ways := (w.die d).cache.filter (fun e => w.dieSet e.addr == set)
      let out := if ways.length < 16 then none else evict set (w.die d).cacheUse ways
      (bs, w1.modDie d (fun x => { x with
        cache := (match out with | some v => x.cache.filter (fun e => e.addr != v.addr) | none => x.cache) ++ [⟨line, bs⟩],
        cacheUse := x.cacheUse + 1, hints := x.hints.filter (· != line) }))

/-- Lines of 128 B that a range touches. -/
def lines128 (a n : Nat) : List Nat := (List.range ((a % 128 + n + 127) / 128)).map (fun i => a / 128 * 128 + 128 * i)

/-- A DRAM range read through a die's store (R179). -/
def Work.readDie (w : Work) (d a n : Nat) (noAlloc : Bool) : List Byte × Work :=
  let (bs, w') := (lines128 a n).foldl (fun (acc : List Byte × Work) l =>
    let (x, w1) := acc.2.dieLine d l noAlloc
    (acc.1 ++ x, w1)) ([], w)
  (slice bs (a % 128) n, w')

/-- A hint fetched ahead: dropped where it would evict a hinted line not yet read (R179), and where the Hutch serves no read (R186,
R195). -/
def Work.prefetch (w : Work) (d line : Nat) : Work :=
  if w.invalid line || aSpace line != 0 || !w.hutchReached (aHutch line) || (w.hutch (aHutch line)).poisonFull || w.cacheSlices == 0 ||
      (w.die d).cache.any (fun e => e.addr == line) then w
  else
    let set := w.dieSet line
    let ways := (w.die d).cache.filter (fun e => w.dieSet e.addr == set)
    let out := if ways.length < 16 then none else evict set (w.die d).cacheUse ways
    match out with
    | some v =>
      if (w.die d).hints.contains v.addr then w
      else (w.dieLine d line false).2.modDie d (fun x => { x with hints := x.hints ++ [line] })
    | none => (w.dieLine d line false).2.modDie d (fun x => { x with hints := x.hints ++ [line] })

/-- A write through a die to the owning Hutch updates the line where it hits (R179). -/
def Work.dieUpdate (w : Work) (d a : Nat) (bs : List Byte) : Work :=
  if (w.die d).cache.any (fun e => decide (e.addr < a + bs.length) && decide (a < e.addr + 128)) then
    w.modDie d (fun x => { x with cache := x.cache.map (fun e =>
      { e with bytes := e.bytes.zipIdx.map (fun p =>
          if a ≤ e.addr + p.2 ∧ e.addr + p.2 < a + bs.length then bs.getD (e.addr + p.2 - a) 0 else p.1) }) })
  else w

/-- Die-store cache lines of a range invalidated (R180). -/
def Work.invalidateDie (w : Work) (d a n : Nat) : Work :=
  w.modDie d (fun x => { x with
    cache := x.cache.filter (fun e => !(decide (e.addr < a + n) && decide (a < e.addr + 128))),
    hints := x.hints.filter (fun h => !(decide (h < a + n) && decide (a < h + 128))) })

/-! ### Access by panel agents (R192 to R195) -/

/-- An uncorrectable word lies in a range (R194). -/
def Work.hasBadWord (w : Work) (a n : Nat) : Bool := w.badWords.any (fun x => decide (x < a + n) && decide (a < x + 8))

/-- The lowest uncorrectable word of a range. -/
def Work.firstBad (w : Work) (a n : Nat) : Option Nat :=
  (w.badWords.filter (fun x => decide (x < a + n) && decide (a < x + 8))).foldl (fun m x =>
    some (match m with | some y => min x y | none => x)) none

/-- A poisoned line lies in a range. -/
def Work.hasPoison (w : Work) (a n : Nat) : Bool := (linesOf a n).any (w.hutch (aHutch a)).poisoned

/-- The status that a read of a local range meets (R192, R194 to R196); none when it is served. -/
def Work.readStatus (w : Work) (a0 n : Nat) : Option Nat :=
  let a := w.localAddr a0
  if w.invalid a0 || (n != 0 && w.invalid (a0 + n - 1)) || spills a n then some 0x23
  else if w.absent a0 then some 0x08
  else if aSpace a ≤ 1 then
    if !w.hutchReached (aHutch a) then some 0x24
    else if (w.hutch (aHutch a)).poisonFull then some 0x25
    else if w.hasPoison a n then some 0x22
    else none
  else if w.hasBadWord a n then some (if aSpace a = 2 then 0x21 else 0x20)
  else none

/-- The status that a write of a local range meets. -/
def Work.writeStatus (w : Work) (a0 n : Nat) : Option Nat :=
  let a := w.localAddr a0
  if w.invalid a0 || (n != 0 && w.invalid (a0 + n - 1)) || spills a n then some 0x23
  else if w.absent a0 then some 0x08
  else if aSpace a ≤ 1 then
    if !w.hutchReached (aHutch a) then some 0x24 else if (w.hutch (aHutch a)).poisonFull then some 0x25 else none
  else none

/-- Bytes of a local range as panel agents read them, past the die-store caches (R183). -/
def Work.loadBytes (w : Work) (a0 n : Nat) (noAlloc : Bool) : List Byte × Work :=
  let a := w.localAddr a0
  (w.read a n, w.hutchAccesses a n false noAlloc)

/-- Bytes stored in a local range by a panel agent. -/
def Work.storeBytes (w : Work) (a0 : Nat) (bs : List Byte) : Work :=
  let a := w.localAddr a0
  if aSpace a ≤ 1 then (w.hutchAccesses a bs.length true false).hutchWrite a bs else w.write a bs

/-! ### CRC-32C and the check-value CRCs (R125, R222) -/

/-- One byte of a reflected CRC. -/
def crcRefByte (poly : Nat) (c b : Nat) : Nat :=
  (List.range 8).foldl (fun c _ => if c % 2 = 1 then (c / 2) ^^^ poly else c / 2) (c ^^^ b)

/-- One byte of a CRC of `width` bits that is not reflected. -/
def crcByte (width poly : Nat) (c b : Nat) : Nat :=
  (List.range 8).foldl (fun c _ =>
    if c / 2 ^ (width - 1) % 2 = 1 then (c * 2 % 2 ^ width) ^^^ poly else c * 2 % 2 ^ width) (c ^^^ (b * 2 ^ (width - 8)))

/-- The shift register of a polynomial of R222 after bytes. -/
def crcRun (poly : Nat) (c : Nat) (bs : List Byte) : Nat :=
  bs.foldl (fun c b =>
    if poly = 0 then crcRefByte 0x82F63B78 c b.toNat
    else if poly = 1 then crcRefByte 0xEDB88320 c b.toNat
    else if poly = 2 then crcByte 64 0x42F0E1EBA9EA3693 c b.toNat
    else crcByte 16 0x1021 c b.toNat) c

/-- Initial value of a polynomial (R222). -/
def crcInit (poly : Nat) : Nat := if poly ≤ 1 then 0xFFFFFFFF else if poly = 2 then 0 else 0xFFFF

/-- Final XOR of a polynomial (R222). -/
def crcXor (poly : Nat) : Nat := if poly ≤ 1 then 0xFFFFFFFF else 0

/-- CRC-32C of R125. -/
def crc32c (bs : List Byte) : Nat := crcRun 0 0xFFFFFFFF bs ^^^ 0xFFFFFFFF

/-! ### Scratchpad timing class (R166) and patrols (R189, R194) -/

/-- Issues of an access: the largest number of its words in one bank (R165, R166). -/
def issuesOf (ws : List Nat) : Nat :=
  (List.range 32).foldl (fun m b => max m ((ws.filter (fun x => (x % 32 + x / 32) % 32 == b)).length)) 0

/-- The issues of one access: the i-th word of every bank goes with the i-th issue (R166). -/
def splitIssues (ws : List Nat) : List (List Nat) :=
  (List.range (issuesOf ws)).map (fun i => (List.range 32).flatMap (fun b =>
    ((ws.filter (fun x => (x % 32 + x / 32) % 32 == b)).drop i).take 1))

/-- One access of up to 32 words enters the main-port pipeline (R166, R170). -/
def Arr.access (x : Arr) (write : Bool) (who : Nat) (ws : List Nat) : Arr :=
  { x with pipe := x.pipe ++ (splitIssues ws).map (fun i => ⟨write, who, i⟩) }

/-- Consecutive words in accesses of 32. -/
def by32 (x n : Nat) : List (List Nat) :=
  (List.range ((n + 31) / 32)).map (fun i => (List.range (min 32 (n - 32 * i))).map (x + 32 * i + ·))

/-- Consecutive words, one access to a bank row (R171). -/
def byRow (x n : Nat) : List (List Nat) :=
  if n = 0 then []
  else (List.range ((x + n - 1) / 32 - x / 32 + 1)).map (fun i =>
    ((List.range 32).map (32 * (x / 32 + i) + ·)).filter (fun y => decide (x ≤ y) && decide (y < x + n)))

/-- Accesses of an array's scratchpad, in order. -/
def Work.accesses (w : Work) (a : Nat) (write : Bool) (who : Nat) (l : List (List Nat)) : Work :=
  w.modArr a (fun x => l.foldl (fun x ws => x.access write who ws) x)

/-- An error that cannot be corrected, found at an address as the data of an issue comes: a word of the own scratchpad that
the issue reads, a word of the own die's scratch slices, or a line of its cache, which is fetched anew and counted (R194,
R196). The record names the engine that reads, with its template and tile (R220). -/
def Work.wordError (w : Work) (a : Nat) (i : Issue) (x : Nat) : Work :=
  let word := x / 8 * 8
  let en := w.engine a i.who
  let at_ : Cause := if i.who < 4 ∧ en.started then { status := 0, engine := en.where_ i.who, tile := en.tileOf word } else { status := 0 }
  let found := fun (w : Work) (st : Nat) =>
    let w : Work := { w with badWords := word :: w.badWords.filter (· != word) }
    if (w.arr a).task.isSome then w.taskFault a { at_ with status := st, address := word } else w
  if aSpace x = 3 ∧ w.addrArr x = a ∧ !i.write ∧ i.words.contains (aByte x / 8) then found w 0x20
  else if aSpace x = 3 ∧ w.addrArr x = a ∧ inSpill x then { w with badWords := word :: w.badWords.filter (· != word) }
  else if aSpace x = 2 ∧ w.addrDie x = a / 16 ∧ !w.invalid x then found w 0x21
  else if aSpace x = 0 ∧ (w.die (a / 16)).cache.any (fun e => e.addr == x / 128 * 128) then
    (((w.invalidateDie (a / 16) (x / 128 * 128) 128).dieLine (a / 16) (x / 128 * 128) false).2).wordsCorrected (a / 16) 1
  else w

/-- SCRATCHPAD_ACCESS_COMPLETE: the oldest issue of the main-port pipeline completes; words corrected on the way are counted
for the site, and errors that cannot be corrected are met (R166, R170, R194). -/
def padComplete (a corrected : Nat) (bad : List Nat) (w : Work) : Work :=
  match (w.arr a).pipe with
  | [] => w
  | i :: rest =>
    let w := w.modArr a (fun x => { x with pipe := rest })
    let w := if corrected = 0 then w else w.wordsCorrected (a / 16) corrected
    bad.foldl (fun w x => w.wordError a i x) w

/-- SCRATCHPAD_ACCESS_COMPLETE (R166). -/
def execScratchpadAccessComplete (access : PadAccess) (s : State) : Host.Outcome State Fault Refusal :=
  run (padComplete access.array access.corrected access.bad) s

/-- An uncorrectable error found in Hutch SRAM at a line: a dirty cache line, or scratch, is poisoned; a clean cache
line is dropped and fetched again, which is no access of a requester's (R194). -/
def sramError (b : Nat) (w : Work) (a : Nat) : Work :=
  let line := lineOf a
  let w1 := w.addReg (0x5000 + b) 0x0C 1
  if aSpace line = 1 then w1.poisonLine b line
  else
    match (w1.hutch b).lines.find? (fun e => e.1 == aOffset line / 256) with
    | some (l, true) => if l = aOffset line / 256 then w1.poisonLine b line else w1
    | some (l, false) => w1.modHutch b (fun h => { h with lines := tdel h.lines l ++ [(l, false)], uses := h.uses + 1 })
    | none => w1

/-- SRAM_PATROL: corrected words counted, uncorrectable lines handled (R194). The patrol reads lines of its own Hutch. -/
def sramPatrol (b corrected : Nat) (bad : List Nat) (w : Work) : Work :=
  if (w.domain (16 + b)).st == .on then
    (bad.filter (fun a => aHutch a == b && decide (aSpace a ≤ 1))).foldl (sramError b) (w.corrected (0x5000 + b) 0x0B corrected 4 b)
  else w

/-- SRAM_PATROL (R194). -/
def execSramPatrol (b corrected : Nat) (bad : List Nat) (s : State) : Host.Outcome State Fault Refusal :=
  run (sramPatrol b corrected bad) s

/-- DRAM_PATROL_SCRUB: with inline ECC on, corrected lines counted and written back, detected ones poisoned; with it off, what
link ECC has corrected is counted and nothing is detected (R189, R194). -/
def dramPatrol (b corrected : Nat) (bad : List Nat) (w : Work) : Work :=
  if (w.domain (16 + b)).st == .on && !(w.hutch b).ecc then w.corrected (0x5000 + b) 0x0D corrected 4 b
  else if (w.domain (16 + b)).st == .on then
    (bad.filter (fun a => aHutch a == b && aSpace a == 0)).foldl
      (fun w a => (w.addReg (0x5000 + b) 0x0E 1).poisonLine b (lineOf a)) (w.corrected (0x5000 + b) 0x0D corrected 4 b)
  else w

/-- DRAM_PATROL_SCRUB (R189). -/
def execDramPatrolScrub (b corrected : Nat) (bad : List Nat) (s : State) : Host.Outcome State Fault Refusal :=
  run (dramPatrol b corrected bad) s

end Sys2Proof.Machine
end

