-- ==== Sys2Proof/Machine/Images.lean ====
section
/-! DEFINITION. Array images: their layout, the checks of registration, and the registry (R122 to R136, R198 to R202,
R466). -/

namespace Sys2Proof.Machine

/-! ### Layout (R123 to R126) -/

/-- Offset of cell record p. -/
def imgCell (p : Nat) : Nat := 0x100 + 0x310 * p

/-- Bytes of an image with T templates and C channels (R124). -/
def imgLength (t c : Nat) : Nat := 0x31300 + 64 * t + 16 * c

/-- Why an image is refused (0x2800.05): status, cell or template, index or direction, condition of R122. -/
structure Refused where
  status : Nat
  cell : Nat := 0
  idx : Nat := 0
  cond : Nat := 0
  deriving DecidableEq, Repr

/-- RegisterStatus (R135). -/
def Refused.word (r : Refused) : Nat := r.status + r.cell * 2 ^ 8 + r.idx * 2 ^ 16 + r.cond * 2 ^ 24

/-- The fields of a header (R124). -/
structure Header where
  length : Nat
  crc : Nat
  graph : Nat
  id : Nat
  epoch : Nat
  keepDenorm : Bool
  templates : Nat
  channels : Nat
  deriving DecidableEq, Repr

/-- The header that an image's first 256 bytes spell. -/
def headerOf (h : List Byte) : Header :=
  { length := leAt h 8 4, crc := leAt h 0xC 4, graph := leAt h 0x10 4, id := leAt h 0x14 4, epoch := leAt h 0x18 1 % 4,
    keepDenorm := bit (leAt h 0x19 1) 0, templates := leAt h 0x1A 1, channels := leAt h 0x1B 1 }

/-- Magic, Version, HeaderSize, Length, ranges and zero fields of a header, all under one status (R123, R124; assumption
95). -/
def headerOk (h : List Byte) : Bool :=
  leAt h 0 4 == 0x49574156 && leAt h 4 2 == 1 && leAt h 6 2 == 0x100 && decide (leAt h 0x1A 1 ≤ 16) &&
    decide (leAt h 0x1B 1 ≤ 64) && leAt h 8 4 == imgLength (leAt h 0x1A 1) (leAt h 0x1B 1) && leAt h 0x10 4 != 0 &&
    leAt h 0x14 4 != 0 && decide (leAt h 0x18 1 < 4) && decide (leAt h 0x19 1 < 2) && allZero (slice h 0x1C 4) &&
    allZero (slice h 0x30 208)

/-- The CRC of an image, its Crc field taken as zero (R125). -/
def imageCrc (bs : List Byte) : Nat := crc32c (bs.take 0xC ++ [0, 0, 0, 0] ++ bs.drop 0x10)

/-! ### Sources that each opcode allows (R95, R104) -/

def srcNone : List Nat := [15]
def srcBar : List Nat := [0, 1, 2, 3, 15]
def srcQueue : List Nat := [0, 1, 2, 3]
def srcStore : List Nat := [0, 1, 2, 3, 4, 5]
def srcDot : List Nat := [0, 1, 2, 3, 4, 5, 9]
def srcSparse : List Nat := [0, 1, 2, 3, 9]
def srcWeights : List Nat := [0, 1, 2, 3, 5, 9]
def srcAny : List Nat := List.range 12
def srcNoImm : List Nat := [0, 1, 2, 3, 4, 5, 6, 8, 9, 10, 11]

/-- The sources A, B and C that an opcode may name; none for a reserved opcode (R95). -/
def allowed (op : Nat) : Option (List Nat × List Nat × List Nat) :=
  if op = 0x00 ∨ op = 0x02 ∨ op = 0x03 ∨ op = 0x50 ∨ op = 0x51 then some (srcNone, srcNone, srcNone)
  else if op = 0x01 then some (srcBar, srcBar, srcBar)
  else if op = 0x04 ∨ op = 0x05 ∨ op = 0xA2 then some (srcStore, srcNone, srcNone)
  else if ops 0x10 0x1A op ∨ ops 0x20 0x2F op then some (srcDot, srcDot, srcNone)
  else if ops 0x30 0x3A op ∨ ops 0x40 0x4F op then some (srcSparse, srcWeights, srcSparse)
  else if op = 0x52 then some (srcAny, srcNone, srcNone)
  else if op = 0x53 ∨ ops 0x9C 0x9D op ∨ op = 0xA0 ∨ op = 0xB0 ∨ op = 0xB1 ∨ op = 0xB8 then some (srcNoImm, srcNone, srcNone)
  else if op = 0x63 then some (srcAny, srcAny, srcAny)
  else if ops 0x60 0x65 op ∨ ops 0x68 0x6C op ∨ ops 0x70 0x75 op ∨ ops 0x80 0x8D op then some (srcAny, srcAny, srcNone)
  else if op = 0x90 then some (srcAny, srcAny, srcAny)
  else if op = 0x98 ∨ op = 0x99 then some (srcQueue, srcNone, srcNoImm)
  else if op = 0x9A then some (srcQueue, srcQueue, srcNone)
  else if op = 0x9B then some (srcQueue, srcQueue, srcNoImm)
  else if op = 0xA1 then some ([4], srcNone, srcNone)
  else none

/-- FWD is permitted on these opcodes (R85). -/
def fwdOp (op : Nat) : Bool := isDot op || op == 0x52 || op == 0x53 || op == 0xB1 || op == 0x04 || op == 0x05

/-- The registers an instruction may write beside dest: STEER's false mask, MXPACK's scale mask (R105, R113). -/
def otherMask (w : Nat) : Nat :=
  if iOp w = 0x98 then iImm w % 16 else if iOp w = 0xA1 then field (iImm w) 4 4 else 0

/-- Directions that a mask names. -/
def maskDirs (m : Nat) : List Nat := (List.range 4).filter (inMask m)

/-- The array edge port in the outward direction d of a boundary cell (R128). -/
def edgePort (p d : Nat) : Option Nat :=
  if neighbour p d = none then some (16 * d + (if d < 2 then p % 16 else p / 16)) else none

/-- A direction leads out of the array through a port whose outgoing half is unbound (R122 condition 11). -/
def unboundOut (ports : List Nat) (p d : Nat) : Bool :=
  match edgePort p d with
  | some e => field (ports.getD e 0) 0 4 == 0
  | none => false

/-- Condition 1: reserved opcodes, source, format and function codes, and targets beyond the program (R122); a target that
NEXT does not use is not looked at (assumption 90). -/
def cond1 (w n : Nat) : Bool :=
  let op := iOp w
  (allowed op).isNone || [iSrcA w, iSrcB w, iSrcC w].any (fun s => decide (12 ≤ s) && decide (s ≤ 14)) ||
    (iMode w != 0 && decide (n ≤ iTarget w)) ||
    (op == 0xA0 && (decide (7 < iImm w % 16) || decide (7 < field (iImm w) 4 4))) ||
    ((op == 0x51 || op == 0xA1 || op == 0xA2) && decide (4 < iImm w % 8)) || (op == 0xB8 && decide (5 < iImm w % 8)) ||
    (op == 0x9D && field (iImm w) 3 2 == 3)

/-- Condition 2: sources that the opcode map does not allow (R122). -/
def cond2 (w : Nat) : Bool :=
  match allowed (iOp w) with
  | some (a, b, c) => !(a.contains (iSrcA w) && b.contains (iSrcB w) && c.contains (iSrcC w))
  | none => true

/-- Condition 3: two sources that name one queue (R122). -/
def cond3 (w : Nat) : Bool := decide (¬ (named w).Nodup)

/-- Condition 4: consume bits and FWD (R85, R122). -/
def cond4 (w : Nat) : Bool :=
  let pairs := [(iSrcA w, iCA w), (iSrcB w, iCB w), (iSrcC w, iCC w)]
  pairs.any (fun x => x.2 && !isQueue x.1) ||
    ((iOp w == 0x9A || iOp w == 0x9B || iOp w == 0x01) && pairs.any (fun x => isQueue x.1 && !x.2)) ||
    (iFwd w && !(fwdOp (iOp w) && isQueue (iSrcA w) && (iCA w || (isRType (iOp w) && iHold w))))

/-- Condition 5: dest on a dot product without FWD, or on SFU (R97, R117, R122). -/
def cond5 (w : Nat) : Bool := iDest w != 0 && ((isDot (iOp w) && !iFwd w) || iOp w == 0xB8)

/-- Condition 6: step, HOLD or SOBA bits; an immediate other than 0 where the opcode map gives 0 (R86, R95, R98, R109,
R122; assumption 89). -/
def cond6 (w : Nat) : Bool :=
  (iOp w == 0x9C && (iSAcc w || iSObA w || iSObB w || iHold w)) || (isSparse (iOp w) && iSObA w) ||
    ([0x03, 0x04, 0x05, 0x9B].contains (iOp w) && iImm w != 0)

/-- Condition 7: acc fields (R82, R99 to R101, R110, R122). -/
def cond7 (w : Nat) : Bool :=
  let op := iOp w
  (iAcc w % 2 == 1 && ([iSrcA w, iSrcB w, iSrcC w].contains 11 || ((op == 0x50 || op == 0x53 || op == 0x9D) && bit (iImm w) 1))) ||
    (op == 0x51 && !(if iImm w % 8 < 2 then iAcc w == 0 || iAcc w == 4 else iAcc w == 0))

/-- The CVT pairs of R111. -/
def cvtPair (a b : Nat) : Bool :=
  a == 0 || a == 5 || b == 0 || b == 5 || [(1, 2), (2, 1), (3, 4), (4, 3)].contains (a, b)

/-- Condition 8: CVT pairs; every dot-product opcode names a pairing of R54 (R122). -/
def cond8 (w : Nat) : Bool := iOp w == 0xA0 && !cvtPair (iImm w % 16) (field (iImm w) 4 4)

/-- Condition 9: overlapping masks (R122). -/
def cond9 (w : Nat) : Bool := (iDest w &&& otherMask w) != 0

/-- Condition 10: queues and registers bound to paths, and undeclared paths of PTCFG (R46, R119, R122). -/
def cond10 (w : Nat) (paths : List Nat) : Bool :=
  let bound := (List.range 4).filter (fun d => bit (paths.getD d 0) 7)
  let outs := bound.map (fun d => paths.getD d 0 % 4)
  (named w).any bound.contains || (maskDirs (iDest w ||| otherMask w)).any outs.contains ||
    (iOp w == 0x02 && (maskDirs (iImm w % 16)).any (fun d => !bound.contains d))

/-- Condition 11: a register that leads to an unbound port (R84, R122). -/
def cond11 (w p : Nat) (ports : List Nat) : Bool := (maskDirs (iDest w ||| otherMask w)).any (unboundOut ports p)

/-- The first condition of R122 that an instruction of a program of n words breaks. -/
def instrCond (w p n : Nat) (paths ports : List Nat) : Option Nat :=
  let cs := [cond1 w n, cond2 w, cond3 w, cond4 w, cond5 w, cond6 w, cond7 w, cond8 w, cond9 w, cond10 w paths, cond11 w p ports]
  (findAt id cs 1)

/-- The condition that path byte d of a cell breaks (R127, R45, R122). Of two paths with one Out the later in the order N, S, E, W
breaks condition 10 (DESIGN CHOICE, assumption 121). -/
def pathCond (p d : Nat) (paths ports : List Nat) : Option Nat :=
  let b := paths.getD d 0
  if b = 0 then none
  else if !bit b 7 || field b 2 4 != 0 || b % 4 == d ||
      (List.range d).any (fun j => bit (paths.getD j 0) 7 && paths.getD j 0 % 4 == b % 4) then some 10
  else if unboundOut ports p (b % 4) then some 11
  else none

/-- What is wrong with the cell record p, first in the order of R466; of the path bytes the first that breaks condition 10 or 11
(DESIGN CHOICE, assumption 121). -/
def checkCell (r : List Byte) (p : Nat) (ports : List Nat) : Option Refused :=
  let words := (List.range 32).map (fun i => leAt r (8 * i) 8)
  let n := leAt r 0x300 1
  let paths := (List.range 4).map (fun d => leAt r (0x301 + d) 1)
  if n = 0 ∨ 32 < n ∨ (words.drop n).any (· != 0) ∨ leAt r 0x305 1 ≠ 0 ∨ 4096 ≤ leAt r 0x306 2 ∨ 4096 ≤ leAt r 0x308 2 ∨
      !allZero (slice r 0x30A 6) then some { status := 0x02, cell := p }
  else
    match (List.range n).findSome? (fun i => (instrCond (words.getD i 0) p n paths ports).map (fun c => (i, c))) with
    | some (i, c) => some { status := 0x04, cell := p, idx := i, cond := c }
    | none =>
      match (List.range 4).findSome? (fun d => (pathCond p d paths ports).map (fun c => (d, c))) with
      | some (d, c) => some { status := 0x04, cell := p, idx := d, cond := c }
      | none => none

/-! ### Edge ports and channel records (R129 to R133, R152) -/

def pOutKind (v : Nat) : Nat := field v 0 4
def pInKind (v : Nat) : Nat := field v 4 4
def pOutRef (v : Nat) : Nat := field v 8 8
def pInRef (v : Nat) : Nat := field v 16 8
def pInDepth (v : Nat) : Nat := field v 24 8
def pBase (v : Nat) : Nat := field v 32 16
def pWords (v : Nat) : Nat := field v 48 13
def pLane (v : Nat) : Nat := field v 61 3

def chDir (r : Nat) : Bool := bit r 0
def chPort (r : Nat) : Nat := field r 8 6
def chAdaptive (r : Nat) : Bool := bit r 16
def chFlush (r : Nat) : Nat := field r 24 8
def chPeerPanel (r : Nat) : Nat := field r 32 12
def chRemote (r : Nat) : Bool := bit r 44
def chPeerC (r : Nat) : Nat := field r 48 8
def chPeerR (r : Nat) : Nat := field r 56 8
def chPeerK (r : Nat) : Nat := field r 64 4
def chPeerPort (r : Nat) : Nat := field r 72 6
def chTag (r : Nat) : Nat := field r 80 32

/-- One half of port e agrees with what it names (R129, R133). -/
def halfOk (kind ref e : Nat) (receive : Bool) (chans : List Nat) : Bool :=
  if kind = 2 then decide (ref ≤ 3)
  else if kind = 3 then
    decide (ref < chans.length) && chDir (chans.getD ref 0) == receive && chPort (chans.getD ref 0) == e
  else ref == 0

/-- An entry of the edge-port table is well formed (R129, R130). -/
def portOk (v e : Nat) (chans : List Nat) : Bool :=
  decide (pOutKind v ≤ 3) && decide (pInKind v ≤ 3) && !(pOutKind v == 1 && pInKind v == 1) &&
    halfOk (pOutKind v) (pOutRef v) e false chans && halfOk (pInKind v) (pInRef v) e true chans &&
    (if pInKind v = 0 then pInDepth v == 0 else decide (1 ≤ pInDepth v ∧ pInDepth v ≤ 16)) &&
    (if pOutKind v = 1 ∨ pInKind v = 1 then pWords v != 0 else pWords v == 0) && !(pOutKind v == 1 && pLane v != 0)

/-- The incoming pool of the side of port e, over ports up to e, does not exceed 64 (R131). -/
def poolOk (ports : List Nat) (e : Nat) : Bool :=
  decide (((List.range (e % 16 + 1)).map (fun j => pInDepth (ports.getD (16 * (e / 16) + j) 0))).sum ≤ 64)

/-- The window of a port lies below the spill area and overlaps no earlier one against R130. -/
def windowOk (ports : List Nat) (e : Nat) : Bool :=
  let v := ports.getD e 0
  if pWords v = 0 then true
  else
    decide (pBase v + pWords v ≤ 47104) &&
      (List.range e).all (fun j =>
        let u := ports.getD j 0
        pWords u == 0 || !(pOutKind u == 1 || pOutKind v == 1) || decide (pBase u + pWords u ≤ pBase v) ||
          decide (pBase v + pWords v ≤ pBase u))

/-- The status that port e meets (R466 step 6). -/
def portCheck (ports chans : List Nat) (e : Nat) : Option Refused :=
  if !portOk (ports.getD e 0) e chans || !poolOk ports e then some { status := 0x06 }
  else if !windowOk ports e then some { status := 0x07 }
  else none

/-- A channel record is well formed, and no earlier one of its Dir carries its tag (R133, R152). -/
def chanOk (chans : List Nat) (i : Nat) : Bool :=
  let r := chans.getD i 0
  field r 1 7 == 0 && field r 14 2 == 0 && field r 17 7 == 0 && field r 45 3 == 0 && field r 68 4 == 0 &&
    field r 78 2 == 0 && field r 112 16 == 0 && chTag r != 0 && (chRemote r || chPeerPanel r == 0) &&
    (List.range i).all (fun j => chTag (chans.getD j 0) != chTag r || chDir (chans.getD j 0) != chDir r)

/-! ### Descriptor templates (R198 to R202) -/

def dNoAlloc (d : Desc) : Bool := bit d.flags 0
def dViaStore (d : Desc) : Bool := bit d.flags 1
def dCheck (d : Desc) : Bool := bit d.flags 2
def dAdaptive (d : Desc) : Bool := bit d.flags 3
def dBarrierAtEnd (d : Desc) : Bool := bit d.flags 4
def dLastOnFinal (d : Desc) : Bool := bit d.flags 5
def dChain (d : Desc) : Bool := bit d.flags 6
def dStart (d : Desc) : Bool := bit d.flags 7
def dLane (d : Desc) : Nat := field d.flags 8 3

/-- Bytes of a descriptor's stream. -/
def Desc.total (d : Desc) : Nat := d.lineBytes * d.lines * d.tiles

/-- Prefetch depth: 0 selects 2 (R199). -/
def Desc.depthOf (d : Desc) : Nat := if d.depth = 0 then 2 else d.depth

/-- The descriptor that 64 bytes spell (R199); fields keep all their bits. -/
def descOf (b : List Byte) : Desc :=
  { src := leAt b 0 8, dst := leAt b 8 8, lineBytes := leAt b 0x10 4, lines := leAt b 0x14 4, srcPitch := leAt b 0x18 4,
    dstPitch := leAt b 0x1C 4, srcStride := leAt b 0x20 4, dstStride := leAt b 0x24 4, tiles := leAt b 0x28 2,
    op := leAt b 0x2A 1, depth := leAt b 0x2B 1, flags := leAt b 0x2C 2, barrierId := leAt b 0x2E 2, window := leAt b 0x30 1,
    mcMode := leAt b 0x31 1, mcEnd := leAt b 0x32 1, redOp := leAt b 0x33 1, next := leAt b 0x34 1, engine := leAt b 0x35 1 }

/-- An address field of a template may name the own scratchpad: space 0x3, a base, or 0xF with bits [59:19] zero
(R292). -/
def maybeOwn (a : Nat) : Bool :=
  aSpace a == 3 || (decide (12 ≤ aSpace a) && decide (aSpace a ≤ 14)) || (aSpace a == 15 && field a 19 41 == 0)

/-- An address field of a template may name a space that engines reach (R193, R292). -/
def maybeAny (a : Nat) : Bool := maybeOwn a || decide (aSpace a ≤ 3) || aSpace a == 8

/-- The ends that Op allows, as far as a template shows them (R201, R210). -/
def endsOk (d : Desc) : Bool :=
  if d.op = 0 then maybeAny d.src && maybeAny d.dst && (maybeOwn d.src || maybeOwn d.dst)
  else if d.op = 1 then maybeOwn d.dst
  else if d.op = 2 ∨ d.op = 3 then maybeOwn d.src && maybeOwn d.dst
  else if d.op = 4 then aSpace d.src == 0 || (decide (12 ≤ aSpace d.src) && decide (aSpace d.src ≤ 14))
  else if d.op = 5 then maybeAny d.src && (d.dst == 0 || maybeOwn d.dst)
  else if d.op = 6 then (d.src == 0 || maybeOwn d.src) && maybeAny d.dst
  else if d.op = 7 then maybeOwn d.src && maybeAny d.dst
  else if d.op = 8 then d.src == 0 && maybeOwn d.dst && d.lineBytes % 256 == 0 && decide (256 ≤ d.lineBytes ∧ d.lineBytes ≤ 376832)
  else if d.op = 9 then d.src == 0 && d.dst == 0
  else if d.op = 10 then maybeOwn d.dst
  else maybeOwn d.src

/-- Fixed fields of a template: ranges, reserved values, zero fields, the 16 MiB limit (R199 to R202, R218, R224). -/
def descOk (b : List Byte) : Bool :=
  let d := descOf b
  allZero (slice b 0x36 10) && decide (d.op ≤ 11) && decide (d.depth ≤ 4) && decide (d.flags < 2048) &&
    decide (d.barrierId < 4096) && field d.window 3 4 == 0 && decide (d.mcMode ≤ 2) && decide (d.next < 16) &&
    decide (d.engine < 4) && d.lineBytes % 8 == 0 && decide (8 ≤ d.lineBytes ∧ d.lineBytes ≤ 393216) &&
    decide (1 ≤ d.lines ∧ d.lines ≤ 65536) && decide (1 ≤ d.tiles) && d.srcPitch % 8 == 0 && d.dstPitch % 8 == 0 &&
    (if d.op = 7 then decide (1 ≤ d.redOp ∧ d.redOp ≤ 5) else d.redOp == 0) && decide (d.total ≤ 16 * 2 ^ 20) &&
    (!dCheck d || d.op == 0 || d.op == 5 || d.op == 6 || d.op == 7) && endsOk d

/-- The chain from template i meets a template twice; `fuel` bounds the walk (R198). -/
def chainCycles (ts : List Desc) : Nat → Nat → Bool
  | 0, _ => true
  | fuel + 1, i => match ts[i]? with
    | some d => dChain d && chainCycles ts fuel d.next
    | none => false

/-- Template i obeys R198. -/
def chainOk (ts : List Desc) (i : Nat) : Bool :=
  let d := ts.getD i {}
  (!dStart d || (List.range i).all (fun j => !(dStart (ts.getD j {}) && (ts.getD j {}).engine == d.engine))) &&
    (!dChain d || (decide (d.next < ts.length) && (ts.getD d.next {}).engine == d.engine)) &&
    !chainCycles ts 17 i

/-! ### Registration (R134, R466) -/

/-- Edge-port entries of an image. -/
def imagePorts (bs : List Byte) : List Nat :=
  let s := slice bs 0x31100 512
  (List.range 64).map (fun e => leAt s (8 * e) 8)

/-- Channel records of an image. -/
def imageChans (bs : List Byte) (h : Header) : List Nat :=
  let s := bs.drop (0x31300 + 64 * h.templates)
  (List.range h.channels).map (fun i => leAt s (16 * i) 16)

/-- Descriptor templates of an image, as bytes. -/
def imageTemplates (bs : List Byte) (h : Header) : List (List Byte) :=
  let s := bs.drop 0x31300
  (List.range h.templates).map (fun t => slice s (64 * t) 64)

/-- What is wrong with an image whose header is good, first in the order of R466 from step 3 on. -/
def checkImage (bs : List Byte) (taken full : Bool) : Option Refused :=
  let h := headerOf (bs.take 256)
  let ports := imagePorts bs
  let chans := imageChans bs h
  let ts := imageTemplates bs h
  let ds := ts.map descOf
  if imageCrc bs ≠ h.crc then some { status := 0x03 }
  else if taken then some { status := 0x01 }
  else if full then some { status := 0x11 }
  else
    match (List.range 256).findSome? (fun p => checkCell (slice bs (imgCell p) 784) p ports) with
    | some r => some r
    | none =>
      match (List.range 64).findSome? (portCheck ports chans) with
      | some r => some r
      | none =>
        if (List.range h.channels).any (fun i => !chanOk chans i) then some { status := 0x06 }
        else (findAt (fun i => !(descOk (ts.getD i []) && chainOk ds i)) (List.range h.templates) 0).map
          (fun i => { status := 0x12, cell := i })

/-- The memory status that reading an image part meets: SourceAddress lies in space 0x0 or 0x1 (R134, R135, R466). -/
def Work.imageStatus (w : Work) (a n : Nat) : Option Nat :=
  if aSpace a ≤ 1 then w.readStatus a n else some 0x23

/-- Register: the image at SourceAddress checked and entered, or the first refusal told; the header is read and checked
before the rest (R134, R466; assumption 96). -/
def registerImage (w : Work) : Work :=
  let a := w.reg 0x2800 3
  let tell := fun (w : Work) (r : Refused) => (w.setReg 0x2800 5 r.word).accept
  match w.imageStatus a 256 with
  | some st => tell w { status := st }
  | none =>
    let h := headerOf (w.read a 256)
    if !headerOk (w.read a 256) then tell w { status := 0x02 }
    else
      match w.imageStatus a h.length with
      | some st => tell w { status := st }
      | none =>
        let (bs, w) := w.loadBytes a h.length false
        match checkImage bs (w.registry.any (fun e => e.id == h.id)) (decide (4096 ≤ w.registry.length)) with
        | some r => tell w r
        | none =>
          let entry : Image := ⟨h.id, h.graph, a, h.length, h.epoch, h.templates, h.channels, 0⟩
          tell { w with registry := w.registry ++ [entry] } { status := 0 }

/-- REGISTER (R134). -/
def execRegister (s : State) : Host.Outcome State Fault Refusal := run registerImage s

/-- Unregister: arrays that hold the image keep it (0x2800.06). -/
def unregisterImage (id : Nat) (w : Work) : Work :=
  if w.registry.any (fun e => e.id == id) then
    (({ w with registry := w.registry.filter (fun e => e.id != id) } : Work).setReg 0x2800 5 0).accept
  else (w.setReg 0x2800 5 1).accept

/-- UNREGISTER (R135). -/
def execUnregister (imageId : Nat) (s : State) : Host.Outcome State Fault Refusal := run (unregisterImage imageId) s

end Sys2Proof.Machine
end

