-- ==== Sys2Proof/Machine/Links.lean ====
section
/-! DEFINITION. Links between array dies: which dies and router ports they join, what is put on them, the sender's replay
buffer, and the slots of the router inputs behind them (R227 to R229, R235, R236, R256). -/

namespace Sys2Proof.Machine

/-! ### Ends of a link -/

/-- The logical die on a site by the steering in force (R256). -/
def Work.dieOn (w : Work) (n : Nat) : Option Nat :=
  (List.range w.numDies).find? (fun d => (w.steering d).any (fun x => x.1 == d && x.2 == n))

/-- The logical die at the sending and at the receiving end of a direction of a link. -/
def Work.linkFrom (w : Work) (l : Nat) : Option Nat :=
  if l % 2 = 0 then w.dieOn (l / 16) else (linkEnd (l / 16) (l / 2 % 8)).bind w.dieOn
def Work.linkTo (w : Work) (l : Nat) : Option Nat := w.linkFrom (if l % 2 = 0 then l + 1 else l - 1)

/-- A link is an attach link, XH or XV: direction 0 leads from the router of its site's die to the external die (R19, R26). -/
def isAttach (l : Nat) : Bool := decide (6 ≤ l / 2 % 8)

/-- The array die at either end of an attach link, or at the sending or else the receiving end of a mesh link: the one that speaks for
what the link loses. -/
def Work.linkDie (w : Work) (l : Nat) : Option Nat :=
  if isAttach l then some (w.attachDie (l / 16)) else (w.linkFrom l).or (w.linkTo l)

/-- The other direction of a link. -/
def opposite (l : Nat) : Nat := if l % 2 = 0 then l + 1 else l - 1

/-- The port of die d that steering gives to a mesh link (R23, R256). -/
def Work.portOfLink (w : Work) (d l : Nat) : Option Nat := (List.range 4).find? (fun dir => w.steered d dir == some (l / 2))

/-- The direction of a link that die d sends on through port dir. -/
def Work.sendLink (w : Work) (d dir : Nat) : Option Nat :=
  (w.steered d dir).map (fun m => 2 * m + (if w.dieOn (m / 8) = some d then 0 else 1))

/-- The mesh link that an output is steered to is there to be used: both its dies present, and the link neither defective
nor failed (R23, R230). -/
def Work.outUsable (w : Work) (d out : Nat) : Bool :=
  !w.root.lost && w.diePresent d && (match w.sendLink d out with
    | some l => w.diePresent (w.beyond d out) && w.linkOwn (l / 2) == 0 && !(w.link l).failed
    | none => false)

/-! ### Frames sent (R228, R229, R236) -/

/-- The CRC of a frame: Poly 3 over its data and sideband bits [47:0] (R229). -/
def frameCrc (f : LinkFrame) : Nat := crcRun 3 (crcInit 3) (frameData f ++ toBytes (sideband f) 6)

/-- Freed slots that one frame returns: those of the oldest's channel and lane, eight at most; and what stays (R228). -/
def takeOwed (owed : List (Nat × Nat)) : Option (Nat × Nat × Nat) × List (Nat × Nat) :=
  match owed with
  | [] => (none, [])
  | o :: _ =>
    let n := min 8 (owed.filter (· == o)).length
    (some (o.1, o.2, n), (List.range n).foldl (fun l _ => dropFirst (· == o) l) owed)

/-- A frame with these flits put on a direction of a link, with the acknowledgement, the Nak and the credit of the opposite
direction; the sender keeps its last 32 (R228, R229, R236). -/
def Work.sendFrame (w : Work) (l : Nat) (fs : List (List Byte)) : Work :=
  let x := w.link l
  let back := w.link (opposite l)
  let (credit, owed) := takeOwed x.owed
  let f : LinkFrame :=
    { slots := fs.zipIdx.map (fun e => (e.2, e.1)), seq := x.sendSeq, ackValid := true, ack := back.lastGood, nak := back.nak
      creditValid := credit.isSome, creditVc := (credit.getD (0, 0, 0)).1, creditLane := (credit.getD (0, 0, 0)).2.1
      creditCount := (credit.getD (0, 0, 0)).2.2 % 8, crc := 0 }
  let f := { f with crc := frameCrc f }
  (w.modLink l (fun x => { x with
    sendSeq := (x.sendSeq + 1) % 64, owed := owed, sent := (x.sent ++ [f]).drop (x.sent.length + 1 - 32) })).modLink (opposite l)
    (fun x => { x with nak := false })

/-- An idle frame where a direction has a credit or a Nak to return (R227, R228; assumption 86). -/
def Work.idleFrame (w : Work) (l : Nat) : Work :=
  if (w.link l).failed ∨ ((w.link l).owed.isEmpty ∧ !(w.link (opposite l)).nak) then w else w.sendFrame l []

/-- Frames that an acknowledgement covers leave the replay buffer (R229). -/
def Link.acked (x : Link) (ack : Nat) : Link :=
  match x.sent with
  | [] => x
  | f :: _ =>
    let n := (ack + 64 + 1 - f.seq) % 64
    if n ≤ x.sent.length then { x with sent := x.sent.drop n } else x

/-! ### Slots of a router's inputs (R235, R236) -/

/-- Packet slots of an input buffer (R235). -/
def vcSlots (vc : Nat) : Nat := if vc = 3 ∨ vc = 5 then 4 else 2

/-- Slots free downstream of an output of a router for a channel and lane (R236). -/
def Router.freeSlots (r : Router) (out vc lane : Nat) : Nat := vcSlots vc - tget 0 r.spent (out * 12 + vc * 2 + lane)

/-- Packets in an input buffer. -/
def Router.inBuffer (r : Router) (inPort vc lane : Nat) : List Slot :=
  r.slots.filter (fun s => s.inPort == inPort && s.vc == vc && s.lane == lane)

/-- A slot of die d's router is freed: its credit is owed to the router upstream, or to the external die whose link it came in on
(R236). -/
def Work.freeSlot (w : Work) (d : Nat) (s : Slot) : Work :=
  let w := w.modRouter d (fun r => { r with slots := dropFirst (fun x => decide (x = s)) r.slots })
  match (if s.inPort < 4 then w.sendLink d s.inPort else s.link.map (2 * ·)) with
  | some l => w.modLink l (fun x => { x with owed := x.owed ++ [(s.vc, s.lane)] })
  | none => w

/-- A packet taken at die d: out of its router's slot where it stands in one, else from outside the routers. -/
def Work.pull (w : Work) (d : Nat) (p : Packet) : Work :=
  match (w.die d).router.slots.find? (fun s => decide (s.pkt = p)) with
  | some s => w.freeSlot d s
  | none => w.take p

/-- A packet of an external die put on its attach link m: it takes a slot of the router's input (R229, R236). Until the router has
applied its entry it stands on lane 1, where its channel has one (assumption 126). -/
def Work.sendIn (w : Work) (m : Nat) (p : Packet) : Work :=
  let p := { w.stamped p with lane := if p.vc = 3 ∨ p.vc = 5 then 0 else 1, wayValid := false }
  (w.modLink (2 * m + 1) (fun x => { x with spent := tmod 0 x.spent (p.vc * 2 + p.lane) (· + 1) })).sendFrame (2 * m + 1) (flitsOf (packetBytes p))

/-- A packet sent out of die d through port dir, into a slot downstream (R236). -/
def Work.sendOut (w : Work) (d dir : Nat) (p : Packet) : Work :=
  match w.sendLink d dir with
  | some l =>
    (w.modRouter d (fun r => { r with spent := tmod 0 r.spent (dir * 12 + p.vc * 2 + p.lane) (· + 1) })).sendFrame l (flitsOf (packetBytes p))
  | none => w

/-! ### Lost packets (R247) -/

/-- UNREACH from the router of die d to the source of a packet that it discards; its own loss is not told (R234, R247). -/
def Work.sayUnreach (w : Work) (d : Nat) (p : Packet) : Work :=
  if p.type = 0x20 then w
  else w.send { p.answer 0x20 with
    vc := 0, srcPanel := w.panelId, srcC := w.colOf d, srcR := w.rowOf d, srcUnit := 0x30, srcSub := 0, index := p.index,
    typeData := p.type + p.dstC * 2 ^ 8 + p.dstR * 2 ^ 16 + p.dstUnit * 2 ^ 24 }

/-- A router holds no non-CTRL packet, in its buffers, in its reduction contexts or, on its links, for replay (R257 step 3). -/
def Work.routerEmpty (w : Work) (d : Nat) : Bool :=
  (w.die d).router.slots.all (fun s => s.pkt.vc == 0) && (w.die d).router.reds.all (fun c => c.upstream.isEmpty && c.local_.isEmpty) &&
    (List.range 4).all (fun dir => match w.sendLink d dir with
      | some l => (w.link l).kept.all (fun p => p.vc == 0)
      | none => true) &&
    w.links.all (fun e => !isAttach e.1 || w.attachDie (e.1 / 16) != d || e.2.kept.all (fun p => p.vc == 0))

/-- What is left of the non-CTRL traffic in the routers, in their reduction contexts and on the links is discarded under R247, the
end of the drain is counted, and an ERROR event is raised (R259). -/
def Work.discardTraffic (w : Work) : Work :=
  let data := fun (p : Packet) => p.vc != 0
  let held := fun (r : Router) => r.slots.map (·.pkt) ++ r.reds.flatMap (fun c => c.upstream ++ c.local_)
  let lost := w.dies.flatMap (fun e => ((held e.2.router).filter data).map (fun p => (e.1, p))) ++
    w.links.flatMap (fun e => match w.linkDie e.1 with
      | some d => (e.2.kept.filter data).map (fun p => (d, p))
      | none => [])
  let w := w.dies.foldl (fun w e => (e.2.router.slots.filter (fun s => data s.pkt)).foldl (fun w s => w.freeSlot e.1 s) w) w
  let w : Work := { w with
    dies := w.dies.map (fun e => (e.1, { e.2 with router := { e.2.router with reds := [] } }))
    links := w.links.map (fun e => (e.1, { e.2 with part := [], sent := e.2.sent.map (fun f =>
      if ((assemble [] (frameFlits f)).2).any data then { f with slots := [] } else f) })) }
  ((lost.foldl (fun w e => w.sayUnreach e.1 e.2) w).addReg 0x4000 6 1).event 1 0 0 0 lost.length

/-- Several packets discarded by one router. -/
def Work.discardAll (w : Work) (d : Nat) (ps : List Packet) : Work := ps.foldl (fun w p => w.sayUnreach d p) w

/-! ### Chains of a reduction (R251) -/

/-- The dies of the chain that a RED packet belongs to, head first (R251). -/
def Work.redDies (w : Work) (p : Packet) : List Nat :=
  let walk := fun (x y : Nat) => if x ≤ y then (List.range (y - x + 1)).map (x + ·) else (List.range (x - y + 1)).map (x - ·)
  if p.dstUnit / 16 = 4 then
    (walk p.mcEnd (if p.dstUnit % 16 < 8 then 0 else w.cols - 1)).map (fun c => w.dieOf c p.srcR)
  else if p.mcMode = 1 then (walk p.mcEnd p.dstC).map (fun c => w.dieOf c p.dstR)
  else (walk p.mcEnd p.dstR).map (fun r => w.dieOf p.dstC r)

/-! ### Output arbitration (R236, R237, R239) -/

/-- A packet that waits in its lane and is not routed on: a RED at a router of its chain, for the context of its group, and an MWR at
a target, for its step (R250, R252, R254). -/
def Work.forContext (w : Work) (d : Nat) (p : Packet) : Bool :=
  (p.type == 0x1A && (w.redDies p).contains d) || (p.type == 0x14 && p.dstPanel == w.panelId && w.dstDie p == d)

/-- A request for credit finds its manager with 64 requests, those already handed over counted: it stays in the REQ lane
(R239). -/
def Work.managerFull (w : Work) (p : Packet) : Bool :=
  p.type == 0x10 && p.dstPanel == w.panelId && p.dstUnit / 16 == 0 &&
    decide (64 ≤ ((w.arr (w.dstArr p)).crqs.filter (fun q => q.offset.isNone)).length +
      (w.arrived.filter (fun q => q.type == 0x10 && q.dstUnit == p.dstUnit && w.dstDie q == w.dstDie p)).length)

/-- The first packet of an input's lane for an output, unless it has to stay, or one that waits for a context or a step stands before
it in its buffer (R236, R239, R250, R254). -/
def Work.headSlot (w : Work) (d out vc lane i : Nat) : Option Slot :=
  let slots := (w.die d).router.slots
  (slots.find? (fun s => s.inPort == i && s.out == some out && s.pkt.vc == vc && s.pkt.lane == lane)).bind (fun s =>
    let before := (slots.takeWhile (· != s)).filter (fun x => x.inPort == i && x.vc == s.vc && x.lane == s.lane)
    if (4 ≤ out ∧ w.managerFull s.pkt) ∨ before.any (fun x => w.forContext d x.pkt) then none else some s)

/-- The first of a lane's inputs, round-robin after the one last served, that has a packet for an output (R237 rule 4). -/
def Work.nextIn (w : Work) (d out vc lane : Nat) : Option (Nat × Slot) :=
  let last := tget 5 (w.die d).router.rrIn (out * 12 + vc * 2 + lane)
  ((List.range 6).map (fun i => (last + 1 + i) % 6)).findSome? (fun i => (w.headSlot d out vc lane i).map (fun s => (i, s)))

/-- The channel, lane, input and packet that an output serves next (R237): CTRL first, the others round-robin, lane 1 before
0, and only with a slot free downstream. -/
def Work.nextSlot (w : Work) (d out : Nat) : Option (Nat × Nat × Nat × Slot) :=
  let r := (w.die d).router
  let lane := fun (vc l : Nat) =>
    if out < 4 ∧ r.freeSlots out vc l = 0 then none else (w.nextIn d out vc l).map (fun e => (vc, l, e.1, e.2))
  let chan := fun (vc : Nat) => (lane vc 1).or (lane vc 0)
  let last := tget 5 r.rrVc out
  (chan 0).or ((((List.range 5).map (fun i => (last + i) % 5 + 1))).findSome? chan)

/-- Whether a packet that waits for a context or a step at die d stands at the head of its lane: the oldest of its buffer without an
output; or, still with a unit of the die, the next to enter there, which a stopped router does not let it (R250, R254, R257). -/
def Work.atHead (w : Work) (d : Nat) (p : Packet) : Bool :=
  let r := (w.die d).router
  match r.slots.find? (fun s => decide (s.pkt = p)) with
  | some s => (r.slots.find? (fun x => x.inPort == s.inPort && x.vc == s.vc && x.lane == s.lane && x.out.isNone)).any (fun x => decide (x = s))
  | none => w.srcDie p != d || (!r.stopped && (r.inBuffer 4 5 0).all (·.out.isSome))

/-- A packet of a unit of the die waits in the local MCAST lane, where a slot of it is free, and the router accepts packets
(R235, R254, R257). -/
def Work.waitLocal (w : Work) (d : Nat) (p : Packet) : Work :=
  let r := (w.die d).router
  if !w.net.contains p ∨ r.stopped ∨ vcSlots 5 ≤ (r.inBuffer 4 5 0).length then w
  else
    let q := { w.stamped p with lane := 0, wayValid := false }
    (w.take p).modRouter d (fun r => { r with slots := r.slots ++ [⟨4, q, 5, 0, none, none⟩] })

/-- The input at which a packet stands, or enters, at die d. -/
def Work.inputOf (w : Work) (d : Nat) (p : Packet) : Nat :=
  match (w.die d).router.slots.find? (fun s => decide (s.pkt = p)) with
  | some s => s.inPort
  | none => if p.srcUnit / 16 < 4 then 4 else 5

/-- Whether a packet on channel MCAST that enters output dir from outside the arbiter is the one R237 serves next there: no CTRL
packet stands ready, and neither another channel nor another input of channel MCAST comes before it in its round-robin. -/
def Work.mcastTurn (w : Work) (d dir inPort : Nat) : Bool :=
  let r := (w.die d).router
  let after := fun (last n k : Nat) => (k + n - 1 - last % n) % n
  match w.nextSlot d dir with
  | none => true
  | some (vc, _, i, _) =>
    if vc = 0 then false
    else if vc = 5 then decide (after (tget 5 r.rrIn (dir * 12 + 10)) 6 inPort ≤ after (tget 5 r.rrIn (dir * 12 + 10)) 6 i)
    else decide (after (tget 5 r.rrVc dir) 5 4 < after (tget 5 r.rrVc dir) 5 (vc - 1))

/-- Channel MCAST is served from an input at an output: both round-robin marks move (R237). -/
def Work.mcastServed (w : Work) (d dir inPort : Nat) : Work :=
  w.modRouter d (fun r => { r with rrVc := tput r.rrVc dir 5, rrIn := tput r.rrIn (dir * 12 + 10) inPort })

end Sys2Proof.Machine
end

