-- ==== Sys2Proof/Machine/Channels.lean ====
section
/-! DEFINITION. Remote token channels: their messages, the opening of an array, credit, and how channels end
(R133, R152 to R159). -/

namespace Sys2Proof.Machine

/-- A channel record names this end of a packet's source (R152). -/
def Work.peerIs (w : Work) (r : Nat) (p : Packet) : Bool :=
  (if chRemote r then chPeerPanel r == p.srcPanel else p.srcPanel == w.panelId) && chPeerC r == p.srcC && chPeerR r == p.srcR &&
    chPeerK r == p.srcUnit && chPeerPort r == p.srcSub

/-- The record of array a that a channel message is about: its tag, its port and its peer agree (R152, R234). -/
def Work.chanOf (w : Work) (a : Nat) (p : Packet) (dirs : List Bool) : Option Nat :=
  ((w.arr a).chans.find? (fun e =>
    dirs.contains (chDir e.2.record) && chTag e.2.record == p.index && chPort e.2.record == p.dstSub && w.peerIs e.2.record p)).map (·.1)

/-- A channel message from record c of array a to its peer (R153, R234). -/
def Work.chanMsg (w : Work) (a c type vc typeData : Nat) : Packet :=
  let r := ((w.arr a).chan c).record
  { type := type, vc := vc, srcPanel := w.panelId, srcC := w.colOf (a / 16), srcR := w.rowOf (a / 16), srcUnit := a % 16,
    srcSub := chPort r, dstPanel := if chRemote r then chPeerPanel r else w.panelId, dstC := chPeerC r, dstR := chPeerR r,
    dstUnit := chPeerK r, dstSub := chPeerPort r, index := chTag r, typeData := typeData }

/-- CLOSE sent on every channel not closed before, with its reason: false end, true abort (R137, R142, R159). -/
def Work.closeAll (w : Work) (a : Nat) (abort : Bool) : Work :=
  ((w.arr a).chans.filter (fun e => !e.2.closing && !e.2.closed)).foldl (fun w e =>
    (w.send (w.chanMsg a e.1 0x06 1 (ofBool abort))).modArr a (·.modChan e.1 (fun c => { c with closing := true }))) w

/-- Every channel has been answered with CLOSED, or ended by its peer. -/
def Arr.allClosed (x : Arr) : Bool := x.chans.all (fun e => e.2.closed)

/-- OPEN sent on send record c (R153). -/
def Work.sendOpen (w : Work) (a c : Nat) : Work :=
  let x := w.arr a
  (w.send (w.chanMsg a c 0x01 1 (x.graphId + x.epoch * 2 ^ 32 + chPort (x.chan c).record * 2 ^ 34))).modArr a
    (·.modChan c (fun e => { e with openAt := w.dieNow (a / 16) }))

/-- An array in OPENING with every record granted moves to READY (R154, R137). -/
def Arr.settleOpen (x : Arr) : Arr :=
  if x.st = .opening ∧ x.chans.all (fun e => e.2.granted) then { x with st := .ready, lastStatus := 0 } else x

/-- The initial credit of a receive record: 4·InDepth tokens of its port (R153). -/
def Arr.initialCredit (x : Arr) (r : Nat) : Nat := 4 * pInDepth (tget 0 x.ports (chPort r))

/-- An OPEN answered by an array that holds an image: GRANT for a matching receive record, REJECT otherwise
(R152 to R154). -/
def Work.answerOpen (w : Work) (a : Nat) (p : Packet) : Work :=
  let x := w.arr a
  let reject := fun (why : Nat) => w.send { p.answer 0x03 with vc := 2, index := p.index, typeData := why }
  if field p.typeData 0 32 ≠ x.graphId ∨ field p.typeData 32 2 ≠ x.epoch then reject 1
  else
    match w.chanOf a p [true] with
    | some c =>
      let e := x.chan c
      let e' : ChanEnd := if e.closed then { record := e.record, granted := true } else { e with granted := true }
      (w.send (w.chanMsg a c 0x02 2 (x.initialCredit e.record))).modArr a (fun x => (x.modChan c (fun _ => e')).settleOpen)
    | none => reject 2

/-- Arrays that answer an OPEN at once (R154). -/
def ArraySt.answers : ArraySt → Bool
  | .opening | .ready | .run => true
  | _ => false

/-- OPEN arrives: answered, or held while the array cannot answer (R154; assumption 18 for DRAIN and HELD). -/
def recvOpen (p : Packet) (w : Work) : Work :=
  let w := w.take p
  let a := w.dstArr p
  if (w.arr a).st.answers then w.answerOpen a p
  else w.modArr a (fun x => { x with
    heldOpens := x.heldOpens.filter (fun q => !(q.index == p.index && q.srcC == p.srcC && q.srcR == p.srcR && q.srcUnit == p.srcUnit)) ++ [p] })

/-- OPEN (R154). -/
def execOpenChan (pkt : Packet) (s : State) : Host.Outcome State Fault Refusal := run (onTurn pkt (recvOpen pkt)) s

/-- OPENs that waited are answered once the array can (R154). -/
def Work.answerHeld (w : Work) (a : Nat) : Work :=
  if (w.arr a).st.answers then
    (w.arr a).heldOpens.foldl (fun w p => w.answerOpen a p) (w.modArr a (fun x => { x with heldOpens := [] }))
  else w

/-- OPEN_REPEAT: 10 µs without an answer have passed since the last OPEN of send record c; the timer does not run between STOP and
RESUME (R153, R258). -/
def openRepeat (a c : Nat) (w : Work) : Work :=
  let e := (w.arr a).chan c
  if w.fmgr.st < 2 && (w.arr a).st == .opening && thas (w.arr a).chans c && !chDir e.record && !e.granted && !e.closed then
    (w.reachOn (a / 16) (e.openAt + 10000)).sendOpen a c
  else w

/-- OPEN_REPEAT (R153). -/
def execOpenRepeat (a c : Nat) (s : State) : Host.Outcome State Fault Refusal := run (openRepeat a c) s

/-- GRANT arrives: the sender holds its initial credit and numbers packets from 0 (R153, R155). -/
def recvGrant (p : Packet) (w : Work) : Work :=
  let w := w.take p
  let a := w.dstArr p
  match w.chanOf a p [false] with
  | some c =>
    if ((w.arr a).chan c).granted then w
    else w.modArr a (fun x =>
      (x.modChan c (fun e => { e with granted := true, credit := field p.typeData 0 16, seq := 0 })).settleOpen)
  | none => w

/-- GRANT (R153). -/
def execGrant (pkt : Packet) (s : State) : Host.Outcome State Fault Refusal := run (onTurn pkt (recvGrant pkt)) s

/-- An array moves to HELD with a status, and the load or task that asked for it ends with it (R154). -/
def Work.hold (w : Work) (a status : Nat) : Work :=
  (w.taskFault a { status := status }).modArr a (fun x => { x with st := .held, lastStatus := status, load := .none })

/-- REJECT arrives at an array that opens its channels (R154). -/
def recvReject (p : Packet) (w : Work) : Work :=
  let w := w.take p
  let a := w.dstArr p
  match w.chanOf a p [false] with
  | some c => if (w.arr a).st == .opening && !((w.arr a).chan c).granted then w.hold a 0x0B else w
  | none => w

/-- REJECT (R154). -/
def execReject (pkt : Packet) (s : State) : Host.Outcome State Fault Refusal := run (onTurn pkt (recvReject pkt)) s

/-- OPEN_TIMEOUT: the deadline tick 1 ms after commit has passed in OPENING, with no stop of the fabric under way (R154, R258). -/
def openTimeout (a : Nat) (w : Work) : Work :=
  if w.fmgr.st < 2 && (w.arr a).st == .opening then (w.reachOn (a / 16) ((w.arr a).commitAt + 1000001)).hold a 0x0A else w

/-- OPEN_TIMEOUT (R154). -/
def execOpenTimeout (a : Nat) (s : State) : Host.Outcome State Fault Refusal := run (openTimeout a) s

/-! ### Data and credit (R155 to R158) -/

/-- The payload of a DATA packet (R155). -/
def dataPayload (seq : Nat) (ts : List Token) : List Byte :=
  let n := ts.length
  let body := toBytes seq 2 ++ [BitVec.ofNat 8 n, 0] ++ padTo 28 (ts.map (·.tag)) ++ ts.flatMap (fun t => toBytes t.pay.toNat 8)
  padTo ((32 + 8 * n + 63) / 64 * 64) body

/-- The tokens of a DATA packet's payload (R155). -/
def dataTokens (bs : List Byte) : List Token :=
  (List.range (leAt bs 2 1)).map (fun i => ⟨BitVec.ofNat 64 (leAt bs (0x20 + 8 * i) 8), BitVec.ofNat 8 (leAt bs (4 + i) 1)⟩)

/-- The channel record that the outgoing half of a port names. -/
def Arr.outChan (x : Arr) (port : Nat) : Option Nat :=
  let v := tget 0 x.ports port
  if pOutKind v = 3 then some (pOutRef v) else none

/-- The channel record that the incoming half of a port names. -/
def Arr.inChan (x : Arr) (port : Nat) : Option Nat :=
  let v := tget 0 x.ports port
  if pInKind v = 3 then some (pInRef v) else none

/-- A gathered packet takes no further token: 28, all the credit, a last or barrier token, or one token where FlushTimer
is 0 (R133, R156). -/
def ChanEnd.complete (e : ChanEnd) : Bool :=
  decide (28 ≤ e.gather.length) || decide (e.credit ≤ e.gather.length) ||
    (match e.gather.getLast? with | some t => t.last || t.kind == 3 || chFlush e.record == 0 | none => false)

/-- The tokens gathered at a port of an array may go: the packet is complete, FlushTimer has run out, or the array drains;
and credit covers them (R143, R156). -/
def ChanEnd.mayLaunch (e : ChanEnd) (st : ArraySt) : Bool :=
  e.granted && !e.closed && !e.gather.isEmpty && decide (e.gather.length ≤ e.credit) &&
    (e.complete || decide (chFlush e.record ≤ e.age) || st == .drain)

/-- DATA_LAUNCH: the tokens gathered at an outgoing port go as one packet, covered by credit (R156). -/
def dataLaunch (a port : Nat) (w : Work) : Work :=
  match (w.arr a).outChan port with
  | some c =>
    let e := (w.arr a).chan c
    if e.mayLaunch (w.arr a).st then
      let m := w.chanMsg a c 0x04 4 0
      let bulk := chAdaptive e.record && w.eff 0x4000 7 == 1 && m.dstPanel == w.panelId && bit (w.route (a / 16) (w.dstDie m)) 10
      let p := { m with vc := if bulk then 3 else 4, adaptive := bulk, payload := dataPayload e.seq e.gather }
      (w.send p).modArr a (·.modChan c (fun e =>
        { e with seq := (e.seq + 1) % 65536, credit := e.credit - e.gather.length, gather := [], age := 0 }))
    else w
  | none => w

/-- DATA_LAUNCH (R156). -/
def execDataLaunch (a port : Nat) (s : State) : Host.Outcome State Fault Refusal := run (dataLaunch a port) s

/-- Packets held ahead of their turn whose turn has come, in order of Seq; `fuel` bounds them (R157). -/
def ChanEnd.drainEarly : Nat → ChanEnd → List Token → ChanEnd × List Token
  | 0, e, ts => (e, ts)
  | fuel + 1, e, ts =>
    match e.early.find? (fun x => x.1 == e.seq) with
    | some x =>
      ({ e with seq := (e.seq + 1) % 65536, early := e.early.filter (fun y => y.1 != x.1) } : ChanEnd).drainEarly fuel (ts ++ x.2)
    | none => (e, ts)

/-- DATA arrives: in Seq order into the incoming buffer, or discarded and counted on a closed channel (R157, R159). -/
def recvData (p : Packet) (w : Work) : Work :=
  let w := w.take p
  let a := w.dstArr p
  match w.chanOf a p [true] with
  | some c =>
    let e := (w.arr a).chan c
    let ts := dataTokens p.payload
    if e.closed || e.closing then w.modArr a (fun x => { x with stale := satAdd 16 x.stale ts.length })
    else
      let seq := leAt p.payload 0 2
      let (e', out) := ({ e with early := e.early.filter (fun y => y.1 != seq) ++ [(seq, ts)] } : ChanEnd).drainEarly 64 []
      w.modArr a (fun x => { x.modChan c (fun _ => e') with inBuf := tmod [] x.inBuf p.dstSub (· ++ out), moved := true })
  | none => w.modArr a (fun x => { x with stale := satAdd 16 x.stale (dataTokens p.payload).length })

/-- DATA (R157). -/
def execData (pkt : Packet) (s : State) : Host.Outcome State Fault Refusal := run (onTurn pkt (recvData pkt)) s

/-- CREDIT arrives (R158). -/
def recvCredit (p : Packet) (w : Work) : Work :=
  let w := w.take p
  let a := w.dstArr p
  match w.chanOf a p [false] with
  | some c => w.modArr a (·.modChan c (fun e => { e with credit := e.credit + field p.typeData 0 7 }))
  | none => w

/-- CREDIT (R158). -/
def execCredit (pkt : Packet) (s : State) : Host.Outcome State Fault Refusal := run (onTurn pkt (recvCredit pkt)) s

/-- One credit owed for a token that left the incoming buffer; a CREDIT goes at 8, or when the buffer empties (R158). -/
def Work.oweCredit (w : Work) (a port : Nat) : Work :=
  let x := w.arr a
  match x.inChan port with
  | some c =>
    let owed := (x.chan c).owed + 1
    if (x.chan c).closed then w
    else if 8 ≤ owed ∨ ((tget [] x.inBuf port).isEmpty ∧ (x.chan c).early.isEmpty) then
      (w.send (w.chanMsg a c 0x05 2 owed)).modArr a (·.modChan c (fun e => { e with owed := 0 }))
    else w.modArr a (·.modChan c (fun e => { e with owed := owed }))
  | none => w

/-! ### The end of a channel (R159) -/

/-- The image write of a load begins (R137 step 3). -/
def Work.beginWrite (w : Work) (a : Nat) : Work := w.modArr a (fun x => { x with st := .loading, load := .writing })

/-- A load that waits for CLOSED goes on once every channel is closed (R137 step 2). -/
def Work.afterClosed (w : Work) (a : Nat) : Work :=
  match (w.arr a).load with
  | .closing _ => if (w.arr a).allClosed then w.beginWrite a else w
  | _ => w

/-- DATA of the channel that a CLOSE is about is still in flight toward the closer (R153). -/
def Work.dataFlying (w : Work) (p : Packet) : Bool :=
  (w.flying ++ w.inRouters).any (fun q => q.type == 0x04 && q.index == p.index && q.srcSub == p.dstSub && q.dstSub == p.srcSub &&
    sameUnit q.srcPanel q.srcC q.srcR q.srcUnit p.dstPanel p.dstC p.dstR p.dstUnit &&
    sameUnit q.dstPanel q.dstC q.dstR q.dstUnit p.srcPanel p.srcC p.srcR p.srcUnit)

/-- CLOSE arrives: the channel has ended, and CLOSED goes back once no DATA is in flight toward the closer; until then the
CLOSE stands (assumption 97). Reason abort at an array in RUN aborts its task with 0x0E and closes its other channels the
same way; tokens gathered for an ended channel do the former (R153, R159). -/
def recvClose (p : Packet) (w : Work) : Work :=
  let flying := w.dataFlying p
  let w := if flying then w else w.take p
  let a := w.dstArr p
  match w.chanOf a p [true, false] with
  | some c =>
    let e := (w.arr a).chan c
    let w := (if flying then w else w.send (w.chanMsg a c 0x07 2 0)).modArr a (·.modChan c (fun e => { e with closed := true }))
    if bit p.typeData 0 then
      if (w.arr a).st == .run then (w.taskFault a { status := 0x0E }).closeAll a true else w.afterClosed a
    else if !e.gather.isEmpty then w.taskFault a { status := 0x0E }
    else w.afterClosed a
  | none => if flying then w else w.send { p.answer 0x07 with vc := 2, index := p.index }

/-- CLOSE (R159). -/
def execCloseChan (pkt : Packet) (s : State) : Host.Outcome State Fault Refusal := run (onTurn pkt (recvClose pkt)) s

/-- CLOSED arrives (R153). -/
def recvClosed (p : Packet) (w : Work) : Work :=
  let w := w.take p
  let a := w.dstArr p
  match w.chanOf a p [true, false] with
  | some c => (w.modArr a (·.modChan c (fun e => { e with closing := false, closed := true }))).afterClosed a
  | none => w

/-- CLOSED (R153). -/
def execClosed (pkt : Packet) (s : State) : Host.Outcome State Fault Refusal := run (onTurn pkt (recvClosed pkt)) s

end Sys2Proof.Machine
end

