-- ==== Sys2Proof/Machine/Loading.lean ====
section
/-! DEFINITION. Loads, the start of a task on its array, drains, the progress monitor and queue spill, and the ports
of the array edge that windows and incoming buffers serve (R128 to R151, R161). -/

namespace Sys2Proof.Machine

/-! ### Emptiness and discard (R142, R144) -/

/-- A cell holds no token, no staged part of one and no result in flight (R144). -/
def Cell.idle (c : Cell) : Bool :=
  c.queues.all (fun e => e.2.isEmpty) && c.outs.all (fun e => e.2 == none) && c.stage.isEmpty && c.scaleOut.isEmpty &&
    c.flight.isEmpty && c.sfu.isNone

/-- Every store of tokens is empty and every outgoing half has handed over its last token (R144). -/
def Arr.drained (x : Arr) : Bool :=
  x.cells.all (fun e => e.2.idle) && x.inBuf.all (fun e => e.2.isEmpty) && x.runs.isEmpty && x.pipe.isEmpty &&
    x.outHold.all (fun e => e.2.isEmpty) &&
    x.chans.all (fun e => e.2.gather.isEmpty && e.2.early.isEmpty) &&
    x.engines.all (fun e => e.2.transfers.isEmpty)

/-- Tokens of a cell that a forced load discards, counted under R142. -/
def Cell.tokens (c : Cell) : Nat :=
  (c.queues.map (fun e => e.2.length)).sum + (c.outs.filter (fun e => e.2 != none)).length +
    (c.flight.filter (fun f => f.mask != 0)).length + ofBool (!c.stage.isEmpty) + ofBool (!c.scaleOut.isEmpty)

/-- A cell without any token (R142, R145). -/
def Cell.emptied (c : Cell) : Cell :=
  { c with queues := [], outs := [], stage := [], scaleOut := [], group := 0, flight := [], sfu := none }

/-- Everything that R142 discards, counted in DiscardedTokens; issue and inputs stop. Tokens that an outgoing channel has gathered
and not launched, which the rule does not list, go uncounted (DESIGN CHOICE, assumption 122). -/
def Arr.discard (x : Arr) : Arr :=
  let n := (x.cells.map (fun e => e.2.tokens)).sum + (x.inBuf.map (fun e => e.2.length)).sum +
    (x.runs.map (fun r => r.toks.length)).sum + (x.chans.map (fun e => (e.2.early.map (fun y => y.2.length)).sum)).sum
  { x with
    discarded := satAdd 16 x.discarded n
    cells := x.cells.map (fun e => (e.1, e.2.emptied))
    inBuf := []
    runs := []
    chans := x.chans.map (fun e => (e.1, { e.2 with gather := [], early := [] }))
    stopped := true }

/-! ### Drain (R143 to R145) -/

/-- The scratchpad words that an outgoing window has gathered written with one access (R169). -/
def Work.flushWindow (w : Work) (a e : Nat) : Work :=
  let x := w.arr a
  let vs := tget [] x.outHold e
  let first := pBase (tget 0 x.ports e) + tget 0 x.outWin e - vs.length
  if vs.isEmpty then w
  else
    (w.write (w.padAddr a (8 * first)) (vs.flatMap (fun v => toBytes v 8))).modArr a (fun x =>
      { x.access true 4 ((List.range vs.length).map (first + ·)) with outHold := tput x.outHold e [] })

/-- A drain begins: local inputs stop, outgoing windows write what they hold, and cells fire on (R143). -/
def Work.beginDrain (w : Work) (a : Nat) : Work :=
  ((List.range 64).foldl (fun w e => w.flushWindow a e) w).modArr a (fun x => { x with st := .drain, drainAt := w.dieNow (a / 16), still := 0, stopped := false })

/-- The spill marker of a run: tag kind 0b10 (R148). -/
def Arr.marker (x : Arr) (r : SpillRun) : Token :=
  mkTok x.epoch false 2 0 (r.where_ + 2 ^ 8 * r.queue + 2 ^ 10 * r.origin + 2 ^ 12 * r.toks.length + 2 ^ 15 * ofBool r.residue)

/-- What slot s of the spill area holds: run j has slots 8j to 8j + 7, its marker first (R148). -/
def Arr.slot (x : Arr) (s : Nat) : Option Token :=
  match x.runs.find? (fun r => r.num == s / 8) with
  | some r => (x.marker r :: r.toks)[s % 8]?
  | none => none

/-- Byte `off` of the spill area: lines of seven payloads, seven tags and the number of valid slots; none in a slot that is
not valid (R148). -/
def Arr.spillByte (x : Arr) (off : Nat) : Option Byte :=
  let at_ := fun i => x.slot (7 * (off / 64) + i)
  let b := off % 64
  if b < 56 then (at_ (b / 8)).map (fun t => BitVec.ofNat 8 (field t.pay.toNat (8 * (b % 8)) 8))
  else if b < 63 then (at_ (b - 56)).map (·.tag)
  else some (BitVec.ofNat 8 ((List.range 7).filter (fun i => (at_ i).isSome)).length)

/-- The lowest spill runs that are free (R148). -/
def Arr.freeRuns (x : Arr) : List Nat := (List.range 224).filter (fun j => !x.runs.any (fun r => r.num == j))

/-- Tokens cut into runs of seven; `fuel` bounds the runs. -/
def sevens {A : Type} : Nat → List A → List (List A)
  | 0, _ => []
  | fuel + 1, l => if l.isEmpty then [] else l.take 7 :: sevens fuel (l.drop 7)

/-- The free run that takes the next tokens of a place: the lowest one after the runs which that place already has (R145); where
no free run comes after them, the lowest free one (DESIGN CHOICE, assumption 125). -/
def Arr.nextRun (x : Arr) (place queue origin : Nat) : Option Nat :=
  let has := x.runs.filter (fun r => r.where_ == place && r.queue == queue && r.origin == origin)
  ((x.freeRuns.find? (fun j => has.all (fun r => decide (r.num < j)))).orElse (fun _ => x.freeRuns.head?))

/-- The tokens of one place into free runs as residue; those without a run are discarded and counted (R145). -/
def Arr.residue (x : Arr) (place queue origin : Nat) (ts : List Token) : Arr :=
  (sevens 64 ts).foldl (fun x part =>
    match x.nextRun place queue origin with
    | some j => { x with runs := x.runs ++ [⟨j, place, queue, origin, true, part, false⟩] }
    | none => { x with discarded := satAdd 16 x.discarded part.length }) x

/-- Tokens of packets that arrived ahead of their turn, in order of Seq from the one expected (R157). -/
def ChanEnd.earlyTokens (e : ChanEnd) : List Token :=
  (List.range 64).flatMap (fun i => (e.early.filter (fun y => y.1 == (e.seq + i) % 65536)).flatMap (·.2))

/-- What the incoming buffer of a port holds: tokens in order, then packets that arrived early (R131, R157). -/
def Arr.incoming (x : Arr) (e : Nat) : List Token :=
  tget [] x.inBuf e ++ (match x.inChan e with
    | some c => (x.chan c).earlyTokens
    | none => [])

/-- Queues, then output registers, then incoming buffers moved into spill runs in the order of R145; the runs that a spill round
opened keep their tokens and are no longer open (R141). -/
def Arr.spillResidue (x : Arr) : Arr :=
  let ps := List.range 256
  let x : Arr := { x with runs := x.runs.map (fun r => { r with kept := true }) }
  let x1 := ps.foldl (fun x p => (List.range 4).foldl (fun x d => x.residue p d 0 ((x.cell p).queue d)) x) x
  let x2 := ps.foldl (fun x p => (List.range 4).foldl (fun x d => x.residue p d 1 ((x.cell p).out d).toList) x) x1
  let x3 := (List.range 64).foldl (fun x e => x.residue e 0 2 (x.incoming e)) x2
  { x3 with
    cells := x3.cells.map (fun e => (e.1, { e.2 with queues := [], outs := [] })), inBuf := []
    chans := x3.chans.map (fun e => (e.1, { e.2 with early := [] })) }

/-- A drain ends with residue: the array is HELD with 0x09, and a load or task that asked for it ends (R141, R145). -/
def Work.drainResidue (w : Work) (a : Nat) : Work := (w.modArr a Arr.spillResidue).hold a 0x09

/-! ### The steps of a load (R137 to R142) -/

/-- Step 2: CLOSE on every channel, then CLOSED awaited; with no channel the write begins (R137). -/
def Work.beginClose (w : Work) (a : Nat) (abort : Bool) : Work :=
  ((w.closeAll a abort).modArr a (fun x => { x with load := .closing (w.dieNow (a / 16)) })).afterClosed a

/-- A drain has emptied the array: READY, and a load goes on to step 2; at a job stop the channels end (R144, R137,
R303). -/
def Work.drainDone (w : Work) (a : Nat) : Work :=
  let w := w.modArr a (fun x => { x with st := .ready, still := 0 })
  match (w.arr a).load with
  | .draining => w.beginClose a false
  | _ => if w.job.st == .stopping then w.closeAll a false else w

/-- A load refused before its first step, or ended: LastStatus, and the task that asked for it aborts (R138). -/
def Work.loadFails (w : Work) (a status : Nat) : Work :=
  (w.taskFault a { status := status }).modArr a (fun x => { x with load := .none, lastStatus := status })

/-- A channel record of an image names a peer of this panel that is absent (R25, R136 0x08). -/
def Work.peerAbsent (w : Work) (r : Nat) : Bool :=
  !(chRemote r) && !w.arrPresent (arrOf (w.dieOf (chPeerC r) (chPeerR r)) (chPeerK r))

/-- The channel records of a registered image, as they stand in memory. -/
def Work.registeredChans (w : Work) (e : Image) : List Nat :=
  let s := w.read (e.address + 0x31300 + 64 * e.templates) (16 * e.channels)
  (List.range e.channels).map (fun i => leAt s (16 * i) 16)

/-- LoadArray: a load asked for while no job runs; refused while one that it asked for still runs, and LastStatus reads 0xFF until then
(0x2800.08; R352; assumption 20). -/
def loadArray (id d k : Nat) (force : Bool) (w : Work) : Work :=
  let a := arrOf d k
  if w.jobRuns then (w.modArr a (fun x => { x with lastStatus := 0x0C })).refuseJob
  else if w.cols * 16 ≤ d ∨ 16 ≤ k then w.refuse 0x73
  else if w.arrays.any (fun e => e.2.load != .none || e.2.st == .opening) then w.refuse 0x76
  else if !w.arrPresent a then (w.modArr a (fun x => { x with lastStatus := 0x08 })).accept
  else if (w.arr a).task.isSome then (w.modArr a (fun x => { x with lastStatus := 0x0C })).accept
  else if !w.registry.any (fun e => e.id == id) then (w.modArr a (fun x => { x with lastStatus := 0x01 })).accept
  else (w.modArr a (fun x => { x with load := .asked, loadImage := id, loadForced := force, lastStatus := 0xFF })).accept

/-- LOAD_ARRAY (R135). -/
def execLoadArray (imageId d k : Nat) (force : Bool) (s : State) : Host.Outcome State Fault Refusal :=
  run (loadArray imageId d k force) s

/-- ARRAY_LOAD: a load that has been asked for begins. The image, the epoch and the peers are checked; then the array
is drained, or its contents discarded, and the old channels close (R137, R138, R142, R161). -/
def arrayLoad (a : Nat) (w : Work) : Work :=
  let x := w.arr a
  if x.load ≠ .asked then w
  else if !w.arrPresent a then w.loadFails a 0x08
  else
    match w.registry.find? (fun e => e.id == x.loadImage) with
    | none => w.loadFails a 0x01
    | some e =>
      if e.epoch = x.epoch then w.loadFails a 0x05
      else if (w.registeredChans e).any w.peerAbsent then w.loadFails a 0x08
      else if x.loadForced then (w.modArr a Arr.discard).beginClose a true
      else if x.st = .empty then w.beginClose a false
      else (w.modArr a (fun x => { x with load := .draining })).beginDrain a

/-- ARRAY_LOAD (R137). -/
def execArrayLoad (a : Nat) (s : State) : Host.Outcome State Fault Refusal := run (arrayLoad a) s

/-- CLOSE_WAIT_TIMEOUT: 100 µs have passed in step 2, and the load goes on (R137). -/
def closeWaitTimeout (a : Nat) (w : Work) : Work :=
  match (w.arr a).load with
  | .closing t => (w.reachOn (a / 16) (t + 100000)).beginWrite a
  | _ => w

/-- CLOSE_WAIT_TIMEOUT (R137). -/
def execCloseWaitTimeout (a : Nat) (s : State) : Host.Outcome State Fault Refusal := run (closeWaitTimeout a) s

/-- The words of a run of 64-bit words that are not zero. -/
def wordsOf (bs : List Byte) (n : Nat) : List (Nat × Word) :=
  ((List.range n).map (fun i => (i, BitVec.ofNat 64 (leAt bs (8 * i) 8)))).filter (fun e => e.2 != 0)

/-- A cell as its record loads it, with its generator kept or seeded, and with the tokens of its queues, which the epoch
rules remove and count (R41, R69, R88, R138). Instruction words at or beyond ProgramLength are not loaded (R126). -/
def cellOf (r : List Byte) (sr : BitVec 32) (queues : List (Nat × List Token)) : Cell :=
  { queues := queues, ob := wordsOf (slice r 0x100 512) 64, prog := wordsOf (slice r 0 256) (min 32 (leAt r 0x300 1)), progLen := leAt r 0x300 1,
    lc0 := leAt r 0x306 2, lc1 := leAt r 0x308 2, lc0Reload := leAt r 0x306 2, lc1Reload := leAt r 0x308 2,
    parked := false, sr := sr, paths := (List.range 4).map (fun d => (d, leAt r (0x301 + d) 1)) }


/-- A single PARK (R140). -/
def parkWord : Word := 0x03FFF00000000000

/-- The array after an image whose CRC is wrong, or that could not be read: every program a single PARK, EMPTY (R140). -/
def Work.loadRefused (w : Work) (a status : Nat) (epoch : Option Nat) : Work :=
  let cells := (List.range 256).map (fun p => (p, ({ prog := [(0, parkWord)], sr := w.generator a p, queues := (w.cell a p).queues } : Cell)))
  (w.loadFails a status).modArr a (fun x => { x with
    st := .empty, imageId := 0, graphId := 0, epoch := epoch.getD x.epoch, cells := cells, ports := [], templates := []
    chans := [], inBuf := [], runs := [] })

/-- The commit of a good image: cell state, ports, templates, channels and epoch from it, the incoming buffers empty, no
run; old tokens in the queues go by their epoch (R137 step 4, R138). Each column serves its cells from row 0 again (R71; DESIGN
CHOICE, assumption 116), and words that an outgoing window had gathered and not written are lost (R130; DESIGN CHOICE, assumption
123). -/
def Work.commitImage (w : Work) (a : Nat) (e : Image) (bs : List Byte) : Work :=
  let h := headerOf (bs.take 256)
  let cells := (List.range 256).map (fun p => (p, cellOf (slice bs (imgCell p) 784) (w.generator a p) (w.cell a p).queues))
  let chans := (imageChans bs h).zipIdx.map (fun r => (r.2, ({ record := r.1 } : ChanEnd)))
  let w : Work := { w with registry := w.registry.map (fun (i : Image) => if i.id = e.id then { i with loads := i.loads + 1 } else i) }
  w.modArr a (fun x => { x with
    imageId := h.id, graphId := h.graph, epoch := h.epoch, st := .ready, lastStatus := 0, keepDenorm := h.keepDenorm
    ports := (imagePorts bs).zipIdx.map (fun (v : Nat × Nat) => (v.2, v.1)), templates := imageTemplates bs h, chans := chans
    cells := cells, stopped := false, inBuf := [], inWin := [], outWin := [], inHold := [], outHold := [], pipe := [], engines := [], runs := []
    load := .none, commitAt := w.dieNow (a / 16), sfuLast := [] })

/-- LOAD_WRITE_COMPLETE: the CRC decides between commit, with the channels opened, and an array of parked cells (R137
steps 3 to 6, R140; assumption 20). -/
def loadWriteComplete (a : Nat) (w : Work) : Work :=
  let x := w.arr a
  if x.load ≠ .writing then w
  else
    match w.registry.find? (fun e => e.id == x.loadImage) with
    | none => w.loadRefused a 0x01 none
    | some e =>
      match w.imageStatus e.address e.length with
      | some st => w.loadRefused a st none
      | none =>
        let (bs, w) := w.loadBytes e.address e.length false
        let h := headerOf (bs.take 256)
        if imageCrc bs ≠ h.crc then w.loadRefused a 0x03 (some h.epoch)
        else
          let w := w.commitImage a e bs
          if (w.arr a).chans.isEmpty then w.answerHeld a
          else
            let w := w.modArr a (fun y => { y with st := .opening, lastStatus := if x.lastStatus = 0xFF then 0xFF else 0 })
            let sends := (w.arr a).chans.filter (fun c => !chDir c.2.record)
            (sends.foldl (fun w c => w.sendOpen a c.1) w).answerHeld a

/-- LOAD_WRITE_COMPLETE (R140). -/
def execLoadWriteComplete (a : Nat) (s : State) : Host.Outcome State Fault Refusal := run (loadWriteComplete a) s

/-! ### Start of a task (R137, R198, R298) -/

/-- The engines as a task starts: each has the template that names it and has StartAtTask set (R198). -/
def Arr.startEngines (x : Arr) : List (Nat × Engine) :=
  (List.range 4).map (fun e =>
    let t := findAt (fun b => dStart (descOf b) && (descOf b).engine == e) x.templates 0
    (e, { tmpl := t, nextTag := (x.engine e).nextTag }))

/-- Cells with generators seeded from the task alone for a checked run (R75). -/
def Work.checkedSeeds (w : Work) (a seq : Nat) : Work :=
  w.modArr a (fun x => { x with cells := x.cells.map (fun e =>
    (e.1, { e.2 with sr := srSeed (w.eff 0x2400 3 ^^^ seq) w.panelId 0 0 e.1 })) })

/-- ARRAY_RUN_START: a task placed on a READY array starts it: cells issue, engines take their first templates,
windows and the progress monitor begin (R137). Words that an outgoing window had gathered for an aborted task and not written
are lost (R130; DESIGN CHOICE, assumption 123). -/
def arrayRunStart (a : Nat) (w : Work) : Work :=
  let x := w.arr a
  match x.task with
  | some t =>
    if x.st = .ready ∧ x.load = .none ∧ t.running = false ∧ t.fault = none then
      let saved := if t.inst.checked then x.cells.map (fun e => (e.1, e.2.sr)) else []
      let t' := { t with running := true, startAt := w.dieNow (a / 16), stale0 := x.stale, discard0 := x.discarded, spills0 := x.spills,
                         susp0 := x.suspicions, savedSr := saved }
      let w := w.modArr a (fun x => { x with
        st := .run, task := some t', stopped := false, inWin := [], outWin := [], inHold := [], outHold := [], engines := x.startEngines, progress := 0
        firedSince := true, fired := false, moved := false })
      if t.inst.checked then w.checkedSeeds a t.inst.desc.seq else w
    else w
  | none => w

/-- ARRAY_RUN_START (R137). -/
def execArrayRunStart (a : Nat) (s : State) : Host.Outcome State Fault Refusal := run (arrayRunStart a) s

/-! ### The ends of a drain (R144) -/

/-- DRAIN_SUCCESS: an empty array leaves DRAIN for READY (R144). -/
def drainSuccess (a : Nat) (w : Work) : Work :=
  if (w.arr a).st == .drain && (w.arr a).drained then w.drainDone a else w

/-- DRAIN_SUCCESS (R144). -/
def execDrainSuccess (a : Nat) (s : State) : Host.Outcome State Fault Refusal := run (drainSuccess a) s

/-- DRAIN_DEADLINE: 1 ms has passed, ticks between STOP and RESUME not counted; an array found empty has drained, another ends
with residue (R144, R145, R258). -/
def drainDeadline (a : Nat) (w : Work) : Work :=
  if (w.arr a).st == .drain && w.fmgr.st < 2 then
    let w' := w.reachOn (a / 16) ((w.arr a).drainAt + 1000000)
    if (w.arr a).drained then w'.drainDone a else w'.drainResidue a
  else w

/-- DRAIN_DEADLINE (R144). -/
def execDrainDeadline (a : Nat) (s : State) : Host.Outcome State Fault Refusal := run (drainDeadline a) s

/-- DRAIN_NO_PROGRESS: 4,096 consecutive array cycles without movement have passed in a drain (R144). -/
def drainNoProgress (a : Nat) (w : Work) : Work :=
  if (w.arr a).st == .drain && !(w.arr a).drained && 4096 ≤ (w.arr a).still then w.drainResidue a else w

/-- DRAIN_NO_PROGRESS (R144). -/
def execDrainNoProgress (a : Nat) (s : State) : Host.Outcome State Fault Refusal := run (drainNoProgress a) s

/-! ### Progress monitor and spill (R147 to R151) -/

/-- Queue d of cell p counts as full: 4 tokens, or 11 with its run (R147). -/
def Arr.queueFull (x : Arr) (p d : Nat) : Bool :=
  match x.openRun p d with
  | some r => decide (((x.cell p).queue d).length + r.toks.length ≥ 11)
  | none => decide (((x.cell p).queue d).length ≥ 4)

/-- The full queues, in order of p, then N, S, E, W. -/
def Arr.fullQueues (x : Arr) : List (Nat × Nat) :=
  ((List.range 256).flatMap (fun p => (List.range 4).map (fun d => (p, d)))).filter (fun e => x.queueFull e.1 e.2)

/-- Full queues that have no run. -/
def Arr.toSpill (x : Arr) : List (Nat × Nat) := x.fullQueues.filter (fun e => (x.openRun e.1 e.2).isNone)

/-- A new run takes the three tokens behind a queue's head (R149). -/
def Arr.openOne (x : Arr) (e : Nat × Nat) : Arr :=
  match x.freeRuns with
  | j :: _ =>
    let q := (x.cell e.1).queue e.2
    { x.modCell e.1 (fun c => c.setQueue e.2 (q.take 1)) with
      runs := x.runs ++ [⟨j, e.1, e.2, 0, false, q.drop 1, false⟩] }
  | [] => x

/-- A spill round (R149). -/
def Arr.spillRound (x : Arr) : Arr := { x.toSpill.foldl Arr.openOne x with progress := 0, firedSince := false }

/-- A suspicion is a deadlock (R151). -/
def Arr.deadlocked (x : Arr) : Bool :=
  (!x.firedSince && x.runs.any SpillRun.isOpen) || x.toSpill.isEmpty || x.freeRuns.isEmpty

/-- PROGRESS_SUSPICION: the progress counter of a running task has reached 4,096: a spill round, or a deadlock that holds the
array with 0x0D (R147, R149, R151). -/
def progressSuspicion (a : Nat) (w : Work) : Work :=
  let x := w.arr a
  if x.st == .run && x.task.isSome && 4096 ≤ x.progress then
    let w := w.modArr a (fun x => { x with suspicions := satAdd 8 x.suspicions 1 })
    if x.deadlocked then (w.closeAll a true).hold a 0x0D
    else w.modArr a (fun x => { x.spillRound with spills := satAdd 8 x.spills 1 })
  else w

/-- PROGRESS_SUSPICION (R147). -/
def execProgressSuspicion (a : Nat) (s : State) : Host.Outcome State Fault Refusal := run (progressSuspicion a) s

/-- The word of the spill area that holds the payload of a slot (R148). -/
def Work.slotAddr (w : Work) (a s : Nat) : Nat := w.padAddr a (47104 * 8 + 64 * (s / 7) + 8 * (s % 7))

/-- SPILL_REFILL: where tokens move, the oldest token of an open run moves into its queue; an empty run closes (R150); an
uncorrectable word aborts the task with 0x20 (R194; assumption 98). In a HELD array queues and runs stay as they are (R141, R151). -/
def spillRefill (a p d : Nat) (w : Work) : Work :=
  let x := w.arr a
  if !x.moving then w else
  match x.openRun p d with
  | some r =>
    match r.toks with
    | t :: rest =>
      if w.hasBadWord (w.slotAddr a (8 * r.num + 1)) 8 then
        w.taskFault a { status := 0x20, address := w.slotAddr a (8 * r.num + 1) }
      else if ((x.cell p).queue d).length < 4 then
        w.modArr a (fun x => { x.modCell p (fun c => c.setQueue d (c.queue d ++ [t])) with
          runs := (x.runs.map (fun q => if q.num = r.num then { q with toks := rest } else q)).filter
            (fun q => q.num != r.num || !rest.isEmpty) })
      else w
    | [] => w.modArr a (fun x => { x with runs := x.runs.filter (fun q => q.num != r.num) })
  | none => w

/-- SPILL_REFILL (R150). -/
def execSpillRefill (a p dir : Nat) (s : State) : Host.Outcome State Fault Refusal := run (spillRefill a p dir) s

/-! ### Ports of the array edge (R128 to R131, R157, R158) -/

/-- The boundary cell of a port, and the direction of its register and queue (R128). -/
def portCell (e : Nat) : Nat × Nat :=
  let j := e % 16
  if e / 16 = 0 then (j, 0) else if e / 16 = 1 then (240 + j, 1) else if e / 16 = 2 then (16 * j + 15, 2) else (16 * j, 3)

/-- The token in the output register of a port. -/
def Arr.portOut (x : Arr) (e : Nat) : Option Token := (x.cell (portCell e).1).out (portCell e).2

/-- The output register of a port emptied. -/
def Arr.clearOut (x : Arr) (e : Nat) : Arr :=
  { x.modCell (portCell e).1 (fun c => c.setOut (portCell e).2 none) with moved := true }

/-- Tokens that the incoming buffer of a port still takes (R131). -/
def Arr.bufRoom (x : Arr) (e : Nat) : Nat := 4 * pInDepth (tget 0 x.ports e) - (tget [] x.inBuf e).length

/-- The word that an incoming window makes its next token of, and those left in its buffer; an empty buffer takes the rest of
the bank row with one access (R169). None where a word of it is uncorrectable. -/
def Work.windowWord (w : Work) (a e : Nat) : Option (Nat × List Nat × List Nat) :=
  let x := w.arr a
  let v := tget 0 x.ports e
  let n := tget 0 x.inWin e
  match tget [] x.inHold e with
  | y :: rest => some (y, rest, [])
  | [] =>
    let k := min (32 - (pBase v + n) % 32) (pWords v - n)
    let addr := w.padAddr a (8 * (pBase v + n))
    if w.hasBadWord addr (8 * k) then none
    else
      let ys := (List.range k).map (fun i => w.readNat (addr + 8 * i) 8)
      some (ys.headD 0, ys.tail, (List.range k).map (pBase v + n + ·))

/-- INCOMING_WINDOW_WORD: the next word of an incoming window becomes a token (R130, R169); an uncorrectable word aborts the
task with 0x20 (R196). -/
def incomingWindowWord (a e : Nat) (w : Work) : Work :=
  let x := w.arr a
  let v := tget 0 x.ports e
  let n := tget 0 x.inWin e
  if x.st == .run && x.task.isSome && !x.faulted && pInKind v == 1 && decide (n < pWords v) && decide (0 < x.bufRoom e) then
    match w.windowWord a e with
    | none => w.taskFault a { status := 0x20, address := w.padAddr a (8 * (pBase v + n)) }
    | some (y, rest, ws) =>
      let t := mkTok x.epoch (n + 1 == pWords v) 0 (pLane v) y
      w.modArr a (fun x => { x.access false 4 ws with
        inHold := tput x.inHold e rest, inBuf := tmod [] x.inBuf e (· ++ [t]), inWin := tput x.inWin e (n + 1), moved := true })
  else w

/-- INCOMING_WINDOW_WORD (R130). -/
def execIncomingWindowWord (a port : Nat) (s : State) : Host.Outcome State Fault Refusal := run (incomingWindowWord a port) s

/-- An outgoing window takes the token in its port's register: a barrier token is dropped (R205), a token beyond
WindowWords aborts the task with 0x0F, and the payload of any other goes to the next word, written once a bank row or the
window is complete, or at once in a drain (R130, R143, R169). -/
def Work.windowTake (w : Work) (a e : Nat) : Work :=
  let x := w.arr a
  let v := tget 0 x.ports e
  let n := tget 0 x.outWin e
  match x.portOut e with
  | some t =>
    if (x.st == .run || x.st == .drain) && !x.faulted && pOutKind v == 1 then
      if t.kind = 3 then w.modArr a (·.clearOut e)
      else if pWords v ≤ n then w.taskFault a { status := 0x0F }
      else
        let w := w.modArr a (fun x => { x.clearOut e with
          outHold := tmod [] x.outHold e (· ++ [t.pay.toNat]), outWin := tput x.outWin e (n + 1) })
        if (pBase v + n) % 32 = 31 ∨ n + 1 = pWords v ∨ x.st = .drain then w.flushWindow a e else w
    else w
  | none => w

/-- OUTGOING_WINDOW_WRITE (R130). -/
def execOutgoingWindowWrite (a port : Nat) (s : State) : Host.Outcome State Fault Refusal := run (·.windowTake a port) s

/-- A send channel gathers the token in its port's register (R156); a token for an ended channel aborts the task with
0x0E (R159). -/
def Work.chanTake (w : Work) (a e : Nat) : Work :=
  let x := w.arr a
  match x.portOut e, x.outChan e with
  | some t, some c =>
    let ch := x.chan c
    if ch.closed then w.taskFault a { status := 0x0E }
    else if x.moving && ch.granted && !ch.complete then
      w.modArr a (fun x => (x.modChan c (fun h => { h with gather := h.gather ++ [t] })).clearOut e)
    else w
  | _, _ => w

/-- INCOMING_TOKEN_DELIVERY: the oldest token of a port's incoming buffer enters the boundary cell's queue, and a
channel owes its credit (R131, R157, R158). -/
def incomingDelivery (a e : Nat) (w : Work) : Work :=
  let x := w.arr a
  match tget [] x.inBuf e with
  | t :: rest =>
    if x.moving && x.hasRoom (portCell e).1 (portCell e).2 then
      (w.modArr a (fun x => { x.enqueue (portCell e).1 (portCell e).2 t with
        inBuf := tput x.inBuf e rest, moved := true })).oweCredit a e
    else w
  | [] => w

/-- INCOMING_TOKEN_DELIVERY (R157). -/
def execIncomingTokenDelivery (a port : Nat) (s : State) : Host.Outcome State Fault Refusal := run (incomingDelivery a port) s

end Sys2Proof.Machine
end

