-- ==== Sys2Proof/Machine/Streams.lean ====
section
/-! DEFINITION. Stream engines: the setup checks of a descriptor, the packets and scratchpad operations it runs, the
tokens it feeds and collects, barriers, and its completion (R171 to R173, R198 to R206, R210 to R219, R224, R226, R251,
R467). -/

namespace Sys2Proof.Machine

/-! ### Addresses of a descriptor (R203, R206, R292) -/

/-- Tile, line and byte of position k of the stream. -/
def Desc.at3 (d : Desc) (k : Nat) : Nat × Nat × Nat :=
  (k / d.tileBytes, k % d.tileBytes / d.lineBytes, k % d.lineBytes)

/-- Source address of position k (R203). -/
def Desc.srcAt (d : Desc) (k : Nat) : Nat :=
  let (t, l, b) := d.at3 k
  d.src + t * d.srcStride + l * d.srcPitch + b

/-- Destination address of position k (R203). -/
def Desc.dstAt (d : Desc) (k : Nat) : Nat :=
  let (t, l, b) := d.at3 k
  d.dst + t * d.dstStride + l * d.dstPitch + b

/-- Staging address of position k of a FEED (R206). -/
def Desc.feedAt (d : Desc) (k : Nat) : Nat :=
  let (t, l, b) := d.at3 k
  d.dst + t % d.depthOf * d.dstStride + l * d.dstPitch + b

/-- Staging address of position k of a COLLECT (R206). -/
def Desc.collectAt (d : Desc) (k : Nat) : Nat :=
  let (t, l, b) := d.at3 k
  d.src + t % d.depthOf * d.srcStride + l * d.srcPitch + b

/-- An address of a template as the task rewrites it (R292); one that names this panel becomes the local address it contains
(R190). -/
def Work.rebase (w : Work) (a : Nat) (i : Inst) (x : Nat) : Nat :=
  let s := aSpace x
  w.localAddr
    (if s = 12 then (i.desc.base0 + i.inst * i.desc.stride + field x 0 60) % 2 ^ 64
     else if s = 13 then (i.desc.base1 + field x 0 60) % 2 ^ 64
     else if s = 14 then (i.desc.base2 + field x 0 60) % 2 ^ 64
     else if s = 15 then w.padAddr a (field x 0 19)
     else x)

/-- The descriptor with its addresses rewritten; the fill value of FILL is no address (R292; assumption 23). -/
def Work.rewriteDesc (w : Work) (a : Nat) (i : Inst) (d : Desc) : Desc :=
  { d with src := if d.op = 1 then d.src else w.rebase a i d.src, dst := w.rebase a i d.dst }

/-- An address lies in the own scratchpad, in a scratchpad of another array, or elsewhere. -/
def Work.isOwn (w : Work) (a x : Nat) : Bool := aSpace x == 3 && w.addrArr x == a
def Work.isPad (w : Work) (a x : Nat) : Bool := (aSpace x == 3 && w.addrArr x != a) || (aSpace x == 8 && field x 44 4 == 3)

/-- One number for an array of a panel, as a target. -/
def tKey (panel c r k : Nat) : Nat := ((panel * 32 + c) * 16 + r) * 16 + k

/-- The target of an address that names a scratchpad. -/
def Work.addrKey (w : Work) (x : Nat) : Nat :=
  tKey (if aSpace x = 8 then field x 48 12 else w.panelId) (aCol x) (aRow x) (aArr x)

/-- Targets of a descriptor's writes: one, or every die of the row or column up to McastEnd (R216). -/
def Work.targetsOf (w : Work) (d : Desc) : List Nat :=
  let c := aCol d.dst
  let r := aRow d.dst
  let k := aArr d.dst
  let walk := fun (x y : Nat) => if x ≤ y then (List.range (y - x + 1)).map (x + ·) else (List.range (x - y + 1)).map (x - ·)
  if d.mcMode = 1 then (walk c d.mcEnd).map (fun c' => tKey w.panelId c' r k)
  else if d.mcMode = 2 then (walk r d.mcEnd).map (fun r' => tKey w.panelId c r' k)
  else [w.addrKey d.dst]

/-! ### Packets of an engine (R211, R233, R234) -/

/-- A packet of engine e of array a to array `key`. -/
def Work.engPkt (w : Work) (a e type vc key sub : Nat) : Packet :=
  { type := type, vc := vc, srcPanel := w.panelId, srcC := w.colOf (a / 16), srcR := w.rowOf (a / 16), srcUnit := a % 16,
    srcSub := e, dstPanel := key / 8192, dstC := key / 256 % 32, dstR := key / 16 % 16, dstUnit := key % 16, dstSub := sub }

/-- The die a Hutch is reached through from die d (R245). Where no candidate can be reached the packet makes for the first of
them, and its source learns from the tables that it is unreachable (R247). -/
def Work.hutchVia (w : Work) (d b addr : Nat) : Nat := (w.nearest d (w.hutchDies b) (bit addr 8)).getD ((w.hutchDies b).headD 0)

/-- A packet of engine e of array a to the memory at an address. -/
def Work.memPkt (w : Work) (a e type vc addr : Nat) : Packet :=
  let p := w.engPkt a e type vc (w.addrKey addr) 0
  let s := if aSpace addr = 8 then field addr 44 4 else aSpace addr
  if s = 3 then { p with address := addr }
  else if s = 2 then { p with dstUnit := 0x10, address := addr }
  else
    let via := w.hutchVia (a / 16) (aHutch addr) addr
    if aSpace addr = 8 then { p with dstC := 0, dstR := 0, dstUnit := 0x40 + aHutch addr, address := addr }
    else { p with dstC := w.colOf via, dstR := w.rowOf via, dstUnit := 0x40 + aHutch addr, address := addr }

/-- Data of this descriptor to a die of this panel may travel on BULK-A (R244). -/
def Work.mayAdapt (w : Work) (d : Desc) (from_ : Nat) (p : Packet) : Bool :=
  dAdaptive d && w.eff 0x4000 7 == 1 && p.dstPanel == w.panelId && bit (w.route from_ (w.dstDie p)) 10

/-- A data packet on its bulk channel. -/
def Work.onBulk (w : Work) (d : Desc) (from_ : Nat) (p : Packet) : Packet :=
  if w.mayAdapt d from_ p then { p with vc := 3, adaptive := true } else { p with vc := 4 }

/-! ### Faults, check values and digests -/

/-- A fault of engine e at position k of its stream, with its template, tile and address (R220). -/
def Work.faultAt (w : Work) (a e status addr k : Nat) : Work :=
  let en := w.engine a e
  w.taskFault a { status := status, engine := en.where_ e, tile := en.desc.tileAt k, address := addr }

/-- A fault of engine e where it stands in its stream (R220). -/
def Work.engineFault (w : Work) (a e status addr : Nat) : Work := w.faultAt a e status addr (w.engine a e).position

/-- Bytes fed to a check-value unit (R223, R224). -/
def Work.feedUnit (w : Work) (u : Nat) (bs : List Byte) : Work :=
  w.modCheck u (fun c => { c with running := crcRun c.poly c.running bs, bytes := (c.bytes + bs.length) % 2 ^ 64 })

/-- Source bytes of a descriptor with Check fed to the die's unit (R224). -/
def Work.feedCheck (w : Work) (a : Nat) (d : Desc) (bs : List Byte) : Work :=
  if dCheck d then w.feedUnit (a / 16) bs else w

/-- Bytes of a MOVE or a FEED that have come from another space, fed in the order of the stream: those ahead of their turn are held (R224); `fuel`
bounds the pieces. -/
def Work.feedInOrder (a e : Nat) : Nat → Work → Work
  | 0, w => w
  | fuel + 1, w =>
    let en := w.engine a e
    match en.unfed.find? (fun x => x.1 == en.fed) with
    | some x =>
      ((w.feedCheck a en.desc x.2).modEngine a e (fun en => { en with
        fed := en.fed + x.2.length, unfed := en.unfed.filter (fun y => y.1 != x.1) })).feedInOrder a e fuel
    | none => w

/-- Bytes at position k of a stream from another space have landed (R224). -/
def Work.feedLanded (w : Work) (a e k : Nat) (bs : List Byte) : Work :=
  if dCheck (w.engine a e).desc then
    (w.modEngine a e (fun en => { en with unfed := en.unfed ++ [(k, bs)] })).feedInOrder a e 65537
  else w

/-- The task on array a is the second copy of a checked instance (R439). -/
def Arr.isCopy (x : Arr) : Bool := match x.task with | some t => t.inst.copy | none => false

/-- Bytes that engine e writes outside its own scratchpad, taken into its comparison digest (R439). -/
def Work.digest (w : Work) (a e : Nat) (bs : List Byte) : Work :=
  w.modArr a (fun x => match x.task with
    | some t => if t.inst.checked then { x with task := some { t with digests := tmod 0 t.digests e (crcRun 2 · bs) } } else x
    | none => x)

/-! ### Setup (R172, R173, R192, R202, R249, R251) -/

/-- The port lists of an engine (R204). -/
def Arr.feedPorts (x : Arr) (e : Nat) : List Nat :=
  (List.range 64).filter (fun p => pInKind (tget 0 x.ports p) == 2 && pInRef (tget 0 x.ports p) == e)
def Arr.collectPorts (x : Arr) (e : Nat) : List Nat :=
  (List.range 64).filter (fun p => pOutKind (tget 0 x.ports p) == 2 && pOutRef (tget 0 x.ports p) == e)

/-- The status of `n` bytes of one end: invalid addresses and the spill area 0x30, absent targets 0x08. -/
def Work.endStatus (w : Work) (x n : Nat) : Option Nat :=
  if w.invalid x || w.invalid (x + n - 1) || aSpace (x + n - 1) != aSpace x || spills x n || (aSpace x == 3 && x % 8 != 0) then some 0x30
  else if w.absent x || w.absent (x + n - 1) then some 0x08
  else none

/-- The own scratchpad holds `n` bytes from an address, outside the spill area. -/
def Work.ownStatus (w : Work) (a x n : Nat) : Option Nat :=
  if w.isOwn a x && w.isOwn a (x + n - 1) then w.endStatus x n else some 0x30

/-- First addresses of the lines of an end, for n tiles. -/
def Desc.lineStarts (d : Desc) (base n stride pitch : Nat) : List Nat :=
  (List.range n).flatMap (fun t => (List.range d.lines).map (fun l => base + t * stride + l * pitch))

/-- The status of an end, line by line: a refused one before an absent one (R192, R202). -/
def linesStatus (f : Nat → Nat → Option Nat) (d : Desc) (xs : List Nat) : Option Nat :=
  let sts := xs.filterMap (fun x => f x d.lineBytes)
  if sts.contains 0x30 then some 0x30 else sts.head?

/-- A write end that is a receive window of other arrays: the peers present, offset zero, pitch equal to the line, the
window named (R212, R216), and for a multicast a walk without holes (R249). -/
def Work.padStatus (w : Work) (a : Nat) (d : Desc) : Option Nat :=
  if w.invalid d.dst || aByte d.dst != 0 || d.dstPitch != d.lineBytes || !bit d.window 7 then some 0x30
  else if d.mcMode = 0 then (if w.absent d.dst then some 0x08 else none)
  else if aSpace d.dst = 8 ∨ (d.mcMode = 1 ∧ w.cols ≤ d.mcEnd) ∨ (d.mcMode = 2 ∧ 16 ≤ d.mcEnd) then some 0x30
  else
    let dies := (w.targetsOf d).map (fun t => w.dieOf (t / 256 % 32) (t / 16 % 16))
    if !(w.clearPath w.gaps (a / 16) (dies.headD 0) && w.clearPath w.gaps (dies.headD 0) (dies.getLastD 0)) then some 0x30
    else if (w.targetsOf d).any (fun t => !w.arrPresent (arrOf (w.dieOf (t / 256 % 32) (t / 16 % 16)) (t % 16))) then some 0x08
    else none

/-- The descriptor reads the receive window it names as its source (R210): FEED, COPY, TCOPY, a MOVE or a REDUCE that names no
window of another array. -/
def Work.sourceWindow (w : Work) (a : Nat) (d : Desc) : Bool :=
  bit d.window 7 && w.isOwn a d.src &&
    (d.op == 5 || d.op == 2 || d.op == 3 || (d.op == 0 && !w.isPad a d.dst && d.mcMode == 0) || (d.op == 7 && aSpace d.dst != 3))

/-- Word `x` is a destination of a TCOPY: D + j·Pd + i with i < R and j < C (R171). -/
def tcopyHits (dst pd r c x : Nat) : Bool :=
  decide (dst ≤ x) && decide (x - dst - min (c - 1) ((x - dst) / pd) * pd < r)

/-- Words of the own scratchpad from byte addresses. -/
def wordAt (x : Nat) : Nat := aByte x / 8

/-- The positions along a reduction chain, head first, root last (R251). -/
def Work.chainOf (w : Work) (d : Desc) : List Nat :=
  let walk := fun (x y : Nat) => if x ≤ y then (List.range (y - x + 1)).map (x + ·) else (List.range (x - y + 1)).map (x - ·)
  if aSpace d.dst = 3 then
    if d.mcMode = 1 then (walk d.mcEnd (aCol d.dst)).map (fun c => w.dieOf c (aRow d.dst))
    else (walk d.mcEnd (aRow d.dst)).map (fun r => w.dieOf (aCol d.dst) r)
  else []

/-- The chain of a Hutch root along the member's own row (R251). -/
def Work.hutchChain (w : Work) (die : Nat) (d : Desc) : List Nat :=
  let c := if aHutch d.dst < 8 then 0 else w.cols - 1
  let walk := fun (x y : Nat) => if x ≤ y then (List.range (y - x + 1)).map (x + ·) else (List.range (x - y + 1)).map (x - ·)
  (walk d.mcEnd c).map (fun c => w.dieOf c (w.rowOf die))

/-- The dies of the reduction chain that the array on die `die` belongs to. -/
def Work.redChain (w : Work) (die : Nat) (d : Desc) : List Nat :=
  if aSpace d.dst = 3 then w.chainOf d else w.hutchChain die d

/-- Bytes that unit i of a reduction with `n` valid bytes takes up at a Hutch root, and whether what stands there is read: the sums
of codes 1 to 3 are added to FP32 words (R274). -/
def redRange (dst code i n : Nat) : Nat × Nat := if code = 2 ∨ code = 3 then (dst + 512 * i, 2 * n) else (dst + 256 * i, n)

/-- What stops unit i of a reduction at a Hutch root (R192, R195, R196). -/
def Work.redStatus (w : Work) (dst code i n : Nat) : Option Nat :=
  let r := redRange dst code i n
  if 1 ≤ code ∧ code ≤ 3 then w.readStatus r.1 r.2 else w.writeStatus r.1 r.2

/-- The setup checks of REDUCE: a root in an array is a window written at offset zero with the pitch equal to the line (R212,
R251); at a Hutch root every byte that the sums take up is there (R192). -/
def Work.reduceStatus (w : Work) (a : Nat) (d : Desc) : Option Nat :=
  let die := a / 16
  if d.mcMode = 0 then some 0x30
  else if aSpace d.dst = 3 then
    if w.invalid d.dst || !bit d.window 7 || aByte d.dst != 0 || d.dstPitch != d.lineBytes then some 0x30
    else (chainStatus w die d).or (if w.absent d.dst then some 0x08 else none)
  else if aSpace d.dst ≤ 1 then
    if d.mcMode != 1 || w.rowOf die / 2 != aHutch d.dst % 8 then some 0x30
    else (w.endStatus d.dst (redRange d.dst d.redOp 0 (d.lineBytes * d.lines * d.tiles)).2).or (chainStatus w die d)
  else some 0x30
where
  /-- The own die lies on the chain, and the chain crosses no hole. -/
  chainStatus (w : Work) (die : Nat) (d : Desc) : Option Nat :=
    let ch := w.redChain die d
    if ch.contains die && decide (d.mcEnd < (if d.mcMode = 1 then w.cols else 16)) &&
        w.clearPath w.gaps (ch.headD 0) (ch.getLastD 0) then none else some 0x30

/-- Words of the receive window that a COPY or a TCOPY is going to read, from the unit after the last one read (R172, R210). -/
def Work.windowWords (w : Work) (a : Nat) (d : Desc) (n : Nat) : List Nat :=
  let x := (w.arr a).window (d.window % 8)
  (List.range (n / 8)).map (fun i => x.base / 8 + (32 * x.rd + i) % max (32 * x.units) 1)

/-- The setup status of a descriptor whose addresses have been rewritten, each line of an end checked (R192, R202); a multicast
takes its bytes from the own scratchpad (R216, R467; assumption 100). -/
def Work.setupStatus (w : Work) (a e : Nat) (d : Desc) : Option Nat :=
  let x := w.arr a
  let owner := ((w.blob 0x5800 3).getD (a / 16) 0).toNat
  let owned := bit owner 7 && field owner 0 2 == e && field owner 2 4 == a % 16
  let window := w.sourceWindow a d
  let srcs := fun (n : Nat) => if window then [] else d.lineStarts d.src n d.srcStride d.srcPitch
  let dsts := fun (n : Nat) => d.lineStarts d.dst n d.dstStride d.dstPitch
  let own := linesStatus (w.ownStatus a) d
  let any := linesStatus w.endStatus d
  let n8 := d.lineBytes
  if (dCheck d || d.op == 10 || d.op == 11) && !owned then some 0x34
  else if window && !(x.window (d.window % 8)).isOpen then some 0x30
  else if d.op = 0 then
    if w.isOwn a d.src then
      (own (srcs d.tiles)).or (if d.mcMode != 0 || w.isPad a d.dst then w.padStatus a d else any (dsts d.tiles))
    else if d.mcMode != 0 then some 0x30
    else (own (dsts d.tiles)).or (any (srcs d.tiles))
  else if d.op = 1 then w.ownStatus a d.dst n8
  else if d.op = 2 then
    if window then
      (w.ownStatus a d.dst n8).or
        (if (w.windowWords a d n8).any (fun x => decide (wordAt d.dst ≤ x) && decide (x < wordAt d.dst + n8 / 8)) then some 0x30 else none)
    else ((w.ownStatus a d.src n8).or (w.ownStatus a d.dst n8)).or
      (if wordAt d.src < wordAt d.dst + n8 / 8 ∧ wordAt d.dst < wordAt d.src + n8 / 8 then some 0x30 else none)
  else if d.op = 3 then
    let r := d.lines
    let c := n8 / 8
    let ps := d.srcPitch / 8
    let pd := d.dstPitch / 8
    let cols := (List.range c).findSome? (fun j => w.ownStatus a (d.dst + j * d.dstPitch) (8 * r))
    if 1536 < r ∨ 1536 < c then some 0x30
    else if window then
      cols.or (if (w.windowWords a d (n8 * r)).any (tcopyHits (wordAt d.dst) pd r c) then some 0x30 else none)
    else
      ((own (d.lineStarts d.src 1 0 d.srcPitch)).or cols).or
        (if (List.range r).any (fun i => (List.range c).any (fun j => tcopyHits (wordAt d.dst) pd r c (wordAt d.src + i * ps + j)))
          then some 0x30 else none)
  else if d.op = 4 then
    if aSpace d.src ≠ 0 ∨ w.invalid d.src ∨ w.invalid (d.src + n8 - 1) then some 0x30 else none
  else if d.op = 5 then
    if (x.feedPorts e).isEmpty then some 0x30
    else if w.isOwn a d.src then
      if d.dst ≠ 0 then some 0x30 else own (srcs d.tiles)
    else (any (srcs d.tiles)).or (own (dsts (min d.depthOf d.tiles)))
  else if d.op = 6 then
    if (x.collectPorts e).isEmpty then some 0x30
    else if w.isOwn a d.dst then (if d.src ≠ 0 then some 0x30 else own (dsts d.tiles))
    else
      (own (d.lineStarts d.src (min d.depthOf d.tiles) d.srcStride d.srcPitch)).or
        (if w.isPad a d.dst then w.padStatus a { d with mcMode := 0 } else any (dsts d.tiles))
  else if d.op = 7 then (own (srcs d.tiles)).or (w.reduceStatus a d)
  else if d.op = 8 then
    if aByte d.dst % 256 ≠ 0 ∨ (x.window (d.window % 8)).isOpen then some 0x30 else w.ownStatus a d.dst n8
  else if d.op = 9 then (if (x.window (d.window % 8)).isOpen then none else some 0x30)
  else if d.op = 10 then w.ownStatus a d.dst 32
  else w.ownStatus a d.src 32

/-! ### Credit requests and writes into windows (R210 to R212, R216) -/

/-- Units of 256 B of a descriptor. -/
def Desc.units (d : Desc) : Nat := (d.total + 255) / 256

/-- Units of the window ring of a target: as it stands open on this panel, or as its sender knows it (R210, R212, R219;
assumption 24). -/
def Work.ringOf (w : Work) (key win : Nat) : Nat :=
  let wd := (w.arr (arrOf (w.dieOf (key / 256 % 32) (key / 16 % 16)) (key % 16))).window win
  if key / 8192 = w.panelId ∧ wd.isOpen then wd.units else max 1 (Config.farUnits key win)

/-- The next CRQ of an engine to every target, once the previous one is answered: min(remaining, 64, W) units (R212). -/
def Work.askCredit (w : Work) (a e : Nat) (targets : List Nat) : Work :=
  let en := w.engine a e
  let d := en.desc
  let n := (targets.map (fun t => w.ringOf t (d.window % 8))).foldl min (min (d.units - en.asked) 64)
  if !en.credits.isEmpty || n == 0 then w
  else
    let w := targets.foldl (fun w t =>
      w.send { w.engPkt a e 0x10 1 t (d.window % 8) with typeData := en.nextTag + n * 2 ^ 16 }) w
    w.modEngine a e (fun en => { en with
      credits := targets.map (fun t => ⟨en.nextTag, t, n, w.dieNow (a / 16), false⟩), asked := en.asked + n, nextTag := (en.nextTag + 1) % 65536 })

/-- Bytes read from the own scratchpad at consecutive stream positions by an address function. -/
def Work.gatherBytes (w : Work) (at_ : Nat → Nat) (k n : Nat) : List Byte :=
  (List.range (n / 8)).flatMap (fun i => w.read (at_ (k + 8 * i)) 8)

/-- An uncorrectable word among them. -/
def Work.gatherBad (w : Work) (at_ : Nat → Nat) (k n : Nat) : Option Nat :=
  ((List.range (n / 8)).map (fun i => at_ (k + 8 * i))).find? (fun x => w.hasBadWord x 8)

/-- Where position k of an outgoing stream lies in the own scratchpad: the source, the window unit being read, or the
staging ring (R203, R206, R210). -/
def Work.outAt (w : Work) (a : Nat) (d : Desc) (k : Nat) : Nat :=
  if d.op = 6 then d.collectAt k
  else if w.sourceWindow a d then
    let wd := (w.arr a).window (d.window % 8)
    w.padAddr a (wd.base + 256 * wd.rd + k % 256)
  else d.srcAt k

/-- Bytes that a descriptor reads of its source window: one line of a COPY, one tile of a TCOPY, else the stream. -/
def Desc.windowBytes (d : Desc) : Nat := if d.op = 2 then d.lineBytes else if d.op = 3 then d.tileBytes else d.total

/-- Units of a source window that have landed in order and await reading. -/
def Window.ready (x : Window) : Nat :=
  ((List.range x.units).takeWhile (fun i => x.landed.contains ((x.rd + i) % x.units))).length

/-- Bytes of the stream that may be sent, as a position: all of an own source, what has landed in a source window, whole
tiles of a COLLECT (R206, R210). -/
def Work.available (w : Work) (a : Nat) (en : Engine) : Nat :=
  let d := en.desc
  if d.op = 6 then en.words * 8 / d.tileBytes * d.tileBytes
  else if w.sourceWindow a d then
    min d.windowBytes (en.issued / 256 * 256 + 256 * ((w.arr a).window (d.window % 8)).ready)
  else d.total

/-- A request whose grant holds unit u of its window, of `units`: the unit has been read and freed. -/
def Crq.free (q : Crq) (units u : Nat) : Crq :=
  match q.offset with
  | some o => { q with freed := q.freed ++ q.written.filter (fun j => (o + j) % max units 1 == u && !q.freed.contains j) }
  | none => q

/-- The unit of a source window that has been read is freed (R210). -/
def Work.freeUnit (w : Work) (a : Nat) (d : Desc) (k n : Nat) : Work :=
  if w.sourceWindow a d && ((k + n) % 256 == 0 || k + n == d.windowBytes) then
    let i := d.window % 8
    w.modArr a (fun y =>
      let u := (y.window i).rd
      { y.modWindow i (fun x =>
          { x with landed := x.landed.filter (· != u), from_ := tdel x.from_ u, rd := (u + 1) % max x.units 1, used := x.used - 1 }) with
        crqs := y.crqs.map (fun q => if q.window = i then q.free (y.window i).units u else q) })
  else w

/-- Words of the own scratchpad that hold a piece of an outgoing stream. -/
def Work.outWords (w : Work) (a : Nat) (d : Desc) (k n : Nat) : List Nat :=
  (List.range (n / 8)).map (fun i => wordAt (w.outAt a d (k + 8 * i)))

/-- Words in accesses of 32 (R166). -/
def by32s (ws : List Nat) : List (List Nat) := (List.range ((ws.length + 31) / 32)).map (fun i => (ws.drop (32 * i)).take 32)

/-- One piece of the outgoing stream taken from the scratchpad: its bytes, with check value, digest and window freed. -/
def Work.takePiece (w : Work) (a e k n : Nat) : List Byte × Work :=
  let d := (w.engine a e).desc
  let bs := w.gatherBytes (w.outAt a d) k n
  let w := w.accesses a false e (by32s (w.outWords a d k n))
  let w := if d.op = 6 then w else w.feedCheck a d bs
  let w := if w.isOwn a d.dst then w else w.digest a e bs
  (bs, (w.freeUnit a d k n).modEngine a e (fun en => { en with issued := k + n }))

/-- Bytes padded to whole flits. -/
def flits (bs : List Byte) : List Byte := padTo ((bs.length + 63) / 64 * 64) bs

/-- Units launched into windows whose DONE is still to come. -/
def Engine.unanswered (en : Engine) : Nat := ((en.transfers.filter (fun t => !t.targets.isEmpty)).map (·.packets)).sum

/-- WR or MWR packets of the oldest grant, as far as the stream is there to be sent, at most 64 units without their DONE; `fuel`
bounds them (R212, R216, R467). -/
def Work.launchGrants (a e : Nat) : Nat → Work → Work
  | 0, w => w
  | fuel + 1, w =>
    let en := w.engine a e
    let d := en.desc
    match en.grants with
    | [] => w
    | g :: rest =>
      let k := en.issued
      let n := min 256 (d.total - k)
      if (w.arr a).faulted || n == 0 || decide (w.available a en < k + n) || decide (64 ≤ en.unanswered + g.used) then w
      else
        match w.gatherBad (w.outAt a d) k n with
        | some x => w.engineFault a e 0x20 x
        | none =>
          let (bs, w) := w.takePiece a e k n
          let targets := w.targetsOf d
          let p := w.engPkt a e (if d.mcMode = 0 then 0x13 else 0x14) 5 (targets.headD 0) (d.window % 8)
          let p := { p with transfer := g.id, total := g.units, index := g.used, last := g.used + 1 == g.units,
                            typeData := g.tag + n * 2 ^ 16, payload := flits bs, mcMode := d.mcMode, mcEnd := d.mcEnd }
          let p := if d.mcMode = 0 then w.onBulk d (a / 16) p else p
          let w := if (w.arr a).isCopy then w else w.send p
          let w := if g.used + 1 = g.units then
              let t : Transfer := { id := g.id, targets := targets, packets := g.units, start := g.start, launched := w.dieNow (a / 16) }
              w.modEngine a e (fun en => { en with grants := rest,
                                                   transfers := if (w.arr a).isCopy then en.transfers else en.transfers ++ [t] })
            else w.modEngine a e (fun en => { en with grants := { g with used := g.used + 1 } :: rest })
          w.launchGrants a e fuel

/-! ### Writes to memories (R212, R467) -/

/-- Pieces of up to 256 B from position k that go to one unit, none beyond a line; at most `fuel` (R467). -/
def Work.pieces (w : Work) (a : Nat) (d : Desc) (limit unit : Nat) : Nat → Nat → List (Nat × Nat)
  | 0, _ => []
  | fuel + 1, k =>
    let n := min 256 (d.lineBytes - k % d.lineBytes)
    let n := if w.sourceWindow a d then min n (256 - k % 256) else n
    let n := min n (limit - k)
    if n = 0 ∨ (w.memPkt a 0 0 0 (d.dstAt k)).dstUnit ≠ unit ∨ d.dstAt k / 2 ^ 38 ≠ d.dstAt (k + n - 8) / 2 ^ 38 then []
    else (k, n) :: w.pieces a d limit unit fuel (k + n)

/-- AWR packets of one transfer of at most 256, when no other is open (R467); an address invalid or unreachable at run
time ends the task (R192, R196). -/
def Work.launchAwr (w : Work) (a e : Nat) : Work :=
  let en := w.engine a e
  let d := en.desc
  let k0 := en.issued
  let limit := w.available a en
  if !en.transfers.isEmpty || (w.arr a).faulted || decide (limit ≤ k0) then w
  else
    let unit := (w.memPkt a 0 0 0 (d.dstAt k0)).dstUnit
    let window := w.sourceWindow a d
    let ps := w.pieces a d (if window then min limit (k0 / 256 * 256 + 256) else limit) unit 256 k0
    match ps.findSome? (fun p => (w.writeStatus (d.dstAt p.1) p.2).map (fun st => (st, d.dstAt p.1))),
          ps.findSome? (fun p => w.gatherBad (w.outAt a d) p.1 p.2) with
    | some (st, x), _ => w.faultAt a e st x k0
    | none, some x => w.faultAt a e 0x20 x k0
    | none, none =>
      let id := en.nextTag + 65536 * e
      let copy := (w.arr a).isCopy
      let w := ps.zipIdx.foldl (fun w p =>
        let ((k, n), i) := p
        let (bs, w) := w.takePiece a e k n
        let pkt := { w.memPkt a e 0x17 4 (d.dstAt k) with
          transfer := id, total := ps.length, index := i, last := i + 1 == ps.length, typeData := n, payload := flits bs }
        if copy then w else w.send (w.onBulk d (a / 16) pkt)) w
      let t : Transfer := { id := id, packets := ps.length, address := d.dstAt k0, start := k0, launched := w.dieNow (a / 16) }
      w.modEngine a e (fun en => { en with nextTag := (en.nextTag + 1) % 65536,
                                           transfers := if copy then en.transfers else en.transfers ++ [t] })

/-! ### Reads (R206, R248, R467) -/

/-- The position up to which every byte of a read stream has landed. -/
def Engine.arrived (en : Engine) : Nat :=
  (en.transfers.filter (fun t => t.read.isSome)).foldl (fun m t => min m t.start) en.issued

/-- Lines of a tile of a source, in 128 B lines of DRAM, for the prefetch hints of R206. -/
def Desc.tileLines (d : Desc) (t : Nat) : List Nat :=
  if t < d.tiles then (List.range d.lines).flatMap (fun l => lines128 (d.src + t * d.srcStride + l * d.srcPitch) d.lineBytes) else []

/-- Hints for up to Depth tiles beyond the tile that begins at position k (R179, R206). -/
def Work.hint (w : Work) (a : Nat) (d : Desc) (k : Nat) : Work :=
  if dViaStore d && aSpace d.src == 0 && k % d.tileBytes == 0 then
    ((List.range d.depthOf).flatMap (fun i => d.tileLines (k / d.tileBytes + 1 + i))).foldl (fun w l => w.prefetch (a / 16) l) w
  else w

/-- Bytes of the next RDREQ where `n` are left of a line: at most 16,384, and never a rest below 256 (R467; assumption 113). -/
def readSize (n : Nat) : Nat := if n ≤ 16384 then n else if n < 16384 + 256 then 16384 - 256 else 16384

/-- RDREQ packets as the bounds allow: 4 open, no line crossed, staging slots free; `fuel` bounds them (R206, R467). -/
def Work.launchReads (a e : Nat) : Nat → Work → Work
  | 0, w => w
  | fuel + 1, w =>
    let en := w.engine a e
    let d := en.desc
    let k := en.issued
    let slotFree := d.op != 5 || decide (k / d.tileBytes < en.words * 8 / d.tileBytes + d.depthOf)
    if d.total ≤ k ∨ 4 ≤ (en.transfers.filter (fun t => t.read.isSome)).length ∨ !slotFree ∨ (w.arr a).faulted then w
    else
      let n := readSize (d.lineBytes - k % d.lineBytes)
      let x := d.srcAt k
      match (if w.isRemote x then none else w.readStatus x n) with
      | some st =>
        if st = 0x20 ∨ st = 0x21 ∨ st = 0x22 then request en d k n x fuel w else w.faultAt a e st x k
      | none => request en d k n x fuel w
where
  /-- One RDREQ sent. -/
  request (en : Engine) (d : Desc) (k n x : Nat) (fuel : Nat) (w : Work) : Work :=
    let id := en.nextTag + 65536 * e
    let p := w.memPkt a e 0x18 1 x
    let p := if dViaStore d && aSpace x == 0 then
        { p with dstC := w.colOf (a / 16), dstR := w.rowOf (a / 16), dstUnit := 0x10 } else p
    let p := { p with transfer := id, typeData := n + ofBool (dNoAlloc d) * 2 ^ 15 + ofBool (dAdaptive d) * 2 ^ 16 }
    let t : Transfer := { id := id, address := x, read := some (n, []), start := k, packets := (n + 255) / 256, launched := w.dieNow (a / 16) }
    ((w.hint a d k).send p |>.modEngine a e (fun en => { en with
      issued := k + n, nextTag := (en.nextTag + 1) % 65536, transfers := en.transfers ++ [t] })).launchReads a e fuel

/-! ### Contributions to a reduction (R251, R252) -/

/-- RED packets of a member, one for each unit that is there to be read (R210); the head of an array root launches only granted units
(R252), and those for a Hutch root make for the attach column of their row (R251), where the Hutch takes them (R186, R195). The valid bytes stand in TypeData as in a WR (assumption 25). -/
def Work.launchReds (a e : Nat) : Nat → Work → Work
  | 0, w => w
  | fuel + 1, w =>
    let en := w.engine a e
    let d := en.desc
    let k := en.issued
    let n := min 256 (d.total - k)
    let head := (w.redChain (a / 16) d).headD 0 == a / 16
    let needs := head && aSpace d.dst == 3
    let root := if aSpace d.dst ≤ 1 then w.redStatus d.dst d.redOp (k / 256) n else none
    if n = 0 ∨ (w.arr a).faulted ∨ (needs ∧ en.grants = []) ∨ w.available a en < k + n then w
    else
      match w.gatherBad (w.outAt a d) k n, root with
      | some x, _ => w.engineFault a e 0x20 x
      | none, some st => w.engineFault a e st (redRange d.dst d.redOp (k / 256) n).1
      | none, none =>
        let (bs, w) := w.takePiece a e k n
        let id := 65536 * e + en.nextTag
        let tag := match en.grants with | g :: _ => if needs then g.tag else 0 | [] => 0
        let p := if aSpace d.dst = 3 then w.engPkt a e 0x1A 5 (w.addrKey d.dst) (d.window % 8)
          else { w.memPkt a e 0x1A 5 d.dst with
            dstC := if aHutch d.dst < 8 then 0 else w.cols - 1, dstR := w.rowOf (a / 16) }
        let p := { p with transfer := id, total := d.units, index := k / 256, last := k + n == d.total, payload := flits bs,
                          typeData := tag + n * 2 ^ 16, mcEnd := d.mcEnd, mcMode := d.mcMode, redCode := d.redOp, contribs := 1
                          address := if aSpace d.dst = 3 then 0 else d.dst }
        let w := w.send p
        let grants := match en.grants with
          | g :: rest => if needs then (if g.used + 1 = g.units then rest else { g with used := g.used + 1 } :: rest) else en.grants
          | [] => []
        let w := w.modEngine a e (fun en => { en with grants := grants })
        let w := if k + n = d.total then
            w.modEngine a e (fun en => { en with nextTag := (en.nextTag + 1) % 65536
                                                 transfers := en.transfers ++ [{ id := id, packets := d.units, red := true, launched := w.dieNow (a / 16) }] })
          else w
        w.launchReds a e fuel

/-! ### A receive window copied into the own scratchpad (R203, R210) -/

/-- Where byte k of a source window goes in the own scratchpad: MOVE, COPY, or word (i, j) of TCOPY at D + j·Pd + i (R171,
R203). -/
def Desc.unitAt (d : Desc) (k : Nat) : Nat :=
  if d.op = 2 then d.dst + k
  else if d.op = 3 then d.dst + k / 8 % (d.lineBytes / 8) * d.dstPitch + 8 * (k / 8 / (d.lineBytes / 8))
  else d.dstAt k

/-- Units of the source window that have landed, copied word by word into the destination; `fuel` bounds them. -/
def Work.moveUnits (a e : Nat) : Nat → Work → Work
  | 0, w => w
  | fuel + 1, w =>
    let en := w.engine a e
    let d := en.desc
    let k := en.issued
    let n := min 256 (d.windowBytes - k)
    if n = 0 ∨ (w.arr a).faulted ∨ w.available a en < k + n then w
    else
      match w.gatherBad (w.outAt a d) k n with
      | some x => w.engineFault a e 0x20 x
      | none =>
        let (bs, w) := w.takePiece a e k n
        let at_ := fun (i : Nat) => d.unitAt (k + 8 * i)
        let w := (List.range (n / 8)).foldl (fun w i => w.write (at_ i) (slice bs (8 * i) 8)) w
        let w := w.accesses a true e (by32s ((List.range (n / 8)).map (fun i => wordAt (at_ i))))
        let w := if k + n = d.windowBytes then w.modEngine a e (fun en => { en with issued := max en.desc.total (k + n) }) else w
        w.moveUnits a e fuel

/-- The copy of a checked instance takes its outgoing bytes into its digests and writes nothing outside its own
scratchpad (R439); `fuel` bounds the pieces. -/
def Work.swallow (a e : Nat) : Nat → Work → Work
  | 0, w => w
  | fuel + 1, w =>
    let en := w.engine a e
    let d := en.desc
    let k := en.issued
    let n := min 256 (d.total - k)
    if n = 0 ∨ (w.arr a).faulted ∨ w.available a en < k + n then w
    else
      match w.gatherBad (w.outAt a d) k n with
      | some x => w.engineFault a e 0x20 x
      | none => (w.takePiece a e k n).2.swallow a e fuel

/-! ### Everything an engine can send at present -/

/-- An engine sends whatever its descriptor and the bounds of R467 allow at present. -/
def Work.pump (w : Work) (a e : Nat) : Work :=
  let en := w.engine a e
  let d := en.desc
  if !en.started || (w.arr a).faulted then w
  else if d.op = 0 ∨ d.op = 6 then
    if d.op = 0 ∧ !w.isOwn a d.src then w.launchReads a e 4
    else if w.isOwn a d.dst && d.mcMode == 0 then (if w.sourceWindow a d then w.moveUnits a e 1536 else w)
    else if (w.arr a).isCopy then w.swallow a e 65536
    else if d.mcMode != 0 || w.isPad a d.dst then
      (w.askCredit a e (w.targetsOf (if d.op = 6 then { d with mcMode := 0 } else d))).launchGrants a e 4096
    else w.launchAwr a e
  else if d.op = 5 then (if w.isOwn a d.src then w else w.launchReads a e 4)
  else if d.op = 7 then
    let w := if (w.redChain (a / 16) d).headD 0 == a / 16 && aSpace d.dst == 3 then w.askCredit a e [w.addrKey d.dst] else w
    w.launchReds a e 65536
  else w

/-! ### Starting a descriptor -/

/-- Engine e starts its template, where its operation is `op`: the setup checks first (R198, R202). -/
def Work.startDesc (w : Work) (a e op : Nat) : Work :=
  let x := w.arr a
  let en := x.engine e
  match x.task, en.tmpl with
  | some t, some i =>
    let d := w.rewriteDesc a t.inst (descOf (x.templates.getD i []))
    if x.st = .run ∧ t.running ∧ !x.faulted ∧ !en.started ∧ d.op = op then
      match w.setupStatus a e d with
      | some st =>
        w.taskFault a { status := st, engine := en.where_ e, address := if st = 0x08 ∧ !w.isOwn a d.dst then d.dst else d.src }
      | none =>
        let w := if dCheck d then w.modCheck (a / 16) (fun c => { c with active := true }) else w
        w.modEngine a e (fun en => { en with started := true, desc := d, issued := 0, words := 0, firstTag := en.nextTag, barrier := none, arrival := false,
                                             barrierLast := false, fed := 0, unfed := [], endDone := false, transfers := [], credits := [], grants := [], asked := 0 })
    else w
  | _, _ => w

/-- Engine e runs a descriptor of operation `op`, and its task has no fault. -/
def Work.runs (w : Work) (a e op : Nat) : Bool :=
  let en := w.engine a e
  en.started && en.desc.op == op && !(w.arr a).faulted && ((w.arr a).st == .run || (w.arr a).st == .drain)

/-- A descriptor of operation `op` is started where it has not been, and then worked on by `f`, where it runs. -/
def withDesc (a e op : Nat) (f : Work → Work) (w : Work) : Work :=
  let w := if (w.engine a e).started then w else w.startDesc a e op
  if w.runs a e op then f w else w

/-- A one-off operation: worked once, when its position is still 0. -/
def Work.once (w : Work) (a e : Nat) (f : Work → Work) : Work :=
  if (w.engine a e).issued = 0 then (f w).modEngine a e (fun en => { en with issued := max en.desc.total 1 }) else w

/-- `n` words from an address read or written by engine e, in accesses of 32 words (R166, R171). -/
def Work.enginePipe (w : Work) (a e : Nat) (write : Bool) (x n : Nat) : Work := w.accesses a write e (by32 (wordAt x) n)

/-! ### The operations -/

/-- The line at position k copied within the own scratchpad, read before it is written; an uncorrectable word ends the move there
(R194, R203, R220). -/
def Work.moveLine (a e : Nat) (d : Desc) (w : Work) (k : Nat) : Work :=
  if (w.arr a).faulted then w
  else
    match w.firstBad (d.srcAt k) d.lineBytes with
    | some x => w.faultAt a e 0x20 x k
    | none =>
      let bs := w.read (d.srcAt k) d.lineBytes
      (((w.write (d.dstAt k) bs).feedCheck a d bs).enginePipe a e false (d.srcAt k) (d.lineBytes / 8)).enginePipe a e true
        (d.dstAt k) (d.lineBytes / 8)

/-- Lines copied within the own scratchpad, tile by tile in order of l (R170, R203). -/
def Work.moveOwn (w : Work) (a e : Nat) : Work :=
  w.once a e (fun w =>
    let d := (w.engine a e).desc
    ((List.range (d.lines * d.tiles)).map (· * d.lineBytes)).foldl (Work.moveLine a e d) w)

/-- MOVE (R203). -/
def move (a e : Nat) : Work → Work := withDesc a e 0 (fun w =>
  let d := (w.engine a e).desc
  if w.isOwn a d.src && w.isOwn a d.dst && d.mcMode == 0 && !w.sourceWindow a d then w.moveOwn a e else w.pump a e)

def execMove (a e : Nat) (s : State) : Host.Outcome State Fault Refusal := run (move a e) s

/-- FILL: one write issue to a bank row (R171). -/
def fill (a e : Nat) : Work → Work := withDesc a e 1 (·.once a e (fun w =>
  let d := (w.engine a e).desc
  (w.write d.dst ((List.replicate (d.lineBytes / 8) (toBytes d.src 8)).flatten)).accesses a true e
    (byRow (wordAt d.dst) (d.lineBytes / 8))))

def execFill (a e : Nat) (s : State) : Host.Outcome State Fault Refusal := run (fill a e) s

/-- An operation that reads the receive window it names, as its units land, or does `f` once (R210). -/
def fromWindow (a e : Nat) (f : Work → Work) (w : Work) : Work :=
  if w.sourceWindow a (w.engine a e).desc then w.moveUnits a e 1536 else w.once a e f

/-- COPY (R171). -/
def copy (a e : Nat) : Work → Work := withDesc a e 2 (fromWindow a e (fun w =>
  let d := (w.engine a e).desc
  let n := d.lineBytes / 8
  match w.firstBad d.src d.lineBytes with
  | some x => w.engineFault a e 0x20 x
  | none =>
    ((by32 (wordAt d.src) n).zip (by32 (wordAt d.dst) n)).foldl (fun w p => (w.accesses a false e [p.1]).accesses a true e [p.2])
      (w.write d.dst (w.read d.src d.lineBytes))))

def execCopy (a e : Nat) (s : State) : Host.Outcome State Fault Refusal := run (copy a e) s

/-- One block of a TCOPY, `r` rows from row i0 and `c` columns from column j0: its rows read from the store `old`, then each
destination row written (R171). -/
def tcopyBlock (a e : Nat) (d : Desc) (old w : Work) (i0 r j0 c : Nat) : Work :=
  let w := (List.range r).foldl (fun w i => w.enginePipe a e false (d.src + (i0 + i) * d.srcPitch + 8 * j0) c) w
  (List.range c).foldl (fun w j =>
    let x := d.dst + (j0 + j) * d.dstPitch + 8 * i0
    (w.write x ((List.range r).flatMap (fun i => old.read (d.src + (i0 + i) * d.srcPitch + 8 * (j0 + j)) 8))).enginePipe a e true x r) w

/-- The pieces of source rows that a TCOPY reads, block by block (R171). -/
def Desc.blockRows (d : Desc) : List (Nat × Nat) :=
  let c := d.lineBytes / 8
  (List.range ((d.lines + 31) / 32)).flatMap (fun rb => (List.range ((c + 31) / 32)).flatMap (fun cb =>
    (List.range (min 32 (d.lines - 32 * rb))).map (fun i => (d.src + (32 * rb + i) * d.srcPitch + 256 * cb, 8 * min 32 (c - 32 * cb)))))

/-- TCOPY: word D + j·Pd + i holds the old word S + i·Ps + j, in blocks of 32 × 32 words, row-block by row-block, each in
column-block order (R171). -/
def tcopy (a e : Nat) : Work → Work := withDesc a e 3 (fromWindow a e (fun w =>
  let d := (w.engine a e).desc
  let c := d.lineBytes / 8
  match d.blockRows.findSome? (fun r => w.firstBad r.1 r.2) with
  | some x => w.engineFault a e 0x20 x
  | none =>
    (List.range ((d.lines + 31) / 32)).foldl (fun w' rb =>
      (List.range ((c + 31) / 32)).foldl (fun w' cb =>
        tcopyBlock a e d w w' (32 * rb) (min 32 (d.lines - 32 * rb)) (32 * cb) (min 32 (c - 32 * cb))) w') w))

def execTcopy (a e : Nat) (s : State) : Host.Outcome State Fault Refusal := run (tcopy a e) s

/-- INVALIDATE (R180). -/
def invalidate (a e : Nat) : Work → Work := withDesc a e 4 (·.once a e (fun w =>
  let d := (w.engine a e).desc
  w.invalidateDie (a / 16) d.src d.lineBytes))

def execInvalidate (a e : Nat) (s : State) : Host.Outcome State Fault Refusal := run (invalidate a e) s

/-- Where word j of a FEED is read, once it is there: the own source, a window unit that has landed, or the staging slot of
a tile whose last line has landed (R204, R206, R210). -/
def Work.feedWord (w : Work) (a : Nat) (en : Engine) : Option Nat :=
  let d := en.desc
  let k := 8 * en.words
  if w.sourceWindow a d then
    let wd := (w.arr a).window (d.window % 8)
    if wd.ready = 0 then none else some (w.padAddr a (wd.base + 256 * wd.rd + k % 256))
  else if w.isOwn a d.src then some (d.srcAt k)
  else if (k / d.tileBytes + 1) * d.tileBytes ≤ en.arrived then some (d.feedAt k)
  else none

/-- Tokens handed to the incoming halves in turn, as long as words and room are there; `fuel` bounds them (R204). -/
def Work.feedTokens (a e : Nat) : Nat → Work → Work
  | 0, w => w
  | fuel + 1, w =>
    let x := w.arr a
    let en := x.engine e
    let d := en.desc
    let ports := x.feedPorts e
    let p := ports.getD (en.words % ports.length) 0
    if d.total ≤ 8 * en.words ∨ x.bufRoom p = 0 ∨ x.st ≠ .run ∨ x.faulted then w
    else
      match w.feedWord a en with
      | none => w
      | some addr =>
        if w.hasBadWord addr 8 then w.engineFault a e 0x20 addr
        else
          let bs := w.read addr 8
          let final := dLastOnFinal d && decide (d.total ≤ 8 * (en.words + ports.length))
          let t := mkTok x.epoch final 0 (dLane d) (ofBytes bs)
          let w := if w.isOwn a d.src then w.feedCheck a d bs else w
          let w := (w.freeUnit a d (8 * en.words) 8).enginePipe a e false addr 1
          let w := w.modArr a (fun x => { x.modEngine e (fun en => { en with words := en.words + 1 }) with
            inBuf := tmod [] x.inBuf p (· ++ [t]), moved := true })
          ((w.pump a e).feedTokens a e fuel)

/-- The barrier token that BarrierAtEnd sends to every port, once each has room for it (R200). -/
def Work.feedBarrier (w : Work) (a e : Nat) : Work :=
  let x := w.arr a
  let en := x.engine e
  let ports := x.feedPorts e
  if dBarrierAtEnd en.desc && !en.endDone && decide (en.desc.total ≤ 8 * en.words) && ports.all (fun p => x.bufRoom p != 0) then
    let t := mkTok x.epoch false 3 0 en.desc.barrierId
    w.modArr a (fun x => { x.modEngine e (fun en => { en with endDone := true }) with
      inBuf := ports.foldl (fun b p => tmod [] b p (· ++ [t])) x.inBuf })
  else w

/-- FEED (R204 to R206). -/
def feed (a e : Nat) : Work → Work := withDesc a e 5 (fun w => ((w.pump a e).feedTokens a e 4097).feedBarrier a e)

def execFeed (a e : Nat) (s : State) : Host.Outcome State Fault Refusal := run (feed a e) s

/-- The head token of a port taken by engine e as part of a barrier; another ID is a mismatch. A barrier begun after the last
word is the one of BarrierAtEnd (R205). -/
def Work.takeBarrier (w : Work) (a e port : Nat) (done : List Nat) : Work :=
  let x := w.arr a
  let en := x.engine e
  let n := (x.collectPorts e).length
  match x.portOut port with
  | some t =>
    if field t.pay.toNat 0 12 ≠ en.desc.barrierId then w.engineFault a e 0x36 0
    else
      let done' := done ++ [port]
      let last := if done.isEmpty then decide (en.desc.total ≤ 8 * en.words) else en.barrierLast
      w.modArr a (fun x => (x.clearOut port).modEngine e (fun en =>
        if done'.length = n then { en with barrier := none, arrival := true, endDone := en.endDone || last }
        else { en with barrier := some done', barrierLast := last }))
  | none => w

/-- A port whose head is a barrier token. -/
def Arr.barrierAt (x : Arr) (port : Nat) : Bool := match x.portOut port with | some t => t.kind == 3 | none => false

/-- One step of a COLLECT: the next token it takes under R205, if any. -/
def Work.collectStep (w : Work) (a e : Nat) : Option Work :=
  let x := w.arr a
  let en := x.engine e
  let d := en.desc
  let ports := x.collectPorts e
  let p := ports.getD (en.words % ports.length) 0
  let done := en.barrier.getD []
  let owing := ports.filter (fun q => !done.contains q && x.barrierAt q)
  if x.faulted || en.arrival then none
  else if d.total ≤ 8 * en.words then
    if en.barrier.isNone && (!dBarrierAtEnd d || en.endDone) then none
    else owing.head?.map (fun q => w.takeBarrier a e q done)
  else
    match x.portOut p with
    | none => none
    | some t =>
      if t.kind = 3 then
        if done.contains p then owing.head?.map (fun q => w.takeBarrier a e q done) else some (w.takeBarrier a e p done)
      else
        let k := 8 * en.words
        let own := w.isOwn a d.dst
        let sent := (en.transfers.foldl (fun m t => min m t.start) en.issued) / d.tileBytes
        if !own && decide (sent + d.depthOf ≤ k / d.tileBytes) then none
        else
          let bs := toBytes t.pay.toNat 8
          let x := if own then d.dstAt k else d.collectAt k
          let w := ((w.write x bs).feedCheck a d bs).enginePipe a e true x 1
          some ((w.modArr a (fun x => (x.clearOut p).modEngine e (fun en => { en with words := en.words + 1 }))).pump a e)

/-- Tokens taken as long as they are there; `fuel` bounds them. -/
def Work.collectAll (a e : Nat) : Nat → Work → Work
  | 0, w => w
  | fuel + 1, w => match w.collectStep a e with
    | some w' => w'.collectAll a e fuel
    | none => w

/-- COLLECT (R204 to R206). -/
def collect (a e : Nat) : Work → Work := withDesc a e 6 (fun w => (w.pump a e).collectAll a e 256)

def execCollect (a e : Nat) (s : State) : Host.Outcome State Fault Refusal := run (collect a e) s

/-- REDUCE (R251, R252). -/
def reduce (a e : Nat) : Work → Work := withDesc a e 7 (·.pump a e)

def execReduce (a e : Nat) (s : State) : Host.Outcome State Fault Refusal := run (reduce a e) s

/-- OPENRX: a receive window opens over LineBytes at Dst (R210). -/
def openrx (a e : Nat) : Work → Work := withDesc a e 8 (·.once a e (fun w =>
  let d := (w.engine a e).desc
  w.modArr a (·.modWindow (d.window % 8) (fun _ => { isOpen := true, base := aByte d.dst, units := d.lineBytes / 256 }))))

def execOpenrx (a e : Nat) (s : State) : Host.Outcome State Fault Refusal := run (openrx a e) s

/-- CRJ to a request (R211, R234). -/
def Work.rejectCrq (w : Work) (q : Crq) (why : Nat) : Work :=
  w.send { q.req.answer 0x12 with vc := 2, typeData := q.tag + why * 2 ^ 16 }

/-- A closing window whose granted units have all landed closes, and its waiting requests are rejected (R210). -/
def Work.settleWindow (w : Work) (a i : Nat) : Work :=
  let x := w.arr a
  if (x.window i).closing && x.crqs.all (fun q => q.window != i || q.offset.isNone || q.cancelled) then
    let waiting := x.crqs.filter (fun q => q.window == i && q.offset.isNone)
    (waiting.foldl (fun w q => w.rejectCrq q 1) w).modArr a (fun x =>
      { x.modWindow i (fun _ => {}) with crqs := x.crqs.filter (fun q => q.window != i) })
  else w

/-- CLOSERX (R210). -/
def closerx (a e : Nat) : Work → Work := withDesc a e 9 (·.once a e (fun w =>
  let i := (w.engine a e).desc.window % 8
  (w.modArr a (·.modWindow i (fun x => { x with closing := true }))).settleWindow a i))

def execCloserx (a e : Nat) (s : State) : Host.Outcome State Fault Refusal := run (closerx a e) s

/-- The state record of a check-value unit (R225). -/
def Work.checkRecord (w : Work) (u : Nat) (present : Bool) : List Byte :=
  let c := w.check u
  if present then
    [BitVec.ofNat 8 c.poly, BitVec.ofNat 8 (ofBool c.active)] ++ List.replicate 6 0 ++ toBytes c.running 8 ++ toBytes c.bytes 8 ++
      toBytes (c.running ^^^ crcXor c.poly) 8
  else 0xFF :: List.replicate 31 0

/-- Poly, Running and Bytes loaded from a state record; bits of Running above the width are dropped (R223, R225). -/
def Work.loadCheck (w : Work) (u : Nat) (r : List Byte) : Work :=
  let poly := leAt r 0 1 % 4
  let width := if poly ≤ 1 then 32 else if poly = 2 then 64 else 16
  w.modCheck u (fun c => { c with poly := poly, running := leAt r 8 8 % 2 ^ width, bytes := leAt r 0x10 8 })

/-- CKSAVE (R226). -/
def cksave (a e : Nat) : Work → Work := withDesc a e 10 (·.once a e (fun w =>
  let d := (w.engine a e).desc
  (w.write d.dst (w.checkRecord (a / 16) true)).enginePipe a e true d.dst 4))

def execCksave (a e : Nat) (s : State) : Host.Outcome State Fault Refusal := run (cksave a e) s

/-- CKLOAD (R226). -/
def ckload (a e : Nat) : Work → Work := withDesc a e 11 (·.once a e (fun w =>
  let d := (w.engine a e).desc
  match w.firstBad d.src 32 with
  | some x => w.engineFault a e 0x20 x
  | none => (w.loadCheck (a / 16) (w.read d.src 32)).enginePipe a e false d.src 4))

def execCkload (a e : Nat) (s : State) : Host.Outcome State Fault Refusal := run (ckload a e) s

/-! ### Completion and barriers (R205, R215) -/

/-- Every write of an engine has completed: no transfer is open, no grant is used in part, and none of its write issues is in
the pipeline (R205, R215; assumption 101). -/
def Arr.quietEngine (x : Arr) (e : Nat) : Bool :=
  (x.engine e).transfers.isEmpty && (x.engine e).grants.all (fun g => g.used == 0) && x.pipe.all (fun i => i.who != e || !i.write)

/-- A descriptor has done all it has to do (R205, R215). -/
def Work.descDone (w : Work) (a e : Nat) : Bool :=
  let x := w.arr a
  let en := x.engine e
  let d := en.desc
  en.started && x.quietEngine e && en.credits.isEmpty &&
    (if d.op = 5 then decide (d.total ≤ 8 * en.words) && (!dBarrierAtEnd d || en.endDone)
     else if d.op = 6 then
      decide (d.total ≤ 8 * en.words) && (w.isOwn a d.dst || decide (d.total ≤ en.issued)) && en.barrier.isNone && !en.arrival &&
        (!dBarrierAtEnd d || en.endDone)
     else if d.op = 9 then !(x.window (d.window % 8)).isOpen && !(x.window (d.window % 8)).closing
     else decide (max d.total 1 ≤ en.issued))

/-- DESCRIPTOR_COMPLETE: the check-value unit is released, and a chained template comes next (R198, R215, R224). -/
def descriptorComplete (a e : Nat) (w : Work) : Work :=
  if w.descDone a e && !(w.arr a).faulted then
    let en := w.engine a e
    let d := en.desc
    let w := if dCheck d then w.modCheck (a / 16) (fun c => { c with active := false }) else w
    w.modEngine a e (fun en => { tmpl := if dChain d then some d.next else none, nextTag := en.nextTag })
  else w

/-- DESCRIPTOR_COMPLETE (R215). -/
def execDescriptorComplete (a e : Nat) (s : State) : Host.Outcome State Fault Refusal := run (descriptorComplete a e) s

/-- Sideboard B has the mesh-side duties: A has lost both attach sites, or B has taken over (R28, R415). -/
def Work.onB (w : Work) : Bool := w.boot.lead == 1 || (w.siteMap.computed && (w.activeSite boardASites).isNone)

/-- The logical position of the attach of the Sideboard with the mesh-side duties, and its unit code (R26, R28, R233). -/
def Work.sideboardA (w : Work) : Nat := if w.onB then w.dieOf 0 15 else w.dieOf (w.cols - 1) 0
def Work.boardUnit (w : Work) : Nat := 0x70 + ofBool w.onB

/-- BARRIER_ARRIVAL_POST: a complete barrier whose earlier writes have completed is posted by the task unit to Sideboard
A (R205, R296, R300). -/
def barrierPost (a e : Nat) (w : Work) : Work :=
  let en := w.engine a e
  if en.started && en.arrival && (w.arr a).quietEngine e && !(w.arr a).faulted then
    let p := { w.packet 0x34 (a / 16) 0x20 0 w.sideboardA w.boardUnit 0 with
      vc := 1, typeData := en.desc.barrierId + a % 16 * 2 ^ 12 + e * 2 ^ 16 }
    (w.send p).modEngine a e (fun en => { en with arrival := false })
  else w

/-- BARRIER_ARRIVAL_POST (R205). -/
def execBarrierArrivalPost (a e : Nat) (s : State) : Host.Outcome State Fault Refusal := run (barrierPost a e) s

/-! ### The array edge -/

/-- TOKEN_ACCEPT: the token in output register d of cell p is accepted by the neighbour's queue or by the array edge
port: a window, the engine that collects it, or a channel's gathering (R44, R91, R130, R156, R204). -/
def tokenAccept (a p d : Nat) (w : Work) : Work :=
  match edgePort p d with
  | none => w.passOn a p d
  | some e =>
    let v := tget 0 (w.arr a).ports e
    if pOutKind v = 1 then w.windowTake a e
    else if pOutKind v = 3 then w.chanTake a e
    else if pOutKind v = 2 then
      let n := pOutRef v
      let ports := (w.arr a).collectPorts n
      if w.runs a n 6 && ports.getD ((w.engine a n).words % ports.length) 0 == e then (w.collectStep a n).getD w else w
    else w

/-- TOKEN_ACCEPT (R91). -/
def execTokenAccept (a p dir : Nat) (s : State) : Host.Outcome State Fault Refusal := run (tokenAccept a p dir) s

end Sys2Proof.Machine
end

