-- ==== Sys2Proof/Machine/Weights.lean ====
section
/-! DEFINITION. Weight sets, their keys and generations, the ingest of encrypted weights with its broadcast, and the
protection of encrypted ranges (R262 to R272). -/

namespace Sys2Proof.Machine

/-! ### Reservations of Hutch scratch (R182) -/

/-- The lowest offset at which `n` bytes fit between the reservations of a Hutch. -/
def Work.freeScratch (w : Work) (b n : Nat) : Option Nat :=
  let rs := (w.hutch b).reserves
  let fits := fun (c : Nat) =>
    decide (c + n ≤ w.scratchBytes b) && rs.all (fun r => decide (c + n ≤ r.offset) || decide (r.offset + r.bytes ≤ c))
  ((0 :: rs.map (fun r => r.offset + r.bytes)).filter fits).foldl (fun m c => match m with
    | none => some c
    | some x => some (min x c)) none

/-- `n` bytes of scratch of Hutch b reserved at the lowest free offset (R182). -/
def Work.reserve (w : Work) (b feature who n : Nat) : Option (Nat × Work) :=
  (w.freeScratch b n).map (fun o => (o, w.modHutch b (fun h => { h with reserves := h.reserves ++ [⟨feature, who, o, n⟩] })))

/-- A reservation given up. -/
def Work.unreserve (w : Work) (b feature who : Nat) : Work :=
  if (w.hutch b).reserves.any (fun r => r.feature == feature && r.who == who) then
    w.modHutch b (fun h => { h with reserves := h.reserves.filter (fun r => !(r.feature == feature && r.who == who)) })
  else w

/-- Where a feature's reservation stands. -/
def Work.reservedAt (w : Work) (b feature who : Nat) : Option Nat :=
  ((w.hutch b).reserves.find? (fun r => r.feature == feature && r.who == who)).map (·.offset)

/-! ### Layers (R263, R264) -/

/-- Bytes of a layer's element words in a format (R264). -/
def formatBytes (code n : Nat) : Nat :=
  let raw := if code = 0 then 4 * n else if code = 1 ∨ code = 2 then 2 * n
    else if code = 9 ∨ code = 11 then (n + 1) / 2 else n
  (raw + 7) / 8 * 8

/-- A format has block scales. -/
def isMx (code : Nat) : Bool := decide (5 ≤ code) && decide (code ≤ 9)

/-- Offset of the scale bytes of a working copy (R264). -/
def scalesAt (code n : Nat) : Nat := (formatBytes code n + 255) / 256 * 256

/-- Bytes of a working copy. -/
def workingBytes (code n : Nat) : Nat := if isMx code then scalesAt code n + (n + 31) / 32 else formatBytes code n

/-- The layer record that 64 bytes spell (R263). -/
def layerOf (r : List Byte) : Layer :=
  { format := leAt r 0 1, hutch := leAt r 1 1, flags := leAt r 2 1, elements := leAt r 4 4, master := leAt r 8 8,
    moment1 := leAt r 0x10 8, moment2 := leAt r 0x18 8, working := (List.range 4).map (fun i => leAt r (0x20 + 8 * i) 8) }

def Layer.trainable (l : Layer) : Bool := bit l.flags 0
def Layer.encrypted (l : Layer) : Bool := bit l.flags 1
def Layer.adaptable (l : Layer) : Bool := bit l.flags 2

/-- The range of slot `i` of a layer's working copies; an address of zero is an unused slot. -/
def Layer.slotRange (l : Layer) (i : Nat) : List (Nat × Nat) :=
  let a := l.working.getD i 0
  if a = 0 then [] else [(a, workingBytes l.format l.elements)]

/-- Master and moment ranges. -/
def Layer.masterRanges (l : Layer) : List (Nat × Nat) :=
  if l.trainable then
    (l.master, 4 * l.elements) :: ([l.moment1, l.moment2].filter (· != 0)).map (fun a => (a, 4 * l.elements))
  else []

/-- Every range that a layer record names. -/
def Layer.ranges (l : Layer) : List (Nat × Nat) := l.masterRanges ++ (List.range 4).flatMap l.slotRange

/-- Two ranges share a byte. -/
def meets (r s : Nat × Nat) : Bool := decide (r.1 < s.1 + s.2) && decide (s.1 < r.1 + r.2)

/-- Ranges of a list share no byte. -/
def disjoint : List (Nat × Nat) → Bool
  | [] => true
  | r :: rs => rs.all (fun s => !meets r s) && disjoint rs

/-- A range lies in the spaces of Hutch b that are allowed, aligned to 256 B (R263). -/
def Work.rangeOk (w : Work) (b : Nat) (spaces : List Nat) (r : Nat × Nat) : Bool :=
  spaces.contains (aSpace r.1) && aHutch r.1 == b && r.1 % 256 == 0 && !w.invalid r.1 && !w.invalid (r.1 + r.2 - 1) &&
    aHutch (r.1 + r.2 - 1) == b

/-- The fields of a layer record keep R263. -/
def Work.layerOk (w : Work) (r : List Byte) : Bool :=
  let l := layerOf r
  decide (l.format ≤ 11) && decide (l.hutch ≤ 15) && decide (l.flags < 8) && leAt r 3 1 == 0 && decide (1 ≤ l.elements) &&
    (l.trainable || (l.master == 0 && l.moment1 == 0 && l.moment2 == 0)) &&
    l.masterRanges.all (w.rangeOk l.hutch [0]) && ((List.range 4).flatMap l.slotRange).all (w.rangeOk l.hutch [0, 1])

/-- Layers of every set that is not FREE. -/
def Work.allLayers (w : Work) : List Layer := (w.sets.filter (fun e => e.2.st != .free)).flatMap (fun e => e.2.layers)

/-- The first layer of a table that breaks the rules (R263). -/
def Work.badLayer (w : Work) (rs : List (List Byte)) : Option Nat :=
  let others := w.allLayers.flatMap Layer.ranges
  findAt (fun (p : List Byte × Nat) =>
    !w.layerOk p.1 ||
      (let mine := (layerOf p.1).ranges
       let before := (rs.take p.2).flatMap (fun r => (layerOf r).ranges)
       !disjoint mine || mine.any (fun r => (before ++ others).any (meets r)))) rs.zipIdx 0

/-- A range touches a protected range: one of an encrypted layer of a set that is not FREE (R268). -/
def Work.isProtected (w : Work) (a n : Nat) : Bool :=
  (w.allLayers.filter (·.encrypted)).any (fun l => l.ranges.any (meets (a, n)))

/-! ### Commands of a set (R262, R270 to R272, R286) -/

/-- CommandStatus of set s (0x7001+s.15): the status and what stands above it. -/
def Work.setStatus (w : Work) (s status : Nat) (hi : Nat := 0) : Work := w.setReg (0x7001 + s) 0x15 (status + hi * 2 ^ 16)

/-- A command answered: its access succeeds, its outcome stands in CommandStatus (R352; assumption 28). -/
def Work.tellSet (w : Work) (s status : Nat) (hi : Nat := 0) : Work := (w.setStatus s status hi).accept

/-- A set can take commands: it is not FREE and is not being zeroed. -/
def WSet.usable (x : WSet) : Bool := x.st != .free && !x.zeroing

/-- Hutches that own layers of a list. -/
def owners (ls : List Layer) : List Nat := (List.range 16).filter (fun b => ls.any (·.hutch == b))

/-- Decryption staging of every Hutch in a list, or the first Hutch without room (R182, R267). -/
def Work.reserveStaging (w : Work) : List Nat → Nat ⊕ Work
  | [] => .inr w
  | b :: bs =>
    if (w.reservedAt b 4 0).isSome then w.reserveStaging bs
    else
      match w.reserve b 4 0 (8 * 2 ^ 20) with
      | some (_, w') => w'.reserveStaging bs
      | none => .inl b

/-- DEFINE (R263). -/
def define (s : Nat) (data : List Byte) (w : Work) : Work :=
  let id := leAt data 0 4
  let count := leAt data 4 2
  let table := leAt data 8 8
  if 64 ≤ s then w.refuse 0x70
  else if data.length ≠ 16 then w.refuse 0x72
  else if leAt data 6 2 ≠ 0 then w.refuse 0x73
  else if (w.wset s).st ≠ .free then w.tellSet s 0x41
  else if aSpace table ≠ 0 ∨ (w.readStatus table (64 * count)).isSome then w.tellSet s 0x41
  else
    let (bs, w) := w.loadBytes table (64 * count) false
    let rs := (List.range count).map (fun i => slice bs (64 * i) 64)
    match w.badLayer rs with
    | some i => w.tellSet s 0x41 i
    | none =>
      let ls := rs.map layerOf
      match w.reserveStaging (owners ls) with
      | .inl b => (w.setReg (0x7001 + s) 0x15 (0x48 + b * 2 ^ 8)).accept
      | .inr w => (w.modSet s (fun x => { x with st := .defined, setId := id, layers := ls })).tellSet s 0

/-- DEFINE (R263). -/
def execDefine (set : Nat) (data : List Byte) (s : State) : Host.Outcome State Fault Refusal := run (define set data) s

/-- Slots of a set whose generation is not FREE. -/
def WSet.held (x : WSet) : List (Nat × Gen) :=
  ((List.range 4).map (fun i => (i, tget {} x.gens i))).filter (fun e => e.2.st != .free)

/-- The slot of generation number g. -/
def WSet.slotOf (x : WSet) (g : Nat) : Option Nat := (x.held.find? (fun e => e.2.number == g)).map (·.1)

/-- The generation in a slot. -/
def WSet.gen (x : WSet) (i : Nat) : Gen := tget {} x.gens i

/-- A generation changed; one that is FREE leaves its slot. -/
def WSet.modGen (x : WSet) (i : Nat) (f : Gen → Gen) : WSet :=
  let g := f (x.gen i)
  { x with gens := if g.st = .free then tdel x.gens i else tput x.gens i g }

/-- The slot of the current generation. -/
def WSet.current (x : WSet) : Option Nat := (x.held.find? (fun e => e.2.st == .current)).map (·.1)

/-- PinCount changed by one: a RETIRING generation at 0 becomes FREE (R270). -/
def Gen.unpin (g : Gen) : Gen :=
  if g.st = .retiring ∧ g.pins ≤ 1 then {} else { g with pins := g.pins - 1 }

/-- MODE: a write is accepted only with no job and no pin; the state in force is left as it is (R262). -/
def setMode (s mode : Nat) (w : Work) : Work :=
  let x := w.wset s
  if 64 ≤ s then w.refuse 0x70
  else if 2 ≤ mode then w.refuse 0x73
  else if w.jobRuns then w.refuseJob
  else if !x.usable || x.st == .defined then w.tellSet s 0x41
  else
    match x.held.find? (fun e => e.2.pins != 0) with
    | some e => w.tellSet s 0x44 (min e.2.pins 0xFFFF)
    | none =>
      if (x.st == .training) == (mode == 1) then w.tellSet s 0
      else if mode = 0 then ((w.modSet s (fun x => { x with st := .ready })).setReg (0x7001 + s) 5 0).tellSet s 0
      else
        match x.held.find? (fun e => e.2.st != .current) with
        | some e => w.tellSet s 0x43 e.2.number
        | none => ((w.modSet s (fun x => { x with st := .training })).setReg (0x7001 + s) 5 1).tellSet s 0

/-- MODE (R262). -/
def execSetMode (set mode : Nat) (s : State) : Host.Outcome State Fault Refusal := run (setMode set mode) s

/-- The next generation number that no generation of the set uses, from n on; after 65,535 comes 1 (R270). -/
def WSet.nextFree (x : WSet) : Nat → Nat → Nat
  | 0, n => n
  | fuel + 1, n => if (x.slotOf n).isSome then x.nextFree fuel (if n = 65535 then 1 else n + 1) else n

/-- NEW_GENERATION (R270): a set in TRAINING keeps its one generation (R262, R272; assumption 106), and the slot may take
ciphertext anew (R268; assumption 105). -/
def newGeneration (s : Nat) (w : Work) : Work :=
  let x := w.wset s
  if 64 ≤ s then w.refuse 0x70
  else if !x.usable || x.st == .training then w.tellSet s 0x41
  else
    match (List.range 4).find? (fun i => (x.gen i).st == .free) with
    | none => w.tellSet s 0x42
    | some i =>
      let n := x.nextFree 5 x.nextNumber
      let g : Gen := { number := n, st := .building, created := w.now }
      let slot := x.layers.flatMap (fun l => l.slotRange i)
      ((w.modSet s (fun x => { x with gens := tput x.gens i g, begun := x.begun.filter (fun r => !slot.any (meets r)), nextNumber := if n = 65535 then 1 else n + 1 })).setReg
        (0x7001 + s) 9 n).tellSet s 0

/-- NEW_GENERATION (R270). -/
def execNewGeneration (set : Nat) (s : State) : Host.Outcome State Fault Refusal := run (newGeneration set) s

/-- A command on generation g of set s: refused with 0x41 where the set is FREE and with 0x43 where the generation is
absent. -/
def Work.onGen (w : Work) (s g : Nat) (f : Nat → Gen → Work) : Work :=
  let x := w.wset s
  if 64 ≤ s then w.refuse 0x70
  else if !x.usable then w.tellSet s 0x41
  else match x.slotOf g with
    | none => w.tellSet s 0x43
    | some i => f i (x.gen i)

/-- PUBLISH (R270). -/
def publish (s g : Nat) (w : Work) : Work :=
  w.onGen s g (fun i x =>
    if x.st ≠ .building ∨ x.ingesting ∨ x.chunkFailed then w.tellSet s 0x43
    else (w.modSet s (·.modGen i (fun x => { x with st := .live }))).tellSet s 0)

/-- PUBLISH (R270). -/
def execPublish (set gen : Nat) (s : State) : Host.Outcome State Fault Refusal := run (publish set gen) s

/-- The old current generation as the pointer leaves it: RETIRING, or FREE with no pin (R270). -/
def Gen.leave (g : Gen) : Gen := if g.st = .current then (if g.pins = 0 then {} else { g with st := .retiring }) else g

/-- SWITCH_CURRENT (R270 to R272). -/
def switchCurrent (s g : Nat) (w : Work) : Work :=
  w.onGen s g (fun i x =>
    if (w.wset s).st = .training ∧ (w.wset s).current.isSome then w.tellSet s 0x4B
    else if x.st ≠ .live then w.tellSet s 0x43
    else
      let old := (w.wset s).current
      let w := w.modSet s (fun y =>
        let y' := match old with | some j => y.modGen j Gen.leave | none => y
        { y'.modGen i (fun x => { x with st := .current }) with st := if y.st = .defined then .ready else y.st })
      (w.setReg (0x7001 + s) 6 g).tellSet s 0)

/-- SWITCH_CURRENT (R271). -/
def execSwitchCurrent (set gen : Nat) (s : State) : Host.Outcome State Fault Refusal := run (switchCurrent set gen) s

/-- DISCARD (R270). -/
def discard (s g : Nat) (w : Work) : Work :=
  w.onGen s g (fun i x =>
    if (x.st = .building ∨ x.st = .live) ∧ !x.ingesting then (w.modSet s (·.modGen i (fun _ => {}))).tellSet s 0
    else w.tellSet s 0x43)

/-- DISCARD (R270). -/
def execDiscard (set gen : Nat) (s : State) : Host.Outcome State Fault Refusal := run (discard set gen) s

/-- The current generation of a serving set pinned once more (R270 to R272): its slot, or the status of the refusal. -/
def Work.pinCurrent (w : Work) (s : Nat) : Nat ⊕ (Nat × Work) :=
  let x := w.wset s
  match x.current with
  | some i =>
    if x.st ≠ .ready ∨ x.zeroing then .inl 0x4B
    else if (x.gen i).pins = 0xFFFFFFFF then .inl 0x44
    else .inr (i, w.modSet s (·.modGen i (fun g => { g with pins := g.pins + 1 })))
  | none => .inl 0x4B

/-- PIN (R271). -/
def pin (s : Nat) (w : Work) : Work :=
  if 64 ≤ s then w.refuse 0x70
  else match w.pinCurrent s with
    | .inl st => w.tellSet s st (if st = 0x44 then 0xFFFF else 0)
    | .inr (i, w') => (w'.setReg (0x7001 + s) 0x0E ((w'.wset s).gen i).number).tellSet s 0

/-- PIN (R271). -/
def execPin (set : Nat) (s : State) : Host.Outcome State Fault Refusal := run (pin set) s

/-- UNPIN (R270). -/
def unpin (s g : Nat) (w : Work) : Work :=
  w.onGen s g (fun i x =>
    if (x.st = .current ∨ x.st = .retiring) ∧ x.pins ≠ 0 then (w.modSet s (·.modGen i Gen.unpin)).tellSet s 0
    else w.tellSet s 0x43)

/-- UNPIN (R270). -/
def execUnpin (set gen : Nat) (s : State) : Host.Outcome State Fault Refusal := run (unpin set gen) s

/-! ### The key (R265) -/

/-- The ASCII bytes of a name. -/
def ascii (s : String) : List Byte := s.toList.map (fun c => BitVec.ofNat 8 c.toNat)

/-- The weight key of a record, where every check passes (R265). -/
def Work.unwrapRecord (w : Work) (x : WSet) (r : List Byte) : Option (Nat × List Byte) :=
  let ids := slice r 0x620 10
  if leAt r 0x620 4 = x.setId ∧ leAt r 0x624 4 ≠ 0 ∧ leAt r 0x628 2 = w.panelId ∧ allZero (slice r 0x62A 6) then
    (Config.kemDecaps (2 * w.boot.starts + 1) (r.take 1568)).bind (fun ss =>
      (Config.aesUnwrap (Config.kmac256 ss ids (ascii "VW-WK")) (slice r 0x630 40)).map (fun k => (leAt r 0x624 4, k)))
  else none

/-- WRAPPED_KEY (R265). -/
def wrappedKey (s : Nat) (data : List Byte) (w : Work) : Work :=
  if 64 ≤ s then w.refuse 0x70
  else if data.length ≠ 1624 then w.refuse 0x72
  else if !(w.wset s).usable then w.tellSet s 0x41
  else
    let k := w.unwrapRecord (w.wset s) data
    (w.modSet s (fun x => { x with key := k })).tellSet s (if k.isSome then 0 else 0x45)

/-- WRAPPED_KEY (R265). -/
def execWrappedKey (set : Nat) (data : List Byte) (s : State) : Host.Outcome State Fault Refusal := run (wrappedKey set data) s

/-! ### Ingest (R266, R267, R269) -/

/-- The manifest entry that 32 bytes spell. -/
def chunkOf (s gen key i : Nat) (r : List Byte) : Chunk :=
  { set := s, generation := gen, keyId := key, dest := leAt r 0 8, length := leAt r 8 4, chunk := leAt r 0xC 4,
    tag := slice r 0x10 16, entry := i }

/-- The manifest entry that a chunk came from. -/
def Chunk.bytes (c : Chunk) : List Byte := toBytes c.dest 8 ++ toBytes c.length 4 ++ toBytes c.chunk 4 ++ c.tag

/-- The ranges of an encrypted layer that an Ingest for a generation may fill: a slot's working copies, or with
generation 0 the masters and moments (0x7001+s.11). -/
def WSet.ingestRanges (x : WSet) (gen : Nat) : List (Nat × Nat) :=
  (x.layers.filter (·.encrypted)).flatMap (fun l =>
    if gen = 0 then l.masterRanges else match x.slotOf gen with | some i => l.slotRange i | none => [])

/-- An entry keeps R266: aligned, of a good length, inside one layer range of the set. -/
def WSet.chunkOk (x : WSet) (c : Chunk) : Bool :=
  c.dest % 256 == 0 && c.length % 256 == 0 && decide (256 ≤ c.length) && decide (c.length ≤ 4 * 2 ^ 20) &&
    (x.ingestRanges c.generation).any (fun r => decide (r.1 ≤ c.dest) && decide (c.dest + c.length ≤ (r.1 + r.2 + 255) / 256 * 256))

/-- A chunk of a generation has failed (R270). -/
def WSet.chunkLost (x : WSet) (c : Chunk) : WSet :=
  match x.slotOf c.generation with
  | some i => x.modGen i (fun g => { g with chunkFailed := true })
  | none => x

/-- One chunk of an Ingest is done, or has failed with a status (R266, R267, R270). -/
def WSet.chunkDone (x : WSet) (c : Chunk) (status : Nat) : WSet :=
  let bad := status != 0
  let x := match x.ingest with
    | some g =>
      let first := bad && g.failed == 0
      { x with ingest := some { g with
          done := g.done + 1, failed := g.failed + ofBool bad, firstFailed := if first then c.entry else g.firstFailed
          status := if first then status else g.status, waiting := g.waiting.filter (fun r => r.1 != c.dest) } }
    | none => x
  if bad then x.chunkLost c else x

/-- A chunk that failed: counted, and an ERROR event names it; its generation takes note, at a peer too (R267, R269, R270). -/
def Work.chunkFails (w : Work) (b : Nat) (c : Chunk) (status : Nat) : Work :=
  let w := (w.addReg 0x7000 7 1).event 1 status 4 b c.chunk
  w.modSet c.set (fun x => if c.remote then x.chunkLost c else x.chunkDone c status)

/-- An Ingest of the set runs. -/
def WSet.ingestRuns (x : WSet) : Bool := match x.ingest with | some g => g.running | none => false

/-- A generation number is that of a BUILDING generation. -/
def WSet.isBuilding (x : WSet) (gen : Nat) : Bool :=
  match x.slotOf gen with | some i => (x.gen i).st == .building | none => false

/-- INGEST: CommandStatus reads 0xFF while it runs (R266, R267, R352). -/
def ingest (s : Nat) (data : List Byte) (w : Work) : Work :=
  let manifest := leAt data 0 8
  let n := leAt data 8 4
  let gen := leAt data 0xC 2
  let flags := leAt data 0xE 2
  let x := w.wset s
  if 64 ≤ s then w.refuse 0x70
  else if data.length ≠ 16 then w.refuse 0x72
  else if 2 ≤ flags then w.refuse 0x73
  else if !x.usable || x.ingestRuns then w.tellSet s 0x41
  else if gen != 0 && !x.isBuilding gen then w.tellSet s 0x43
  else
    match x.key, (if aSpace manifest = 0 then w.readStatus manifest (32 * n) else some 0x23) with
    | none, _ => w.tellSet s 0x45
    | some _, some st => w.tellSet s st
    | some key, none =>
      let (bs, w) := w.loadBytes manifest (32 * n) false
      let cs := (List.range n).map (fun i => chunkOf s gen key.1 i (slice bs (32 * i) 32))
      let good := cs.filter x.chunkOk
      let g : Ingest := { generation := gen, entries := n, waiting := good.map (fun c => (c.dest, c.length)) }
      let w := w.modSet s (fun x => { x with ingest := some g })
      let w := match x.slotOf gen with
        | some i => w.modSet s (·.modGen i (fun y => { y with ingesting := true }))
        | none => w
      let peers := if bit flags 0 then
          let l := w.blob (0x7001 + s) 0x13
          (List.range (l.length / 2)).map (fun i => leAt l (2 * i) 2)
        else []
      let w := good.foldl (fun w c =>
        w.modHutch (aHutch c.dest) (fun h => { h with chunks := h.chunks ++ [{ c with peers := peers.flatMap (fun p => [p, 4096 + p]) }] })) w
      ((cs.filter (fun c => !x.chunkOk c)).foldl (fun w c => w.chunkFails (aHutch c.dest) c 0x23) w).tellSet s 0xFF

/-- INGEST (R266). -/
def execIngest (set : Nat) (data : List Byte) (s : State) : Host.Outcome State Fault Refusal := run (ingest set data) s

/-- A packet of Hutch b to another panel's Hutch, or to a unit of this panel. -/
def Work.hutchPkt (w : Work) (type b : Nat) : Packet :=
  let d := (w.hutchDies b).headD 0
  { type := type, srcPanel := w.panelId, srcC := w.colOf d, srcR := w.rowOf d, srcUnit := 0x40 + b }

/-- Bytes of a local range, read through the cache of their Hutch, sent to another address as AWR packets of one transfer (R183,
R234, R248). -/
def Work.sendAwr (w : Work) (p : Packet) (src dst n : Nat) (noAlloc : Bool) : Work :=
  let total := (n + 255) / 256
  (List.range total).foldl (fun w i =>
    let m := min 256 (n - 256 * i)
    let (bs, w) := w.loadBytes (src + 256 * i) m noAlloc
    w.send { p with address := dst + 256 * i, total := total, index := i, last := i + 1 == total, typeData := m,
                    payload := flits bs }) w

/-- The chunk goes to every peer: its ciphertext as AWR packets, then the CHUNK message (R269 steps 1 and 2). -/
def Work.sendChunk (w : Work) (b : Nat) (c : Chunk) : Work :=
  let dest_ := (c.peers.filter (· < 4096))
  let w := dest_.foldl (fun w p =>
    let pkt := { w.hutchPkt 0x17 b with vc := 4, dstPanel := p, dstUnit := 0x40 + b, srcSub := 1, transfer := c.chunk }
    let w := w.sendAwr pkt c.dest (8 * 2 ^ 60 + p * 2 ^ 48 + aSpace c.dest * 2 ^ 44 + c.dest % 2 ^ 44) c.length false
    w.send { w.hutchPkt 0x44 b with
      vc := 1, dstPanel := p, dstUnit := 0x40 + b,
      payload := flits ([BitVec.ofNat 8 c.set, 0] ++ toBytes c.generation 2 ++ toBytes c.keyId 4 ++ c.bytes) }) w
  w.modHutch b (fun h => { h with chunks := h.chunks.map (fun x =>
    if x.set = c.set ∧ x.chunk = c.chunk ∧ x.remote = c.remote then { x with sent := true, sentAt := w.dieNow (1000 + b) } else x) })

/-- A chunk leaves the queue of its Hutch. -/
def Work.dropChunk (w : Work) (b : Nat) (c : Chunk) : Work :=
  w.modHutch b (fun h => { h with chunks := h.chunks.filter (fun x => !(x.set == c.set && x.chunk == c.chunk && x.remote == c.remote)) })

/-- Bytes fed to the check-value unit of Hutch b where its feeder is `src` (R284). -/
def Work.feedHutch (w : Work) (b src : Nat) (bs : List Byte) : Work :=
  if ((w.blob 0x7000 6).getD b 0).toNat = src then w.feedUnit (384 + b) bs else w

/-- A chunk decrypted by engine n: plaintext over the ciphertext where the tag matches (R266, R267). -/
def Work.decrypt (w : Work) (b n : Nat) (c : Chunk) : Work :=
  let w := w.dropChunk b c
  match (w.wset c.set).key with
  | none => w.chunkFails b c 0x45
  | some (id, k) =>
    match w.readStatus c.dest c.length with
    | some st => if st = 0x24 then w.chunkFails b c 0x23 else w.chunkFails b c st
    | none =>
      let (ct, w) := w.loadBytes c.dest c.length false
      let iv := toBytes c.keyId 4 ++ [0, 0, 0, 0] ++ toBytes c.chunk 4
      let aad := toBytes (w.wset c.set).setId 4 ++ toBytes c.keyId 4 ++ toBytes c.chunk 4
      let (pt, tag) := Config.aesGcm k iv aad ct
      if id = c.keyId ∧ tag = c.tag then
        let w := (w.storeBytes c.dest (padTo c.length pt)).feedHutch b (n + 1) (padTo c.length pt)
        if c.remote then w else w.modSet c.set (·.chunkDone c 0)
      else w.chunkFails b c 0x46

/-- DECRYPT_CHUNK: an engine of Hutch b takes the next entry; one with peers is sent to them first (R267, R269). -/
def decryptChunk (b n : Nat) (w : Work) : Work :=
  if 2 ≤ n then w
  else
    match (w.hutch b).chunks.find? (fun c => c.peers.isEmpty || !c.sent) with
    | some c =>
      let w := w.modSet c.set (fun x => { x with begun := (c.dest, c.length) :: x.begun, ingest := x.ingest.map (fun g =>
        if c.remote then g else { g with waiting := g.waiting.filter (fun r => r.1 != c.dest) }) })
      if c.peers.isEmpty then w.decrypt b n c else w.sendChunk b c
    | none => w

/-- DECRYPT_CHUNK (R267). -/
def execDecryptChunk (b n : Nat) (s : State) : Host.Outcome State Fault Refusal := run (decryptChunk b n) s

/-- INGEST_COMPLETE: every entry is done, and CommandStatus has the outcome, where no later command has written it (R267, R352). -/
def ingestComplete (s : Nat) (w : Work) : Work :=
  match (w.wset s).ingest with
  | some g =>
    if g.running ∧ g.entries ≤ g.done then
      let w := w.modSet s (fun x => { x with ingest := some { g with running := false } })
      let w := if w.reg (0x7001 + s) 0x15 % 256 = 0xFF ∧ !(w.wset s).zeroing then w.setStatus s g.status else w
      match (w.wset s).slotOf g.generation with
      | some i => w.modSet s (·.modGen i (fun y => { y with ingesting := false }))
      | none => w
    else w
  | none => w

/-- INGEST_COMPLETE (R267). -/
def execIngestComplete (set : Nat) (s : State) : Host.Outcome State Fault Refusal := run (ingestComplete set) s

/-- CHUNK: queued for this panel's engines, and confirmed; a set that is not defined here answers with a fault (R269). -/
def recvChunk (p : Packet) (w : Work) : Work :=
  let w := w.take p
  let s := leAt p.payload 0 1
  let b := p.dstUnit % 16
  let l := w.blob (0x7001 + s) 0x13
  let peers := (List.range (l.length / 2)).map (fun i => leAt l (2 * i) 2)
  let c : Chunk := { chunkOf s (leAt p.payload 2 2) (leAt p.payload 4 4) 0 (slice p.payload 8 32) with
    remote := true, peers := peers.flatMap (fun p => [p, 4096 + p]) }
  let ok := decide (s < 64) && (w.wset s).usable
  let w := if ok then w.modHutch b (fun h => { h with chunks := h.chunks ++ [c] }) else w
  w.send { p.answer 0x45 with vc := 2, typeData := c.chunk + ofBool (!ok) * 2 ^ 32 }

/-- CHUNK (R269). -/
def execChunk (pkt : Packet) (s : State) : Host.Outcome State Fault Refusal := run (onTurn pkt (recvChunk pkt)) s

/-- A confirmation awaited by chunk number `chunk` of Hutch b has come; the last one starts the decryption. One after the deadline
tick, 200 µs after the chunk was sent, does not count (R214, R269 step 3, R383). -/
def Work.confirm (w : Work) (b chunk what : Nat) (bad : Bool) : Work :=
  match (w.hutch b).chunks.find? (fun c => c.chunk == chunk && c.sent && c.peers.contains what) with
  | some c =>
    if bad || w.past (1000 + b) (c.sentAt + 200000) then (w.dropChunk b c).chunkFails b c 0x46
    else
      let c' := { c with peers := c.peers.filter (· != what) }
      let w := w.modHutch b (fun h => { h with chunks := h.chunks.map (fun x => if x = c then c' else x) })
      if c'.peers.isEmpty then w.decrypt b 0 c' else w
  | none => w

/-- CHUNKDONE (R269). -/
def recvChunkdone (p : Packet) (w : Work) : Work :=
  (w.take p).confirm (p.dstUnit % 16) (field p.typeData 0 32) p.srcPanel (bit p.typeData 32)

/-- CHUNKDONE (R269). -/
def execChunkdone (pkt : Packet) (s : State) : Host.Outcome State Fault Refusal := run (onTurn pkt (recvChunkdone pkt)) s

/-- CHUNK_CONFIRM_TIMEOUT: the deadline tick 200 µs after the chunk was sent has passed (R214, R269). -/
def chunkConfirmTimeout (b chunk : Nat) (w : Work) : Work :=
  match (w.hutch b).chunks.find? (fun c => c.chunk == chunk && c.sent && !c.peers.isEmpty) with
  | some c => ((w.reachOn (1000 + b) (c.sentAt + 200001)).dropChunk b c).chunkFails b c 0x46
  | none => w

/-- CHUNK_CONFIRM_TIMEOUT (R269). -/
def execChunkConfirmTimeout (b chunk : Nat) (s : State) : Host.Outcome State Fault Refusal := run (chunkConfirmTimeout b chunk) s

/-! ### Undefine (R268) -/

/-- The protected ranges of a set. -/
def WSet.protectedRanges (x : WSet) : List (Nat × Nat) := (x.layers.filter (·.encrypted)).flatMap Layer.ranges

/-- A set becomes FREE: its chunks that wait go, and staging that no layer needs any longer is given up (R182, R267). -/
def Work.freeSet (w : Work) (s : Nat) : Work :=
  let w : Work := { w with sets := tdel w.sets s
                           hutches := w.hutches.map (fun e => (e.1, { e.2 with chunks := e.2.chunks.filter (fun c => c.set != s) })) }
  let w := ((List.range 16).filter (fun b => !(owners w.allLayers).contains b)).foldl (fun w b => w.unreserve b 4 0) w
  ((w.setReg (0x7001 + s) 5 0).setReg (0x7001 + s) 6 0).setStatus s 0

/-- UNDEFINE: the key goes, so that what an Ingest has left to do fails, and the zeroing of the protected ranges begins (R268). -/
def undefine (s : Nat) (w : Work) : Work :=
  let x := w.wset s
  if 64 ≤ s then w.refuse 0x70
  else if w.jobRuns then w.refuseJob
  else if x.zeroing then w.refuse 0x76
  else if x.st = .free then w.tellSet s 0x41
  else
    match x.held.find? (fun e => e.2.pins != 0) with
    | some e => w.tellSet s 0x44 (min e.2.pins 0xFFFF)
    | none => (w.modSet s (fun x => { x with key := none, zeroing := true })).tellSet s 0xFF

/-- UNDEFINE (R268). -/
def execUndefine (set : Nat) (s : State) : Host.Outcome State Fault Refusal := run (undefine set) s

/-- UNDEFINE_ZERO_COMPLETE (R268). -/
def undefineZeroComplete (s : Nat) (w : Work) : Work :=
  if (w.wset s).zeroing then
    ((w.wset s).protectedRanges.foldl (fun w r => w.clearRange r.1 r.2) w).freeSet s
  else w

/-- UNDEFINE_ZERO_COMPLETE (R268). -/
def execUndefineZeroComplete (set : Nat) (s : State) : Host.Outcome State Fault Refusal := run (undefineZeroComplete set) s

end Sys2Proof.Machine
end

