-- ==== Sys2Proof/Machine/HutchEngines.lean ====
section
/-! DEFINITION. The Hutch engines: weight streams, the update of master and working copies, and the placing of
reductions whose root is a Hutch (R273 to R277, R284 to R286). -/

namespace Sys2Proof.Machine

/-! ### Weight streams (R273) -/

/-- The columns a weight multicast walks: from the Hutch's attach column toward RangeEnd (R273). -/
def Work.streamColumns (w : Work) (b rangeEnd : Nat) : List Nat :=
  let c := if b < 8 then 0 else w.cols - 1
  if c ≤ rangeEnd then (List.range (rangeEnd - c + 1)).map (c + ·) else (List.range (c - rangeEnd + 1)).map (c - ·)

/-- The shelves of bay b that a mask selects, as logical rows: bit 0 the first shelf, bit 1 the second. -/
def shelves (b mask : Nat) : List Nat := ((List.range 2).filter (bit mask)).map (fun i => 2 * (b % 8) + i)

/-- The targets of a weight stream, by `tKey`, with the bit of each in the delivery bitmap (R273 step 5). -/
def Work.streamTargets (w : Work) (b : Nat) (x : WStream) : List (Nat × Nat) :=
  (shelves b x.shelfMask).flatMap (fun r =>
    (w.streamColumns b x.rangeEnd).zipIdx.map (fun c => (tKey w.panelId c.1 r x.k, c.2 + (if r % 2 = 0 then 0 else 24))))

/-- A weight stream that a Hutch cannot serve: its status (R186, R192, R195, R249). -/
def Work.streamStatus (w : Work) (b : Nat) (x : WStream) : Option Nat :=
  let dies := (w.streamTargets b x).map (fun t => w.dieOf (t.1 / 256 % 32) (t.1 / 16 % 16))
  if x.bytes < 256 ∨ 16 * 2 ^ 20 < x.bytes ∨ x.bytes % 8 ≠ 0 ∨ x.shelfMask = 0 ∨ 3 < x.shelfMask ∨ 7 < x.window ∨ 15 < x.k ∨
      w.cols ≤ x.rangeEnd then some 0x30
  else if 1 < aSpace x.address ∨ aHutch x.address ≠ b ∨ w.invalid x.address ∨ w.invalid (x.address + x.bytes - 1) then some 0x23
  else if !w.hutchReached b then some 0x24
  else if (w.hutch b).poisonFull then some 0x25
  else if w.hasPoison x.address x.bytes then some 0x22
  else if (w.streamTargets b x).any (fun t => !w.arrPresent (arrOf (w.dieOf (t.1 / 256 % 32) (t.1 / 16 % 16)) (t.1 % 16))) then some 0x08
  else
    let g := w.gaps
    if (shelves b x.shelfMask).all (fun r =>
        let row := dies.filter (fun d => w.rowOf d == r)
        w.clearPath g (row.headD 0) (row.getLastD 0)) then none
    else some 0x30

/-- The running stream with a tag. -/
def Hutch.stream (h : Hutch) (tag : Nat) : Option WStream := h.wrun.find? (fun x => x.units != 0 && x.tag == tag)

/-- A running stream changed. -/
def Work.modStreamOf (w : Work) (b : Nat) (x y : WStream) : Work :=
  w.modHutch b (fun h => { h with wrun := h.wrun.map (fun z => if z = x then y else z) })

/-- A weight stream ends: WDONE with its status and bitmap, and the oldest queued one runs (R273 step 5). -/
def Work.endStreamOf (w : Work) (b : Nat) (x : WStream) (status bitmap : Nat) : Work :=
  let w := w.send { x.req.answer 0x41 with vc := 2, typeData := status + bitmap * 2 ^ 8 }
  w.modHutch b (fun h =>
    let rest := h.wrun.filter (· != x)
    match h.wqueue with
    | y :: ys => { h with wrun := rest ++ [y], wqueue := ys }
    | [] => { h with wrun := rest })

/-- CCAN for a stream's requests that are open or granted and unused (R211). -/
def Work.cancelStreamOf (w : Work) (b : Nat) (x : WStream) : Work :=
  if x.units = 0 ∨ x.launched then w
  else (w.streamTargets b x).foldl (fun w t =>
    w.send { w.hutchPkt 0x16 b with
      vc := 1, dstPanel := t.1 / 8192, dstC := t.1 / 256 % 32, dstR := t.1 / 16 % 16, dstUnit := t.1 % 16, dstSub := x.window,
      typeData := x.tag }) w

/-- Every bit of the targets that a list answers. -/
def Work.bitmapOf (w : Work) (b : Nat) (x : WStream) (done : List Nat) : Nat :=
  (((w.streamTargets b x).filter (fun t => done.contains t.1)).map (fun t => 2 ^ t.2)).sum

/-- Credit asked of every target for the next units (R212, R216, R273 step 3). -/
def Work.askStreamOf (w : Work) (b : Nat) (x : WStream) : Work :=
  let ts := w.streamTargets b x
  let left := (x.bytes + 255) / 256 - x.sent
  let n := (ts.filterMap (fun t => w.ringOf t.1 x.window)).foldl min (min left 64)
  let tag := (w.hutch b).nextTag
  let w := ts.foldl (fun w t =>
    w.send { w.hutchPkt 0x10 b with
      vc := 1, dstPanel := t.1 / 8192, dstC := t.1 / 256 % 32, dstR := t.1 / 16 % 16, dstUnit := t.1 % 16, dstSub := x.window,
      typeData := tag + n * 2 ^ 16 }) w
  (w.modHutch b (fun h => { h with nextTag := (tag + 1) % 65536 })).modStreamOf b x
    { x with tag := tag, units := n, askedAt := w.dieNow (1000 + b), grants := [], launched := false, done := [] }

/-- The units every target has granted go out as MWR packets along each selected shelf, each line read once (R273); a line that
cannot be read ends the stream (R194, R195). -/
def Work.launchStreamOf (w : Work) (b : Nat) (x : WStream) : Work :=
  match w.readStatus (x.address + 256 * x.sent) (min (256 * x.units) (x.bytes - 256 * x.sent)) with
  | some st => (w.cancelStreamOf b x).endStreamOf b x st 0
  | none =>
  let w' := (List.range x.units).foldl (fun w i =>
    let off := 256 * (x.sent + i)
    let n := min 256 (x.bytes - off)
    let (bs, w) := w.loadBytes (x.address + off) n false
    let w := w.feedHutch b 4 bs
    (shelves b x.shelfMask).foldl (fun w r =>
      w.send { w.hutchPkt 0x14 b with
        vc := 5, dstPanel := w.panelId, dstC := if b < 8 then 0 else w.cols - 1, dstR := r, dstUnit := x.k, dstSub := x.window,
        transfer := x.tag, total := x.units, index := i, last := i + 1 == x.units, typeData := x.tag + n * 2 ^ 16,
        payload := flits bs, mcMode := 1, mcEnd := x.rangeEnd }) w) w
  w'.modStreamOf b x { x with launched := true, launchedAt := w.dieNow (1000 + b), sent := x.sent + x.units }

/-- A target's grant reaches the Hutch, which counts it up to the deadline tick (R214, R258, R273 step 3). -/
def Work.streamGrant (w : Work) (b : Nat) (p : Packet) : Work :=
  match (w.hutch b).stream (field p.typeData 0 16) with
  | some x =>
    if x.launched then w
    else if w.fmgr.st < 2 ∧ w.past (1000 + b) (x.askedAt + 100000) then (w.cancelStreamOf b x).endStreamOf b x 0x31 0
    else
      let y := { x with grants := x.grants ++ [tKey p.srcPanel p.srcC p.srcR p.srcUnit] }
      let w := w.modStreamOf b x y
      if (w.streamTargets b y).all (fun t => y.grants.contains t.1) then w.launchStreamOf b y else w
  | none => w

/-- A target turns a request of the Hutch away (R214). -/
def Work.streamReject (w : Work) (b : Nat) (p : Packet) : Work :=
  match (w.hutch b).stream (field p.typeData 0 16) with
  | some x =>
    let late := w.fmgr.st < 2 ∧ w.past (1000 + b) (x.askedAt + 100000)
    (w.cancelStreamOf b x).endStreamOf b x (if !x.launched ∧ late then 0x31 else 0x33) 0
  | none => w

/-- A target answers DONE, which counts up to the deadline tick: after the last of a round the next round begins, or the stream
ends (R217, R258, R273). -/
def Work.streamDone (w : Work) (b : Nat) (p : Packet) : Work :=
  match (w.hutch b).stream p.transfer with
  | some x =>
    if x.launched ∧ w.fmgr.st < 2 ∧ w.past (1000 + b) (x.launchedAt + 200000) then w.endStreamOf b x 0x32 (w.bitmapOf b x x.done) else
    let y := { x with done := x.done ++ [tKey p.srcPanel p.srcC p.srcR p.srcUnit] }
    let w := w.modStreamOf b x y
    if (w.streamTargets b y).all (fun t => y.done.contains t.1) then
      if (y.bytes + 255) / 256 ≤ y.sent then w.endStreamOf b y 0 (w.bitmapOf b y y.done) else w.askStreamOf b y
    else w
  | none => w

/-- The request that a WSTREAM packet carries, and the UPDATE requests it comes after (R277, R285). -/
def streamOf (p : Packet) (after : List Packet) : WStream :=
  { req := p, after := after, address := p.address, bytes := leAt p.payload 0 4, shelfMask := leAt p.payload 4 1, window := leAt p.payload 5 1,
    k := leAt p.payload 6 1, rangeEnd := leAt p.payload 7 1 }

/-- WSTREAM: run, queued, or left in its lane (R273); an address that names this panel is local (R190). -/
def recvWstream (p : Packet) (w : Work) : Work :=
  let b := p.dstUnit % 16
  let h := w.hutch b
  let x := { streamOf p h.updWait with address := w.localAddr p.address }
  if h.wrun.length < 8 then (w.take p).modHutch b (fun h => { h with wrun := h.wrun ++ [x] })
  else if h.wqueue.length < 32 then (w.take p).modHutch b (fun h => { h with wqueue := h.wqueue ++ [x] })
  else w

/-- WSTREAM (R273). -/
def execWstream (pkt : Packet) (s : State) : Host.Outcome State Fault Refusal := run (onTurn pkt (recvWstream pkt)) s

/-! ### The order of streams and updates (R273, R277) -/

/-- The fields of an UPDATE request (R275, R285). -/
structure Upd where
  set : Nat
  flags : Nat
  layer : Nat
  first : Nat
  count : Nat
  grad : Nat
  deriving DecidableEq, Repr

/-- The request that an UPDATE packet carries. -/
def updOf (p : Packet) : Upd :=
  ⟨leAt p.payload 0 1, leAt p.payload 1 1, leAt p.payload 4 4, leAt p.payload 8 4, leAt p.payload 12 4, leAt p.payload 16 8⟩

/-- The request that an UPDATE packet carries, its gradients at a local address (R190). -/
def Work.updIn (w : Work) (p : Packet) : Upd := { updOf p with grad := w.localAddr (updOf p).grad }

/-- Ranges that an UPDATE request reads or writes: its gradients and, unless it only clears them, the master, the moments and the
working copy of its elements' layer (R275, R276). -/
def Work.updRanges (w : Work) (p : Packet) : List (Nat × Nat) :=
  let u := w.updIn p
  let x := w.wset u.set
  let grad := (u.grad, 4 * u.count)
  if bit u.flags 1 then [grad]
  else match x.layers[u.layer]?, x.current with
    | some l, some i =>
      grad :: (l.slotRange i ++ ([l.master, l.moment1, l.moment2].filter (· != 0)).map (fun a => (a + 4 * u.first, 4 * u.count)))
    | _, _ => [grad]

/-- A stream comes after an UPDATE on its range that has still to run (R277). -/
def Work.behindUpdate (w : Work) (b : Nat) (x : WStream) : Bool :=
  (w.hutch b).updWait.any (fun p => x.after.contains p && (w.updRanges p).any (meets (x.address, x.bytes)))

/-- An UPDATE must wait for a stream or an UPDATE that arrived before it and shares a range with it (R273, R277). -/
def Work.updateWaits (w : Work) (b : Nat) (p : Packet) : Bool :=
  let h := w.hutch b
  let rs := w.updRanges p
  (h.wrun ++ h.wqueue).any (fun x =>
      !x.after.contains p && decide (256 * x.sent < x.bytes) && rs.any (meets (x.address, x.bytes))) ||
    (h.updWait.takeWhile (· != p)).any (fun q => (w.updRanges q).any (fun r => rs.any (meets r)))

/-- WSTREAM_RUN: the n-th running stream of Hutch b, once the UPDATE requests before it on its range are done, is checked and
asks for credit, or, waiting for an answer past its limit, ends (R214, R217, R273, R277). -/
def wstreamRun (b n : Nat) (w : Work) : Work :=
  match (w.hutch b).wrun[n]? with
  | none => w
  | some x =>
    if x.units = 0 then
      if w.behindUpdate b x then w else
      match w.streamStatus b x with
      | some st => w.endStreamOf b x st 0
      | none => w.askStreamOf b x
    else if 2 ≤ w.fmgr.st then w
    else if x.launched ∧ w.past (1000 + b) (x.launchedAt + 200000) then w.endStreamOf b x 0x32 (w.bitmapOf b x x.done)
    else if !x.launched ∧ w.past (1000 + b) (x.askedAt + 100000) then (w.cancelStreamOf b x).endStreamOf b x 0x31 0
    else w

/-- WSTREAM_RUN (R273). -/
def execWstreamRun (b n : Nat) (s : State) : Host.Outcome State Fault Refusal := run (wstreamRun b n) s

/-- The task that a Hutch's answer is for: array SrcSub of the request, on the task unit's die (assumption 29). -/
def Work.answered (w : Work) (p : Packet) : Nat := arrOf (w.dstDie p) (p.dstSub % 16)

/-- WDONE: the bitmap goes to the completion record, and a status aborts the task (R286). -/
def recvWdone (p : Packet) (w : Work) : Work :=
  let w := w.take p
  let a := w.answered p
  let w := w.modArr a (fun x => { x with task := x.task.map (fun t => { t with delivery := field p.typeData 8 48 }) })
  if field p.typeData 0 8 = 0 then w else w.taskFault a { status := field p.typeData 0 8 }

/-- WDONE (R286). -/
def execWdone (pkt : Packet) (s : State) : Host.Outcome State Fault Refusal := run (onTurn pkt (recvWdone pkt)) s

/-! ### Update (R275 to R277) -/

/-- UpdateConfig (R276). -/
structure UpdCfg where
  rule : Nat
  sr : Bool
  gscale : Nat
  wd : Nat
  b1 : Nat
  b2 : Nat
  eps : Nat
  alpha : Nat
  lr : Nat
  c1 : Nat
  c2 : Nat
  deriving DecidableEq, Repr

/-- An odd significand of a nonzero number, and its exponent; `fuel` bounds the factors of two taken out. -/
def oddPart : Nat → Nat → Int → Nat × Int
  | 0, m, e => (m, e)
  | fuel + 1, m, e => if m % 2 = 0 then oddPart fuel (m / 2) (e + 1) else (m, e)

/-- βᵗ for β = ±m·2ᵉ, where double precision holds it exactly; a power below 2⁻⁶⁴ in magnitude, which 1 − βᵗ rounds away whatever its
last bits are, as zero (R276). -/
def exactPower (n : Bool) (m : Nat) (e : Int) (t : Nat) : Option Num :=
  if t = 0 then some (.fin false 1 0)
  else if m = 0 then some (.fin n 0 0)
  else
    let (q, f) := oddPart 24 m e
    if (Int.ofNat (Nat.log2 q + 1) + f) * Int.ofNat t ≤ -64 then some (.fin false 0 0)
    else if q ≠ 1 ∧ 53 < t then none
    else if q ^ t < 2 ^ 53 ∧ Int.ofNat (Nat.log2 (q ^ t)) + f * Int.ofNat t ≤ 1023 then
      some (.fin (n && t % 2 == 1) (if q = 1 then 1 else q ^ t) (f * Int.ofNat t))
    else none

/-- The bias correction 1 / (1 − βᵗ) in double precision, rounded to FP32. Where double precision does not hold βᵗ exactly, the last
bits of the power are left open, and so is the value (R276; assumption 7). -/
def biasOf (beta t : Nat) : Nat :=
  let one : Num := .fin false 1 0
  let bias := fun (power : Num) =>
    let rest := (addNum fp64 .rne one power).1
    (roundNum fp32 .rne (decodeNum fp64 (divNum fp64 one (decodeNum fp64 rest)))).1
  match dec32 beta with
  | .fin n m e =>
    match exactPower n m e t with
    | some (.fin s q f) => bias (.fin (!s) q f)
    | _ => (Config.biasCorrection (BitVec.ofNat 32 beta) t).toNat
  | _ => (Config.biasCorrection (BitVec.ofNat 32 beta) t).toNat

/-- The configuration in force for a request. -/
def Work.updCfg (w : Work) (p : Packet) : UpdCfg :=
  let c := padTo 48 (w.blob (0x7001 + (updOf p).set) 0x14)
  let b1 := leAt c 0xC 4
  let b2 := leAt c 0x10 4
  let t := field p.typeData 0 32
  ⟨leAt c 0 1, leAt c 1 1 == 1, leAt c 4 4, leAt c 8 4, b1, b2, leAt c 0x14 4, leAt c 0x18 4, field p.typeData 32 32,
   biasOf b1 t, biasOf b2 t⟩

/-- 1.0 in FP32. -/
def fOne : Nat := 0x3F800000

/-- One element: new w, m and v, or none where the scaled gradient is not finite (R276). -/
def UpdCfg.elem (c : UpdCfg) (grad x m v : Nat) : Option (Nat × Nat × Nat) :=
  let mul := fun a b => (fMul a b).1
  let add := fun a b => (fAdd a b).1
  let sub := fun a b => (fSub a b).1
  let g := mul grad c.gscale
  match dec32 g with
  | .fin _ _ _ =>
    if c.rule = 0 then some (add x (mul c.alpha g), m, v)
    else
      let decay := mul (mul c.lr c.wd) x
      if c.rule = 1 then
        let m := add (mul c.b1 m) g
        some (sub (sub x (mul c.lr m)) decay, m, v)
      else
        let m := add (mul c.b1 m) (mul (sub fOne c.b1) g)
        let v := add (mul c.b2 v) (mul (mul (sub fOne c.b2) g) g)
        let step := mul c.lr (fDiv (mul m c.c1) (add (fSqrt (mul v c.c2)) c.eps))
        some (sub (sub x step) decay, m, v)
  | _ => none

/-- The elements of FP32 words in memory. -/
def words32 (bs : List Byte) (n : Nat) : List Nat := (List.range n).map (fun i => leAt bs (4 * i) 4)

/-- FP32 words as bytes. -/
def bytes32 (xs : List Nat) : List Byte := xs.flatMap (fun x => toBytes x 4)

/-- The conversion of a working-copy format without block scales (R264). -/
def cvtOf (code : Nat) : CvtFmt :=
  if code = 1 then .flt bf16 else if code = 2 then .flt fp16 else if code = 3 then .flt e4m3 else if code = 4 then .flt e5m2
  else if code = 10 then .int 8 else .int 4

/-- The element format of a working-copy format with block scales (R264). -/
def mxOf (code : Nat) : Fmt :=
  if code = 5 then e4m3 else if code = 6 then e5m2 else if code = 7 then e2m3 else if code = 8 then e3m2 else e2m1

/-- Bits an element takes in a working copy (R264). -/
def slotBits (code : Nat) : Nat :=
  if code = 0 then 32 else if code = 1 ∨ code = 2 then 16 else if code = 9 ∨ code = 11 then 4 else 8

/-- The generator of quadrant q of Hutch b, seeded when first needed (R69, R276). -/
def Work.hutchSr (w : Work) (b q : Nat) : BitVec 32 :=
  let g := tget 0 (w.hutch b).sr q
  if g = 0 then srSeed (w.eff 0x2400 3) w.panelId (512 + b) q 0 else g

/-- Codes of elements without block scales, in element order, with the generators drawn on (R276). -/
def emitPlain (code : Nat) (sr : Bool) (master : Nat) (b : Nat) (w : Work) : List (Nat × Nat) → List Nat × Work
  | [] => ([], w)
  | (i, x) :: xs =>
    if code = 0 then
      let (cs, w') := emitPlain code sr master b w xs
      (x :: cs, w')
    else
      let q := quadrantOf (master + 4 * i)
      let (c, _, g) := convert (cvtOf code) sr Config.updateSaturates (w.hutchSr b q) (dec32 x)
      let w := if sr then w.modHutch b (fun h => { h with sr := tput h.sr q g }) else w
      let (cs, w') := emitPlain code sr master b w xs
      (c :: cs, w')

/-- Blocks of 32 packed under R66: element codes and one scale a block (R276). -/
def emitMx (code : Nat) (sr : Bool) (master : Nat) (b : Nat) : Nat → Nat → Work → List Nat → List Nat × List Nat × Work
  | 0, _, w, _ => ([], [], w)
  | fuel + 1, first, w, xs =>
    if xs.isEmpty then ([], [], w)
    else
      let q := quadrantOf (master + 4 * first)
      let (cs, scale, _, g) := mxPack (mxOf code) sr (w.hutchSr b q) ((xs.take 32).map dec32)
      let w := if sr then w.modHutch b (fun h => { h with sr := tput h.sr q g }) else w
      let (cs', ss, w') := emitMx code sr master b fuel (first + 32) w (xs.drop 32)
      (cs ++ cs', scale :: ss, w')

/-- Element codes put into a working copy from element `first`: half-byte elements share bytes with their neighbours, and 6-bit
elements stand 8 to a word, element i at bits [6i + 5 : 6i], with [63:48] zero (R48, R264). -/
def Work.putCodes (w : Work) (code base first : Nat) (cs : List Nat) : List Byte × Work :=
  let n := slotBits code
  if n = 4 then
    let lo := if first % 2 = 1 then [(w.readByte (base + first / 2)).toNat % 16] else []
    let stop := first + cs.length
    let hi := if stop % 2 = 1 then [(w.readByte (base + stop / 2)).toNat / 16] else []
    let all := lo ++ cs ++ hi
    let bs := (List.range (all.length / 2)).map (fun i => BitVec.ofNat 8 (all.getD (2 * i) 0 + 16 * all.getD (2 * i + 1) 0))
    (bs, w.storeBytes (base + first / 2) bs)
  else if code = 7 ∨ code = 8 then
    let stop := first + cs.length
    let bs := (List.range ((stop + 7) / 8 - first / 8)).flatMap (fun j =>
      let k := 8 * (first / 8 + j)
      let old := leAt (w.read (base + k) 8) 0 8
      toBytes (joinElems 6 ((List.range 8).map (fun i =>
        if first ≤ k + i ∧ k + i < stop then cs.getD (k + i - first) 0 else field old (6 * i) 6))) 8)
    (bs, w.storeBytes (base + first / 8 * 8) bs)
  else
    let bs := cs.flatMap (fun c => toBytes c (n / 8))
    (bs, w.storeBytes (base + first * (n / 8)) bs)

/-- The working copy of elements from `first` written from their FP32 values (R264, R276). -/
def Work.emit (w : Work) (b : Nat) (l : Layer) (slot : Nat) (sr : Bool) (first : Nat) (xs : List Nat) : Work :=
  let base := l.working.getD slot 0
  if isMx l.format then
    let (cs, ss, w) := emitMx l.format sr l.master b (xs.length + 1) first w xs
    let (bs, w) := w.putCodes l.format base first cs
    let sb := ss.map (fun s => BitVec.ofNat 8 s)
    (w.storeBytes (base + scalesAt l.format l.elements + first / 32) sb).feedHutch b 3 (bs ++ sb)
  else
    let (cs, w) := emitPlain l.format sr l.master b w (xs.zipIdx.map (fun x => (first + x.2, x.1)))
    let (bs, w) := w.putCodes l.format base first cs
    w.feedHutch b 3 bs

/-- The status of an UPDATE that cannot run (R186, R195, R262, R275, R276, R286). -/
def Work.updStatus (w : Work) (b : Nat) (u : Upd) (c : UpdCfg) : Option Nat :=
  let x := w.wset u.set
  let grads := 4 * u.count
  if 1 < aSpace u.grad ∨ aHutch u.grad ≠ b ∨ (u.count ≠ 0 ∧ (w.invalid u.grad ∨ w.invalid (u.grad + grads - 1))) then some 0x23
  else if !w.hutchReached b then some 0x24
  else if (w.hutch b).poisonFull then some 0x25
  else if bit u.flags 1 then none
  else if 64 ≤ u.set ∨ x.st ≠ .training ∨ 2 < c.rule then some 0x41
  else
    match x.layers[u.layer]?, x.current with
    | none, _ => some 0x41
    | some _, none => some 0x4B
    | some l, some i =>
      if l.hutch ≠ b ∨ !l.trainable ∨ l.elements < u.first + u.count ∨ (isMx l.format ∧ u.first % 32 ≠ 0) ∨
          l.working.getD i 0 = 0 ∨ (c.rule ≠ 0 ∧ l.moment1 = 0) ∨ (c.rule = 2 ∧ l.moment2 = 0) then some 0x41
      else if w.hasPoison u.grad grads ∨ w.hasPoison (l.master + 4 * u.first) grads ∨
          (c.rule ≠ 0 ∧ w.hasPoison (l.moment1 + 4 * u.first) grads) ∨ (c.rule = 2 ∧ w.hasPoison (l.moment2 + 4 * u.first) grads) then
        some 0x22
      else none

/-- The elements of an UPDATE worked through: gradient i is the i-th of the buffer (R276; assumption 27). Answers the
number of non-finite gradients. -/
def Work.updRun (w : Work) (b : Nat) (u : Upd) (c : UpdCfg) (l : Layer) (slot : Nat) : Nat × Work :=
  let n := u.count
  let off := 4 * u.first
  let (gb, w) := w.loadBytes u.grad (4 * n) false
  let (xb, w) := w.loadBytes (l.master + off) (4 * n) false
  let (mb, w) := if c.rule = 0 then ([], w) else w.loadBytes (l.moment1 + off) (4 * n) false
  let (vb, w) := if c.rule = 2 then w.loadBytes (l.moment2 + off) (4 * n) false else ([], w)
  let res := (List.range n).map (fun i =>
    let x := leAt xb (4 * i) 4
    let m := leAt mb (4 * i) 4
    let v := leAt vb (4 * i) 4
    match c.elem (leAt gb (4 * i) 4) x m v with
    | some r => (r, 0)
    | none => ((x, m, v), 1))
  let w := w.storeBytes (l.master + off) (bytes32 (res.map (fun r => r.1.1)))
  let w := if c.rule = 0 then w else w.storeBytes (l.moment1 + off) (bytes32 (res.map (fun r => r.1.2.1)))
  let w := if c.rule = 2 then w.storeBytes (l.moment2 + off) (bytes32 (res.map (fun r => r.1.2.2))) else w
  ((res.map (·.2)).sum, w.emit b l slot c.sr u.first (res.map (fun r => r.1.1)))

/-- UPDATE: run in its order among the requests of its Hutch, and answered with UDONE; one that must wait is noted as arrived and
stays in its lane (R275 to R277). -/
def recvUpdate (p : Packet) (w : Work) : Work :=
  let b := p.dstUnit % 16
  let u := w.updIn p
  let c := w.updCfg p
  let reply := fun (w : Work) (st bad : Nat) =>
    ((w.take p).modHutch b (fun h => { h with updWait := h.updWait.filter (· != p) })).send
      { p.answer 0x43 with vc := 2, typeData := st + bad % 2 ^ 32 * 2 ^ 32 }
  let clear := fun (w : Work) => if bit u.flags 0 || bit u.flags 1 then w.clearRange u.grad (4 * u.count) else w
  match w.updStatus b u c with
  | some st => reply w st 0
  | none =>
    if w.updateWaits b p then
      (if (w.hutch b).updWait.contains p then w else w.modHutch b (fun h => { h with updWait := h.updWait ++ [p] }))
    else if bit u.flags 1 then reply (clear w) 0 0
    else
      match (w.wset u.set).layers[u.layer]?, (w.wset u.set).current with
      | some l, some i =>
        let (bad, w) := w.updRun b u c l i
        reply (clear w) 0 bad
      | _, _ => reply w 0x41 0

/-- UPDATE (R276). -/
def execUpdate (pkt : Packet) (s : State) : Host.Outcome State Fault Refusal := run (onTurn pkt (recvUpdate pkt)) s

/-- UDONE (R286). -/
def recvUdone (p : Packet) (w : Work) : Work :=
  let w := w.take p
  let a := w.answered p
  let w := w.modArr a (fun x => { x with task := x.task.map (fun t => { t with nonFinite := satAdd 32 t.nonFinite (field p.typeData 32 32) }) })
  if field p.typeData 0 8 = 0 then w else w.taskFault a { status := field p.typeData 0 8 }

/-- UDONE (R286). -/
def execUdone (pkt : Packet) (s : State) : Host.Outcome State Fault Refusal := run (onTurn pkt (recvUdone pkt)) s

/-! ### Reductions rooted at a Hutch (R274) -/

/-- Unit i of a reduction with `n` valid bytes placed at a Hutch root (R274). -/
def Work.placeUnit (w : Work) (dst code i : Nat) (bs : List Byte) : Work :=
  if code = 1 then
    let a := dst + 256 * i
    let (old, w) := w.loadBytes a bs.length false
    w.storeBytes a (bytes32 ((List.range (bs.length / 4)).map (fun j => (fAdd (leAt old (4 * j) 4) (leAt bs (4 * j) 4)).1)))
  else if code = 2 ∨ code = 3 then
    let a := dst + 512 * i
    let (old, w) := w.loadBytes a (2 * bs.length) false
    w.storeBytes a (bytes32 ((List.range (bs.length / 2)).map (fun j => (fAdd (leAt old (4 * j) 4) (leAt bs (2 * j) 2 * 65536)).1)))
  else w.storeBytes (dst + 256 * i) bs

end Sys2Proof.Machine
end

