-- ==== Sys2Proof/Machine/Credits.lean ====
section
/-! DEFINITION. The credit manager, writes into receive windows, writes and reads of memories, completion by count,
check-value units, and what a source does with a lost packet (R210 to R217, R221 to R225, R239, R247 to R250). -/

namespace Sys2Proof.Machine

/-! ### Credit (R211 to R214) -/

/-- A request comes from the source of a packet. -/
def Crq.isFrom (q : Crq) (p : Packet) : Bool :=
  q.req.srcPanel == p.srcPanel && q.req.srcC == p.srcC && q.req.srcR == p.srcR && q.req.srcUnit == p.srcUnit && q.req.srcSub == p.srcSub

/-- CRQ: entered in order of arrival; the 65th waits in its lane; one for more than an open window holds is turned away
(R212, R213, R239). -/
def recvCrq (p : Packet) (w : Work) : Work :=
  let a := w.dstArr p
  let x := w.arr a
  let q : Crq := { req := p, window := p.dstSub % 8, tag := field p.typeData 0 16, units := field p.typeData 16 7 }
  let wd := x.window q.window
  if 64 ≤ (x.crqs.filter (fun q => q.offset.isNone)).length then w
  else if wd.isOpen && !wd.closing && decide (wd.units < q.units) then (w.take p).rejectCrq q 2
  else (w.take p).modArr a (fun x => { x with crqs := x.crqs ++ [q] })

/-- CRQ (R213). -/
def execCrq (pkt : Packet) (s : State) : Host.Outcome State Fault Refusal := run (onTurn pkt (recvCrq pkt)) s

/-- A unit of a window is free: it holds nothing unread, and no grant that stands is still to be written there (R210, R211). -/
def Arr.unitFree (x : Arr) (i u : Nat) : Bool :=
  let wd := x.window i
  !wd.landed.contains u && x.crqs.all (fun q => q.window != i || q.cancelled ||
    match q.offset with
    | some o => (List.range q.units).all (fun j => q.written.contains j || (o + j) % max wd.units 1 != u)
    | none => true)

/-- CREDIT_GRANT: the oldest request for a window, granted whole once its units are free (R211, R213). -/
def creditGrant (a i : Nat) (w : Work) : Work :=
  let x := w.arr a
  let wd := x.window i
  match findAt (fun (q : Crq) => q.window == i && q.offset.isNone) x.crqs 0 with
  | none => w
  | some n =>
    match x.crqs[n]? with
    | none => w
    | some q =>
      if !wd.isOpen || wd.closing then w
      else if wd.units < q.units then (w.rejectCrq q 2).modArr a (fun x => { x with crqs := ldrop x.crqs n })
      else if wd.units < wd.used + q.units ∨
          !(List.range q.units).all (fun j => x.unitFree i ((wd.wr + j) % max wd.units 1)) then w
      else
        let w := w.send { q.req.answer 0x11 with vc := 2, typeData := q.tag + q.units * 2 ^ 16 + wd.wr * 2 ^ 23 }
        w.modArr a (fun x =>
          { x.modWindow i (fun y => { y with used := y.used + q.units, wr := (y.wr + q.units) % max y.units 1 }) with
            crqs := lmod x.crqs n (fun q => { q with offset := some wd.wr }) })

/-- CREDIT_GRANT (R213). -/
def execCreditGrant (a w : Nat) (s : State) : Host.Outcome State Fault Refusal := run (creditGrant a w) s

/-- The request under a tag has an answer still to come, and its deadline tick has passed on the die's counter, while no stop of the
fabric is under way (R214, R258, R383). -/
def Work.creditLate (w : Work) (a e tag : Nat) : Bool :=
  decide (w.fmgr.st < 2) && (w.engine a e).credits.any (fun c => c.tag == tag && w.past (a / 16) (c.sentAt + 100000))

/-- CGR, which counts up to the deadline tick of its request: one target has granted; with the last of a request's targets the units
may be sent, and the next request goes out (R211, R212, R214, R216). -/
def recvCgr (p : Packet) (w : Work) : Work :=
  let w := w.take p
  if p.dstUnit / 16 = 4 then w.streamGrant (p.dstUnit % 16) p
  else
    let a := w.dstArr p
    let e := p.dstSub % 4
    let en := w.engine a e
    let tag := field p.typeData 0 16
    let key := tKey p.srcPanel p.srcC p.srcR p.srcUnit
    if !en.started || !en.credits.any (fun c => c.tag == tag && c.target == key && !c.granted) then w
    else
      if w.creditLate a e tag then w.engineFault a e 0x31 en.desc.dst else
      let cs := en.credits.map (fun c => if c.tag = tag ∧ c.target = key then { c with granted := true } else c)
      if cs.all (·.granted) then
        let g : Grant := { tag := tag, units := field p.typeData 16 7, id := tag + 65536 * e, start := 256 * (en.asked - field p.typeData 16 7) }
        (w.modEngine a e (fun en => { en with credits := [], grants := en.grants ++ [g] })).pump a e
      else w.modEngine a e (fun en => { en with credits := cs })

/-- CGR (R212). -/
def execCgr (pkt : Packet) (s : State) : Host.Outcome State Fault Refusal := run (onTurn pkt (recvCgr pkt)) s

/-- CRJ: the task aborts with 0x33, or with 0x31 where it comes after the deadline tick (R214). -/
def recvCrj (p : Packet) (w : Work) : Work :=
  let w := w.take p
  if p.dstUnit / 16 = 4 then w.streamReject (p.dstUnit % 16) p
  else
    let a := w.dstArr p
    let e := p.dstSub % 4
    let en := w.engine a e
    let tag := field p.typeData 0 16
    if en.started && en.credits.any (fun c => c.tag == tag) then w.engineFault a e (if w.creditLate a e tag then 0x31 else 0x33) en.desc.dst
    else w

/-- CRJ (R214). -/
def execCrj (pkt : Packet) (s : State) : Host.Outcome State Fault Refusal := run (onTurn pkt (recvCrj pkt)) s

/-- CRQ_TIMEOUT: the deadline tick 100 µs after an unanswered request was sent has passed, and no stop of the fabric is under way
(R214, R258). -/
def crqTimeout (a e : Nat) (w : Work) : Work :=
  let en := w.engine a e
  match en.credits.find? (fun c => !c.granted) with
  | some c => if en.started ∧ w.fmgr.st < 2 then (w.reachOn (a / 16) (c.sentAt + 100001)).engineFault a e 0x31 en.desc.dst else w
  | none => w

/-- CRQ_TIMEOUT (R214). -/
def execCrqTimeout (a e : Nat) (s : State) : Host.Outcome State Fault Refusal := run (crqTimeout a e) s

/-! ### Writes into windows (R212, R215, R216, R250) -/

/-- Who has sent a packet, as one number. -/
def senderKey (p : Packet) : Nat := tKey p.srcPanel p.srcC p.srcR p.srcUnit * 256 + p.srcSub

/-- A packet's valid bytes placed at its unit of the grant it belongs to; answers whether the grant is complete (R212, R215). One
of a cancelled grant still lands and is counted; its unit is taken again where nothing else has it (R211, R220; assumption
102). -/
def Work.placeWr (w : Work) (a : Nat) (p : Packet) : Work × Bool :=
  let x := w.arr a
  let i := p.dstSub % 8
  let wd := x.window i
  match findAt (fun (q : Crq) => q.window == i && q.tag == field p.typeData 0 16 && q.offset.isSome && q.isFrom p) x.crqs 0 with
  | none => (w, false)
  | some n =>
    match x.crqs[n]? with
    | none => (w, false)
    | some q =>
      let unit := (q.offset.getD 0 + p.index) % max wd.units 1
      let bs := p.payload.take (field p.typeData 16 9)
      let at_ := wd.base + 256 * unit
      let w := (w.write (w.padAddr a at_) bs).accesses a true 6 (by32 (at_ / 8) ((bs.length + 7) / 8))
      let again := q.cancelled && x.unitFree i unit
      let lands := !q.cancelled || again
      let q := { q with written := q.written ++ [p.index] }
      let full := decide (q.units ≤ q.written.length)
      let from_ := if lands then tput wd.from_ unit (senderKey p, field p.typeData 0 16) else wd.from_
      let w := w.modArr a (fun x =>
        { x.modWindow i (fun y => { y with landed := if lands then y.landed ++ [unit] else y.landed,
                                           from_ := from_, used := y.used + ofBool again }) with
          crqs := if full then ldrop x.crqs n else lmod x.crqs n (fun _ => q) })
      (w.settleWindow a i, full)

/-- A written unit, with DONE once the count is complete (R215). -/
def Work.landWr (w : Work) (a : Nat) (p : Packet) : Work :=
  let (w, full) := w.placeWr a p
  if full then
    let q := { p with dstC := w.colOf (a / 16), dstR := w.rowOf (a / 16) }
    w.send { q.answer 0x15 with vc := 2, typeData := p.total }
  else w

/-- WR (R212). -/
def recvWr (p : Packet) (w : Work) : Work := let w := w.take p; w.landWr (w.dstArr p) p

/-- WR (R212). -/
def execWr (pkt : Packet) (s : State) : Host.Outcome State Fault Refusal := run (onTurn pkt (recvWr pkt)) s

/-- MWR_STEP: in one step the copy for die d is delivered and the packet, at the head of its lane, goes on to the next die of its walk,
when a MCAST slot is free there and the output serves it next (R237, R250). The local slot is always free, since the endpoint takes
its copy at once (R239). A packet whose next link has failed is discarded, its copy here undelivered (R247, R250). -/
def mwrStep (d : Nat) (p : Packet) (w : Work) : Work :=
  let here := if p.mcMode = 1 then p.dstC else p.dstR
  let dir := if p.mcMode = 1 then (if p.dstC < p.mcEnd then 2 else 3) else (if p.dstR < p.mcEnd then 1 else 0)
  let q := { p with dstC := w.colOf (w.beyond d dir), dstR := w.rowOf (w.beyond d dir), vc := 5, lane := 0 }
  let land := fun (w : Work) => (w.pull d p).landWr (arrOf d p.dstUnit) p
  let i := w.inputOf d p
  if w.dstDie p ≠ d ∨ !w.atHead d p then w
  else if here = p.mcEnd then land w
  else if !w.outUsable d dir then (w.pull d p).sayUnreach d p
  else if (w.die d).router.freeSlots dir 5 0 = 0 ∨ !w.mcastTurn d dir i then w
  else ((land w).mcastServed d dir i).sendOut d dir q

/-- MWR_STEP (R250). -/
def execMwrStep (d : Nat) (pkt : Packet) (s : State) : Host.Outcome State Fault Refusal := run (onTurn pkt (mwrStep d pkt)) s

/-- The root named by a member's descriptor is the sender of a packet (R251, R255). -/
def Work.rootSends (w : Work) (d : Desc) (p : Packet) : Bool :=
  if aSpace d.dst = 3 then p.srcUnit / 16 == 0 && w.addrKey d.dst == tKey p.srcPanel p.srcC p.srcR p.srcUnit
  else p.srcUnit / 16 == 4 && aHutch d.dst == p.srcUnit % 16

/-- What a member reports of a reduction that the root has failed: what stops a Hutch root, as it stands (R186, R192, R195, R196),
else 0x32 (R255). -/
def Work.redFault (w : Work) (d : Desc) : Nat :=
  if aSpace d.dst ≤ 1 then
    ((List.range d.units).findSome? (fun i => w.redStatus d.dst d.redOp i (min 256 (d.total - 256 * i)))).getD 0x32
  else 0x32

/-- No answer to a member's last packet has come up to the deadline tick 200 µs after it (R214, R255, R258). -/
def Work.reductionLate (w : Work) (a e : Nat) : Bool :=
  decide (w.fmgr.st < 2) && (w.engine a e).transfers.any (fun t => t.red && w.past (a / 16) (t.launched + 200000))

/-- A reduction of engine e fails: its status with a delivery bitmap of zero (R255). -/
def Work.redFails (w : Work) (a e status : Nat) : Work :=
  (w.modArr a (fun x => { x with task := x.task.map (fun y => { y with delivery := 0 }) })).engineFault a e status (w.engine a e).desc.dst

/-- DONE for a contribution to a reduction, which counts up to the deadline tick: the fault bit aborts (R255). -/
def Work.redDone (w : Work) (a : Nat) (p : Packet) : Work :=
  match (List.range 4).find? (fun e => (w.engine a e).transfers.any (·.red) && w.rootSends (w.engine a e).desc p) with
  | some e =>
    if w.reductionLate a e then w.redFails a e 0x32
    else if bit p.typeData 32 then w.redFails a e (w.redFault (w.engine a e).desc)
    else w.modEngine a e (fun en => { en with transfers := dropFirst (·.red) en.transfers })
  | none => w

/-- The delivery bitmap of a multicast: bit i for the i-th target that has answered (R217). -/
def Transfer.bitmap (t : Transfer) : Nat := ((t.targets.zipIdx.filter (fun e => t.done.contains e.1)).map (fun e => 2 ^ e.2)).sum

/-- A multicast has not been answered by all its targets in time: the bitmap of those that did, and 0x32 (R217). -/
def Work.partialCast (w : Work) (a e : Nat) (t : Transfer) : Work :=
  (w.modArr a (fun x => { x with task := x.task.map (fun y => { y with delivery := t.bitmap }) })).engineFault a e 0x32 (w.engine a e).desc.dst

/-- DONE at a stream engine; for a multicast it counts up to the deadline tick (R215, R217, R467). -/
def Work.engineDone (w : Work) (a : Nat) (p : Packet) : Work :=
  let e := p.dstSub % 4
  let en := w.engine a e
  match en.transfers.find? (fun t => t.id == p.transfer && t.read.isNone && !t.red) with
  | none => w.redDone a p
  | some t =>
    let t' := { t with done := t.done ++ [tKey p.srcPanel p.srcC p.srcR p.srcUnit] }
    let complete := t.targets.all (fun k => t'.done.contains k)
    if en.desc.mcMode ≠ 0 ∧ !t.targets.isEmpty ∧ w.fmgr.st < 2 ∧ w.past (a / 16) (t.launched + 200000) then w.partialCast a e t else
    let w := w.modEngine a e (fun en => { en with
      transfers := if complete then en.transfers.filter (fun x => x.id != t.id) else en.transfers.map (fun x => if x.id = t.id then t' else x) })
    if bit p.typeData 32 then
      w.engineFault a e ((if w.isRemote t.address then none else w.writeStatus t.address 1).getD 0x25) t.address
    else w.pump a e

/-- DONE (R215): at an engine, or at a Hutch for a weight stream, a broadcast chunk or a mirror copy; a region that the twin
could not store fails the copy (R195; assumption 104). -/
def recvDone (p : Packet) (w : Work) : Work :=
  let w := w.take p
  if p.dstUnit / 16 = 4 then
    if p.dstSub = 1 then w.confirm (p.dstUnit % 16) p.transfer (4096 + p.srcPanel) (bit p.typeData 32)
    else if p.dstSub = 2 then
      if bit p.typeData 32 then w.setReg 0x7800 0x0F (0x25 + p.transfer % 256 * 256)
      else { w with hinge := { w.hinge with copyLeft := w.hinge.copyLeft - 1 } }
    else w.streamDone (p.dstUnit % 16) p
  else if p.dstUnit / 16 = 0 then w.engineDone (w.dstArr p) p
  else w

/-- DONE (R215). -/
def execDone (pkt : Packet) (s : State) : Host.Outcome State Fault Refusal := run (onTurn pkt (recvDone pkt)) s

/-- A granted request cancelled: its units not yet written are free, the newest grant's to be granted next, and the bytes of its
units are undefined, but for those that have been read and freed, which may hold another sender's (R211, R220; assumption 102). -/
def Work.cancelGrant (w : Work) (a : Nat) (q : Crq) : Work :=
  let o := q.offset.getD 0
  let wd := (w.arr a).window q.window
  let w := ((List.range q.units).filter (fun j => !q.freed.contains j)).foldl (fun w j => w.forget (w.padAddr a (wd.base + 256 * ((o + j) % max wd.units 1))) 256) w
  w.modArr a (·.modWindow q.window (fun y =>
    { y with used := y.used - (q.units - q.written.length),
             wr := if q.written.isEmpty && (o + q.units) % max y.units 1 == y.wr then o else y.wr }))

/-- CCAN: requests go, and granted units not yet written are free; packets already launched still land (R211, R220). -/
def recvCcan (p : Packet) (w : Work) : Work :=
  let w := w.take p
  let a := w.dstArr p
  let mine := fun (q : Crq) => q.isFrom p && (bit p.typeData 16 || q.tag == field p.typeData 0 16)
  let granted := (w.arr a).crqs.filter (fun q => mine q && q.offset.isSome && !q.cancelled)
  let w := w.modArr a (fun x => { x with crqs := (x.crqs.filter (fun q => !mine q || q.offset.isSome)).map (fun q =>
    if mine q then { q with cancelled := true } else q) })
  let w := granted.foldl (fun w q => w.cancelGrant a q) w
  (List.range 8).foldl (fun w i => w.settleWindow a i) w

/-- CCAN (R211). -/
def execCcan (pkt : Packet) (s : State) : Host.Outcome State Fault Refusal := run (onTurn pkt (recvCcan pkt)) s

/-- MULTICAST_TIMEOUT: the deadline tick 200 µs after the launch of a multicast's final packet has passed, and no stop of the fabric
is under way (R214, R217, R258). -/
def multicastTimeout (a e : Nat) (w : Work) : Work :=
  let en := w.engine a e
  match en.transfers.find? (fun t => !t.targets.isEmpty) with
  | some t =>
    if en.started ∧ en.desc.mcMode ≠ 0 ∧ w.fmgr.st < 2 then
      (w.reachOn (a / 16) (t.launched + 200001)).partialCast a e t
    else w
  | none => w

/-- MULTICAST_TIMEOUT (R217). -/
def execMulticastTimeout (a e : Nat) (s : State) : Host.Outcome State Fault Refusal := run (multicastTimeout a e) s

/-! ### Writes and reads of memories (R194 to R196, R212, R234, R248) -/

/-- One more packet of a transfer counted: the counts, and the fault bit when the transfer is complete (R248). -/
def countRx (rx : List RxCount) (p : Packet) (bad : Bool) : List RxCount × Option Bool :=
  let src := (p.srcC * 16 + p.srcR) * 256 + p.srcUnit
  let same := fun (r : RxCount) => r.panel == p.srcPanel && r.src == src && r.sub == p.srcSub && r.id == p.transfer
  let r := (rx.find? same).getD ⟨p.srcPanel, src, p.srcSub, p.transfer, 0, false⟩
  let r := { r with count := r.count + 1, fault := r.fault || bad }
  let rest := rx.filter (fun x => !same x)
  if p.total ≤ r.count then (rest, some r.fault) else (rest ++ [r], none)

/-- AWR: the valid bytes are stored, or dropped with a fault; DONE answers the last packet (R179, R195, R234). -/
def recvAwr (p : Packet) (w : Work) : Work :=
  let w := w.take p
  let a := w.localAddr p.address
  let n := field p.typeData 0 9
  let bad := (w.writeStatus a n).isSome || 2 < aSpace a
  let bs := p.payload.take n
  let w := if bad then w else w.storeBytes a bs
  let w := if !bad && p.srcPanel == w.panelId && aSpace a == 0 then w.dieUpdate (w.srcDie p) a bs else w
  let (told, w) := if p.dstUnit / 16 = 1 then
      let (rx, o) := countRx (w.die (w.dstDie p)).rx p bad
      (o, w.modDie (w.dstDie p) (fun d => { d with rx := rx }))
    else
      let (rx, o) := countRx (w.hutch (p.dstUnit % 16)).rx p bad
      (o, w.modHutch (p.dstUnit % 16) (fun h => { h with rx := rx }))
  match told with
  | some f => w.send { p.answer 0x15 with vc := 2, typeData := p.total + ofBool f * 2 ^ 32 }
  | none => w

/-- AWR (R234). -/
def execAwr (pkt : Packet) (s : State) : Host.Outcome State Fault Refusal := run (onTurn pkt (recvAwr pkt)) s

/-- A unit of a read is returned with poison indicated (R194, R195, R268). -/
def Work.readPoison (w : Work) (p : Packet) (a n : Nat) : Bool :=
  (w.readStatus a n).isSome || (p.srcPanel != w.panelId && w.isProtected a n)

/-- RDREQ: one RDDATA for every 256 bytes; a scratchpad serves it through its main port (R168, R179, R234, R248). -/
def recvRdreq (p : Packet) (w : Work) : Work :=
  let w := w.take p
  let a := w.localAddr p.address
  let n := field p.typeData 0 15
  let noAlloc := bit p.typeData 15
  let d := w.dstDie p
  let total := (n + 255) / 256
  let adaptive := bit p.typeData 16 && w.eff 0x4000 7 == 1 && p.srcPanel == w.panelId && bit (w.route d (w.srcDie p)) 10
  let w := if aSpace a = 3 ∧ !w.readPoison p a n then w.accesses (w.addrArr a) false 6 (by32 (wordAt a) (n / 8)) else w
  (List.range total).foldl (fun w i =>
    let m := min 256 (n - 256 * i)
    let poison := w.readPoison p (a + 256 * i) m
    let (bs, w) := if poison then (List.replicate m 0, w)
      else if p.dstUnit / 16 = 1 ∧ aSpace a = 0 then w.readDie d (a + 256 * i) m noAlloc
      else w.loadBytes (a + 256 * i) m noAlloc
    w.send { p.answer 0x19 with
      vc := if adaptive then 3 else 4, adaptive := adaptive, total := total, index := i, last := i + 1 == total, poison := poison,
      payload := flits bs }) w

/-- RDREQ (R234). -/
def execRdreq (pkt : Packet) (s : State) : Host.Outcome State Fault Refusal := run (onTurn pkt (recvRdreq pkt)) s

/-- RDDATA: the unit lands in the descriptor's destination or staging slot; the read is complete with its last unit
(R206, R248). One that comes back poisoned ends the task with what the memory's state says of it: 0x20 to 0x22, 0x24 or 0x25, and of
another panel's 0x22 (R186, R194 to R196). -/
def recvRddata (p : Packet) (w : Work) : Work :=
  let w := w.take p
  let a := w.dstArr p
  let e := p.dstSub % 4
  let en := w.engine a e
  match en.transfers.find? (fun t => t.id == p.transfer && t.read.isSome) with
  | some t =>
    match t.read with
    | some (n, units) =>
      if (w.arr a).faulted ∨ units.contains p.index then w
      else if p.poison then
        let x := t.address + 256 * p.index
        let why := if w.isRemote x then none else w.readStatus x (min 256 (n - 256 * p.index))
        w.faultAt a e (why.getD 0x22) x (t.start + 256 * p.index)
      else
        let m := min 256 (n - 256 * p.index)
        let k := t.start + 256 * p.index
        let place := fun (j : Nat) => if en.desc.op = 5 then en.desc.feedAt (k + 8 * j) else en.desc.dstAt (k + 8 * j)
        let w := (List.range (m / 8)).foldl (fun w j => w.write (place j) (slice p.payload (8 * j) 8)) w
        let w := (w.accesses a true e (by32s ((List.range (m / 8)).map (fun j => wordAt (place j))))).feedLanded a e k (p.payload.take m)
        let units := units ++ [p.index]
        let complete := decide ((n + 255) / 256 ≤ units.length)
        (w.modEngine a e (fun en => { en with
          transfers := if complete then en.transfers.filter (fun x => x.id != t.id)
            else en.transfers.map (fun x => if x.id = t.id then { x with read := some (n, units) } else x) })).pump a e
    | none => w
  | none => w

/-- RDDATA (R248). -/
def execRddata (pkt : Packet) (s : State) : Host.Outcome State Fault Refusal := run (onTurn pkt (recvRddata pkt)) s

/-! ### Check-value units by dictionary (R221, R223, R225) -/

/-- The feeder of a check-value unit is active (R225). -/
def Work.feeding (w : Work) (u : Nat) : Bool :=
  if u < 384 then (w.check u).active
  else if u < 400 then
    let h := w.hutch (u - 384)
    let f := ((w.blob 0x7000 6).getD (u - 384) 0).toNat
    if f = 1 ∨ f = 2 then !h.chunks.isEmpty else if f = 4 then !h.wrun.isEmpty else f == 5 && w.hinge.copying.isSome
  else if u < 416 then w.reg (0x4800 + (u - 400)) 0x0E == 1 && !(w.port (u - 400)).egress.isEmpty
  else false

/-- The object that names the feeder of a unit (R225). -/
def feederName (u : Nat) : Nat :=
  if u < 384 then nameOf 0x5800 3 else if u < 400 then nameOf 0x7000 6 else if u < 416 then nameOf (0x4800 + (u - 400)) 0x0E
  else nameOf 0x1200 0x10

/-- CHECK_UNIT_LOAD (R225). -/
def checkUnitLoad (data : List Byte) (w : Work) : Work :=
  let u := leAt data 0 2
  if data.length ≠ 34 then w.refuse 0x72
  else if 417 ≤ u ∨ 3 < leAt data 2 1 then w.refuse 0x73
  else if w.feeding u then w.refuse 0x7D (feederName u)
  else (w.loadCheck u (data.drop 2)).accept

/-- CHECK_UNIT_LOAD (R225). -/
def execCheckUnitLoad (data : List Byte) (s : State) : Host.Outcome State Fault Refusal := run (checkUnitLoad data) s

/-- CHECK_UNIT_RESET (R223). -/
def checkUnitReset (u : Nat) (w : Work) : Work :=
  if 417 ≤ u then w.refuse 0x73
  else if w.feeding u then w.refuse 0x7D (feederName u)
  else (w.modCheck u (fun c => { c with running := crcInit c.poly, bytes := 0 })).accept

/-- CHECK_UNIT_RESET (R223). -/
def execCheckUnitReset (unit : Nat) (s : State) : Host.Outcome State Fault Refusal := run (checkUnitReset unit) s

/-! ### A lost packet (R215, R247) -/

/-- A Sideboard message lost on its way to another panel: an arrival at a global barrier's master 0x65, an attach or a
Configure that waits for the twin 0x61 (R331, R334, R338). -/
def Work.boardUnreach (w : Work) (type : Nat) : Work :=
  if type = 0x53 then w.event 1 0x65 0 0 0
  else if type = 0x57 ∧ w.hinge.st = 1 then
    (({ w with hinge := { w.hinge with st := 0, attachWritten := false, attachSeen := false } } : Work).setReg 0x4900 1 0).setReg 0x4900 9 0x61
  else if type = 0x59 ∧ w.job.mirrorWaits then (w.modJob (fun j => { j with mirrorWaits := false })).setReg 0x2400 9 0x61
  else w

/-- UNREACH at an array: its engine's transfers abort with 0x35, those to a Hutch that is not reached with 0x24 (R186), and so does a task whose data for a read of its scratchpad is
lost; channels abort with 0x10, and an array that was opening them for no task is HELD with it (DESIGN CHOICE, assumption 124);
multicasts and reductions wait for their timers (R159, R215, R217, R247, R255). -/
def Work.arrayUnreach (w : Work) (p : Packet) : Work :=
  let type := field p.typeData 0 8
  let a := w.dstArr p
  let e := p.dstSub % 4
  let en := w.engine a e
  if type = 0x10 ∨ type = 0x13 ∨ type = 0x17 ∨ type = 0x18 then
    let lost := fun (x : Nat) => decide (aSpace x ≤ 1) && !w.hutchReached (aHutch x)
    if en.started && en.transfers.any (fun t => t.id == p.transfer && lost t.address) then w.engineFault a e 0x24 en.desc.dst
    else if en.started && (type == 0x10 || en.transfers.any (fun t => t.id == p.transfer) || en.grants.any (fun g => g.id == p.transfer)) then
      w.engineFault a e 0x35 en.desc.dst
    else w
  else if type = 0x19 then (if (w.arr a).task.isSome then w.taskFault a { status := 0x35 } else w)
  else if 1 ≤ type ∧ type ≤ 7 then
    if (w.arr a).st = .opening then w.hold a 0x10
    else if (w.arr a).task.isSome then w.taskFault a { status := 0x10 } else w
  else w

/-- UNREACH at a Hutch: a weight stream whose request or data is lost ends with 0x35, a broadcast chunk fails at the panel it
was for, and a lost unit of a mirror copy gives the region the status of the copy, which stays held (R247, R270, R273, R335;
assumption 104). -/
def Work.hutchUnreach (w : Work) (p : Packet) : Work :=
  let type := field p.typeData 0 8
  let b := p.dstUnit % 16
  let hit := fun (x : WStream) => (w.streamTargets b x).any (fun t => t.1 / 256 % 32 == field p.typeData 8 8 && t.1 / 16 % 16 == field p.typeData 16 8)
  if type = 0x10 ∨ type = 0x13 then
    match (w.hutch b).wrun.find? (fun x => x.units != 0 && (x.launched == (type == 0x13)) && hit x) with
    | some x => (w.cancelStreamOf b x).endStreamOf b x 0x35 0
    | none => w
  else if type = 0x17 ∧ p.dstSub = 1 then
    match (w.hutch b).chunks.find? (fun c => c.chunk == p.transfer && c.sent) with
    | some c => w.confirm b c.chunk (c.peers.headD 0) true
    | none => w
  else if type = 0x17 ∧ p.dstSub = 2 then w.setReg 0x7800 0x0F (0x35 + p.transfer % 256 * 256)
  else w

/-- UNREACH at the source of a lost packet (R247); a task unit whose request to a Hutch is lost aborts the task that made it with 0x24
(R186). -/
def recvUnreach (p : Packet) (w : Work) : Work :=
  let w := w.take p
  let type := field p.typeData 0 8
  if p.dstUnit / 16 = 0 then w.arrayUnreach p
  else if p.dstUnit / 16 = 4 then w.hutchUnreach p
  else if p.dstUnit / 16 = 7 then w.boardUnreach type
  else if p.dstUnit / 16 = 2 ∧ (type = 0x40 ∨ type = 0x42) ∧ (w.arr (w.answered p)).task.isSome then
    w.taskFault (w.answered p) { status := 0x24 }
  else w

end Sys2Proof.Machine
end

