-- ==== Sys2Proof/Machine/Reduction.lean ====
section
/-! DEFINITION. Reductions in the routers: contexts, the combining of contributions, and the placing of results at the
root (R251 to R255). -/

namespace Sys2Proof.Machine

/-! ### Arithmetic (R253) -/

/-- One BF16 add rounded stochastically: bits, flags, and the generator after it (R70, R253). -/
def addBfSr (g : BitVec 32) (a b : Nat) : Nat × Nat × BitVec 32 :=
  let x := decodeNum bf16 a
  let y := decodeNum bf16 b
  let needed := match x, y with
    | .fin n m e, .fin n' m' e' => let (_, k, ex) := exactSum [(n, m, e), (n', m', e')]; inexact bf16 k ex
    | _, _ => false
  let (mode, g') := drawRound true g needed
  let (r, f) := addNum bf16 mode x y
  (r, f, g')

/-- The elements of two units combined under a reduction code: bytes, flags, and the generator after them (R253). -/
def combineUnits (code : Nat) (g : BitVec 32) (xs ys : List Byte) : List Byte × Nat × BitVec 32 :=
  let width := if code = 2 ∨ code = 3 then 2 else 4
  (List.range (xs.length / width)).foldl (fun (acc : List Byte × Nat × BitVec 32) i =>
    let x := leAt xs (width * i) width
    let y := leAt ys (width * i) width
    let (r, f, g) :=
      if code = 1 then let (r, f) := fAdd x y; (r, f, acc.2.2)
      else if code = 2 then let (r, f) := addNum bf16 .rne (decodeNum bf16 x) (decodeNum bf16 y); (r, f, acc.2.2)
      else if code = 3 then addBfSr acc.2.2 x y
      else if code = 4 then let (r, f) := fMax x y; (r, f, acc.2.2)
      else let (r, f) := fMin x y; (r, f, acc.2.2)
    (acc.1 ++ toBytes r width, acc.2.1 ||| f, g)) ([], 0, g)

/-- The generator of router d, seeded at job start (R253). -/
def Work.routerSr (w : Work) (d : Nat) : BitVec 32 :=
  let g := (w.die d).router.sr
  if g = 0 then srSeed (w.eff 0x2400 3 ^^^ 0x5245445543450000) w.panelId d 0 0 else g

/-! ### Groups (R251) -/

/-- One number for the group of a RED packet: its root, mode, head and, at a Hutch root, row and address. -/
def redGroup (p : Packet) : Nat :=
  let root := tKey p.dstPanel (if p.dstUnit / 16 = 4 then 0 else p.dstC) (if p.dstUnit / 16 = 4 then p.srcR else p.dstR) (p.dstUnit % 16)
  (((root * 256 + p.dstSub) * 4 + p.mcMode) * 256 + p.mcEnd) * 2 ^ 64 + p.address

/-- Where a unit lies within the head's grant: units come in order, so it follows those placed (R211, R252). -/
def Work.redUnit (w : Work) (a : Nat) (p : Packet) : Nat :=
  match (w.arr a).crqs.find? (fun q => q.window == p.dstSub % 8 && q.tag == field p.typeData 0 16 && q.offset.isSome && q.isFrom p) with
  | some q => q.written.length
  | none => 0

/-- The root has counted a unit of a group: the fault bit of the DONE that it sends now, if any. The first unit that is faulty is
answered with the fault at once, and nothing more after it; else the last is (R255). -/
def redAnswer (rx : List RxCount) (p : Packet) (bad : Bool) : List RxCount × Option Bool :=
  let src := (p.srcC * 16 + p.srcR) * 256 + p.srcUnit
  let before := rx.any (fun r => r.panel == p.srcPanel && r.src == src && r.sub == p.srcSub && r.id == p.transfer && r.fault)
  let (rx, told) := countRx rx p bad
  (rx, if before then none else if bad then some true else told)

/-- A unit that has come through the whole chain is placed by the root; the last answers every member (R252, R255). -/
def Work.placeRed (w : Work) (p : Packet) : Work :=
  let dies := w.redDies p
  let n := dies.length
  let valid := p.payload.take (field p.typeData 16 9)
  let bad := p.contribs != n
  let done := fun (w : Work) (fault : Bool) =>
    dies.foldl (fun w d => w.send
      { p.answer 0x15 with
        vc := 2, dstC := w.colOf d, dstR := w.rowOf d, dstUnit := p.srcUnit % 16, typeData := p.total + ofBool fault * 2 ^ 32 }) w
  if p.dstUnit / 16 = 4 then
    let b := p.dstUnit % 16
    let a := w.localAddr p.address
    let stop := (w.redStatus a p.redCode p.index valid.length).isSome
    let w := if bad || stop then w else w.placeUnit a p.redCode p.index valid
    let (rx, told) := redAnswer (w.hutch b).rx p (bad || stop)
    let w := w.modHutch b (fun h => { h with rx := rx })
    match told with | some f => done w f | none => w
  else
    let a := w.dstArr p
    let w := (w.placeWr a { p with index := w.redUnit a p }).1
    let flags := ofBool p.redInv * fINV + ofBool p.redOvf * fOVF
    let (rx, told) := redAnswer (w.arr a).rx p bad
    let w := w.modArr a (fun x => { x with rx := rx, task := x.task.map (fun t => { t with redFlags := t.redFlags ||| flags }) })
    match told with | some f => done w f | none => w

/-! ### At a router (R252, R254) -/

/-- A packet enters its context's input at router d: the context is claimed where none is held and one is free. -/
def Router.enter (x : Router) (p : Packet) (isLocal : Bool) : Option Router :=
  let add := fun (c : RedCtx) => if isLocal then { c with local_ := c.local_ ++ [p] } else { c with upstream := c.upstream ++ [p] }
  match findAt (fun (c : RedCtx) => c.root == redGroup p) x.reds 0 with
  | some i =>
    match x.reds[i]? with
    | some c => if (if isLocal then c.local_ else c.upstream).length < 2 then some { x with reds := lmod x.reds i add } else none
    | none => none
  | none =>
    if x.reds.length < 8 then some { x with reds := x.reds ++ [add ⟨p.dstPanel, redGroup p, 0, [], []⟩] } else none

/-- RED arrives at the router of a die of its chain and takes its place in the context of its group. A packet that finds no
room waits in its lane, at whose head it holds back those behind it (R252, R254). -/
def recvRed (d : Nat) (p : Packet) (w : Work) : Work :=
  if !(w.redDies p).contains d ∨ !w.atHead d p then w
  else
    match (w.pull d p |>.die d).router.enter p (w.srcDie p == d && p.contribs == 1) with
    | some x => (w.pull d p).modRouter d (fun r => { r with reds := x.reds })
    | none => if w.srcDie p = d then w.waitLocal d p else w

/-- RED (R252). -/
def execRed (d : Nat) (pkt : Packet) (s : State) : Host.Outcome State Fault Refusal := run (onTurn pkt (recvRed d pkt)) s

/-- Two packets of one unit combined: the upstream header, contributions summed and flags ORed. Unequal TotalPackets or
ReduceOp is a fault, which the root sees as contributions other than n (R252, R255; assumption 30). -/
def Work.combine (w : Work) (d : Nat) (up loc : Packet) : Packet × Work :=
  let n := field up.typeData 16 9
  let (bs, f, g) := combineUnits up.redCode (w.routerSr d) (up.payload.take n) (loc.payload.take n)
  let bad := up.total != loc.total || up.redCode != loc.redCode
  ({ up with payload := flits bs, contribs := if bad then 0 else up.contribs + loc.contribs,
             redInv := up.redInv || loc.redInv || bit f 0, redOvf := up.redOvf || loc.redOvf || bit f 2 },
   if up.redCode = 3 then w.modRouter d (fun x => { x with sr := g }) else w)

/-- What context n of router d can send on: at the head its own packet, elsewhere the packets of one unit from both inputs
combined; with what stays in the context (R252). -/
def Work.redNext (w : Work) (d : Nat) (c : RedCtx) : Option (Packet × RedCtx × Work) :=
  match c.upstream, c.local_ with
  | [], loc :: locs => if (w.redDies loc).headD 0 = d then some (loc, { c with local_ := locs }, w) else none
  | up :: ups, loc :: locs =>
    if up.index = loc.index then
      let (p, w) := w.combine d up loc
      some (p, { c with upstream := ups, local_ := locs }, w)
    else none
  | _, _ => none

/-- RED_COMBINE: context n of router d forwards its next unit toward the root, where a MCAST slot is free downstream and the output serves it next,
or places it at the end of the chain; with its last packet it is free again (R236, R237, R252, R254). The unit counts as one of the
input that it came in on, at the head the local one. -/
def redCombine (d n : Nat) (w : Work) : Work :=
  match (w.die d).router.reds[n]? with
  | none => w
  | some c =>
    match w.redNext d c with
    | none => w
    | some (p, c, w') =>
      let dies := w.redDies p
      let at_ := (findAt (· == d) dies 0).getD 0
      let e := dies.getD (at_ + 1) d
      let dir := w.dimOut d (w.colOf e) (w.rowOf e)
      let before := dies.getD (at_ - 1) d
      let i := if at_ = 0 then 4 else w.dimOut d (w.colOf before) (w.rowOf before)
      let gone := p.index + 1 == p.total && c.upstream.isEmpty && c.local_.isEmpty
      let sent := w'.modRouter d (fun x => { x with reds := if gone then ldrop x.reds n else lmod x.reds n (fun _ => c) })
      if at_ + 1 = dies.length then sent.placeRed p
      else if !w.outUsable d dir then sent.sayUnreach d p
      else if (w.die d).router.freeSlots dir 5 0 = 0 ∨ !w.mcastTurn d dir i then w
      else (sent.mcastServed d dir i).sendOut d dir { p with vc := 5, lane := 0 }

/-- RED_COMBINE (R252). -/
def execRedCombine (d n : Nat) (s : State) : Host.Outcome State Fault Refusal := run (redCombine d n) s

/-- REDUCE_DONE_TIMEOUT: the deadline tick 200 µs after a member's final packet has passed, and no stop of the fabric is under way
(R214, R255, R258). -/
def reduceDoneTimeout (a e : Nat) (w : Work) : Work :=
  let en := w.engine a e
  match en.transfers.find? (·.red) with
  | some t =>
    if 2 ≤ w.fmgr.st then w else
    (w.reachOn (a / 16) (t.launched + 200001)).redFails a e 0x32
  | none => w

/-- REDUCE_DONE_TIMEOUT (R255). -/
def execReduceDoneTimeout (a e : Nat) (s : State) : Host.Outcome State Fault Refusal := run (reduceDoneTimeout a e) s

end Sys2Proof.Machine
end

