-- ==== Sys2Proof/Machine/Tracker.lean ====
section
/-! DEFINITION. Adapter slots and the stream tracker: loads, admission, retirement, batches and their results (R278 to
R283). -/

namespace Sys2Proof.Machine

/-! ### Tables in the scratch of Hutch W0 (R278, R280) -/

/-- Where the tracker's table and the adapter slot table stand (0x7200.0E, 0x7100.03); 0 when not reserved. -/
def Work.streamTable (w : Work) : Nat := match w.reservedAt 0 1 0 with | some o => scratchAddr 0 o | none => 0
def Work.slotTable (w : Work) : Nat := match w.reservedAt 0 2 0 with | some o => scratchAddr 0 o | none => 0

/-- The 64 bytes of an adapter slot (R278). -/
def Adapter.bytes (x : Adapter) : List Byte :=
  toBytes x.st 1 ++ toBytes x.set 1 ++ toBytes x.rank 2 ++ toBytes x.baseGen 2 ++ toBytes x.layerCount 2 ++ toBytes x.pins 4 ++
    toBytes x.scale 4 ++ toBytes x.table 8 ++ toBytes x.scratch 8 ++ List.replicate 32 0

/-- An adapter slot changed, in its table as well. -/
def Work.putAdapter (w : Work) (i : Nat) (x : Adapter) : Work :=
  let w : Work := { w with adapters := if x.st = 0 then tdel w.adapters i else tput w.adapters i x }
  if w.slotTable = 0 then w else w.write (w.slotTable + 64 * i) x.bytes

/-- State code of a stream (R280). -/
def StreamSt.code : StreamSt → Nat
  | .free => 0 | .waiting => 1 | .ready => 2 | .running => 3 | .done => 4 | .error => 5

/-- The 64 bytes of a stream entry (R280). -/
def Stream.bytes (x : Stream) : List Byte :=
  toBytes x.st.code 1 ++ toBytes x.priority 1 ++ toBytes x.set 1 ++ toBytes x.flags 1 ++ toBytes x.generation 2 ++ toBytes x.error 1 ++
    [0] ++ toBytes x.adapter 2 ++ toBytes x.stepTokens 2 ++ toBytes x.seqPos 4 ++ toBytes x.seqLimit 4 ++ toBytes x.handle 4 ++
    toBytes x.kvList 8 ++ toBytes x.deadline 8 ++ toBytes x.admitted 8 ++ toBytes x.ioArea 8 ++ toBytes x.lastBatch 4 ++ [0, 0, 0, 0]

/-- A stream entry changed, in its table as well; entering DONE or ERROR raises source 10 (R350). -/
def Work.putStream (w : Work) (i : Nat) (x : Stream) : Work :=
  let ends := (x.st == .done || x.st == .error) && (w.stream i).st != x.st
  let w : Work := { w with streams := if x.st = .free then tdel w.streams i else tput w.streams i x }
  let w := if w.streamTable = 0 then w else w.write (w.streamTable + 64 * i) x.bytes
  if ends then w.interrupt 10 else w

/-! ### Adapters (R278, R279) -/

/-- An entry of an adapter layer table: layer, format, bytes, source. -/
structure AEntry where
  layer : Nat
  format : Nat
  bytes : Nat
  source : Nat
  placed : Nat
  deriving DecidableEq, Repr

/-- Entry j of the layer table at an address. -/
def Work.aEntry (w : Work) (table j : Nat) : AEntry :=
  let r := w.read (table + 32 * j) 32
  ⟨leAt r 0 4, leAt r 4 1, leAt r 8 8, leAt r 0x10 8, leAt r 0x18 8⟩

/-- Status of the last adapter command (0x7100.06). -/
def Work.tellAdapter (w : Work) (status : Nat) : Work := (w.setReg 0x7100 6 status).accept

/-- Scratch given up by an adapter slot. -/
def Work.dropAdapter (w : Work) (i : Nat) : Work :=
  let w := (List.range 16).foldl (fun w b => w.unreserve b 3 i) w
  let w := w.putAdapter i {}
  if w.adapters.isEmpty && w.reg 0x7200 1 == 0 then w.unreserve 0 2 0 else w

/-- Scratch reserved for each entry of an adapter in its layer's Hutch: the Hutches and offsets, or the bay that is
short (R279). -/
def Work.reserveAdapter (w : Work) (i : Nat) (ls : List Layer) : List AEntry → Nat ⊕ Work
  | [] => .inr w
  | e :: es =>
    let b := match ls[e.layer]? with | some l => l.hutch | none => 0
    match w.reserve b 3 i ((e.bytes + 255) / 256 * 256) with
    | some (_, w') => w'.reserveAdapter i ls es
    | none => .inl b

/-- ADAPTER_LOAD (R279). -/
def adapterLoad (data : List Byte) (w : Work) : Work :=
  let i := leAt data 0 2
  let r := data.drop 2
  let s := leAt r 1 1
  let n := leAt r 6 2
  let table := leAt r 0x10 8
  let x := w.wset s
  let es := (List.range n).map (w.aEntry table)
  let entryOk := fun (e : AEntry) => match x.layers[e.layer]? with
    | some l => l.adaptable && (e.format == 1 || e.format == 5 || e.format == 6) && aSpace e.source == 0 && aHutch e.source == l.hutch &&
        !w.invalid e.source && !w.invalid (e.source + e.bytes - 1)
    | none => false
  if data.length ≠ 66 then w.refuse 0x72
  else if w.reg 0x7100 6 % 256 = 0xFF then w.refuse 0x76
  else if leAt r 0 1 ≠ 0 ∨ leAt r 8 4 ≠ 0 ∨ !allZero (slice r 0x20 32) then w.refuse 0x73
  else if (w.adapter i).st ≠ 0 ∨ 64 ≤ s ∨ !x.usable ∨ leAt r 2 2 = 0 ∨ 256 < leAt r 2 2 then w.tellAdapter 0x4A
  else if aSpace table ≠ 0 ∨ (w.readStatus table (32 * n)).isSome then w.tellAdapter 0x4A
  else if !es.all entryOk then w.tellAdapter 0x4A
  else
    let w0 := if w.slotTable = 0 then (w.reserve 0 2 0 (4 * 2 ^ 20)).map (·.2) else some w
    match w0 with
    | none => w.tellAdapter 0x48
    | some w0 =>
      match w0.reserveAdapter i x.layers es with
      | .inl b => w.tellAdapter (0x48 + b * 2 ^ 8)
      | .inr w =>
        let a : Adapter := { st := 1, set := s, rank := leAt r 2 2, baseGen := leAt r 4 2, layerCount := n, scale := leAt r 0xC 4,
                             table := table, scratch := (es.map (fun e => (e.bytes + 255) / 256 * 256)).sum }
        (w.putAdapter i a).tellAdapter 0xFF

/-- ADAPTER_LOAD (R279). -/
def execAdapterLoad (data : List Byte) (s : State) : Host.Outcome State Fault Refusal := run (adapterLoad data) s

/-- ADAPTER_LOAD_COMPLETE: the copies are made, Placed is written, and the slot is ready (R278, R279). -/
def adapterLoadComplete (i : Nat) (w : Work) : Work :=
  let x := w.adapter i
  if x.st ≠ 1 then w
  else
    let ls := (w.wset x.set).layers
    let es := (List.range x.layerCount).map (fun j => (j, w.aEntry x.table j))
    match es.findSome? (fun e => w.readStatus e.2.source e.2.bytes) with
    | some st => (w.dropAdapter i).setReg 0x7100 6 st
    | none =>
      -- the reservations of the slot, Hutch by Hutch, in the order of its entries
      let step := fun (acc : Work × List (Nat × Reserve)) (e : Nat × AEntry) =>
        let b := match ls[e.2.layer]? with | some l => l.hutch | none => 0
        match acc.2.find? (fun r => r.1 == b) with
        | some r =>
          let (bs, w) := acc.1.loadBytes e.2.source e.2.bytes false
          let at_ := scratchAddr b r.2.offset
          (((w.storeBytes at_ bs).storeBytes (x.table + 32 * e.1 + 0x18) (toBytes at_ 8)), acc.2.erase r)
        | none => acc
      let rs := (List.range 16).flatMap (fun b =>
        ((w.hutch b).reserves.filter (fun r => r.feature == 3 && r.who == i)).map (fun r => (b, r)))
      let (w, _) := es.foldl step (w, rs)
      (w.putAdapter i { x with st := 2 }).setReg 0x7100 6 0

/-- ADAPTER_LOAD_COMPLETE (R279). -/
def execAdapterLoadComplete (slot : Nat) (s : State) : Host.Outcome State Fault Refusal := run (adapterLoadComplete slot) s

/-- RELEASE (R279). -/
def release (i : Nat) (w : Work) : Work :=
  let x := w.adapter i
  if x.st ≠ 2 ∨ x.pins ≠ 0 then w.tellAdapter 0x4A else (w.dropAdapter i).tellAdapter 0

/-- RELEASE (R279). -/
def execRelease (slot : Nat) (s : State) : Host.Outcome State Fault Refusal := run (release slot) s

/-! ### Enable, admission, retirement (R280, R281) -/

/-- The tracker runs: enabled, with Hutch W0 reached (R280). -/
def Work.tracking (w : Work) : Bool := w.reg 0x7200 1 == 1 && w.hutchReached 0

/-- The pins of a stream released (R270, R279, R281). -/
def Work.unpinStream (w : Work) (x : Stream) : Work :=
  if !x.pinned then w
  else
    let w := w.modSet x.set (·.modGen x.genSlot Gen.unpin)
    if bit x.flags 0 then
      let a := w.adapter x.adapter
      w.putAdapter x.adapter { a with pins := a.pins - 1 }
    else w

/-- A stream retired: its pins go and its entry is FREE (R281). -/
def Work.freeStream (w : Work) (i : Nat) : Work := (w.unpinStream (w.stream i)).putStream i {}

/-- The job's state allows a change of its bindings: IDLE, CONFIGURED or RETAINED (R301). -/
def JobSt.mayBind : JobSt → Bool
  | .idle | .configured | .retained => true
  | _ => false

/-- TRACKER_ENABLE: the tables are reserved, or given up with every stream (R280). -/
def trackerEnable (on : Bool) (w : Work) : Work :=
  if !w.job.st.mayBind then w.refuseJob
  else if on == (w.reg 0x7200 1 == 1) then w.accept
  else if on then
    let w1 := if w.slotTable = 0 then (w.reserve 0 2 0 (4 * 2 ^ 20)).map (·.2) else some w
    match w1.bind (fun w => (w.reserve 0 1 0 (16 * 2 ^ 20)).map (·.2)) with
    | some w => { w.setReg 0x7200 1 1 with nextBatch := 1, batches := [] }.accept
    | none => w.refuse 0x7D (nameOf 0x5000 2)
  else
    let w := w.streams.foldl (fun w e => w.freeStream e.1) w
    let w := (w.setReg 0x7200 1 0).unreserve 0 1 0
    (if w.adapters.isEmpty then w.unreserve 0 2 0 else w).accept

/-- TRACKER_ENABLE (R280). -/
def execTrackerEnable (on : Bool) (s : State) : Host.Outcome State Fault Refusal := run (trackerEnable on) s

/-- A write that R281 does not allow. -/
def Work.rejectEntry (w : Work) : Work := w.addReg 0x7200 0x0B 1

/-- The stream that a 64 B write of the host describes. -/
def streamEntry (r : List Byte) : Stream :=
  { priority := leAt r 1 1, set := leAt r 2 1, flags := leAt r 3 1, adapter := leAt r 8 2, stepTokens := leAt r 0xA 2,
    seqPos := leAt r 0xC 4, seqLimit := leAt r 0x10 4, handle := leAt r 0x14 4, kvList := leAt r 0x18 8, deadline := leAt r 0x20 8,
    ioArea := leAt r 0x30 8 }

/-- Why an admission is refused: the set does not serve, or the adapter does not fit (R281). -/
def Work.admitStatus (w : Work) (x : Stream) : Option Nat :=
  let s := w.wset x.set
  match s.current with
  | some i =>
    if 64 ≤ x.set ∨ s.st ≠ .ready ∨ s.zeroing then some 0x4B
    else if (s.gen i).pins = 0xFFFFFFFF then some 0x44
    else if bit x.flags 0 then
      let a := w.adapter x.adapter
      if a.st ≠ 2 ∨ a.set ≠ x.set ∨ (a.baseGen ≠ 0 ∧ a.baseGen ≠ (s.gen i).number) then some 0x4A else none
    else none
  | none => some 0x4B

/-- ADMIT (R281). -/
def admitEntry (i : Nat) (data : List Byte) (w : Work) : Work :=
  let x := streamEntry data
  if !w.tracking || decide (262144 ≤ i) || data.length != 64 || leAt data 0 1 != 1 || (w.stream i).st != .free then w.rejectEntry
  else
    match w.admitStatus x with
    | some st => w.putStream i { x with st := .error, error := st }
    | none =>
      match w.pinCurrent x.set with
      | .inl st => w.putStream i { x with st := .error, error := st }
      | .inr (slot, w) =>
        let w := if bit x.flags 0 then
            let a := w.adapter x.adapter
            w.putAdapter x.adapter { a with pins := a.pins + 1 }
          else w
        let y := { x with st := .waiting, generation := ((w.wset x.set).gen slot).number, admitted := w.now, genSlot := slot,
                          pinned := true, order := w.nextOrder }
        { w with nextOrder := w.nextOrder + 1 }.putStream i y

/-- ADMIT (R281). -/
def execAdmit (i : Nat) (data : List Byte) (s : State) : Host.Outcome State Fault Refusal := run (admitEntry i data) s

/-- STREAM_ENTRY_SETTLED (R281). -/
def streamSettled (i : Nat) (w : Work) : Work :=
  let x := w.stream i
  if w.tracking && x.st == .waiting then w.putStream i { x with st := .ready } else w

/-- STREAM_ENTRY_SETTLED (R281). -/
def execStreamEntrySettled (i : Nat) (s : State) : Host.Outcome State Fault Refusal := run (streamSettled i) s

/-- END (R281). -/
def endStream (i : Nat) (w : Work) : Work :=
  let x := w.stream i
  let y := { x with flags := x.flags ||| 4 }
  if !w.tracking then w.rejectEntry
  else if x.st = .ready ∨ x.st = .waiting then w.putStream i { y with st := .done }
  else if x.st = .running then w.putStream i y
  else w.rejectEntry

/-- END (R281). -/
def execEndStream (i : Nat) (s : State) : Host.Outcome State Fault Refusal := run (endStream i) s

/-- RETIRE (R281). -/
def retire (i : Nat) (w : Work) : Work :=
  let x := w.stream i
  if !w.tracking then w.rejectEntry
  else if x.st = .done ∨ x.st = .error ∨ x.st = .ready then w.freeStream i
  else if x.st = .running then w.putStream i { x with retiring := true }
  else w.rejectEntry

/-- RETIRE (R281). -/
def execRetire (i : Nat) (s : State) : Host.Outcome State Fault Refusal := run (retire i) s

/-! ### Batches (R282, R283) -/

/-- The READY streams of a set and generation in batch order: priority, earlier deadline, earlier admission (R282). -/
def Stream.before (x y : Stream) : Bool :=
  let dl := fun (z : Stream) => if bit z.flags 1 then z.deadline else 2 ^ 64
  if x.priority ≠ y.priority then decide (y.priority < x.priority)
  else if dl x ≠ dl y then decide (dl x < dl y)
  else if x.admitted ≠ y.admitted then decide (x.admitted < y.admitted)
  else decide (x.order ≤ y.order)

/-- Streams taken while the batch has room and its tokens stay within the budget (R282). -/
def takeStreams (max budget : Nat) : List (Nat × Stream) → List (Nat × Stream)
  | [] => []
  | e :: es =>
    match max with
    | 0 => []
    | n + 1 => if budget < e.2.stepTokens then [] else e :: takeStreams n (budget - e.2.stepTokens) es

/-- The generation whose batch comes next: the older generations and the current one by turns (R282). -/
def Work.batchGen (w : Work) (s : Nat) : Option Nat :=
  let ready := w.streams.filter (fun e => e.2.set == s && e.2.st == .ready)
  let x := w.wset s
  let cur := match x.current with | some i => (x.gen i).number | none => 0
  let old := (ready.filter (fun e => e.2.generation != cur)).foldl (fun (m : Option Stream) e => match m with
    | none => some e.2
    | some y => if e.2.order < y.order then some e.2 else some y) none
  let hasCur := ready.any (fun e => e.2.generation == cur)
  match old with
  | some y => if hasCur && x.lastGen != cur then some cur else some y.generation
  | none => if hasCur then some cur else none

/-- The number of the next descriptor of a list: after those taken and those that stand valid in its ring (R288, R289). -/
def Work.nextDescriptor (w : Work) (l : TList) : Nat :=
  let valid := fun (i : Nat) => w.readNat (l.ring + 64 * ((l.taken + i) % max l.slots 1)) 4 == (l.taken + i + 1) % 2 ^ 32
  l.taken + 1 + ((List.range l.slots).takeWhile valid).length

/-- The descriptor that the tracker appends for a batch record (R282, R291). What the spec does not say of it, its
ImageId, is a free value. -/
def batchDescriptor (n image record : Nat) : List Byte :=
  toBytes n 4 ++ [1, 0, 0, 0] ++ toBytes image 4 ++ [0xFF, 0xFF] ++ List.replicate 10 0 ++ toBytes record 8 ++ List.replicate 32 0

/-- The bytes of a batch record (R282). -/
def batchRecord (id set slot gen results : Nat) (es : List (Nat × Stream)) : List Byte :=
  toBytes id 4 ++ toBytes es.length 2 ++ toBytes set 1 ++ toBytes slot 1 ++ toBytes gen 2 ++ [0, 0] ++
    toBytes (es.map (fun e => e.2.stepTokens)).sum 4 ++ toBytes results 8 ++ List.replicate 8 0 ++
    es.flatMap (fun e => toBytes e.1 4 ++ toBytes e.2.handle 4 ++ toBytes e.2.seqPos 4 ++ toBytes e.2.stepTokens 2 ++
      toBytes (if bit e.2.flags 0 then e.2.adapter else 0xFFFF) 2 ++ toBytes e.2.kvList 8 ++ toBytes e.2.ioArea 8)

/-- BATCH_FORM: a batch of READY streams, its record in the batch ring, and its descriptor in the task list (R282). The
address of the result words, which the spec does not say how the tracker chooses, is a free value. -/
def batchForm (s : Nat) (w : Work) : Work :=
  let size := 32 + 32 * w.reg 0x7200 6
  let slots := w.reg 0x7200 0x0A / size
  let busy := w.batches.filter (fun b => b.set == s)
  let at_ := (List.range slots).find? (fun i => !w.batches.any (fun b => b.slot == (w.nextBatch - 1 + i) % slots))
  match w.batchGen s, at_, w.lists.find? (fun e => e.1 == w.reg 0x7200 5) with
  | some g, some i, some (_, l) =>
    let slot := (w.nextBatch - 1 + i) % slots
    let ready := sortBy (fun a b => a.2.before b.2) (w.streams.filter (fun e => e.2.set == s && e.2.st == .ready && e.2.generation == g))
    let es := takeStreams (w.reg 0x7200 6) (w.reg 0x7200 7) ready
    let n := w.nextDescriptor l
    if !w.tracking || decide (w.reg 0x7200 8 ≤ busy.length) || es.isEmpty || decide (l.taken + l.slots < n) then w
    else
      let (image, w) := w.draw
      let (res, w) := w.draw
      let id := w.nextBatch
      let record := w.reg 0x7200 9 + size * slot
      let results := res % 2 ^ 39 * 8
      let genSlot := (es.head?.map (fun e => e.2.genSlot)).getD 0
      let w := w.storeBytes record (batchRecord id s genSlot g results es)
      let w := w.storeBytes (l.ring + 64 * ((n - 1) % l.slots)) (batchDescriptor (n % 2 ^ 32) (image % 2 ^ 32) record)
      let w := es.foldl (fun w e => w.putStream e.1 { e.2 with st := .running, lastBatch := id }) w
      let w := (w.modSet s (fun x => { x with lastGen := g })).addReg 0x7200 0x0D 1
      { w with nextBatch := id % (2 ^ 32 - 1) + 1, batches := w.batches ++ [⟨id, s, slot, g, results, es.map (·.1)⟩] }
  | _, _, _ => w

/-- BATCH_FORM (R282). -/
def execBatchForm (set : Nat) (s : State) : Host.Outcome State Fault Refusal := run (batchForm set) s

/-- The result word of one stream applied (R283). -/
def Work.applyResult (w : Work) (i word : Nat) : Work :=
  let x := w.stream i
  let pos := x.seqPos + field word 16 16
  let y := { x with seqPos := pos % 2 ^ 32 }
  let st := field word 0 8
  let w := if bit x.flags 1 && decide (x.deadline < w.now) then w.addReg 0x7200 0x0C 1 else w
  let w := w.putStream i
    (if st = 1 ∨ bit x.flags 2 ∨ (st = 0 ∧ x.seqLimit ≤ pos) then { y with st := .done }
     else if st = 0 then { y with st := .ready } else { y with st := .error, error := st })
  if x.retiring then w.freeStream i else w

/-- A batch aborts: its streams enter ERROR and keep their pins until they are retired (R283). -/
def Work.abortBatch (w : Work) (b : Batch) (status : Nat) : Work :=
  let w := b.streams.foldl (fun w i =>
    let x := w.stream i
    let w := w.putStream i { x with st := .error, error := status }
    if x.retiring then w.freeStream i else w) w
  { w with batches := w.batches.filter (fun x => x.id != b.id) }

/-- TSTEP: every stream's result is applied, or the abort status; TACK answers (R283, R285). -/
def recvTstep (p : Packet) (w : Work) : Work :=
  let w := w.take p
  let w := w.send { p.answer 0x49 with vc := 2, typeData := field p.typeData 0 32 }
  match w.batches.find? (fun b => b.id == field p.typeData 0 32) with
  | some b =>
    let status := field p.typeData 32 8
    if status ≠ 0 then w.abortBatch b status
    else
      match w.readStatus b.results (8 * b.streams.length) with
      | some st => w.abortBatch b st
      | none =>
        let (bs, w) := w.loadBytes b.results (8 * b.streams.length) false
        let w := b.streams.zipIdx.foldl (fun w e => w.applyResult e.1 (leAt bs (8 * e.2) 8)) w
        { w with batches := w.batches.filter (fun x => x.id != b.id) }
  | none => w

/-- TSTEP (R283). -/
def execTstep (pkt : Packet) (s : State) : Host.Outcome State Fault Refusal := run (onTurn pkt (recvTstep pkt)) s

/-- TACK: the task unit's TSTEP has been acknowledged (R285). -/
def recvTack (p : Packet) (w : Work) : Work :=
  let w := w.take p
  { w with tsteps := w.tsteps.filter (fun q => field q.typeData 0 32 != field p.typeData 0 32) }

/-- TACK (R285). -/
def execTack (pkt : Packet) (s : State) : Host.Outcome State Fault Refusal := run (onTurn pkt (recvTack pkt)) s

end Sys2Proof.Machine
end

