-- ==== Sys2Proof/Machine/Edge.lean ====
section
/-! DEFINITION. Edge ports: topologies and groups, the choice of a port for another panel, ingress classes, frames and
their replay, port failures, and egress credit (R308 to R330). -/

namespace Sys2Proof

open Machine

/-- Lane i passes: it trained, no codeword had more than 8 corrected symbols, and none was uncorrectable (R428). -/
def PortTest.lanePasses (t : PortTest) (i : Nat) : Bool :=
  match t.lanes.getD i none with
  | some (c, u) => decide (c ≤ 8) && u == 0
  | none => false

/-- The lanes from `i` up to `i + n` all pass. -/
def PortTest.lanesPass (t : PortTest) (i n : Nat) : Bool := (List.range n).all (fun j => t.lanePasses (i + j))

/-- The lanes that passed as a mask, and the most corrected symbols of any codeword (R427). -/
def PortTest.passed (t : PortTest) : Nat := ((List.range 16).map (fun i => if t.lanePasses i then 2 ^ i else 0)).sum
def PortTest.worst (t : PortTest) : Nat := (t.lanes.take 16).foldl (fun n l => match l with | some (c, _) => max n c | none => n) 0

/-- Lanes that a port comes up with: all 16, the half that the peer agrees to, or none (R309, R320, R428). -/
def PortTest.width (t : PortTest) : Nat :=
  if t.lanesPass 0 16 ∧ !t.peerHalf then 16
  else if t.lanesPass (if t.peerHigh then 8 else 0) 8 ∧ t.peerHalf then 8
  else 0

/-- All four UCIe modules of an optical site have trained, at 32 GT/s; there is no width degrade (R321). -/
def PortTest.siteTrains (t : PortTest) : Bool := t.modules == [32, 32, 32, 32]

end Sys2Proof

namespace Sys2Proof.Machine

/-! ### Topologies (R323 to R326) -/

/-- The topology in force: kind and the sizes of its dimensions (R323, R324). -/
def Work.topo (w : Work) : Nat := w.eff 0x4810 2
def Work.topoSize (w : Work) (dim : Nat) : Nat := w.eff 0x4810 (3 + dim)
def Work.basePanel (w : Work) : Nat := w.eff 0x4810 6

/-- Dimensions of the routing code: 3, 2, or none (R327). -/
def Work.topoDims (w : Work) : Nat := if w.topo = 3 then 3 else if w.topo = 2 then 2 else 0

/-- Panels of the topology (R324). -/
def Work.topoSpan (w : Work) : Nat :=
  if w.topo = 1 then w.topoSize 0
  else if w.topo = 2 then w.topoSize 0 * w.topoSize 1
  else if w.topo = 3 then w.topoSize 0 * w.topoSize 1 * w.topoSize 2
  else 1

/-- The sizes, the base and the panel's own ID are those of a supported topology: 2 to 64 panels in a dimension that is used, 1 in
one that is not, and Base + X·Y·Z within the IDs (R323, R324). -/
def Work.topoOk (w : Work) : Bool :=
  let dim := fun (n : Nat) => decide (2 ≤ n) && decide (n ≤ 64)
  let x := w.topoSize 0
  let y := w.topoSize 1
  let z := w.topoSize 2
  (if w.topo = 0 then x == 1 && y == 1 && z == 1
   else if w.topo = 1 then decide (2 ≤ x) && decide (x ≤ 8) && y == 1 && z == 1
   else if w.topo = 2 then dim x && dim y && z == 1
   else w.topo == 3 && dim x && dim y && dim z) &&
    decide (w.basePanel + x * y * z ≤ 4096) &&
    (w.topo == 0 || (decide (w.basePanel ≤ w.panelId) && decide (w.panelId < w.basePanel + w.topoSpan)))

/-- A panel ID lies in the topology. -/
def Work.inTopo (w : Work) (p : Nat) : Bool := w.topo != 0 && decide (w.basePanel ≤ p) && decide (p < w.basePanel + w.topoSpan)

/-- A coordinate of a panel: of a torus, or the index in a full mesh (R324). -/
def Work.coord (w : Work) (p dim : Nat) : Nat :=
  let i := p - w.basePanel
  if w.topo = 1 then (if dim = 0 then i else 0)
  else if dim = 0 then i % max (w.topoSize 0) 1
  else if dim = 1 then i / max (w.topoSize 0) 1 % max (w.topoSize 1) 1
  else i / max (w.topoSize 0) 1 / max (w.topoSize 1) 1

/-- Groups by number: 2·dim + (1 for PLUS) in a torus, the peer slot in a full mesh; ports in ascending order. `alt`
picks the second form of R325: 14 ports in a 2-D torus, 4 ports per peer in a full mesh. -/
def groupPorts (kind : Nat) (alt : Bool) (g : Nat) : List Nat :=
  if kind = 3 then [[0, 8], [7, 15], [1, 9], [6, 14], [2, 10], [5, 13]].getD g []
  else if kind = 2 then
    if alt then [[0, 1, 8, 9], [6, 7, 14, 15], [2, 10, 11], [4, 5, 12]].getD g []
    else [[0, 1, 8, 9], [6, 7, 14, 15], [2, 3, 10, 11], [4, 5, 12, 13]].getD g []
  else if kind = 1 then
    if alt then (if g ≤ 2 then [2 * g, 2 * g + 1, 8 + 2 * g, 9 + 2 * g] else [])
    else (if g ≤ 6 then [g, 8 + g] else [])
  else []

/-- The groups that a topology uses. -/
def Work.groupCount (w : Work) : Nat := if w.topo = 1 then w.topoSize 0 - 1 else 2 * w.topoDims

/-- The group and position of port k, where it is a topology port. -/
def Work.groupOf (w : Work) (alt : Bool) (k : Nat) : Option (Nat × Nat) :=
  (List.range w.groupCount).findSome? (fun g => (findAt (· == k) (groupPorts w.topo alt g) 0).map (fun q => (g, q)))

/-- The panel and port that port q of group g is cabled to (R325). -/
def Work.cabledTo (w : Work) (alt : Bool) (g q : Nat) : Nat × Nat :=
  if w.topo = 1 then
    let i := w.coord w.panelId 0
    let j := if g < i then g else g + 1
    (w.basePanel + j, (groupPorts 1 alt (if i < j then i else i - 1)).getD q 0)
  else
    let dim := g / 2
    let n := max (w.topoSize dim) 1
    let x := fun (m : Nat) =>
      let c := w.coord w.panelId m
      if m = dim then (if g % 2 = 1 then (c + 1) % n else (c + n - 1) % n) else c
    (w.basePanel + x 0 + w.topoSize 0 * (x 1 + w.topoSize 1 * x 2), (groupPorts w.topo alt (if g % 2 = 1 then g - 1 else g + 1)).getD q 0)

/-- The in-force peer-table entry of port k: role, peer panel, peer port (R326). -/
def Work.peerRole (w : Work) (k : Nat) : Nat := w.eff (0x4800 + k) 2
def Work.peerPanel (w : Work) (k : Nat) : Nat := w.eff (0x4800 + k) 3
def Work.peerPort (w : Work) (k : Nat) : Nat := w.eff (0x4800 + k) 4

/-- The entry of port k agrees with kind, sizes and R325 (R326). -/
def Work.entryAgrees (w : Work) (alt : Bool) (k : Nat) : Bool :=
  let role := w.peerRole k
  match w.groupOf alt k with
  | some (g, q) => role == 0 || (role == 1 && w.topoOk && w.cabledTo alt g q == (w.peerPanel k, w.peerPort k))
  | none => role != 1

/-- The form of R325 that the in-force table follows: the second where fewer of its entries disagree (assumption 35). -/
def Work.altForm (w : Work) : Bool :=
  let bad := fun (alt : Bool) => ((List.range 16).filter (fun k => !w.entryAgrees alt k)).length
  (w.topo == 2 || (w.topo == 1 && decide (w.topoSize 0 ≤ 4))) && decide (bad true < bad false)

/-- The entry of port k agrees with the topology in force. -/
def Work.entryOk (w : Work) (k : Nat) : Bool := w.entryAgrees w.altForm k

/-- Port k is up (R313, R320). -/
def Work.portUp (w : Work) (k : Nat) : Bool := (w.port k).st == .up || (w.port k).st == .half

/-! ### The port for a packet (R327 to R329) -/

/-- The panel's twin: the panel that TwinPanel and a Hinge port's peer table name (R331). -/
def Work.isTwin (w : Work) (p : Nat) : Bool :=
  p == w.reg 0x4900 2 && p != w.panelId && (List.range 16).any (fun k => w.peerRole k == 2 && w.peerPanel k == p)

/-- Ports of the group that leads to a panel (R327). -/
def Work.groupFor (w : Work) (dst : Nat) : List Nat :=
  let g := groupPorts w.topo w.altForm
  if w.isTwin dst then (List.range 16).filter (fun k => w.peerRole k == 2 && w.peerPanel k == dst)
  else if !w.inTopo dst || dst == w.panelId then []
  else if w.topo = 1 then
    let i := w.coord w.panelId 0
    let j := w.coord dst 0
    g (if j < i then j else j - 1)
  else
    match (List.range w.topoDims).find? (fun m => w.coord dst m != w.coord w.panelId m) with
    | some m =>
      let n := w.topoSize m
      let delta := (w.coord dst m + n - w.coord w.panelId m) % max n 1
      if n = 2 then (g (2 * m) ++ g (2 * m + 1)).foldl (fun l k => insertBy (fun a b => decide (a ≤ b)) k l) []
      else if 2 * delta ≤ n then g (2 * m + 1) else g (2 * m)
    | none => []

/-- The ports of the group that are up, in ascending number. -/
def Work.upFor (w : Work) (dst : Nat) : List Nat := (w.groupFor dst).filter w.portUp

/-- The port that a packet for another panel uses (R328). -/
def Work.egressPort (w : Work) (p : Packet) : Option Nat :=
  let g := w.upFor p.dstPanel
  let h := p.srcC + 3 * p.srcR + 5 * p.dstC + 7 * p.dstR + p.dstUnit + (if p.adaptive then p.transfer else 0)
  g[h % max g.length 1]?

/-- Panels that no port leads to: those of the topology, and the twin outside it (R328, R329). -/
def Work.unreachablePanels (w : Work) : Nat :=
  let twin := w.reg 0x4900 2
  ((List.range w.topoSpan).filter (fun i => w.inTopo (w.basePanel + i) && w.basePanel + i != w.panelId &&
    (w.upFor (w.basePanel + i)).isEmpty)).length + ofBool (w.isTwin twin && !w.inTopo twin && (w.upFor twin).isEmpty)

/-- The usable attach dies of port k (R26, R27). -/
def Work.portDies (w : Work) (k : Nat) : List Nat := (w.attachLinks (0x50 + k)).map (fun m => w.attachDie (m / 8))

/-- The attach die of a port nearest to a die; TransferId bit 0 breaks ties on the way out, the smaller c on the way in
(R245, R328). -/
def Work.portDie (w : Work) (k d : Nat) (last : Bool) : Option Nat := w.nearest d (w.portDies k) last

/-- The class of a packet that arrives on port k (R316). -/
def Work.ingressClass (w : Work) (k src : Nat) : Nat :=
  match w.groupOf w.altForm k with
  | some (g, _) =>
    if w.topo = 1 ∨ w.topoSize (g / 2) = 2 ∨ w.peerRole k ≠ 1 then 0
    else
      let own := w.coord w.panelId (g / 2)
      let s := w.coord src (g / 2)
      if g % 2 = 0 then ofBool (decide (own < s)) else ofBool (decide (s < own))
  | none => 0

/-! ### What a frame's packets feed -/

/-- Bits of SlotValid: one for each of slots 1 to 31 that holds a flit (R310). -/
def edgeSlotValid (f : EdgeFrame) : Nat := (((List.range 32).filter (fun s => s != 0 && thas f.slots s)).map (fun s => 2 ^ s)).sum

/-- The eight Credits entries of a control slot (R310). -/
def edgeCredits (f : EdgeFrame) : List Byte :=
  padTo 16 ((f.credits.take 8).flatMap (fun c => toBytes (c.1 % 8 + c.2.1 % 2 * 2 ^ 3 + 2 ^ 4 + c.2.2 % 2048 * 2 ^ 5) 2))

/-- The control slot of a frame with its Crc field zero (R310). -/
def edgeControl (f : EdgeFrame) : List Byte :=
  toBytes f.seq 2 ++ toBytes f.ack 2 ++ toBytes (ofBool f.ackValid + 2 * ofBool f.nak + 4 * ofBool f.idle) 1 ++ toBytes f.role 1 ++
    toBytes (f.senderPanel % 4096) 2 ++ toBytes (edgeSlotValid f) 4 ++ toBytes f.senderPort 1 ++ [0, 0, 0] ++ edgeCredits f ++
    toBytes f.stamp 4 ++ toBytes f.echo 4 ++ toBytes f.echoHold 4 ++ List.replicate 20 0

/-- The CRC of a frame: CRC-32C of its 2,048 bytes with the Crc field taken as zero (R310). -/
def edgeCrc (f : EdgeFrame) : Nat :=
  crc32c (edgeControl f ++ (List.range 31).flatMap (fun s => padTo 64 (tget [] f.slots (s + 1))))

/-- The flits of a frame in the order of their slots (R232). -/
def edgeFlits (f : EdgeFrame) : List (List Byte) :=
  ((List.range 32).filter (fun s => s != 0 && thas f.slots s)).map (fun s => padTo 64 (tget [] f.slots s))

/-- The 2,048 bytes of a frame (R310). -/
def edgeBytes (f : EdgeFrame) : List Byte :=
  (edgeControl f).take 60 ++ toBytes f.crc 4 ++ (List.range 31).flatMap (fun s => padTo 64 (tget [] f.slots (s + 1)))

/-- The lane that carries data unit u of a frame: one of all 16, or of the half in use (R309). -/
def Port.laneOf (x : Port) (u : Nat) : Nat := if x.lanes = 8 then (if x.high then 8 else 0) + u % 8 else u % 16

/-- The 257-bit blocks of a frame in the order of its 64 data units: lane, leading bit, 1 on a lane's first unit alone, and the 32
bytes of the unit (R309). -/
def Port.blocks (x : Port) (f : EdgeFrame) : List (Nat × Bool × List Byte) :=
  let bs := edgeBytes f
  (List.range 64).map (fun u => (x.laneOf u, decide (u < (if x.lanes = 8 then 8 else 16)), slice bs (32 * u) 32))

/-- Packets in the frames that a port keeps for replay (R311). -/
def Port.kept (x : Port) : List Packet := (assemble [] (x.sent.flatMap edgeFlits)).2

/-- Bytes of a frame's valid flit slots fed to the port's check-value unit where CheckFeed selects the direction: 1 transmit, 2
receive (0x4800+k.0E). -/
def Work.feedPort (w : Work) (k dir : Nat) (f : EdgeFrame) : Work :=
  if w.reg (0x4800 + k) 0x0E = dir then w.feedUnit (400 + k) (edgeFlits f).flatten else w

/-! ### Sending (R310, R312, R315, R317) -/

/-- Ingress slots of a pool of the peer: VC code and class (R315). -/
def poolSlots (vc cls : Nat) : Nat :=
  if vc = 0 then 256 else if vc = 1 ∨ vc = 2 then 1024 else if vc = 4 then (if cls = 0 then 4096 else 2048) else 0

/-- The class that the peer will give a packet that leaves on port k: it arrives on the opposite group of the next panel
(R316). -/
def Work.peerClass (w : Work) (k src : Nat) : Nat :=
  match w.groupOf w.altForm k with
  | some (g, _) =>
    if w.topo = 1 ∨ w.topoSize (g / 2) = 2 ∨ w.peerRole k ≠ 1 then 0
    else
      let own := w.coord (w.peerPanel k) (g / 2)
      let s := w.coord src (g / 2)
      if g % 2 = 1 then ofBool (decide (own < s)) else ofBool (decide (s < own))
  | none => 0

/-- Packets taken in order from the egress buffer, as long as flits and slots of the peer allow; a packet that does not
go stays, and with it the later ones of its channel (R315). Answers what goes, what stays and the slots spent. -/
def fillFrame (pool : Packet → Nat) : List Packet → List Nat → List (Nat × Nat) → Nat → List Packet × List Packet × List (Nat × Nat)
  | [], _, spent, _ => ([], [], spent)
  | p :: ps, held, spent, room =>
    let i := pool p
    if flitCount p ≤ room ∧ tget 0 spent i < poolSlots (i / 2) (i % 2) ∧ !held.contains p.vc then
      let (go, stay, s) := fillFrame pool ps held (tmod 0 spent i (· + 1)) (room - flitCount p)
      (p :: go, stay, s)
    else
      let (go, stay, s) := fillFrame pool ps (p.vc :: held) spent room
      (go, p :: stay, s)

/-- Freed slots as the Credits entries of one frame return them: an entry for each channel and class, 2,047 slots at most;
and what stays owed (R310, R315). -/
def creditEntries (owed : List (Nat × Nat)) : List (Nat × Nat × Nat) × List (Nat × Nat) :=
  owed.eraseDups.foldl (fun r o =>
    let n := min 2047 (owed.filter (· == o)).length
    (r.1 ++ [(o.1, o.2, n)], r.2 ++ List.replicate ((owed.filter (· == o)).length - n) o)) ([], [])

/-- A frame of port k with these flits from slot 1 on, and these credits: identity, acknowledgement, Nak and times (R310). -/
def Work.frameOf (w : Work) (k : Nat) (fs : List (List Byte)) (credits : List (Nat × Nat × Nat)) : EdgeFrame :=
  let x := w.port k
  let f : EdgeFrame :=
    { slots := fs.zipIdx.map (fun e => (e.2 + 1, e.1)), seq := x.sendSeq, ack := x.lastGood, ackValid := true, nak := x.nak,
      idle := fs.isEmpty, role := w.peerRole k, senderPanel := w.panelId, senderPort := k, credits := credits
      stamp := w.dieNow (1016 + k) % 2 ^ 32, echo := x.lastStamp, echoHold := (w.dieNow (1016 + k) - x.lastStampAt) % 2 ^ 32, crc := 0, fecGood := true, corrected := 0 }
  { f with crc := edgeCrc f }

/-- An idle frame without credits, where 4,095 frames have gone since one (R312). -/
def Work.blankFrame (w : Work) (k : Nat) : Work :=
  if (w.port k).sinceBlank < 4095 then w
  else
    let f := w.frameOf k [] []
    w.modPort k (fun x => { x with last := some f, nak := false, sinceBlank := 0 })

/-- Port k sends a frame with these flits, none in an idle one. It returns the credits owed; one with flits takes the next
number, is kept for replay, and feeds the port's check unit (R310 to R312). -/
def Work.putFrame (w : Work) (k : Nat) (fs : List (List Byte)) : Work :=
  let w := w.blankFrame k
  let c := creditEntries (w.port k).owed
  let w := if fs.isEmpty then w else w.modPort k (fun x => { x with sendSeq := (x.sendSeq + 1) % 65536 })
  let f := w.frameOf k fs c.1
  let w := w.modPort k (fun x => { x with
    owed := c.2, nak := false, last := some f, sent := if fs.isEmpty then x.sent else x.sent ++ [f]
    sinceBlank := if fs.isEmpty ∧ c.1.isEmpty then 0 else x.sinceBlank + 1 })
  w.feedPort k 1 f

/-- Port k has no flit to send: an idle frame goes out (R312; assumption 86). -/
def Work.idleEdge (w : Work) (k : Nat) : Work := if w.portUp k then w.putFrame k [] else w

/-- The die that stands for a holder of egress credit: the router itself, or the first attach die of a port die. -/
def Work.holderDie (w : Work) (holder : Nat) : Nat := if 1000 ≤ holder then (w.portDies (holder - 1000)).headD 0 else holder

/-- Packets of a channel, in transit or not, that have spent an egress credit of port k and are on their way to its buffer (R317). -/
def Work.towardPort (w : Work) (k vc : Nat) (transit : Bool) : Nat :=
  let bound := fun (p : Packet) => p.dstPanel != w.panelId && (if p.vc = 3 then 4 else p.vc) == vc &&
    (p.srcPanel != w.panelId) == transit && w.egressPort p == some k
  (w.dies.map (fun e => (e.2.router.slots.filter (fun s => (s.out.isSome || decide (s.inPort < 4)) && bound s.pkt)).length)).sum +
    (w.links.map (fun e => if decide (6 ≤ e.1 / 2 % 8) && e.1 % 2 == 1 then 0 else (e.2.onWire.filter bound).length)).sum

/-- Egress credits freed at port k go to the requests that wait, oldest first; what has left its source and has not arrived still
counts (R317). -/
def Work.serveWaiting (k : Nat) : Nat → Work → Work
  | 0, w => w
  | fuel + 1, w =>
    match (w.port k).waiting with
    | [] => w
    | (holder, vc, n) :: rest =>
      let x := w.port k
      let transit := decide (1000 ≤ holder)
      let mine := tget 0 x.egGranted (holder * 8 + vc)
      let granted := ((x.egGranted.filter (fun e => e.1 % 8 == vc && decide (8000 ≤ e.1) == transit)).map (·.2)).sum
      let here := (x.egress.filter (fun p => p.vc == vc && (p.srcPanel != w.panelId) == transit)).length
      let g := min (min n 16) (min (64 - mine) (1024 - granted - here - w.towardPort k vc transit))
      if g = 0 then w
      else
        let d := w.holderDie holder
        let w := w.modPort k (fun x => { x with waiting := rest, egGranted := tmod 0 x.egGranted (holder * 8 + vc) (· + g) })
        let w := w.send { w.packet 0x51 ((w.portDies k).headD 0) (0x50 + k) 0 d (if transit then 0x50 + (holder - 1000) else 0x30) 0 with
          vc := 0, typeData := vc + g * 2 ^ 3 }
        w.serveWaiting k fuel

/-- Port k puts what it may into frames: one non-idle frame at a time, up to 1,024 unacknowledged (R310, R311). -/
def Work.portSend (k : Nat) : Nat → Work → Work
  | 0, w => w
  | fuel + 1, w =>
    let x := w.port k
    if !w.portUp k || decide (1024 ≤ x.sent.length) then w
    else
      let pool := fun (p : Packet) => p.vc * 2 + w.peerClass k p.srcPanel
      let (go, stay, spent) := fillFrame pool x.egress [] x.spent 31
      if go.isEmpty then w
      else
        let w := (w.modPort k (fun x => { x with egress := stay, spent := spent })).putFrame k (go.flatMap (fun p => flitsOf (packetBytes p)))
        (w.serveWaiting k 16).portSend k fuel

/-- A packet for another panel put into the egress buffer of port k, on BULK-E where it came on BULK-A (R314, R317). -/
def Work.toEgress (w : Work) (k : Nat) (p : Packet) : Work :=
  let p := { p with vc := if p.vc = 3 then 4 else p.vc, lane := 1, wayValid := false }
  (w.modPort k (fun x => { x with egress := x.egress ++ [p] })).portSend k 64

/-! ### Egress credit (R317) -/

/-- The holder number of a credit message's source: the router of a die, or 1,000 + the port die. -/
def Work.holderOf (w : Work) (p : Packet) : Nat := if p.srcUnit / 16 = 5 then 1000 + p.srcUnit % 16 else w.srcDie p

/-- The die whose counter a holder of egress credit goes by (R383). -/
def holderClock (holder : Nat) : Nat := if 1000 ≤ holder then holder + 16 else holder

/-- A holder spends one egress credit of a port; with none it asks for a block of 16, and the wait is counted. -/
def Work.spendEgress (w : Work) (holder k vc : Nat) : Option Work × Work :=
  let mine := fun (e : Egress) => e.holder == holder && e.port == k && e.vc == vc
  match w.egress.find? mine with
  | some e =>
    if 0 < e.credits then
      let es := if e.credits = 1 then w.egress.filter (fun e => !mine e)
        else w.egress.map (fun e => if mine e then { e with credits := e.credits - 1, usedAt := w.dieNow (holderClock holder) } else e)
      let w1 := ({ w with egress := es } : Work).modPort k (fun x => { x with egGranted := tmod 0 x.egGranted (holder * 8 + vc) (· - 1) })
      (some w1, w1)
    else (none, w)
  | none =>
    let w := ({ w with egress := w.egress ++ [⟨holder, k, vc, 0, w.dieNow (holderClock holder)⟩] } : Work).addReg 0x4810 0x0A 1
    let d := w.holderDie holder
    let dest_ := (w.portDie k d false).getD ((w.portDies k).headD 0)
    (none, w.send { w.packet 0x50 d (if 1000 ≤ holder then 0x50 + (holder - 1000) else 0x30) 0 dest_ (0x50 + k) 0 with
      vc := 0, typeData := vc + 16 * 2 ^ 3 })

/-- ECRQ: credits granted in a block, or the request waits for slots (R317). -/
def recvEcrq (p : Packet) (w : Work) : Work :=
  let w := w.take p
  let k := p.dstUnit % 16
  (w.modPort k (fun x => { x with waiting := x.waiting ++ [(w.holderOf p, field p.typeData 0 3, field p.typeData 3 5)] })).serveWaiting k 16

/-- ECRQ (R317). -/
def execEcrq (pkt : Packet) (s : State) : Host.Outcome State Fault Refusal := run (onTurn pkt (recvEcrq pkt)) s

/-- ECGR: the holder adds the credits, 64 at most (R317). -/
def recvEcgr (p : Packet) (w : Work) : Work :=
  let w := w.take p
  let k := p.srcUnit % 16
  let vc := field p.typeData 0 3
  let holder := if p.dstUnit / 16 = 5 then 1000 + p.dstUnit % 16 else w.dstDie p
  let mine := fun (e : Egress) => e.holder == holder && e.port == k && e.vc == vc
  if w.egress.any mine then
    { w with egress := w.egress.map (fun e =>
        if mine e then { e with credits := min 64 (e.credits + field p.typeData 3 5), usedAt := w.dieNow (holderClock holder) } else e) }
  else { w with egress := w.egress ++ [⟨holder, k, vc, field p.typeData 3 5, w.dieNow (holderClock holder)⟩] }

/-- Heartbeats that wait for egress credit enter the buffers of their ports as far as it goes (R317, R332). -/
def Work.sendBeats (w : Work) : Work :=
  let bs := w.hinge.beatWaits
  bs.foldl (fun w b =>
    match w.spendEgress w.sideboardA b.1 0 with
    | (some v, _) => v.toEgress b.1 (w.stamped b.2)
    | (none, v) => { v with hinge := { v.hinge with beatWaits := v.hinge.beatWaits ++ [b] } })
    ({ w with hinge := { w.hinge with beatWaits := [] } } : Work)

/-- ECGR (R317). -/
def execEcgr (pkt : Packet) (s : State) : Host.Outcome State Fault Refusal := run (onTurn pkt (fun w => (recvEcgr pkt w).sendBeats)) s

/-- ECRET: unused credits are taken back, and requests that wait are served (R317). -/
def recvEcret (p : Packet) (w : Work) : Work :=
  let w := w.take p
  let k := p.dstUnit % 16
  (w.modPort k (fun x => { x with
    egGranted := tmod 0 x.egGranted (w.holderOf p * 8 + field p.typeData 0 3) (· - field p.typeData 3 5) })).serveWaiting k 16

/-- ECRET (R317). -/
def execEcret (pkt : Packet) (s : State) : Host.Outcome State Fault Refusal := run (onTurn pkt (recvEcret pkt)) s

/-- ECRET packets for a holder's credits, at most 16 a packet, as the field counts them. -/
def Work.returnCredits (d src dest_ port vc : Nat) : Nat → Nat → Work → Work
  | 0, _, w => w
  | fuel + 1, n, w =>
    if n = 0 then w
    else
      let m := min n 16
      (w.send { w.packet 0x52 d src 0 dest_ (0x50 + port) 0 with vc := 0, typeData := vc + m * 2 ^ 3 }).returnCredits d src dest_ port vc fuel (n - m)

/-- EGRESS_CREDIT_IDLE: the n-th holding of credits has gone 10 µs without use and is returned (R317). -/
def egressIdle (n : Nat) (w : Work) : Work :=
  match w.egress[n]? with
  | some e =>
    if e.credits = 0 then w
    else
      let w := w.reachOn (holderClock e.holder) (e.usedAt + 10000)
      let d := w.holderDie e.holder
      let dest_ := (w.portDie e.port d false).getD ((w.portDies e.port).headD 0)
      let w : Work := { w with egress := ldrop w.egress n }
      w.returnCredits d (if 1000 ≤ e.holder then 0x50 + (e.holder - 1000) else 0x30) dest_ e.port e.vc 4 e.credits
  | none => w

/-- EGRESS_CREDIT_IDLE (R317). -/
def execEgressCreditIdle (n : Nat) (s : State) : Host.Outcome State Fault Refusal := run (egressIdle n) s

/-! ### Failure and retraining (R313, R319, R320, R322) -/

/-- Every Hutch is ready or marked failed in the ready map: the host die then reports Memory_Active (R341). -/
def Work.memoryActive (w : Work) : Bool :=
  (List.range 16).all (fun b => (w.boot.trained.contains b && w.boot.readyBays.contains b && w.hutchReached b) || w.boot.failedHutches.contains b)

/-- Memory_Active_Timeout, s (R341). -/
def memoryActiveTimeout : Nat := 256

/-- A bit of the ready map has changed: source 8; and the host die reports Memory_Active from the moment that its condition holds (R341,
R350, R423). -/
def Work.readyChanged (w : Work) : Work :=
  Work.interrupt { w with cxl := { w.cxl with memActive := !w.cxl.perst && (w.cxl.memActive || w.memoryActive) } } 8

/-- The failed bit of a port set or cleared (0x1100.06; R423). -/
def Work.portBit (w : Work) (k : Nat) (bad : Bool) : Work :=
  if w.boot.failedPorts.contains k = bad then w
  else
    ({ w with boot := { w.boot with
        failedPorts := if bad then w.boot.failedPorts ++ [k] else w.boot.failedPorts.filter (· != k) } } : Work).readyChanged

/-- Port k stops: its ready bit clears (R423), what its egress and replay buffers hold is discarded under R247, and its credits are void, those of packets
still in its ingress buffer among them (R313). -/
def Work.portDown (w : Work) (k : Nat) (st : PortSt) : Work :=
  let w := if w.portUp k then w.readyChanged else w
  let lost := (w.port k).kept ++ (w.port k).egress
  let w := w.discardAll ((w.portDies k).headD 0) lost
  let w := w.modPort k (fun x => { x with
    st := st, lanes := 0, sent := [], egress := [], spent := [], egGranted := [], waiting := [], badReplays := 0, nak := false,
    waits := false, part := [], asked := false, owed := [], last := none, resend := [] })
  { w with
    egress := w.egress.filter (fun e => e.port != k)
    entering := w.entering.map (fun e => if e.port = k then { e with cls := none } else e) }

/-- PORT_FAILURE: a condition of R313 met: 1 replays, 2 lock, 3 FEC. The port retrains after its wait, which doubles up
to 10 s and starts anew after 60 s up. -/
def Work.portFails (w : Work) (k cause : Nat) : Work :=
  if !w.portUp k then w
  else
    let x := w.port k
    let now := w.dieNow (1016 + k)
    let wait := if x.upAt + 60000000000 ≤ now then 100000000 else x.wait
    let w := (w.portDown k .failed).portBit k true
    let w := w.modPort k (fun x => { x with retryAt := now + wait, wait := min (2 * wait) 10000000000 })
    ((w.addReg (0x4800 + k) 0x0B 1).setReg (0x4800 + k) 0x10 cause).event 1 0 5 k cause

/-- PORT_FAILURE (R313). -/
def execPortFailure (k cause : Nat) (s : State) : Host.Outcome State Fault Refusal := run (fun w => w.portFails k cause) s

/-- A port whose peer is not the one its table names fails as miswired (R319). -/
def Work.miswired (w : Work) (k : Nat) : Work := ((w.portDown k .miswired).portBit k true).event 1 0x66 5 k 0

/-- A qualified optical engine by its code (R322). -/
def qualifiedEngine (code : List Byte) : Bool :=
  let name := fun (s : String) => padTo 16 (s.toList.map (fun c => BitVec.ofNat 8 c.toNat))
  padTo 16 code == name "OQ-16S200" || padTo 16 code == name "OQ-16S050"

/-- The state of port k: a fuse or a record of its own comes before what it is doing (R2, R3, R36). -/
def Work.portSt (w : Work) (k : Nat) : PortSt :=
  if w.fuses.ports.contains k then .fused else if w.hasDefect 4 k 0 then .defective else (w.port k).st

/-- Port k trained by the steps of R319: its engine qualified, its UCIe modules and its lanes trained, its table entry in agreement,
its peer the one named; it then starts with fresh sequence numbers and credits. -/
def Work.trainPort (w : Work) (k : Nat) (t : PortTest) : Work :=
  let x := w.port k
  let w := if w.fuses.variant = 3 then w.setBlob (0x4800 + k) 0x11 (padTo 18 t.engine) else w
  let w := w.modPort k (fun x => { x with
    passed := t.passed, bitErrors := t.errors, worst := t.worst, rate := t.rate })
  if x.st = .fused ∨ x.st = .defective then w
  else if w.portSt k = .fused then w.modPort k (fun x => { x with st := .fused })
  else if w.portSt k = .defective || ((w.portDies k).isEmpty && w.siteMap.computed) then w.modPort k (fun x => { x with st := .defective })
  else if w.peerRole k = 0 ∨ !w.entryOk k then w.modPort k (fun x => { x with st := .down, lanes := 0 })
  else if w.fuses.variant = 3 ∧ !qualifiedEngine (t.engine.take 16) then
    (w.modPort k (fun x => { x with st := .unqualified, lanes := 0 })).event 1 0x66 5 k 0
  else if t.width = 0 ∨ (w.fuses.variant = 3 ∧ !t.siteTrains) then w.modPort k (fun x => { x with st := .down, lanes := 0 })
  else if t.peerPanel ≠ w.peerPanel k ∨ t.peerPort ≠ w.peerPort k ∨ t.peerRole ≠ w.peerRole k then w.miswired k
  else (w.modPort k (fun x => { x with
    st := if t.width = 16 then .up else .half, lanes := t.width, high := t.peerHalf && t.peerHigh, sendSeq := 0, lastGood := 0, nak := false, waits := false, part := [],
    asked := false, owed := [], last := none, resend := [], sinceBlank := 0, lastStamp := 0, lastStampAt := w.dieNow (1016 + k), sent := [], badReplays := 0, spent := [], egress := [], upAt := w.dieNow (1016 + k), peerPanel := t.peerPanel, peerPort := t.peerPort, role := t.peerRole })).readyChanged

/-- Port k brought up, with its failed bit: a cabled port that does not come up has failed (R319, R423). -/
def Work.bringUpPort (w : Work) (k : Nat) (t : PortTest) : Work :=
  let v := w.trainPort k t
  v.portBit k (v.peerRole k != 0 && !v.portUp k)

/-- PORT_RETRAIN: after its wait a failed port goes through the bring-up of R319 (R313). -/
def portRetrain (k : Nat) (t : PortTest) (w : Work) : Work :=
  if (w.port k).st = .failed ∨ (w.port k).st = .training then (w.reachOn (1016 + k) (w.port k).retryAt).bringUpPort k t else w

/-- PORT_RETRAIN (R313). -/
def execPortRetrain (k : Nat) (test : PortTest) (s : State) : Host.Outcome State Fault Refusal := run (portRetrain k test) s

/-! ### Frames (R310 to R312, R316) -/

/-- Frames that an acknowledgement covers leave the replay buffer. -/
def Port.acked (x : Port) (ack : Nat) : Port :=
  match x.sent with
  | [] => x
  | f :: _ =>
    let n := (ack + 65536 + 1 - f.seq) % 65536
    if n ≤ x.sent.length ∧ 0 < n then { x with sent := x.sent.drop n, badReplays := 0 } else x

/-- A frame's control slot applied: acknowledgement, Nak, returned slots, round-trip time, and the Stamp to be echoed (R310, R311,
R315). -/
def Work.controlSlot (w : Work) (k : Nat) (f : EdgeFrame) : Work :=
  let w := w.modPort k (fun x =>
    let x := if f.ackValid then x.acked f.ack else x
    { x with
      spent := f.credits.foldl (fun s c => tmod 0 s (c.1 * 2 + c.2.1) (· - c.2.2)) x.spent
      asked := x.asked || f.nak, lastStamp := f.stamp, lastStampAt := w.dieNow (1016 + k) })
  (w.setReg (0x4800 + k) 0x0C ((w.dieNow (1016 + k) % 2 ^ 32 + 2 ^ 33 - f.echo - f.echoHold) % 2 ^ 32)).portSend k 64

/-- A frame is discarded, and every later one until the frame that is due arrives. Nak is set at the first, and again by one that
fails its checks, which may be the replay of the frame that is due (R311). -/
def Port.discards (x : Port) (bad : Bool) : Port := if x.waits && !bad then x else { x with waits := true, nak := true }

/-- EDGE_FRAME_RECEIVE: a frame with a good CRC and no uncorrectable codeword is read. One in order has its control slot applied
and hands over its flits, whose packets go into ingress slots of their class; an idle one, which has no number of its own, has its
control slot applied; any other is discarded (R311, R312, R315, R316, R319). A peer with another identity makes the port fail as
miswired. -/
def edgeFrame (k : Nat) (f : EdgeFrame) (w : Work) : Work :=
  if !w.portUp k then w
  else
    let w := if f.corrected = 0 then w else w.corrected (0x4800 + k) 8 f.corrected 5 k
    let w := if f.fecGood then w else w.addReg (0x4800 + k) 9 1
    if f.crc ≠ edgeCrc f ∨ !f.fecGood then w.modPort k (·.discards true)
    else if f.senderPanel ≠ w.peerPanel k ∨ f.senderPort ≠ w.peerPort k ∨ f.role ≠ w.peerRole k then w.miswired k
    else
      if f.idle then w.controlSlot k f
      else if f.seq = ((w.port k).lastGood + 1) % 65536 then
        let (part, ps) := assemble (w.port k).part (edgeFlits f)
        let w := (w.modPort k (fun x => { x with lastGood := f.seq, nak := false, waits := false, part := part })).feedPort k 2 f
        let w : Work := { w with entering := w.entering ++ ps.map (fun p => ⟨k, some (w.ingressClass k p.srcPanel), p⟩) }
        w.controlSlot k f
      else w.modPort k (·.discards false)

/-- EDGE_FRAME_RECEIVE (R311). -/
def execEdgeFrameReceive (k : Nat) (frame : EdgeFrame) (s : State) : Host.Outcome State Fault Refusal := run (edgeFrame k frame) s

/-- EDGE_REPLAY: a Nak has asked for it, and the frames kept, from Ack + 1 on, are sent again; the eighth replay of one frame in
succession fails the port (R311, R313). -/
def edgeReplay (k : Nat) (w : Work) : Work :=
  let x := w.port k
  if !w.portUp k || !x.asked then w
  else if x.sent.isEmpty then w.modPort k (fun x => { x with asked := false })
  else
    let w := (w.modPort k (fun x => { x with
      asked := false, resend := x.sent, last := x.sent.getLast?, badReplays := x.badReplays + 1 })).corrected (0x4800 + k) 0x0A x.sent.length 5 k
    if 8 ≤ x.badReplays + 1 then w.portFails k 1 else w

/-- EDGE_REPLAY (R311). -/
def execEdgeReplay (k : Nat) (s : State) : Host.Outcome State Fault Refusal := run (edgeReplay k) s

end Sys2Proof.Machine
end

