-- ==== Sys2Proof/Machine/Twin.lean ====
section
/-! DEFINITION. Barriers within the panel and across panels, lateness and suspects, the Hinge, and the mirror engine
(R296, R331 to R339). -/

namespace Sys2Proof.Machine

/-! ### Messages between Sideboards (R330) -/

/-- A packet from this panel's Sideboard to the Sideboard of a panel, which stands at the same logical position. -/
def Work.boardPkt (w : Work) (type vc panel : Nat) : Packet :=
  { w.packet type w.sideboardA w.boardUnit 0 w.sideboardA w.boardUnit 0 with vc := vc, dstPanel := panel }

/-! ### Completion of a barrier (R296, R335, R336) -/

/-- The value that BarrierExpected holds for an ID (R296). -/
def Work.barrierExpected (w : Work) (id : Nat) : Nat := leAt (w.blob 0x2400 0x0D) (4 * id) 4

/-- Completions of an ID so far (0x2400.0E). -/
def Work.barrierCount (w : Work) (id : Nat) : Nat := tget 0 w.job.completions id

/-- A completion applied: the count goes up, source 14 fires and every task unit is told with BDONE (R296, R350). -/
def Work.applyBarrier (w : Work) (id : Nat) : Work :=
  let n := (w.barrierCount id + 1) % 2 ^ 32
  let w := (w.modJob (fun j => { j with completions := tput j.completions id n })).interrupt 14
  ((List.range w.numDies).filter w.diePresent).foldl (fun w d =>
    w.send { w.packet 0x35 w.sideboardA w.boardUnit 0 d 0x20 0 with vc := 0, typeData := id + n * 2 ^ 32 }) w

/-- The region records of the mirror: Src, DstA, DstB, Length (R334). -/
def Work.mirrorRegions (w : Work) : List (Nat × Nat × Nat × Nat) :=
  let b := w.blob 0x7800 0x0A
  (List.range (b.length / 32)).map (fun i =>
    (leAt b (32 * i) 8, leAt b (32 * i + 8) 8, leAt b (32 * i + 16) 8, leAt b (32 * i + 24) 8))

/-- The mirror engine of the Hutch that owns a region sends it to the twin (R334, R335). Transfers are numbered by the
region, and their DONE comes back to sub 2. -/
def Work.mirrorRegion (w : Work) (half i : Nat) (r : Nat × Nat × Nat × Nat) : Work :=
  let src := w.localAddr r.1
  let b := aHutch src
  let dst := if half = 0 then r.2.1 else r.2.2.1
  let n := r.2.2.2
  let p := { w.hutchPkt 0x17 b with vc := 4, dstPanel := w.reg 0x4900 2, dstUnit := 0x40 + field dst 38 4, srcSub := 2, transfer := i }
  (w.sendAwr p src dst n true).feedHutch b 5 (w.read src n)

/-- Step N completes in a mirror mode: every region is copied to its half (R335). A region that its Hutch cannot read fails the
copy with the status of the read, and the completion stays held (R186, R195, R336; assumption 104). -/
def Work.startMirror (w : Work) (n : Nat) : Work :=
  let half := n % 2
  let rs := w.mirrorRegions.zipIdx.filter (fun e => e.1.2.2.2 != 0)
  let w := rs.foldl (fun w e =>
    match w.readStatus (w.localAddr e.1.1) e.1.2.2.2 with
    | some st => w.setReg 0x7800 0x0F (st + e.2 % 256 * 256)
    | none => w.mirrorRegion half e.2 e.1) w
  { w with hinge := { w.hinge with copying := some (n, half), committed := false, copyLeft := rs.length, copyAt := w.now } }

/-- Step N of this ID is mirrored, and its completion held (R336). -/
def Work.mirrors (w : Work) (id n : Nat) : Bool :=
  let mode := w.reg 0x7800 7
  w.hinge.st == 2 && id == w.reg 0x7800 9 && (mode == 1 || (mode == 2 && n % max (w.reg 0x7800 8) 1 == 0))

/-- A barrier is complete: applied at once, or held until the twin has acknowledged the mirrored step; one that completes again
meanwhile waits behind (R296, R336). -/
def Work.completeBarrier (w : Work) (id : Nat) : Work :=
  let n := (w.barrierCount id + 1) % 2 ^ 32
  if w.hinge.heldStep = some id then { w with hinge := { w.hinge with heldNext := w.hinge.heldNext + 1 } }
  else if w.mirrors id n then ({ w with hinge := { w.hinge with heldStep := some id } } : Work).startMirror n else w.applyBarrier id

/-- The held completion is applied, and with it the copy is over; those that waited behind it come next (R336). -/
def Work.releaseStep (w : Work) : Work :=
  let id := w.hinge.heldStep
  let behind := w.hinge.heldNext
  let w : Work := { w with hinge := { w.hinge with heldStep := none, heldNext := 0, copying := none, committed := false, copyLeft := 0 } }
  match id with
  | some i => (List.range behind).foldl (fun w _ => w.completeBarrier i) (w.applyBarrier i)
  | none => w

/-- The record of a global barrier: master panel and panel count (0x7800.01). -/
def Work.globalRec (w : Work) (id : Nat) : Option (Nat × Nat) :=
  let b := w.blob 0x7800 1
  (List.range (b.length / 8)).findSome? (fun i => if leAt b (8 * i) 2 = id then some (leAt b (8 * i + 2) 2, leAt b (8 * i + 4) 2) else none)

/-- PPS is locked at the clock root (R384). -/
def Work.ppsLocked (w : Work) : Bool := w.root.pps == 2

/-- The 64-bit time whose low half a header carries (R233, R300). -/
def Work.stampTime (w : Work) (stamp : Nat) : Nat := w.now - (w.now + 2 ^ 32 - stamp) % 2 ^ 32

/-- BARRIVE: an arrival is counted; at the expected value the barrier completes, or the master of a global barrier is
told (R296, R338). An ID whose expected value is 0 raises a WARN event. -/
def recvBarrive (p : Packet) (w : Work) : Work :=
  let w := w.take p
  let id := field p.typeData 0 12
  let want := w.barrierExpected id
  if want = 0 then w.event 2 0 9 0 id
  else
    let n := tget 0 w.job.arrivals id + 1
    if n < want then w.modJob (fun j => { j with arrivals := tput j.arrivals id n })
    else
      let w := w.modJob (fun j => { j with arrivals := tput j.arrivals id 0 })
      match w.globalRec id with
      | none => w.completeBarrier id
      | some (master, _) =>
        if master ≠ w.panelId ∧ (w.upFor master).isEmpty then w.event 1 0x65 0 0 id
        else w.send { w.boardPkt 0x53 1 master with
          address := w.stampTime p.stamp, typeData := id + ofBool w.ppsLocked * 2 ^ 16 }

/-- BARRIVE (R296). -/
def execBarrive (pkt : Packet) (s : State) : Host.Outcome State Fault Refusal := run (onTurn pkt (recvBarrive pkt)) s

/-- BDONE: the task unit knows the completion count, and what waits on it may start (R296). -/
def recvBdone (p : Packet) (w : Work) : Work :=
  let w := w.take p
  w.modTu (w.dstDie p) (fun t => { t with barriers := tput t.barriers (field p.typeData 0 12) (field p.typeData 32 32) })

/-- BDONE (R296). -/
def execBdone (pkt : Packet) (s : State) : Host.Outcome State Fault Refusal := run (onTurn pkt (recvBdone pkt)) s

/-! ### Barriers across panels and lateness (R338, R339) -/

/-- Late completions in a history. -/
def lateCount (h : BitVec 64) : Nat := ((List.range 64).filter (fun i => h.getLsbD i)).length

/-- One participant judged: its history takes the completion, and with 8 late ones it becomes suspect (R339). -/
def Work.judge (w : Work) (panel : Nat) (late : Bool) : Work :=
  let old := (w.lates.find? (fun l => l.panel == panel)).map (·.history)
  let h : BitVec 64 := (old.getD 0) * 2 + BitVec.ofNat 64 (ofBool late)
  let w : Work := { w with lates :=
    if old.isSome then w.lates.map (fun l => if l.panel = panel then { l with history := h } else l) else w.lates ++ [⟨panel, h⟩] }
  if 8 ≤ lateCount h ∧ !w.suspects.contains panel ∧ w.suspects.length < 256 then
    let w : Work := { w with suspects := w.suspects ++ [panel] }
    ((w.event 2 0 0 0 panel).interrupt 13).send { w.boardPkt 0x55 0 panel with typeData := 1 }
  else w

/-- XBARRIVE at the master: with PanelCount arrivals the participants are judged against the lower median of their times
and told (R338, R339). -/
def recvXbarrive (p : Packet) (w : Work) : Work :=
  let w := w.take p
  let id := field p.typeData 0 12
  match w.globalRec id with
  | some (master, count) =>
    if master ≠ w.panelId then w
    else
      let g := (w.globals.find? (fun g => g.id == id)).getD { id := id }
      let as := g.arrivals ++ [(p.srcPanel, p.address, bit p.typeData 16)]
      let rest := w.globals.filter (fun g => g.id != id)
      if as.length < count then { w with globals := rest ++ [{ g with arrivals := as }] }
      else
        let n := (g.completions + 1) % 2 ^ 32
        let w : Work := { w with globals := rest ++ [{ id := id, arrivals := [], completions := n }] }
        let times := sortBy (fun a b => decide (a ≤ b)) (as.map (fun x => x.2.1))
        let limit := times.getD ((times.length - 1) / 2) 0 + 1000 * w.reg 0x7800 2
        let w := if w.ppsLocked then (as.filter (fun x => x.2.2)).foldl (fun w x => w.judge x.1 (decide (limit < x.2.1))) w else w
        as.foldl (fun w x => w.send { w.boardPkt 0x54 0 x.1 with typeData := id + n * 2 ^ 32 }) w
  | none => w

/-- XBARRIVE (R338). -/
def execXbarrive (pkt : Packet) (s : State) : Host.Outcome State Fault Refusal := run (onTurn pkt (recvXbarrive pkt)) s

/-- XBDONE: a participant completes the barrier (R338). -/
def recvXbdone (p : Packet) (w : Work) : Work := (w.take p).completeBarrier (field p.typeData 0 12)

/-- XBDONE (R338). -/
def execXbdone (pkt : Packet) (s : State) : Host.Outcome State Fault Refusal := run (onTurn pkt (recvXbdone pkt)) s

/-- XSUSPECT: SuspectSelf is set, with an event of the panel's own, or cleared (R339). -/
def recvXsuspect (p : Packet) (w : Work) : Work :=
  let w := w.take p
  if bit p.typeData 0 then ((w.setReg 0x7800 3 1).event 2 0 0 0 p.srcPanel).interrupt 13
  else if w.reg 0x7800 3 = 0 then w
  else (w.setReg 0x7800 3 0).interrupt 13

/-- XSUSPECT (R339). -/
def execXsuspect (pkt : Packet) (s : State) : Host.Outcome State Fault Refusal := run (onTurn pkt (recvXsuspect pkt)) s

/-- CLEAR_SUSPECT: the mark and the history of a panel go, and the panel is told (0x7800.06). A panel not on the list is
refused with 0x73. -/
def clearSuspectPanel (panel : Nat) (w : Work) : Work :=
  if !w.suspects.contains panel then w.refuse 0x73
  else
    let w : Work := { w with suspects := w.suspects.filter (· != panel), lates := w.lates.filter (fun l => l.panel != panel) }
    ((w.send { w.boardPkt 0x55 0 panel with typeData := 0 }).interrupt 13).accept

/-- CLEAR_SUSPECT (R339). -/
def execClearSuspect (panel : Nat) (s : State) : Host.Outcome State Fault Refusal := run (clearSuspectPanel panel) s

/-! ### The Hinge (R331, R332) -/

/-- The panel's domain tags: tray, power shelf, fan tray, switch (R331). -/
def Work.domainTags (w : Work) : List Nat := (List.range 4).map (fun i => leAt (w.blob 0x4900 3) (4 * i) 4)

/-- The first tag that is zero on either side or shared (R331). -/
def badTag (mine twin : List Nat) : Option Nat :=
  (List.range 4).find? (fun i => mine.getD i 0 == 0 || twin.getD i 0 == 0 || mine.getD i 0 == twin.getD i 0)

/-- The status of the last Hinge command (0x4900.09). -/
def Work.hingeStatus (w : Work) (status detail : Nat) : Work := w.setReg 0x4900 9 (status + detail * 2 ^ 8)

/-- The Hinge in a state, with source 12 told of the change (R350). -/
def Work.hingeState (w : Work) (st : Nat) : Work :=
  let told := decide (w.hinge.st ≠ st)
  let w := ({ w with hinge := { w.hinge with st := st } } : Work).setReg 0x4900 1 st
  if told then w.interrupt 12 else w

/-- The Hinge in a state in which no attach is under way. -/
def Work.hingeTo (w : Work) (st : Nat) : Work :=
  ({ w with hinge := { w.hinge with attachWritten := false, attachSeen := false } } : Work).hingeState st

/-- The answer to the twin's attach request by its tags: 0x60 ends the attach on both panels (R331). -/
def Work.answerAttach (w : Work) : Work :=
  match badTag w.domainTags w.hinge.twinTags with
  | some i =>
    let w := w.send { w.boardPkt 0x58 2 w.hinge.twin with typeData := 0x60 + i * 2 ^ 8 }
    (w.hingeTo 0).hingeStatus 0x60 i
  | none => w.send { w.boardPkt 0x58 2 w.hinge.twin with typeData := 0 }

/-- HATTACH to the twin (R330, R331). -/
def Work.sendAttach (w : Work) (on : Bool) : Work :=
  w.send { w.boardPkt 0x57 1 w.hinge.twin with typeData := ofBool on, payload := flits (w.domainTags.flatMap (fun t => toBytes t 4)) }

/-- ATTACH: at least two Hinge ports must be cabled to the panel that TwinPanel names, or the twin cannot answer (0x61;
assumption 109); with the twin named, HATTACH goes out; the twin's own, where it has come already, is answered (R331). -/
def attach (w : Work) : Work :=
  if w.jobRuns then w.refuseJob
  else if w.reg 0x4900 9 % 256 = 0xFF then w.refuse 0x76
  else if w.hinge.st = 2 then w.accept
  else if ((List.range 16).filter (fun k => w.peerRole k == 2 && w.peerPanel k == w.reg 0x4900 2)).length < 2 then
    (w.hingeStatus 0x61 0).accept
  else
    let w := ({ w with hinge := { w.hinge with twin := w.reg 0x4900 2, attachWritten := true } } : Work).hingeState 1
    let w := ((w.hingeStatus 0xFF 0).sendAttach true).accept
    if w.hinge.attachSeen then w.answerAttach else w

/-- ATTACH (R331). -/
def execAttach (s : State) : Host.Outcome State Fault Refusal := run attach s

/-- The pair ends: mirroring stops, and a held completion is applied (R331, R332, R336). -/
def Work.unpair (w : Work) (st : Nat) : Work := (w.hingeTo st).releaseStep

/-- DETACH: the pair ends here, and the twin is told (R331). -/
def detach (w : Work) : Work :=
  if w.jobRuns then w.refuseJob
  else
    let w := if w.hinge.st = 0 then w else w.sendAttach false
    ((w.unpair 0).hingeStatus 0 0).accept

/-- DETACH (R331). -/
def execDetach (s : State) : Host.Outcome State Fault Refusal := run detach s

/-- HATTACH: an attach request is kept, and answered once Attach is written here and TwinPanel names the sender; a detach
request ends the pair (R331). -/
def recvHattach (p : Packet) (w : Work) : Work :=
  let w := w.take p
  if bit p.typeData 0 then
    if p.srcPanel ≠ w.reg 0x4900 2 then w
    else
      let tags := (List.range 4).map (fun i => leAt p.payload (4 * i) 4)
      let w : Work := { w with hinge := { w.hinge with twin := p.srcPanel, twinTags := tags, attachSeen := true } }
      if w.hinge.attachWritten then w.answerAttach else w
  else if p.srcPanel = w.hinge.twin ∧ w.hinge.st ≠ 0 then (w.unpair 0).send { w.boardPkt 0x58 2 p.srcPanel with typeData := 0 }
  else w

/-- HATTACH (R331). -/
def execHattach (pkt : Packet) (s : State) : Host.Outcome State Fault Refusal := run (onTurn pkt (recvHattach pkt)) s

/-- HACK: the twin has agreed and the panels are paired, or it has refused with the tag (R331). -/
def recvHack (p : Packet) (w : Work) : Work :=
  let w := w.take p
  let status := field p.typeData 0 8
  if w.hinge.st ≠ 1 ∨ p.srcPanel ≠ w.hinge.twin then w
  else if status ≠ 0 then (w.hingeTo 0).hingeStatus status (field p.typeData 8 8)
  else
    let w : Work := { w with hinge := { w.hinge with lastBeat := w.now, beats := 0, beatAt := 0, beatWaits := [] } }
    (w.hingeTo 2).hingeStatus 0 0

/-- HACK (R331). -/
def execHack (pkt : Packet) (s : State) : Host.Outcome State Fault Refusal := run (onTurn pkt (recvHack pkt)) s

/-- HBEAT_SEND: HeartbeatMicroseconds after the last, a heartbeat on every Hinge port that is up, as far as its egress credit goes
(R317, R332). -/
def hbeatSend (w : Work) : Work :=
  if w.hinge.st ≠ 2 then w
  else
    let w := if w.hinge.beatAt = 0 then w else w.reach (w.hinge.beatAt + 1000 * w.reg 0x4900 7)
    let n := (w.hinge.beats + 1) % 2 ^ 32
    let p := { w.boardPkt 0x56 0 w.hinge.twin with typeData := n + w.hinge.st * 2 ^ 32 }
    let w : Work := { w with hinge := { w.hinge with
      beats := n, beatAt := w.now, beatWaits := w.hinge.beatWaits ++
        ((List.range 16).filter (fun k => w.peerRole k == 2 && w.peerPanel k == w.hinge.twin && w.portUp k)).map (fun k => (k, p)) } }
    w.sendBeats

/-- HBEAT_SEND (R332). -/
def execHbeatSend (s : State) : Host.Outcome State Fault Refusal := run hbeatSend s

/-- HBEAT: the twin lives (R332). -/
def recvHbeat (p : Packet) (w : Work) : Work :=
  let w := w.take p
  if w.hinge.st = 2 ∧ p.srcPanel = w.hinge.twin then { w with hinge := { w.hinge with lastBeat := w.now } } else w

/-- HBEAT (R332). -/
def execHbeat (pkt : Packet) (s : State) : Host.Outcome State Fault Refusal := run (onTurn pkt (recvHbeat pkt)) s

/-- TWIN_LOSS: LossMicroseconds have passed without a heartbeat: TWIN LOST, an ERROR event, mirroring stops, and a held
completion is applied (R332, R336). -/
def twinLoss (w : Work) : Work :=
  if w.hinge.st ≠ 2 then w
  else
    let w := w.reach (w.hinge.lastBeat + 1000 * w.reg 0x4900 8)
    let w := w.event 1 0x61 0 0 w.hinge.twin
    if w.job.mirrorWaits then
      (w.unpair 3).modJob (fun j => { j with mirrorWaits := false }) |>.setReg 0x2400 9 0x61
    else w.unpair 3

/-- TWIN_LOSS (R332). -/
def execTwinLoss (s : State) : Host.Outcome State Fault Refusal := run twinLoss s

/-! ### The mirror (R334 to R336) -/

/-- The destination ranges of the regions, DstA and DstB of each in turn, sent to the twin, 16 to a packet (R334). -/
def Work.sendRanges (w : Work) : Work :=
  let rs := w.mirrorRegions.flatMap (fun r => [(r.2.1, r.2.2.2), (r.2.2.1, r.2.2.2)])
  let total := max 1 ((rs.length + 15) / 16)
  (List.range total).foldl (fun w i =>
    let part := (rs.drop (16 * i)).take 16
    w.send { w.boardPkt 0x59 1 w.hinge.twin with
      total := total, index := i, payload := flits (part.flatMap (fun r => toBytes r.1 8 ++ toBytes r.2 8)) }) w

/-- A range lies wholly inside one of AcceptRanges (R334). -/
def Work.accepts (w : Work) (base n : Nat) : Bool :=
  let b := w.blob 0x7800 0x0B
  let a := w.localAddr base
  n == 0 || (List.range (b.length / 16)).any (fun i =>
    let lo := w.localAddr (leAt b (16 * i) 8)
    decide (lo ≤ a) && decide (a + n ≤ lo + leAt b (16 * i + 8) 8))

/-- MRANGES: the twin checks the ranges, and answers after the last packet with the first region refused (R334). -/
def recvMranges (p : Packet) (w : Work) : Work :=
  let w := w.take p
  let bad := (List.range (p.payload.length / 16)).find? (fun i => !w.accepts (leAt p.payload (16 * i) 8) (leAt p.payload (16 * i + 8) 8))
  let first := (if p.index = 0 then none else w.hinge.badRegion).or (bad.map (fun i => (16 * p.index + i) / 2))
  let w : Work := { w with hinge := { w.hinge with badRegion := first } }
  if p.index + 1 < p.total then w
  else
    let w : Work := { w with hinge := { w.hinge with badRegion := none } }
    w.send { w.boardPkt 0x5A 2 p.srcPanel with typeData := match first with | some i => 0x64 + i * 2 ^ 8 | none => 0 }

/-- MRANGES (R334). -/
def execMranges (pkt : Packet) (s : State) : Host.Outcome State Fault Refusal := run (onTurn pkt (recvMranges pkt)) s

/-- The job enters a state, with source 7 (R350). -/
def Work.jobTo (w : Work) (st : JobSt) : Work := (w.modJob (fun j => { j with st := st })).interrupt 7

/-- MRACK: the waiting Configure goes through, or fails with 0x64 and the region (R334). -/
def recvMrack (p : Packet) (w : Work) : Work :=
  let w := w.take p
  if !w.job.mirrorWaits || p.srcPanel != w.hinge.twin then w
  else
    let w := w.modJob (fun j => { j with mirrorWaits := false })
    let status := field p.typeData 0 8
    if status = 0 ∧ w.job.st.runs then w.setReg 0x2400 9 0x57
    else if status = 0 then (w.jobTo .configured).setReg 0x2400 9 0 else w.setReg 0x2400 9 (status + field p.typeData 8 8 * 2 ^ 8)

/-- MRACK (R334). -/
def execMrack (pkt : Packet) (s : State) : Host.Outcome State Fault Refusal := run (onTurn pkt (recvMrack pkt)) s

/-- MIRROR_COPY_COMPLETE: every region's copy has been counted, and MCOMMIT goes out (R335). -/
def mirrorCopyComplete (w : Work) : Work :=
  match w.hinge.copying with
  | some (n, half) =>
    if w.hinge.copyLeft ≠ 0 ∨ w.hinge.committed then w
    else
      let w : Work := { w with hinge := { w.hinge with committed := true } }
      (w.setReg 0x7800 0x0E ((w.now - w.hinge.copyAt) / 1000 % 2 ^ 32)).send { w.boardPkt 0x5B 1 w.hinge.twin with
        typeData := n + half * 2 ^ 32 }
  | none => w

/-- MIRROR_COPY_COMPLETE (R335). -/
def execMirrorCopyComplete (s : State) : Host.Outcome State Fault Refusal := run mirrorCopyComplete s

/-- MCOMMIT: the twin records step and half, and answers MACK; from a panel that is not its twin with the fault bit
(R335). -/
def recvMcommit (p : Packet) (w : Work) : Work :=
  let w := w.take p
  let ok := w.hinge.st == 2 && p.srcPanel == w.hinge.twin
  let w : Work := if ok then { w with hinge := { w.hinge with twinCopy := some (field p.typeData 0 32, field p.typeData 32 1) } } else w
  w.send { w.boardPkt 0x5C 2 p.srcPanel with typeData := field p.typeData 0 32 + ofBool (!ok) * 2 ^ 32 }

/-- MCOMMIT (R335). -/
def execMcommit (pkt : Packet) (s : State) : Host.Outcome State Fault Refusal := run (onTurn pkt (recvMcommit pkt)) s

/-- MACK: MirroredStep advances, and the held completion is applied (R336). -/
def recvMack (p : Packet) (w : Work) : Work :=
  let w := w.take p
  match w.hinge.copying with
  | some (n, _) =>
    if field p.typeData 0 32 ≠ n ∨ !w.hinge.committed then w
    else (if bit p.typeData 32 then w else w.setReg 0x7800 0x0C n).releaseStep
  | none => w

/-- MACK (R336). -/
def execMack (pkt : Packet) (s : State) : Host.Outcome State Fault Refusal := run (onTurn pkt (recvMack pkt)) s

/-! ### The pattern generator of a port (R333) -/

/-- PATTERN_TEST: PRBS31 for a time. Refused on a Hinge port while paired, and on a topology port while a job runs. A
port that is fused or defective sends nothing. -/
def patternTest (k ms : Nat) (w : Work) : Work :=
  let x := w.port k
  if 16 ≤ k then w.refuse 0x70
  else if x.st = .testing then w.refuse 0x76
  else if w.peerRole k = 2 ∧ w.hinge.st = 2 then w.refuse 0x62 (nameOf 0x4900 0)
  else if w.peerRole k = 1 ∧ w.jobRuns then w.refuseJob
  else if x.st = .fused ∨ x.st = .defective then w.accept
  else
    let w := if w.portUp k then w.readyChanged else w
    (w.modPort k (fun x => { x with st := .testing, before := x.st, testUntil := w.dieNow (1016 + k) + 1000000 * ms })).accept

/-- PATTERN_TEST (R333). -/
def execPatternTest (k ms : Nat) (s : State) : Host.Outcome State Fault Refusal := run (patternTest k ms) s

/-- PATTERN_TEST_COMPLETE: the time has passed, and the port is again what it was before (assumption 35). -/
def patternDone (k : Nat) (w : Work) : Work :=
  let x := w.port k
  if x.st = .testing then
    let w := (w.reachOn (1016 + k) x.testUntil).modPort k (fun x => { x with st := x.before })
    (if w.portUp k then w.readyChanged else w).portSend k 64
  else w

/-- PATTERN_TEST_COMPLETE (R333). -/
def execPatternTestComplete (k : Nat) (s : State) : Host.Outcome State Fault Refusal := run (patternDone k) s

end Sys2Proof.Machine
end

