-- ==== Sys2Proof/Machine/Retire.lean ====
section
/-! DEFINITION. Suspect and retire-pending arrays, known-answer runs, and the places of a die that can take a task
(R293, R436 to R440). -/

namespace Sys2Proof.Machine

/-! ### Marks (R440) -/

/-- The mark of a physical array. -/
def Work.markOf (w : Work) (f : Nat) : Mark := tget {} w.marks f
def Work.modMark (w : Work) (f : Nat) (g : Mark → Mark) : Work := { w with marks := tmod {} w.marks f g }

/-- The run in which a failure counts: the Start it follows, apart for arrays that are not under a job (R440). -/
def Work.runKey (w : Work) : Nat := 2 * w.job.runNo + ofBool w.jobRuns

/-- A failure of a physical array with its source and pattern: the first marks it suspect with a WARN event, a second in
another run makes it retire-pending, with a defect record and an ERROR event; one failure a run counts, and an array whose mark
was cleared in the same run is marked again (R440). -/
def Work.arrayFails (w : Work) (f source pattern : Nat) : Work :=
  let n := f / 20
  let a := f % 20
  let m := w.markOf f
  if m.lastRun = some w.runKey then
    let w' := w.modMark f (fun m => { m with suspect := true, clean := 0 })
    if m.suspect then w' else (w'.setReg (0x3100 + n) 0x16 w.now).event 2 0 2 (32 * n + a) pattern
  else
    let first := m.failures == 0
    let w := (w.modMark f (fun m => { m with
        suspect := true, failures := min (m.failures + 1) 3, lastRun := some w.runKey, clean := 0
        pattern := if first then pattern else m.pattern, source := if first then source else m.source
        temp := if first then w.siteTemp n else m.temp, supply := if first then w.siteSupply n else m.supply
        time := if first then w.now else m.time })).setReg (0x3100 + n) 0x16 w.now
    if first then w.event 2 0 2 (32 * n + a) pattern
    else if m.retire then w
    else
      let w := w.modMark f (fun m => { m with retire := true })
      let w := w.addDefect { kind := 1, source := m.source, site := n, sub := a, temp := m.temp, supply := m.supply,
                             pattern := m.pattern, count := 2, time := m.time }
      ((w.addReg 0x2100 0x0D 1).event 1 0 2 (32 * n + a) m.pattern).restartMap

/-- A matching checked comparison of a physical array: 64 in a row clear a suspect mark (R440). -/
def Work.cleanCheck (w : Work) (f : Nat) : Work :=
  w.modMark f (fun m =>
    let c := min (m.clean + 1) 64
    { m with clean := c, suspect := m.suspect && decide (c < 64) })

/-- CLEAR_ARRAY_SUSPECT: the suspect marks of a site's arrays go (0xB000.17). -/
def clearArraySuspect (n : Nat) (w : Work) : Work :=
  if 416 ≤ n then w.refuse 0x73
  else ({ w with marks := w.marks.map (fun e => if e.1 / 20 = n then (e.1, { e.2 with suspect := false }) else e) } : Work).accept

/-- CLEAR_ARRAY_SUSPECT (R440). -/
def execClearArraySuspect (site : Nat) (s : State) : Host.Outcome State Fault Refusal := run (clearArraySuspect site) s

/-! ### Which arrays can take an instance (R293, R294) -/

/-- The array is present, and not retire-pending (R440). -/
def Work.mayTake (w : Work) (a : Nat) : Bool :=
  w.arrPresent a &&
    (match w.physical (a / 16) (a % 16) with
     | some f => !(w.markOf f).retire
     | none => false)

/-- No task holds the array and no load of it is under way. -/
def Arr.free (x : Arr) : Bool :=
  x.task.isNone && x.load == .none && (x.st == .empty || x.st == .ready || x.st == .held)

def TaskDesc.pinned (d : TaskDesc) : Bool := bit d.flags 0
def TaskDesc.force (d : TaskDesc) : Bool := bit d.flags 1
def TaskDesc.checkable (d : TaskDesc) : Bool := bit d.flags 2
def TaskDesc.exact (d : TaskDesc) : Bool := bit d.flags 3
def TaskDesc.waits (d : TaskDesc) : Bool := bit d.waitBarrier 15

/-- The class in which a free array is a candidate, best first: READY with the image, EMPTY, READY with an image of
another epoch, HELD when forced (R293). -/
def Arr.candidate (x : Arr) (d : TaskDesc) (epoch : Nat) : Option Nat :=
  if x.st = .ready ∧ x.imageId = d.imageId then some 0
  else if x.st = .empty then some 1
  else if x.st = .ready ∧ x.epoch ≠ epoch then some 2
  else if x.st = .held ∧ d.force then some 3
  else none

/-- The logical arrays of die d that a descriptor may use. -/
def Work.arraysFor (w : Work) (d : Nat) (t : TaskDesc) : List Nat :=
  ((if t.exact then [t.array] else List.range 16).map (arrOf d)).filter w.mayTake

/-- The epoch of a registered image. -/
def Work.imageEpoch (w : Work) (id : Nat) : Option Nat := (w.registry.find? (fun e => e.id == id)).map (·.epoch)

/-- The best candidate of die d: the first at or after the rotation pointer in its class (R293, R294). -/
def Work.pickArray (w : Work) (d : Nat) (t : TaskDesc) : Option (Nat × Nat) :=
  match w.imageEpoch t.imageId with
  | none => none
  | some ep =>
    let cs := ((w.arraysFor d t).filter (fun a => (w.arr a).free)).filterMap (fun a => ((w.arr a).candidate t ep).map (fun c => (a, c)))
    let rot := (w.die d).tu.rotation
    let turn := fun (a : Nat) => (a % 16 + 16 - rot) % 16
    cs.foldl (fun best e => match best with
      | none => some e
      | some b => if e.2 < b.2 ∨ (e.2 = b.2 ∧ turn e.1 < turn b.1) then some e else some b) none

/-- Some array of the die is taken now, or could be a candidate once free (R293). -/
def Work.couldTake (w : Work) (d : Nat) (t : TaskDesc) : Bool :=
  match w.imageEpoch t.imageId with
  | some ep => (w.arraysFor d t).any (fun a => !(w.arr a).free || ((w.arr a).candidate t ep).isSome)
  | none => false

/-! ### Known-answer tiles (R438) -/

/-- An array as known-answer tiles leave it: EMPTY, with the tiles' epoch and cells without a program (R438; assumption
37). -/
def Arr.afterKat (x : Arr) : Arr :=
  { x with
    imageId := 0, graphId := 0, epoch := 3 - x.epoch, st := .empty, ports := [], templates := [], chans := [], inBuf := [], runs := []
    engines := [], cells := x.cells.map (fun e => (e.1, { sr := e.2.sr })), stopped := false, pipe := [] }

/-- KAT_RUN: the set runs on an array that is EMPTY, or READY with no queued instance of its die able to use it; a
failed tile, named by its pattern class, is a failure of the array. A placement that has just taken the array makes the
set be abandoned. -/
def katRun (a : Nat) (failed : Option Nat) (w : Work) : Work :=
  let x := w.arr a
  let wanted := (w.die (a / 16)).tu.queue.any (fun i => (w.arraysFor (a / 16) i.desc).contains a &&
    (match w.imageEpoch i.desc.imageId with
     | some ep => (x.candidate i.desc ep).isSome
     | none => false))
  match w.physical (a / 16) (a % 16) with
  | none => w
  | some f =>
    if !w.arrPresent a then w
    else if x.task.isSome && x.load == .asked then w.addReg 0xB000 0x16 1
    else if x.free && (x.st == .empty || (x.st == .ready && !wanted)) then
      let w := (w.addReg 0xB000 0x14 1).modArr a Arr.afterKat
      match failed with
      | some p => (w.addReg 0xB000 0x15 1).arrayFails f 4 p
      | none => w
    else w

/-- KAT_RUN (R438). -/
def execKatRun (a : Nat) (failed : Option Nat) (s : State) : Host.Outcome State Fault Refusal := run (katRun a failed) s

end Sys2Proof.Machine
end

