-- ==== Sys2Proof/Machine/Tasks.lean ====
section
/-! DEFINITION. Task lists, descriptors, placement, work stealing, pushed tasks, and the end of a task with its
completion record (R287 to R300, R439). -/

namespace Sys2Proof.Machine

/-! ### Lists (R287, R288, 0x2401) -/

/-- The status of the last list command: list number in [15:8] and above (0x2401.05). -/
def Work.listStatus (w : Work) (status list : Nat) : Work := w.setReg 0x2401 5 (status + list % 256 * 2 ^ 8)

/-- A number is a power of two from 16 to 65,536. -/
def ringSlots (n : Nat) : Bool := (List.range 13).any (fun i => n == 16 * 2 ^ i)

/-- LIST_CREATE: a list with its ring, status line and holder; every slot takes the Seq of the lap before the first
(R287, R288). -/
def listCreate (data : List Byte) (w : Work) : Work :=
  let n := leAt data 0 2
  let holder := leAt data 2 2
  let slots := leAt data 4 4
  let ring := leAt data 8 8
  let status := leAt data 16 8
  if !w.job.st.mayBind then w.refuseJob
  else if data.length ≠ 32 then w.refuse 0x72
  else if 1024 ≤ n ∨ w.numDies ≤ holder ∨ !ringSlots slots ∨ aSpace ring ≠ 0 ∨ ring % 256 ≠ 0 ∨ aSpace status ≠ 0 ∨ status % 64 ≠ 0 ∨
      leAt data 24 8 ≠ 0 ∨ w.lists.any (fun e => e.1 == n) ∨ 4 ≤ (w.lists.filter (fun e => e.2.holder == holder)).length then
    (w.listStatus 0x73 n).refuse 0x73
  else
    match (w.writeStatus ring (64 * slots)).or (w.writeStatus status 64) with
    | some st => (w.listStatus st n).accept
    | none =>
      let w := (List.range slots).foldl (fun w j => w.storeBytes (ring + 64 * j) (toBytes ((j + 1 + 2 ^ 32 - slots) % 2 ^ 32) 4)) w
      let w := w.storeBytes status (List.replicate 64 0)
      let w : Work := { w with lists := w.lists ++ [(n, { holder := holder, slots := slots, ring := ring, status := status })] }
      (w.listStatus 0 n).accept

/-- LIST_CREATE (R288). -/
def execListCreate (data : List Byte) (s : State) : Host.Outcome State Fault Refusal := run (listCreate data) s

/-- LIST_DELETE (R287). -/
def listDelete (n : Nat) (w : Work) : Work :=
  if !w.job.st.mayBind then w.refuseJob
  else if !w.lists.any (fun e => e.1 == n) then (w.listStatus 0x73 n).refuse 0x73
  else (({ w with lists := w.lists.filter (fun e => e.1 != n) } : Work).listStatus 0 n).accept

/-- LIST_DELETE (R287). -/
def execListDelete (list : Nat) (s : State) : Host.Outcome State Fault Refusal := run (listDelete list) s

/-! ### Descriptors (R291) -/

/-- The fields of 64 descriptor bytes. -/
def taskOf (b : List Byte) : TaskDesc :=
  { seq := leAt b 0 4, kind := leAt b 4 1, flags := leAt b 5 1, array := leAt b 6 1, fanout := leAt b 7 1, imageId := leAt b 8 4,
    die := leAt b 0xC 2, waitBarrier := leAt b 0xE 2, waitCount := leAt b 0x10 4, stride := leAt b 0x14 4, base0 := leAt b 0x18 8,
    base1 := leAt b 0x20 8, base2 := leAt b 0x28 8, completion := leAt b 0x30 8, timeLimit := leAt b 0x38 4, zeros := leAt b 0x3C 4 == 0 }

/-- The bytes of a descriptor. -/
def TaskDesc.bytes (d : TaskDesc) : List Byte :=
  toBytes d.seq 4 ++ toBytes d.kind 1 ++ toBytes d.flags 1 ++ toBytes d.array 1 ++ toBytes d.fanout 1 ++ toBytes d.imageId 4 ++
    toBytes d.die 2 ++ toBytes d.waitBarrier 2 ++ toBytes d.waitCount 4 ++ toBytes d.stride 4 ++ toBytes d.base0 8 ++ toBytes d.base1 8 ++
    toBytes d.base2 8 ++ toBytes d.completion 8 ++ toBytes d.timeLimit 4 ++ [0, 0, 0, 0]

/-- A descriptor that R291 accepts. -/
def TaskDesc.valid (d : TaskDesc) : Bool :=
  decide (d.kind ≤ 2) && d.zeros && decide (d.flags < 16) && field d.waitBarrier 12 3 == 0 &&
    (if d.exact then decide (d.array ≤ 15) else d.array == 0) && (d.kind != 2 || d.imageId == 0)

/-- Instances of a descriptor: 0 means 1, and no more than 16; a FENCE counts as one. -/
def TaskDesc.instances (d : TaskDesc) : Nat := if d.fanout = 0 ∨ d.kind = 2 then 1 else min d.fanout 16

/-- Entries of the local queue that a descriptor needs: one for each instance that it puts there, and one at least. -/
def TaskDesc.entries (d : TaskDesc) : Nat := if d.valid && d.kind != 2 && d.die == 0xFFFF then d.instances else 1

/-- Entries of a task unit's queue of 256 in use: queued instances and what descriptors just taken will need (R290). -/
def TaskUnit.used (t : TaskUnit) : Nat := t.queue.length + (t.taken.map (fun e => (taskOf e.bytes).entries)).sum

/-- The instance is one that checked mode selects: its hash by the job's seed, its image without channels, and no
template that reduces or multicasts (R439). -/
def Work.selected (w : Work) (i : Inst) : Bool :=
  let h := ofBytes (Config.shake256 (toBytes (w.eff 0x2400 3) 8 ++ toBytes i.desc.seq 4 ++ toBytes i.inst 1) 2) % 4096
  i.desc.checkable && !i.copy && decide (h < w.job.checkedRate) &&
    (match w.registry.find? (fun e => e.id == i.desc.imageId) with
     | some e => e.channels == 0 && (List.range e.templates).all (fun t =>
         let d := descOf (w.read (e.address + 0x31300 + 64 * t) 64)
         d.op != 7 && d.mcMode == 0)
     | none => false)

/-! ### Completion (R289, R295, R298, R299) -/

/-- A 64 B completion record written as one unit; an address that faults loses it. -/
def Work.putRecord (w : Work) (addr : Nat) (bs : List Byte) : Work :=
  if addr = 0 ∨ aSpace addr ≠ 0 ∨ (w.writeStatus addr 64).isSome then w else w.storeBytes addr bs

/-- What a completion record says of the task on its array: numeric status, flush count, and the counters during the
task (R72, R298). -/
structure TaskSums where
  numeric : Nat := 0
  flushes : Nat := 0
  start : Nat := 0
  stale : Nat := 0
  discarded : Nat := 0
  spills : Nat := 0
  suspicions : Nat := 0
  delivery : Nat := 0
  deriving DecidableEq, Repr

/-- The sums of the task on an array (R72, R298). -/
def Arr.sums (x : Arr) (t : Active) : TaskSums :=
  let ns := x.cells.map (fun e => e.2.nstat.toNat)
  { numeric := (ns.foldl (fun acc n => acc ||| field n 0 11) 0) ||| t.redFlags
    flushes := min 0xFFFF ((ns.map (fun n => field n 16 16)).sum), start := t.startAt
    stale := x.stale - t.stale0, discarded := x.discarded - t.discard0, spills := x.spills - t.spills0
    suspicions := x.suspicions - t.susp0, delivery := t.delivery }

/-- The bytes of a completion record (R298). -/
def recordBytes (d k inst status now : Nat) (t : TaskDesc) (c : Cause) (s : TaskSums) : List Byte :=
  toBytes t.seq 4 ++ toBytes status 1 ++ toBytes c.detail 1 ++ toBytes k 1 ++ toBytes inst 1 ++ toBytes d 2 ++ toBytes c.engine 2 ++
    toBytes s.numeric 2 ++ toBytes s.flushes 2 ++ toBytes c.cell 1 ++ toBytes c.idx 1 ++ [0, 0] ++ toBytes c.tile 4 ++ toBytes c.address 8 ++
    toBytes s.delivery 8 ++ toBytes s.start 8 ++ toBytes now 8 ++ toBytes s.stale 2 ++ toBytes s.discarded 2 ++ toBytes s.spills 1 ++
    toBytes s.suspicions 1 ++ [0, 0]

/-- An ended instance counted: TasksCompleted or TasksAborted, the first abort kept, those not run (0x2400.11 to .14). -/
def Work.tally (w : Work) (status : Nat) (rec' : List Byte) : Work :=
  let w := if status = 0 then w.addReg 0x2400 0x11 1 else w.addReg 0x2400 0x12 1
  let w := if status = 0x51 then w.modJob (fun j => { j with notRun := j.notRun + 1 }) else w
  if status ≠ 0 ∧ w.job.firstAbort.isEmpty then w.modJob (fun j => { j with firstAbort := rec' }) else w

/-- TSTEP from the task unit of die d to the tracker on the host die, for a batch record: its BatchId and the first abort status
(R233, R280, R283, R285, R295). -/
def Work.sendTstep (w : Work) (d record status : Nat) : Work :=
  let p := { w.packet 0x48 d 0x20 0 0 0x60 0 with
    vc := 1, typeData := w.readNat record 4 + status * 2 ^ 32 }
  let w := w.send p
  { w with tsteps := w.tsteps ++ [p] }

/-- One more outstanding instance of descriptor `seq` has ended; with the last the count goes, and a BATCH sends TSTEP
(R295, R297). Its list is known where the instance has not left the die; the first count of that Seq is meant otherwise, as TDONE
names no list (assumption 31). -/
def Work.countDone (w : Work) (d : Nat) (list : Option Nat) (seq status : Nat) : Work :=
  let tu := (w.die d).tu
  let mine := fun (c : Count) => c.seq == seq && (match list with | some n => c.list == n | none => true)
  match tu.counts.find? mine with
  | none => w
  | some c =>
    let c := { c with left := c.left - 1, batch := c.batch.map (fun b => (b.1, if b.2 = 0 then status else b.2)) }
    let i := (findAt mine tu.counts 0).getD 0
    let w := w.modTu d (fun t => { t with counts := if c.left = 0 then ldrop t.counts i else lmod t.counts i (fun _ => c) })
    match c.batch with
    | some b => if c.left = 0 then w.sendTstep d b.1 b.2 else w
    | none => w

/-- The origin of an instance learns of its end: directly, or by TDONE (R297, R298, R300). -/
def Work.tellOrigin (w : Work) (d : Nat) (i : Inst) (status : Nat) : Work :=
  if i.origin = d then w.countDone d (if i.list < 1024 then some i.list else none) i.desc.seq status
  else w.send { w.packet 0x33 d 0x20 0 i.origin 0x20 0 with vc := 2, typeData := i.desc.seq + i.inst * 2 ^ 32 + status * 2 ^ 40 }

/-- An INFO event for a fault that is no array's: its source is the die's site (R435, R444). -/
def Work.dieEvent (w : Work) (d status detail : Nat) : Work :=
  match w.siteOf d with
  | some n => w.event 3 status 1 n detail
  | none => w.event 3 status 9 0 detail

/-- An instance that never started ends with a status. The Start field of its record, which the spec does not state, is a
free value. A copy of a checked
instance writes no record; an instance selected for checking takes its copy with it. -/
def Work.endUnstarted (w : Work) (d : Nat) (i : Inst) (status : Nat) : Work :=
  if i.copy then w.tellOrigin d i 0
  else
    let (start, w) := w.draw
    let rec' := recordBytes d i.desc.array i.inst status (w.dieNow d) i.desc { status := status } { start := start % 2 ^ 64 }
    let w := w.tally status rec'
    let w := if status = 0x51 ∨ status = 0x50 then w else w.dieEvent d status i.desc.seq
    let w := (w.putRecord (if i.desc.completion = 0 then 0 else i.desc.completion + 64 * i.inst) rec').tellOrigin d i status
    if i.checked then w.tellOrigin d i 0 else w

/-! ### Taking descriptors (R288 to R290) -/

/-- The slots of a line that are valid in order, each taken only while the queue has a free entry (R290). -/
def takeSlots (l : TList) (line : List Byte) (room : Nat) : Nat → List (List Byte)
  | 0 => []
  | fuel + 1 =>
    let off := 64 * ((l.taken % l.slots) % 4)
    let b := slice line off 64
    let need := (taskOf b).entries
    if leAt b 0 4 ≠ (l.taken + 1) % 2 ^ 32 ∨ room = 0 then []
    else if off = 192 then [b]
    else b :: takeSlots { l with taken := l.taken + 1 } line (room - need) fuel

/-- Ranges in rising order. -/
def rising (rs : List (Nat × Nat)) : List (Nat × Nat) := sortBy (fun a b => decide (a.1 ≤ b.1)) rs

/-- The list that the task unit of die d serves next: its lists in rising order, round and round (R290). -/
def Work.nextList (w : Work) (d : Nat) : Option Nat :=
  let ls := rising ((w.lists.filter (fun e => e.2.holder == d)).map (fun e => (e.1, 0)))
  match (w.die d).tu.lastList with
  | some m => ((ls.find? (fun e => decide (m < e.1))).or ls.head?).map (·.1)
  | none => ls.head?.map (·.1)

/-- LIST_POLL: in its turn, the holder reads the line with its list's next slot, takes its valid descriptors, and writes Taken
into the status line; the next list has its turn then (R289, R290). -/
def listPoll (n : Nat) (w : Work) : Work :=
  match w.lists.find? (fun e => e.1 == n) with
  | none => w
  | some (_, l) =>
    let tu := (w.die l.holder).tu
    let line := l.ring + 64 * (l.taken % max l.slots 1) / 256 * 256
    if w.job.st ≠ .running ∨ tu.quiet ∨ !w.diePresent l.holder ∨ w.nextList l.holder ≠ some n then w
    else
      let w := w.modTu l.holder (fun t => { t with lastList := some n })
      if (w.readStatus line 256).isSome then w else
      let (bs, w) := w.loadBytes line 256 false
      let got := takeSlots l bs (256 - tu.used) 4
      if got.isEmpty then w
      else
        let taken := l.taken + got.length
        let w : Work := { w with lists := w.lists.map (fun e => if e.1 = n then (e.1, { e.2 with taken := taken }) else e) }
        let w := w.modTu l.holder (fun t => { t with taken := t.taken ++ got.map (fun b => ⟨n, b, w.dieNow l.holder⟩) })
        if (w.writeStatus l.status 64).isSome then w
        else w.storeBytes l.status (toBytes (taken % 2 ^ 32) 4 ++ List.replicate 60 0)

/-- LIST_POLL (R290). -/
def execListPoll (list : Nat) (s : State) : Host.Outcome State Fault Refusal := run (listPoll list) s

/-! ### The kinds (R291, R295) -/

/-- An invalid descriptor completes at once with 0x52 (R291). -/
def Work.endInvalid (w : Work) (d : Nat) (t : TaskDesc) : Work :=
  let (start, w) := w.draw
  let rec' := recordBytes d t.array 0 0x52 (w.dieNow d) t { status := 0x52 } { start := start % 2 ^ 64 }
  let w := ((w.tally 0x52 rec').dieEvent d 0x52 t.seq).putRecord t.completion rec'
  if t.kind = 1 then w.sendTstep d t.base0 0x52 else w

/-- The instances of a descriptor, as the die that keeps them queues them. -/
def Work.instancesOf (w : Work) (t : TaskDesc) (list origin now : Nat) (pinned : Bool) : List Inst :=
  (List.range t.instances).map (fun i =>
    let x : Inst := { desc := t, inst := i, origin := origin, list := list, pinned := pinned || t.pinned, takenAt := now }
    { x with checked := w.selected x })

/-- A new entry resets the wait between rounds of stealing, one under way included (R297). -/
def TaskUnit.fresh (u : TaskUnit) : TaskUnit :=
  { u with wait := 2000, steal := match u.steal with | .waiting since _ => .waiting since 2000 | x => x }

/-- A descriptor at work: its instances are counted and queued, or the descriptor is pushed to its die, which must be present
(R293, R295). -/
def Work.beginTask (w : Work) (d list at_ : Nat) (t : TaskDesc) (batch : Option (Nat × Nat)) : Work :=
  let is := w.instancesOf t list d at_ (t.die != 0xFFFF)
  let left := is.length + (is.filter (·.checked)).length
  let w := w.modTu d (fun u => { u.fresh with counts := u.counts ++ [⟨list, t.seq, left, batch, at_⟩] })
  if t.die = 0xFFFF then w.modTu d (fun u => { u with queue := u.queue ++ is })
  else if !w.diePresent t.die then is.foldl (fun w i => w.endUnstarted d i 0x08) w
  else
    let p := { w.packet 0x32 d 0x20 0 t.die 0x20 0 with vc := 1, typeData := d, payload := t.bytes }
    (w.send p).modTu d (fun u => { u with pushed := u.pushed ++ is.take 1 })

/-- The descriptor at the head of those taken, for a kind; an invalid one is met by whichever kind it names, and a
reserved kind by RUN. -/
def Work.headOf (w : Work) (d kind : Nat) : Option (Taken × TaskDesc) :=
  match (w.die d).tu.taken with
  | [] => none
  | x :: _ =>
    let t := taskOf x.bytes
    if w.job.st = .running ∧ !(w.die d).tu.quiet ∧ (t.kind = kind ∨ (kind = 0 ∧ 2 < t.kind)) then some (x, t) else none

/-- The head descriptor is acted on. -/
def Work.dropHead (w : Work) (d : Nat) : Work := w.modTu d (fun u => { u with taken := u.taken.drop 1 })

/-- RUN (R295). -/
def runTask (d : Nat) (w : Work) : Work :=
  match w.headOf d 0 with
  | some (x, t) => if t.valid then (w.dropHead d).beginTask d x.list x.at_ t none else (w.dropHead d).endInvalid d t
  | none => w

/-- RUN (R295). -/
def execRun (d : Nat) (s : State) : Host.Outcome State Fault Refusal := run (runTask d) s

/-- BATCH: as RUN, with the batch record kept for TSTEP (R295). -/
def batchTask (d : Nat) (w : Work) : Work :=
  match w.headOf d 1 with
  | some (x, t) => if t.valid then (w.dropHead d).beginTask d x.list x.at_ t (some (t.base0, 0)) else (w.dropHead d).endInvalid d t
  | none => w

/-- BATCH (R295). -/
def execBatch (d : Nat) (s : State) : Host.Outcome State Fault Refusal := run (batchTask d) s

/-- FENCE: it waits for the descriptors before it, at its holder or at the die that it names (R295). -/
def fenceTask (d : Nat) (w : Work) : Work :=
  match w.headOf d 2 with
  | some (x, t) =>
    if !t.valid then (w.dropHead d).endInvalid d t
    else if t.die = 0xFFFF then (w.dropHead d).modTu d (fun u => { u with fences := u.fences ++ [⟨x.list, t, none⟩] })
    else (w.dropHead d).beginTask d x.list x.at_ t none
  | none => w

/-- FENCE (R295). -/
def execFence (d : Nat) (s : State) : Host.Outcome State Fault Refusal := run (fenceTask d) s

/-- Descriptor a was taken before descriptor b of the same list, by their sequence numbers. -/
def seqBefore (a b : Nat) : Bool := decide (0 < (b + 2 ^ 32 - a) % 2 ^ 32) && decide ((b + 2 ^ 32 - a) % 2 ^ 32 < 2 ^ 31)

/-- A FENCE ends with a status: its one completion record, and TDONE to its origin where it was pushed (R295, R298). -/
def Work.endFence (w : Work) (d : Nat) (f : Fence) (status : Nat) : Work :=
  let (start, w) := w.draw
  let rec' := recordBytes d f.desc.array 0 status (w.dieNow d) f.desc { status := status } { start := start % 2 ^ 64 }
  let w := (w.tally status rec').putRecord f.desc.completion rec'
  match f.pushedFrom with
  | some o => w.tellOrigin d { desc := f.desc, origin := o, list := 1024 } status
  | none => w

/-- Every descriptor taken from a FENCE's list before it has ended in all its instances, as the task unit that took it counts them
(R295). What a pushed one waits for is what the unit that it came from counts (DESIGN CHOICE, assumption 127). -/
def Work.fenceMet (w : Work) (d : Nat) (f : Fence) : Bool :=
  let tu := (w.die (f.pushedFrom.getD d)).tu
  let list := match f.pushedFrom with
    | some _ => ((tu.counts.find? (fun c => c.seq == f.desc.seq)).map (·.list)).getD 1024
    | none => f.list
  tu.counts.all (fun c => c.list != list || !seqBefore c.seq f.desc.seq) &&
    tu.fences.all (fun g => g.list != list || !seqBefore g.desc.seq f.desc.seq)

/-- FENCE_COMPLETE: every earlier descriptor of the list has ended in all its instances (R295). -/
def fenceComplete (d : Nat) (w : Work) : Work :=
  let tu := (w.die d).tu
  match findAt (w.fenceMet d) tu.fences 0 with
  | some i =>
    match tu.fences[i]? with
    | some f => (w.modTu d (fun u => { u with fences := ldrop u.fences i })).endFence d f 0
    | none => w
  | none => w

/-- FENCE_COMPLETE (R295). -/
def execFenceComplete (d : Nat) (s : State) : Host.Outcome State Fault Refusal := run (fenceComplete d) s

/-! ### Placement (R293, R294, R296, R439) -/

/-- The barrier an instance waits on has completed often enough (R296). -/
def TaskUnit.released (t : TaskUnit) (d : TaskDesc) : Bool :=
  !d.waits || decide (d.waitCount ≤ tget 0 t.barriers (field d.waitBarrier 0 12))

/-- A task put on an array: it starts at once on a candidate of the best class, and after a load on any other (R293). -/
def Work.placeOn (w : Work) (a cls : Nat) (i : Inst) (twin : Option Nat) : Work :=
  w.modArr a (fun x => { x with
    task := some { inst := i, twin := twin }
    load := if cls = 0 then .none else .asked
    loadImage := if cls = 0 then x.loadImage else i.desc.imageId
    loadForced := if cls = 0 then x.loadForced else i.desc.force })

/-- Dies, other than d, that have an array for a copy (R439). -/
def Work.copyDies (w : Work) (d : Nat) (t : TaskDesc) : List Nat :=
  (List.range w.numDies).filter (fun e => e != d && w.diePresent e && !(w.die e).tu.quiet && (w.pickArray e t).isSome)

/-- The instance at place n of the queue of die d, placed on an array; a checked one together with its copy, on a die that
the spec does not choose: a free value picks it (R293, R439). -/
def Work.placeInst (w : Work) (d n : Nat) (i : Inst) (a cls : Nat) : Work :=
  let w1 := w.modTu d (fun u => { u with queue := ldrop u.queue n })
  if !i.checked then w1.placeOn a cls i none
  else
    let ds := w.copyDies d i.desc
    if ds.isEmpty then w
    else
      let (r, w2) := w1.draw
      let e := ds.getD (r % ds.length) 0
      match w2.pickArray e i.desc with
      | none => w
      | some (b, cls') => (w2.placeOn a cls i (some b)).placeOn b cls' { i with copy := true, pinned := true } (some a)

/-- What the task unit of die d does with an instance: end it with a status, place it, or let it wait (R293). -/
def Work.decide' (w : Work) (d : Nat) (i : Inst) : Option (Nat ⊕ (Nat × Nat)) :=
  if !w.diePresent d then some (.inl 0x08)
  else if !(w.die d).tu.released i.desc then none
  else if (w.imageEpoch i.desc.imageId).isNone then some (.inl 0x01)
  else
    match w.pickArray d i.desc with
    | some (a, c) => if i.checked && (w.copyDies d i.desc).isEmpty then none else some (.inr (a, c))
    | none => if w.couldTake d i.desc then none else some (.inl 0x56)

/-- TASK_PLACEMENT: the first queued instance that need not wait is placed, or ends (R293). -/
def taskPlacement (d : Nat) (w : Work) : Work :=
  if w.job.st ≠ .running ∨ (w.die d).tu.quiet then w
  else
    let q := (w.die d).tu.queue
    match findAt (fun i => (w.decide' d i).isSome) q 0 with
    | none => w
    | some n =>
      match q[n]? with
      | none => w
      | some i =>
        match w.decide' d i with
        | some (.inl st) => (w.modTu d (fun u => { u with queue := ldrop u.queue n })).endUnstarted d i st
        | some (.inr (a, c)) => w.placeInst d n i a c
        | none => w

/-- TASK_PLACEMENT (R293). -/
def execTaskPlacement (d : Nat) (s : State) : Host.Outcome State Fault Refusal := run (taskPlacement d) s

/-! ### Stealing (R294, R297) -/

/-- Dies by hop count from die d, ties to smaller d. -/
def Work.byHops (w : Work) (d : Nat) (ds : List Nat) : List Nat :=
  sortBy (fun a b => decide (w.routeHops d a < w.routeHops d b) || (w.routeHops d a == w.routeHops d b && decide (a ≤ b)))
    (ds.filter (fun e => e != d && w.diePresent e))

/-- The victims of die d in order: its bay, the bays north and south on its side, the bay across (R297). -/
def Work.victims (w : Work) (d : Nat) : List Nat :=
  let b := w.bayOf d
  let ins := fun (bs : List Nat) => w.byHops d ((List.range w.numDies).filter (fun e => bs.contains (w.bayOf e)))
  let beside := (if b % 8 = 0 then [] else [b - 1]) ++ (if b % 8 = 7 then [] else [b + 1])
  ins [b] ++ ins beside ++ ins [(b + 8) % 16]

/-- Entries that may be stolen: not pinned, not exact, not waiting on a barrier (R294, R297). -/
def TaskUnit.stealable (t : TaskUnit) (i : Inst) : Bool := !i.pinned && !i.desc.exact && t.released i.desc

/-- An idle task unit: a free array, nothing in its queue that could start, no valid next slot in its lists (R297). -/
def Work.idleUnit (w : Work) (d : Nat) : Bool :=
  let tu := (w.die d).tu
  w.job.st == .running && w.diePresent d && !tu.quiet && !tu.hot && tu.taken.isEmpty &&
    (List.range 16).any (fun k => w.mayTake (arrOf d k) && (w.arr (arrOf d k)).free) &&
    tu.queue.all (fun i => (w.decide' d i).isNone) &&
    w.lists.all (fun e => e.2.holder != d ||
      w.readNat (e.2.ring + 64 * (e.2.taken % max e.2.slots 1)) 4 != (e.2.taken + 1) % 2 ^ 32)

/-- STEAL to victim number `round`, or the wait when the round is over: doubled each time up to 64 µs (R297). The thief
asks for four entries, the most a GIVE carries (assumption 32). -/
def Work.askVictim (w : Work) (d round : Nat) : Work :=
  match (w.victims d)[round]? with
  | some v =>
    (w.send { w.packet 0x30 d 0x20 0 v 0x20 0 with vc := 1, typeData := 4 }).modTu d (fun u => { u with steal := .asking v round })
  | none => w.modTu d (fun u => { u with steal := .waiting (w.dieNow d) u.wait, wait := min (2 * u.wait) 64000 })

/-- The thief's next victim in a round, as long as its unit is idle and its die is not hot (R294, R297). -/
def Work.goOn (w : Work) (d round : Nat) : Work :=
  if w.idleUnit d then w.askVictim d round else w.modTu d (fun u => { u with steal := .idle })

/-- STEAL_RETRY: an idle task unit begins a round, after its wait (R297). -/
def stealRetry (d : Nat) (w : Work) : Work :=
  match (w.die d).tu.steal with
  | .asking _ _ => w
  | .idle => if w.idleUnit d then w.askVictim d 0 else w
  | .waiting since wait => if w.idleUnit d then (w.reachOn d (since + wait)).askVictim d 0 else w

/-- STEAL_RETRY (R297). -/
def execStealRetry (d : Nat) (s : State) : Host.Outcome State Fault Refusal := run (stealRetry d) s

/-- When the holder of a descriptor took it, on the holder's counter (R291): the limit of an instance that waits counts from then
wherever it has gone, though GIVE and TPUSH do not carry it (DESIGN CHOICE, assumption 108). -/
def Work.holderTook (w : Work) (origin seq : Nat) : Nat :=
  match (w.die origin).tu.counts.find? (fun c => c.seq == seq) with
  | some c => c.at_
  | none => w.dieNow origin

/-- What GIVE says of entry j: its origin and instance (R300). -/
def giveField (i : Inst) : Nat := i.origin + i.inst * 2 ^ 9

/-- STEAL: the victim gives up to half of its stealable entries, rounded up and at most four, from the newest end; a hot
die gives as many as the message carries (R294, R297). -/
def recvSteal (p : Packet) (w : Work) : Work :=
  let w := w.take p
  if w.job.st = .killing then w
  else
    let d := w.dstDie p
    let tu := (w.die d).tu
    let s := (tu.queue.zipIdx.filter (fun e => tu.stealable e.1))
    let n := if tu.hot then min 4 s.length else min (min 4 (field p.typeData 0 3)) ((s.length + 1) / 2)
    let out := s.drop (s.length - n)
    let data := (out.zipIdx.map (fun e => giveField e.1.1 * 2 ^ (16 * e.2))).sum
    let w := w.modTu d (fun u => { u with queue := (u.queue.zipIdx.filter (fun e => !out.any (fun o => o.2 == e.2))).map (·.1) })
    w.send { w.packet 0x31 d 0x20 0 (w.srcDie p) 0x20 0 with
      vc := 2, typeData := data, payload := out.flatMap (fun e => e.1.desc.bytes) }

/-- STEAL (R297). -/
def execSteal (pkt : Packet) (s : State) : Host.Outcome State Fault Refusal := run (onTurn pkt (recvSteal pkt)) s

/-- The instances that a GIVE carries. -/
def Work.givenBy (w : Work) (p : Packet) : List Inst :=
  (List.range (p.payload.length / 64)).map (fun j =>
    let f := field p.typeData (16 * j) 16
    let t := taskOf (slice p.payload (64 * j) 64)
    let x : Inst := { desc := t, inst := field f 9 4, origin := field f 0 9, list := 1024, takenAt := w.holderTook (field f 0 9) t.seq }
    { x with checked := w.selected x })

/-- A queued entry of a die whose bay is being switched off: a stealable one goes by TPUSH to the first victim outside the bay, any
other ends with 0x92 (R409 step 1). -/
def Work.sendAway (w : Work) (d : Nat) (i : Inst) : Work :=
  match (w.victims d).find? (fun v => w.bayOf v != w.bayOf d && w.diePresent v) with
  | some v =>
    if (w.die d).tu.stealable i && !i.copy then
      let p := { w.packet 0x32 d 0x20 0 v 0x20 0 with vc := 1, typeData := i.origin, index := i.inst + 1, payload := i.desc.bytes }
      (w.send p).modTu d (fun u => { u with pushed := u.pushed ++ [i] })
    else w.endUnstarted d i 0x92
  | none => w.endUnstarted d i 0x92

/-- GIVE: the thief queues the entries and stops stealing, or goes on to its next victim; one whose bay is being switched off
meanwhile queues nothing (R297, R409). -/
def recvGive (p : Packet) (w : Work) : Work :=
  let w := w.take p
  let d := w.dstDie p
  let is := w.givenBy p
  if w.job.st = .killing then w
  else if w.job.st ≠ .running then is.foldl (fun w i => w.endUnstarted d i 0x51) w
  else if is.isEmpty then
    match (w.die d).tu.steal with
    | .asking v r => if v = w.srcDie p then w.goOn d (r + 1) else w
    | _ => w
  else if (w.die d).tu.quiet then is.foldl (fun w i => w.sendAway d i) w
  else w.modTu d (fun u => { u with queue := u.queue ++ is, steal := .idle, wait := 2000 })

/-- GIVE (R297). -/
def execGive (pkt : Packet) (s : State) : Host.Outcome State Fault Refusal := run (onTurn pkt (recvGive pkt)) s

/-- The hottest and the coolest sensor of a die's site, 1/16 °C (R399). -/
def Work.dieRange (w : Work) (d : Nat) : Option (Int × Int) :=
  match w.siteOf d with
  | none => none
  | some n =>
    match (List.range 4).filterMap (fun i => (tget {} w.sensors (4 * n + i)).reading) with
    | [] => none
    | r :: rs => some (rs.foldl max r, rs.foldl min r)

/-- HOT_CHECK: at most every 50 ms, the die's hottest sensor against the median of its bay's (R294). -/
def hotCheck (d : Nat) (w : Work) : Work :=
  let tu := (w.die d).tu
  let w := if tu.hotAt = 0 then w else w.reachOn d (tu.hotAt + 50000000)
  let tops := ((List.range w.numDies).filter (fun e => w.diePresent e && w.bayOf e == w.bayOf d)).filterMap (fun e => (w.dieRange e).map (·.1))
  let sorted := sortBy (fun a b => decide (a ≤ b)) tops
  let mid2 := sorted.getD ((sorted.length - 1) / 2) 0 + sorted.getD (sorted.length / 2) 0
  let hot := match w.dieRange d with
    | some (h, _) => decide (mid2 + 2 * 16 * (w.reg 0x2400 0x0C : Int) ≤ 2 * h)
    | none => false
  w.modTu d (fun u => { u with hot := hot, hotAt := w.dieNow d })

/-- HOT_CHECK (R294). -/
def execHotCheck (d : Nat) (s : State) : Host.Outcome State Fault Refusal := run (hotCheck d) s

/-- The rotation pointer at a task boundary: 7 further when the die's spread exceeds RotateThresholdC and 50 ms have passed
(R294). -/
def Work.rotate (w : Work) (d : Nat) : Work :=
  let tu := (w.die d).tu
  match w.dieRange d with
  | some (h, c) =>
    if (w.reg 0x2400 0x0C : Int) * 16 < h - c ∧ tu.rotatedAt + 50000000 ≤ w.dieNow d then
      w.modTu d (fun u => { u with rotation := (u.rotation + 7) % 16, rotatedAt := w.dieNow d })
    else w
  | none => w

/-! ### Pushed tasks (R295, R300) -/

/-- The instances that a TPUSH carries: all of its descriptor, or the one that its Index names plus one (R300, R409;
assumption 41). -/
def Work.pushedBy (w : Work) (p : Packet) : List Inst :=
  let t := taskOf p.payload
  let o := field p.typeData 0 16
  let is := w.instancesOf t 1024 o (w.holderTook o t.seq) true
  if p.index = 0 then is else is.filter (fun i => i.inst + 1 == p.index)

/-- TPUSH: the die queues the instances, pinned, or keeps a FENCE, and answers PUSHACK; while the queue is full the packet stays in its
lane (R295, R300). After a stop has begun they are not run (R303), nor on a bay that is being switched off (R409). -/
def recvTpush (p : Packet) (w : Work) : Work :=
  let d := w.dstDie p
  let t := taskOf p.payload
  let is := w.pushedBy p
  if w.job.st = .killing then w.take p
  else if w.job.st = .running ∧ 256 ≤ (w.die d).tu.used then w
  else
    let w := (w.take p).send { p.answer 0x36 with vc := 2, typeData := t.seq }
    if w.job.st = .running ∧ (w.die d).tu.quiet then is.foldl (fun w i => w.endUnstarted d i 0x92) w
    else if w.job.st = .running ∧ t.kind = 2 then
      w.modTu d (fun u => { u with fences := u.fences ++ [⟨1024, t, some (field p.typeData 0 16)⟩] })
    else if w.job.st = .running then w.modTu d (fun u => { u.fresh with queue := u.queue ++ is })
    else is.foldl (fun w i => w.endUnstarted d i 0x51) w

/-- TPUSH (R295). -/
def execTpush (pkt : Packet) (s : State) : Host.Outcome State Fault Refusal := run (onTurn pkt (recvTpush pkt)) s

/-- PUSHACK (R300). -/
def recvPushack (p : Packet) (w : Work) : Work :=
  let w := w.take p
  w.modTu (w.dstDie p) (fun u => { u with pushed := dropFirst (fun i => i.desc.seq == field p.typeData 0 32) u.pushed })

/-- PUSHACK (R300). -/
def execPushack (pkt : Packet) (s : State) : Host.Outcome State Fault Refusal := run (onTurn pkt (recvPushack pkt)) s

/-- TDONE: the origin counts the end of a stolen or pushed instance (R297). -/
def recvTdone (p : Packet) (w : Work) : Work :=
  let w := w.take p
  w.countDone (w.dstDie p) none (field p.typeData 0 32) (field p.typeData 40 8)

/-- TDONE (R297). -/
def execTdone (pkt : Packet) (s : State) : Host.Outcome State Fault Refusal := run (onTurn pkt (recvTdone pkt)) s

/-- A pushed descriptor whose TPUSH was lost: its die cannot be reached (R247, R293). -/
def Work.pushLost (w : Work) (p : Packet) : Work :=
  let d := w.dstDie p
  match (w.die d).tu.pushed.find? (fun i => i.desc.die == w.dieOf (field p.typeData 8 8) (field p.typeData 16 8)) with
  | some i =>
    let w := w.modTu d (fun u => { u with pushed := dropFirst (fun j => j == i) u.pushed })
    (w.instancesOf i.desc i.list d i.takenAt true).foldl (fun w j => w.endUnstarted d j 0x08) w
  | none => w

/-- A STEAL that was lost: the thief goes on to its next victim (R247, R297). -/
def Work.stealLost (w : Work) (p : Packet) : Work :=
  let d := w.dstDie p
  match (w.die d).tu.steal with
  | .asking _ r => w.goOn d (r + 1)
  | _ => w

/-! ### The end of a task (R210, R217, R298, R439) -/

/-- Every engine has completed its chain, every window has completed, and every outgoing channel half has handed over its
last token (R298). -/
def Arr.taskDone (x : Arr) : Bool :=
  (List.range 4).all (fun e => (x.engine e).tmpl.isNone && (x.engine e).transfers.isEmpty) &&
    (List.range 64).all (fun e =>
      let v := tget 0 x.ports e
      (pOutKind v != 1 || decide (pWords v ≤ tget 0 x.outWin e)) && (pInKind v != 1 || decide (pWords v ≤ tget 0 x.inWin e)) &&
        (pOutKind v != 3 || (x.portOut e).isNone)) &&
    x.pipe.all (fun i => !i.write) && x.chans.all (fun c => c.2.gather.isEmpty)

/-- The cells of an array with the generators that checked mode saved (R75). -/
def Arr.restoreSr (x : Arr) (saved : List (Nat × BitVec 32)) : Arr :=
  { x with cells := x.cells.map (fun e => if thas saved e.1 then (e.1, { e.2 with sr := tget 0 saved e.1 }) else e) }

/-- The end of a task on its array: generators restored, windows closing, engines idle, the check-value unit released;
the array is left in state `st` (R210, R298). -/
def Work.clearTask (w : Work) (a : Nat) (st : ArraySt) : Work :=
  let x := w.arr a
  let now := w.now
  let saved := match x.task with | some t => t.savedSr | none => []
  let checks := x.engines.any (fun e => e.2.started && dCheck e.2.desc)
  let w := if checks then w.modCheck (a / 16) (fun c => { c with active := false }) else w
  let w := w.modArr a (fun x => { x.restoreSr saved with
    task := none, idleAt := now, st := st, stopped := true, engines := x.engines.map (fun e => (e.1, { nextTag := e.2.nextTag }))
    windows := x.windows.map (fun e => (e.1, if e.2.isOpen then { e.2 with closing := true } else e.2)) })
  ((List.range 8).foldl (fun w i => w.settleWindow a i) w).rotate (a / 16)

/-- The result of a checked comparison: every engine's digest alike (R439). -/
def sameDigests (x y : List (Nat × Nat)) : Bool := (List.range 4).all (fun e => tget 0 x e == tget 0 y e)

/-- Both arrays of a comparison, matched or not (R439, R440). -/
def Work.compared (w : Work) (a b : Nat) (same : Bool) : Work :=
  let fs := [a, b].filterMap (fun x => w.physical (x / 16) (x % 16))
  if same then fs.foldl (fun w f => w.cleanCheck f) w
  else fs.foldl (fun w f => w.arrayFails f 3 9) (w.addReg 0xB000 0x12 1)

/-- The task on array a ends with a status: its record, the counts, its origin (R298). -/
def Work.endTask (w : Work) (a : Nat) (t : Active) (c : Cause) (st : ArraySt) : Work :=
  let x := w.arr a
  let i := t.inst
  let rec' := recordBytes (a / 16) (a % 16) i.inst c.status (w.dieNow (a / 16)) i.desc c (x.sums t)
  let w := w.clearTask a st
  let w := w.tally c.status rec'
  let w := if c.status = 0 ∨ c.status = 0x50 ∨ c.status = 0x51 then w else w.taskEvent a c.status i.desc.seq
  (w.putRecord (if i.desc.completion = 0 then 0 else i.desc.completion + 64 * i.inst) rec').tellOrigin (a / 16) i c.status

/-- The copy of a checked instance ends: its digests go to the original, and its origin learns that it is over (R439). -/
def Work.endCopy (w : Work) (a : Nat) (t : Active) (st : ArraySt) : Work :=
  let w := (w.clearTask a st).addReg 0xB000 0x11 1
  let w := match t.twin with
    | some o => w.modArr o (fun x => { x with task := x.task.map (fun (y : Active) => if y.twin = some a then { y with other := some t.digests } else y) })
    | none => w
  w.tellOrigin (a / 16) t.inst 0

/-- While a job stops, once no task is left every array in READY drains, one that a load makes READY later too (R303 step 2). -/
def Work.stopDrains (w : Work) : Work :=
  if w.job.st ≠ .stopping ∨ w.arrays.any (fun e => e.2.task.isSome) then w
  else
    let w := w.modJob (fun j => { j with drains := true })
    (w.arrays.filter (fun e => e.2.st == .ready && e.2.load == .none && !e.2.stopDrained)).foldl (fun w e =>
      (w.beginDrain e.1).modArr e.1 (fun x => { x with stopDrained := true })) w

/-- When the TimeLimit of an instance passes, on the counter of the die that holds it: from its holder's taking of the descriptor
where it waits on a barrier, else from its start (R291, R296, R383; assumption 108). -/
def Inst.limitAt (i : Inst) (startAt : Nat) : Nat := (if i.desc.waits then i.takenAt else startAt) + 1000 * i.desc.timeLimit

/-- TASK_COMPLETE: the cells stop and the array is READY again; a checked instance waits for its copy, and ends with 0xA0
where their digests differ. A completion after the deadline tick is none: the task is past its TimeLimit (R298, R439). -/
def taskComplete (a : Nat) (w : Work) : Work :=
  let x := w.arr a
  match x.task with
  | none => w
  | some t =>
    if !t.running || t.fault.isSome || x.st != .run || !x.taskDone then w
    else if t.inst.desc.timeLimit ≠ 0 ∧ w.past (a / 16) (t.inst.limitAt t.startAt) then w.taskFault a { status := 0x55 }
    else if t.inst.copy then (w.endCopy a t .ready).stopDrains
    else
      match t.twin with
      | none => (w.endTask a t { status := 0 } .ready).stopDrains
      | some b =>
        match t.other with
        | none => w
        | some ds =>
          let same := sameDigests t.digests ds
          ((w.endTask a t { status := if same then 0 else 0xA0 } .ready).compared a b same).stopDrains

/-- TASK_COMPLETE (R298). -/
def execTaskComplete (a : Nat) (s : State) : Host.Outcome State Fault Refusal := run (taskComplete a) s

/-- Where a descriptor of array a writes in a memory of this panel, line by line (R201, R203). -/
def Work.writtenLines (w : Work) (a : Nat) (d : Desc) : List (Nat × Nat) :=
  let lines := (d.lineStarts d.dst d.tiles d.dstStride d.dstPitch).map (fun x => (x, d.lineBytes))
  if d.op = 0 then (if w.isPad a d.dst || d.mcMode != 0 then [] else lines)
  else if d.op = 1 ∨ d.op = 2 then [(d.dst, d.lineBytes)]
  else if d.op = 3 then (List.range (d.lineBytes / 8)).map (fun j => (d.dst + j * d.dstPitch, 8 * d.lines))
  else if d.op = 6 then (if w.isPad a d.dst then [] else lines)
  else if d.op = 7 then (if aSpace d.dst ≤ 1 then lines else [])
  else if d.op = 10 then [(d.dst, 32)]
  else []

/-- Units of a receive window of array b that the running descriptor of engine e of array a has sent and that await reading: their
bytes are undefined after an abort (R220; assumption 103). -/
def Work.loseUnits (w : Work) (a e b : Nat) : Work :=
  let en := w.engine a e
  let x := (w.arr b).window (en.desc.window % 8)
  let tags := (en.nextTag + 65536 - en.firstTag) % 65536
  let key := senderKey (w.engPkt a e 0x13 5 0 0)
  (x.from_.filter (fun f => f.2.1 == key && decide ((f.2.2 + 65536 - en.firstTag) % 65536 < tags))).foldl
    (fun w f => w.forget (w.padAddr b (x.base + 256 * f.1)) 256) w

/-- The bytes of the destination range of a running descriptor are undefined after an abort, those in a receive window of another
array of this panel too (R220; assumption 103). -/
def Work.loseDestination (w : Work) (a e : Nat) : Work :=
  let en := w.engine a e
  if en.started then
    let w := ((w.writtenLines a en.desc).filter (fun l => !w.isRemote l.1)).foldl (fun w l => w.forget (w.localAddr l.1) l.2) w
    ((w.targetsOf en.desc).filter (fun t => t / 8192 == w.panelId)).foldl
      (fun w t => w.loseUnits a e (arrOf (w.dieOf (t / 256 % 32) (t / 16 % 16)) (t % 16))) w
  else w

/-- What an abort does to an engine: its destination is undefined, and CCAN goes out for every open request and unused grant
(R211, R220). -/
def Work.cancelEngine (w : Work) (a e : Nat) : Work :=
  let w := w.loseDestination a e
  let en := w.engine a e
  let ts := w.targetsOf en.desc
  let tags := (en.credits.map (·.tag) ++ en.grants.map (·.tag)).eraseDups
  if en.started ∧ !tags.isEmpty then
    ts.foldl (fun w t => tags.foldl (fun w tag => w.send { w.engPkt a e 0x16 1 t 0 with typeData := tag }) w) w
  else w

/-- TASK_ABORT: the task ends with its first fault: engines cancel what they asked for, channels close with reason abort,
and the record is written (R159, R220, R298). A load that has not finished goes on by itself. -/
def taskAbort (a : Nat) (w : Work) : Work :=
  let x := w.arr a
  match x.task with
  | none => w
  | some t =>
    match t.fault with
    | none => w
    | some c =>
      let w := (List.range 4).foldl (fun w e => w.cancelEngine a e) w
      let st := if x.st = .run then .ready else x.st
      let w := w.closeAll a true
      if t.inst.copy then (w.endCopy a t st).stopDrains
      else
        let w := match t.twin with
          | some b => w.modArr b (fun y => { y with task := y.task.map (fun (z : Active) => if z.inst.copy then { z with twin := none } else z) })
          | none => w
        (w.endTask a t c st).stopDrains

/-- TASK_ABORT (R298). -/
def execTaskAbort (a : Nat) (s : State) : Host.Outcome State Fault Refusal := run (taskAbort a) s

/-- TIME_LIMIT: a running task is past its limit and faults with 0x55, or an instance that waits on a barrier completes
with it (R291, R296, R298). -/
def timeLimit (d k : Nat) (waiting : Bool) (w : Work) : Work :=
  if waiting then
    let tu := (w.die d).tu
    match tu.queue[k]? with
    | some i =>
      if i.desc.waits ∧ !tu.released i.desc ∧ i.desc.timeLimit ≠ 0 then
        ((w.reachOn d (i.limitAt 0 + 1)).modTu d (fun u => { u with queue := ldrop u.queue k })).endUnstarted d i 0x55
      else w
    | none => w
  else
    let a := arrOf d k
    match (w.arr a).task with
    | some t =>
      if t.running ∧ t.inst.desc.timeLimit ≠ 0 then
        (w.reachOn d (t.inst.limitAt t.startAt + 1)).taskFault a { status := 0x55 }
      else w
    | none => w

/-- TIME_LIMIT (R291). -/
def execTimeLimit (d k : Nat) (waiting : Bool) (s : State) : Host.Outcome State Fault Refusal := run (timeLimit d k waiting) s

end Sys2Proof.Machine
end

