-- ==== Sys2Proof/Machine/Job.lean ====
section
/-! DEFINITION. The job: Configure, Start, Stop, Kill, the end of a job, the scrub, and the recomputation of the site map
that a Start may bring (R35 to R37, R301 to R307). -/

namespace Sys2Proof.Machine

/-! ### State codes and statuses -/

/-- The code of a job state (0x2400.01). -/
def JobSt.code : JobSt → Nat
  | .idle => 0 | .configured => 1 | .running => 2 | .stopping => 3 | .killing => 4 | .retained => 5 | .scrubbing => 6

/-- The status of the last job command: status, [15:8] state or list, [31:16] position (0x2400.09). -/
def Work.jobStatus (w : Work) (status detail pos : Nat) : Work :=
  w.setReg 0x2400 9 (status + detail % 256 * 2 ^ 8 + pos % 65536 * 2 ^ 16)

/-- A job command that the present state does not allow: 0x57 with the state in [15:8] (R299, R301). -/
def Work.jobRefused (w : Work) : Work := (w.jobStatus 0x57 w.job.st.code 0).accept

/-- A Configure still waits for its outcome (R352). -/
def Work.configBusy (w : Work) : Bool := w.job.configWaits || w.job.mirrorWaits

/-! ### Ranges left when reservations are kept -/

/-- The parts of [lo, hi) that no kept range covers; the ranges in rising order. -/
def gapsIn (hi : Nat) : Nat → List (Nat × Nat) → List (Nat × Nat)
  | lo, [] => if lo < hi then [(lo, hi - lo)] else []
  | lo, (a, n) :: rest => (if lo < min a hi then [(lo, min a hi - lo)] else []) ++ gapsIn hi (max lo (a + n)) rest

/-- The parts of a Hutch's scratch that no reservation holds, below `hi`. -/
def Work.scratchGaps (w : Work) (b hi : Nat) : List (Nat × Nat) :=
  gapsIn (scratchAddr b hi) (scratchAddr b 0) (rising ((w.hutch b).reserves.map (fun r => (scratchAddr b r.offset, r.bytes))))

/-- A Hutch's scratch zeroed but for its reservations (R305). -/
def Work.zeroScratch (w : Work) (b : Nat) : Work := (w.scratchGaps b (w.scratchBytes b)).foldl (fun w g => w.hutchZero g.1 g.2) w

/-- A Hutch's unreserved scratch discarded: undefined until it is written (R182). -/
def Work.dropScratch (w : Work) (b : Nat) : Work := (w.scratchGaps b (1536 * 2 ^ 20)).foldl (fun w g => w.hutchForget g.1 g.2) w

/-- Rings and status lines of the task lists (R287). -/
def Work.listRanges (w : Work) : List (Nat × Nat) := w.lists.flatMap (fun e => [(e.2.ring, 64 * e.2.slots), (e.2.status, 64)])

/-- A Hutch's DRAM zeroed but for the ranges of sets that are not FREE, rings and status lines (R287, R305). -/
def Work.zeroDram (w : Work) (b : Nat) : Work :=
  let kept := rising ((w.allLayers.flatMap Layer.ranges ++ w.listRanges).filter (fun r => aSpace r.1 == 0 && aHutch r.1 == b))
  (gapsIn (dramAddr b (w.dramBytes b)) (dramAddr b 0) kept).foldl (fun w g => w.hutchZero g.1 g.2) w

/-! ### Configure (R25, R243, R301, R334) -/

/-- The first list that a Configure refuses: its holder absent, or its ring or status line out of the holder's reach
(R25, R243), or its Hutch unreachable (R186). Answers the status, the list and the position; of an unreachable pair the position is
the holder in [8:0] and the bay of the Hutch in [12:9] (assumption 88). -/
def Work.badList (w : Work) : Option (Nat × Nat × Nat) :=
  (sortBy (fun a b => decide (a.1 ≤ b.1)) w.lists).findSome? (fun e =>
    let d := e.2.holder
    if !w.diePresent d then some (0x08, e.1, d)
    else if !w.hutchReached (aHutch e.2.ring) || !w.hutchReached (aHutch e.2.status) then some (0x24, e.1, d)
    else ([aHutch e.2.ring, aHutch e.2.status].find? (fun b => (w.nearest d (w.hutchDies b) false).isNone)).map
      (fun b => (0x08, e.1, d + 512 * b)))

/-- Arrays that a template's fixed multicast writes to (R216). -/
def Work.castArrays (w : Work) (b : List Byte) : List Nat :=
  let d := descOf b
  if d.op = 0 ∧ d.mcMode ≠ 0 ∧ aSpace d.dst = 3 then
    (w.targetsOf d).map (fun t => arrOf (w.dieOf (t / 256 % 32) (t / 16 % 16)) (t % 16))
  else []

/-- The templates of a registered image, as they stand in memory. -/
def Work.registeredTemplates (w : Work) (e : Image) : List (List Byte) :=
  (List.range e.templates).map (fun t => w.read (e.address + 0x31300 + 64 * t) 64)

/-- The die of a channel record's peer on this panel. -/
def Work.peerDie (w : Work) (r : Nat) : Nat := w.dieOf (chPeerC r) (chPeerR r)

/-- Bays whose Hutch a template names by a fixed address (R190, R201). -/
def templateBays (b : List Byte) : List Nat :=
  let d := descOf b
  (if aSpace d.src ≤ 1 ∧ (d.op = 0 ∨ d.op = 4 ∨ d.op = 5) then [aHutch d.src] else []) ++
    (if aSpace d.dst ≤ 1 ∧ (d.op = 0 ∨ d.op = 6 ∨ d.op = 7) then [aHutch d.dst] else [])

/-- Panels that a template names by a fixed address (R190, R201). -/
def templatePanels (b : List Byte) : List Nat :=
  let d := descOf b
  (if aSpace d.src = 8 ∧ (d.op = 0 ∨ d.op = 4 ∨ d.op = 5) then [field d.src 48 12] else []) ++
    (if aSpace d.dst = 8 ∧ (d.op = 0 ∨ d.op = 6 ∨ d.op = 7) then [field d.dst 48 12] else [])

/-- No port that is up leads to another panel (R329). -/
def Work.panelUnreachable (w : Work) (p : Nat) : Bool := p != w.panelId && (w.upFor p).isEmpty

/-- The first registered image whose channels or fixed multicasts name an absent die or array, 0x08 with the position (R25, R33), or whose
templates name an unreachable Hutch, 0x24 with its bay (R186), or whose channels or templates name an unreachable panel, 0x10 or
0x35 with the panel (R329; assumption 88). -/
def Work.badImage (w : Work) : Option (Nat × Nat × Nat) :=
  w.registry.findSome? (fun e =>
    let chan := (w.registeredChans e).find? w.peerAbsent
    let target := ((w.registeredTemplates e).flatMap w.castArrays).find? (fun a => !w.arrPresent a)
    let bay := ((w.registeredTemplates e).flatMap templateBays).find? (fun b => !w.hutchReached b)
    let far := ((w.registeredChans e).filter chRemote).find? (fun r => w.panelUnreachable (chPeerPanel r))
    let panel := ((w.registeredTemplates e).flatMap templatePanels).find? w.panelUnreachable
    (chan.map (fun r => (0x08, 0, w.peerDie r))).or
      ((target.map (fun a => (0x08, 0, a / 16))).or
        ((bay.map (fun b => (0x24, b, 0))).or
          ((far.map (fun r => (0x10, 0, chPeerPanel r))).or (panel.map (fun p => (0x35, 0, p)))))))

/-- The first image on an array whose position is absent, or whose channels or fixed multicasts join an unreachable pair: 0x08
with the position; 0x10 or 0x30 with both positions, the array's in [24:16] and the other's in [15:8] and, its highest bit, in
[25] (R25, R243; assumption 88). -/
def Work.badPlacement (w : Work) : Option (Nat × Nat × Nat) :=
  (w.arrays.filter (fun e => e.2.imageId != 0)).findSome? (fun e =>
    let d := e.1 / 16
    if !w.arrPresent e.1 then some (0x08, 0, d)
    else
      ((e.2.chans.find? (fun c => !chRemote c.2.record && w.unreachable d (w.peerDie c.2.record))).map
          (fun c => both 0x10 (w.peerDie c.2.record) d)).or
        ((((e.2.templates.flatMap w.castArrays).map (· / 16)).find? (w.unreachable d)).map (fun d' => both 0x30 d' d)))
where
  /-- A status that names die d' beside die d. -/
  both (status d' d : Nat) : Nat × Nat × Nat := (status, d', d + 512 * (d' / 256))

/-- The first Hutch whose split would not hold its reservations (R182). -/
def Work.badSplit (w : Work) : Option Nat :=
  (List.range 16).find? (fun b => (w.hutch b).reserves.any (fun r => decide ((1536 - w.reg (0x5000 + b) 2) * 2 ^ 20 < r.offset + r.bytes)))

/-- The checks of Configure, and what follows them (R25, R243, R301, R334). -/
def Work.configureNow (w : Work) : Work :=
  match w.badList.or (w.badImage.or w.badPlacement) with
  | some (st, n, d) => w.jobStatus st n d
  | none =>
    match w.badSplit with
    | some b => w.jobStatus 0x48 b 0
    | none =>
      if w.reg 0x7800 7 ≠ 0 ∧ w.hinge.st = 2 then
        ((w.modJob (fun j => { j with mirrorWaits := true })).jobStatus 0xFF 0 0).sendRanges
      else (w.jobTo .configured).jobStatus 0 0 0

/-- CONFIGURE (R301): refused in the service state (R419); written during SCRUBBING it waits for the scrub (R305; assumption
107). -/
def configure (w : Work) : Work :=
  if w.configBusy then w.refuse 0x76
  else if w.boot.st = 2 then w.jobRefused
  else if w.job.st = .scrubbing then ((w.modJob (fun j => { j with configWaits := true })).jobStatus 0xFF 0 0).accept
  else if w.job.st.mayBind then w.configureNow.accept
  else w.jobRefused

/-- CONFIGURE (R301). -/
def execConfigure (s : State) : Host.Outcome State Fault Refusal := run configure s

/-! ### Start (R28, R35, R69, R176, R177, R182, R302) -/

/-- An array as a job starts: its record at reset values, its generators to be seeded anew; its stores stay as they are. -/
def Arr.atStart (x : Arr) : Arr := { cells := x.cells.map (fun e => (e.1, { e.2 with sr := 0 })) }

/-- The split of a Hutch put in force: the cache written back, unreserved scratch discarded (R182). -/
def Work.applySplit (w : Work) (b : Nat) : Work :=
  let new := w.reg (0x5000 + b) 2
  if (w.hutch b).cacheMiB = new then w
  else
    let w := ((w.flushHutch b).dropScratch b).modHutch b (fun h => { h with cacheMiB := new })
    w.setEff (0x5000 + b) 2 new

/-- A step of the counter announced: it is taken one full wave period after the next wave (R385). -/
def Work.announceStep (w : Work) (by_ : Nat) : Work :=
  let period := w.reg 0x9000 0x0A * 1000
  { w with root := { w.root with stepAt := (w.now / period + 2) * period, stepBy := by_, stepWaits := 0 } }

/-- A step that is pending as a job starts waits for the job's end (R385). -/
def Work.holdStep (w : Work) : Work :=
  if w.root.stepAt = 0 then w
  else { w with root := { w.root with stepAt := 0, stepBy := 0, stepWaits := w.root.stepBy } }

/-- Steps 2 to 5 of Start (R302). -/
def Work.launch (w : Work) : Work :=
  let w : Work := { w with arrays := w.arrays.map (fun e => (e.1, e.2.atStart)) }
  let w : Work := { w with dies := w.dies.map (fun e => (e.1, { e.2 with
      tu := { quiet := e.2.tu.quiet }, cache := [], cacheUse := 0, hints := [], router := { e.2.router with sr := 0 } })) }
  let w := w.setEff 0x2010 1 (w.reg 0x2010 1)
  let w := w.setReg 0x2010 2 (w.reg 0x2010 1)
  let w := w.zero (2 * 2 ^ 60) (2 ^ 60)
  let w := (List.range 16).foldl Work.applySplit w
  let w := (List.range 16).foldl (fun w b => ((w.setReg (0x5000 + b) 8 0).setReg (0x5000 + b) 9 0).setReg (0x5000 + b) 0x0A 0) w
  let w : Work := { w with hutches := w.hutches.map (fun e => (e.1, { e.2 with sr := [] })) }
  let w := w.setEff 0x4000 7 (w.reg 0x4000 7)
  let w := w.setEff 0x2400 3 (w.reg 0x2400 3)
  let w := (((w.setReg 0x2400 0x11 0).setReg 0x2400 0x12 0).setReg 0x2400 0x0F w.now)
  let w := w.modJob (fun j => { j with
    startWaits := false, arrivals := [], completions := [], firstAbort := [], notRun := 0, slices := w.reg 0x2010 1
    adaptive := w.reg 0x4000 7 == 1, checkedRate := w.reg 0xB000 0x10, runNo := j.runNo + 1, drains := false })
  (w.holdStep.jobTo .running).jobStatus 0 0 0

/-- Start goes on: a pending defect and RemapPolicy bring a recomputation first (R35, R302). -/
def Work.startNow (w : Work) : Work :=
  if w.reg 0x2100 0x0D ≠ 0 ∧ w.reg 0x2100 0x0E = 1 then
    ((w.modJob (fun j => { j with startWaits := true })).jobStatus 0xFF 0 0).beginRecompute
  else w.launch

/-- START (R302): only from CONFIGURED, and only while the host die has its way into the mesh (R28); a retained job is
scrubbed first. -/
def start (w : Work) : Work :=
  if w.job.startWaits then w.refuse 0x76
  else if w.job.st ≠ .configured ∨ (w.siteMap.computed ∧ (w.activeSite hostSites).isNone) then w.jobRefused
  else if w.job.retained then
    (((w.modJob (fun j => { j with startWaits := true })).jobTo .scrubbing).jobStatus 0xFF 0 0).accept
  else w.startNow.accept

/-- START (R302). -/
def execStart (s : State) : Host.Outcome State Fault Refusal := run start s

/-! ### Stop (R303) -/

/-- A FENCE not yet met ends with a status. -/
def Work.endFences (w : Work) (d status : Nat) : Work :=
  let fs := (w.die d).tu.fences
  fs.foldl (fun w f => w.endFence d f status) (w.modTu d (fun u => { u with fences := [] }))

/-- A descriptor taken and not acted on ends with a status: every instance, or the one record of a FENCE (R299). -/
def Work.notRun (w : Work) (d : Nat) (e : Taken) (status : Nat) : Work :=
  let t := taskOf e.bytes
  if !t.valid then w.endInvalid d t
  else if t.kind = 2 then w.endFence d ⟨e.list, t, none⟩ status
  else
    let is := (w.instancesOf t e.list d e.at_ true).map (fun i => { i with checked := false })
    let w := w.modTu d (fun u => { u with counts := u.counts ++ [⟨e.list, t.seq, is.length, if t.kind = 1 then some (t.base0, 0) else none, e.at_⟩] })
    is.foldl (fun w i => w.endUnstarted d i status) w

/-- The task unit of die d gives up what it holds: nothing queued starts (R303 step 1, R304 step 1). -/
def Work.clearQueue (w : Work) (d : Nat) : Work :=
  let tu := (w.die d).tu
  let w := w.modTu d (fun u => { u with queue := [], taken := [], steal := .idle })
  let w := tu.queue.foldl (fun w i => w.endUnstarted d i 0x51) w
  tu.taken.foldl (fun w e => w.notRun d e 0x51) w

/-- A task placed on array a that has not started is not run: the array keeps its state and its image (R303). -/
def Work.unplace (w : Work) (a : Nat) : Work :=
  match (w.arr a).task with
  | some t =>
    if t.running then w
    else
      let w := w.modArr a (fun x => { x with task := none, load := if x.load = .asked then .none else x.load })
      if t.inst.copy then w.tellOrigin (a / 16) t.inst 0 else w.endUnstarted (a / 16) { t.inst with checked := false } 0x51
  | none => w

/-- STOP: the job goes to STOPPING; queued instances are not run, and running tasks go on to their end (R303, R307). -/
def stop (w : Work) : Work :=
  if w.job.st ≠ .running then w.jobRefused
  else
    let w := (w.modJob (fun j => { j with stopAt := w.now, drains := false })).jobTo .stopping
    let w := w.dies.foldl (fun w e => w.clearQueue e.1) w
    let w := w.arrays.foldl (fun w e => w.unplace e.1) w
    (w.stopDrains.jobStatus 0 0 0).accept

/-- STOP (R303). -/
def execStop (s : State) : Host.Outcome State Fault Refusal := run stop s

/-! ### Kill (R304) -/

/-- Steals and pushes in flight are discarded, and the instances they carry are not run (R304 step 1). -/
def Work.dropTaskTraffic (w : Work) : Work :=
  let mine := fun (p : Packet) => p.type == 0x30 || p.type == 0x31 || p.type == 0x32
  let ps := w.flying.filter mine
  let w := w.keepPackets (fun p => !mine p)
  ps.foldl (fun w p =>
    let is := if p.type = 0x31 then w.givenBy p
      else if p.type = 0x32 then w.pushedBy p else []
    is.foldl (fun w i => w.endUnstarted (w.dstDie p) i 0x51) w) w

/-- An array stopped as in a forced load: engines cancel, tokens go, channels close with reason abort, and the task ends
with a status, or another when it had not started (R142, R304 step 2). -/
def Work.stopArray (w : Work) (a : Nat) (status unstarted : Nat) : Work :=
  let w := (List.range 4).foldl (fun w e => w.cancelEngine a e) w
  let w := (w.modArr a Arr.discard).closeAll a true
  let st := if (w.arr a).st = .empty ∨ (w.arr a).st = .loading then ArraySt.empty else .ready
  let w := match (w.arr a).task with
    | some t =>
      if t.inst.copy then w.endCopy a t st
      else w.endTask a t (match t.fault with
        | some c => c
        | none => { status := if t.running then status else unstarted }) st
    | none => w
  w.modArr a (fun x => { x with st := st, load := .none, stopped := true })

/-- An array at a kill: its task ends with 0x50, or 0x51 when it had not started (R304 step 2). -/
def Work.killArray (w : Work) (a : Nat) : Work := w.stopArray a 0x50 0x51

/-- Requests of the job that wait at a Hutch are dropped (R304 step 3). -/
def Work.dropRequests (w : Work) : Work :=
  let w : Work := { w with hutches := w.hutches.map (fun e => (e.1, { e.2 with wqueue := [], updWait := [] })) }
  w.keepPackets (fun p => !((p.type == 0x40 || p.type == 0x42) && p.dstPanel == w.panelId))

/-- The steps of a kill (R304). -/
def Work.killSteps (w : Work) : Work :=
  let w := (w.modJob (fun j => { j with killAt := w.now, startWaits := false, configWaits := false })).jobTo .killing
  let w := w.dropTaskTraffic
  let w := w.dies.foldl (fun w e => (w.clearQueue e.1).modTu e.1 (fun u => { u with pushed := [] })) w
  let w := w.arrays.foldl (fun w e => w.killArray e.1) w
  let w := w.dies.foldl (fun w e => w.endFences e.1 0x51) w
  let w := w.dropRequests
  w.batches.foldl (fun w b => w.abortBatch b 0x50) w

/-- KILL: from RUNNING or STOPPING the job is killed; from RETAINED the scrub starts (R304, R307). -/
def kill (w : Work) : Work :=
  if w.job.st = .running ∨ w.job.st = .stopping then (w.killSteps.jobStatus 0 0 0).accept
  else if w.job.st = .retained then ((w.jobTo .scrubbing).jobStatus 0 0 0).accept
  else w.jobRefused

/-- KILL (R304). -/
def execKill (s : State) : Host.Outcome State Fault Refusal := run kill s

/-- STOP_TIMEOUT: StopTimeoutMs have passed, and the stop becomes a kill (R303). -/
def stopTimeout (w : Work) : Work :=
  if w.job.st = .stopping then (w.reach (w.job.stopAt + 1000000 * w.reg 0x2400 0x0A)).killSteps else w

/-- STOP_TIMEOUT (R303). -/
def execStopTimeout (s : State) : Host.Outcome State Fault Refusal := run stopTimeout s

/-! ### The end of a job and the scrub (R304, R305) -/

/-- Every array is READY, EMPTY or HELD with no load and no task, and the drains are over (R303 step 3). -/
def Work.settled (w : Work) : Bool :=
  w.job.drains && w.arrays.all (fun e => e.2.task.isNone && e.2.load == .none &&
    ((e.2.st == .ready && e.2.stopDrained) || e.2.st == .empty || e.2.st == .held))

/-- A packet of the job's own traffic: channels, streams, tasks, Hutch engines. -/
def jobPacket (p : Packet) : Bool := decide (p.type ≤ 0x1A) || (decide (0x30 ≤ p.type) && decide (p.type ≤ 0x43) && p.type != 0x35)

/-- No packet of the job is on its way, and the non-CTRL buffers, output buffers and replay buffers are empty, by two checks 1 µs
apart that end within the 1 ms (R257 step 3, R304 step 5). -/
def Work.fabricDrained (w : Work) : Bool :=
  w.flying.all (fun p => !jobPacket p) && w.dies.all (fun e => w.routerEmpty e.1) && w.links.all (fun e => e.2.kept.all (fun p => p.vc == 0)) &&
    decide (w.now + 1000 ≤ w.job.killAt + 1000000)

/-- The 1 ms of the drain is over: what is left in the fabric is discarded under R247 and the end of the drain counted, and what its
sources still held for it goes with the job (R259, R304). -/
def Work.drainOver (w : Work) : Work :=
  ((w.reach (w.job.killAt + 1000001)).discardTraffic).keepPackets (fun p => !jobPacket p)

/-- The job ends: RETAINED, or SCRUBBING (R305). -/
def Work.endJob (w : Work) : Work :=
  let w := w.setReg 0x2400 0x10 w.now
  let w := if w.root.stepWaits = 0 then w else w.announceStep w.root.stepWaits
  if bit (w.reg 0x2400 4) 2 then (w.modJob (fun j => { j with retained := true })).jobTo .retained
  else w.jobTo .scrubbing

/-- JOB_END: a stop whose arrays have settled, those that a load has made READY since being drained first, or a kill whose traffic
has drained or run out of its 1 ms (R303 to R305). -/
def jobEnd (w : Work) : Work :=
  if w.job.st = .stopping then (if w.settled then w.endJob else w.stopDrains)
  else if w.job.st = .killing then (if w.fabricDrained then (w.reach (w.now + 1000)).endJob else w.drainOver.endJob)
  else w

/-- JOB_END (R305). -/
def execJobEnd (s : State) : Host.Outcome State Fault Refusal := run jobEnd s

/-- An array after the scrub: EMPTY, its stores zeroed, tokens gone; the counters and LastStatus of its record stay for
the report (R305). -/
def Arr.scrubbed (x : Arr) : Arr :=
  { epoch := x.epoch, stale := x.stale, discarded := x.discarded, spills := x.spills, suspicions := x.suspicions
    lastStatus := x.lastStatus, cells := x.cells.map (fun e => (e.1, { sr := e.2.sr })) }

/-- The scrub's table (R305). -/
def Work.scrub (w : Work) : Work :=
  let policy := w.reg 0x2400 4
  let w := (w.zero (3 * 2 ^ 60) (2 ^ 60)).zero (2 * 2 ^ 60) (2 ^ 60)
  let w : Work := { w with arrays := w.arrays.map (fun e => (e.1, e.2.scrubbed)) }
  let w : Work := { w with dies := w.dies.map (fun e => (e.1, { e.2 with cache := [], hints := [] })) }
  let w := (List.range 16).foldl Work.flushHutch w
  let w := if bit policy 0 then (List.range 16).foldl Work.zeroScratch w else w
  if bit policy 1 then (List.range 16).foldl Work.zeroDram w else w

/-- SCRUB_COMPLETE: the stores are as R305 says, the panel is IDLE, and a Configure or a Start that waited goes on; a Configure that
meets the job of a Start which waited as well is refused (R301, R305). -/
def scrubComplete (w : Work) : Work :=
  if w.job.st ≠ .scrubbing then w
  else
    let w := w.scrub.modJob (fun j => { j with retained := false })
    if w.job.startWaits then
      let w := ((w.modJob (fun j => { j with startWaits := false })).jobTo .configured).startNow
      if w.job.configWaits then (w.modJob (fun j => { j with configWaits := false })).jobStatus 0x57 w.job.st.code 0 else w
    else
      let w := w.jobTo .idle
      if w.job.configWaits then (w.modJob (fun j => { j with configWaits := false })).configureNow else w

/-- SCRUB_COMPLETE (R305). -/
def execScrubComplete (s : State) : Host.Outcome State Fault Refusal := run scrubComplete s

end Sys2Proof.Machine
end

