-- ==== Sys2Proof/Machine/Failures.lean ====
section
/-! DEFINITION. What the failure of a unit takes with it while the panel runs: tasks, channels, packets, the tables and edge
ports; and the operator's defect records (R28, R36, R161, R230, R299). -/

namespace Sys2Proof.Machine

/-! ### Dies that are lost (R159, R161, R215, R247, R441) -/

/-- A key of a target lies on one of these dies of this panel. -/
def Work.keyOn (w : Work) (ds : List Nat) (t : Nat) : Bool := t / 8192 == w.panelId && ds.contains (w.dieOf (t / 256 % 32) (t / 16 % 16))

/-- Packets for lost dies are discarded where they would enter the fabric (R247). -/
def Work.dropBound (w : Work) (ds : List Nat) : Work :=
  let mine := fun (p : Packet) => p.dstPanel == w.panelId && ds.contains (w.dstDie p)
  let ps := w.flying.filter mine
  ps.foldl (fun w p => w.sayUnreach (if p.srcPanel = w.panelId then w.srcDie p else w.dstDie p) p) (w.keepPackets (fun p => !mine p))

/-- Channel peers and stream sources elsewhere of arrays on lost dies abort: 0x10 and 0x35 (R159, R215). -/
def Work.abortPeers (w : Work) (ds : List Nat) : Work :=
  (w.arrays.filter (fun e => !ds.contains (e.1 / 16) && e.2.task.isSome)).foldl (fun w e =>
    let peer := e.2.chans.any (fun c => !c.2.closed && !chRemote c.2.record && ds.contains (w.dieOf (chPeerC c.2.record) (chPeerR c.2.record)))
    let w := if peer then w.taskFault e.1 { status := 0x10 } else w
    e.2.engines.foldl (fun w en =>
      let one := fun (l : List Nat) => decide (l.length = 1) && l.any (w.keyOn ds)
      let at_ := fun (x : Nat) => (aSpace x == 2 || aSpace x == 3) && ds.contains (w.addrDie x)
      if en.2.started && (en.2.credits.any (fun c => en.2.desc.mcMode == 0 && w.keyOn ds c.target) ||
          en.2.transfers.any (fun t => one t.targets || (t.targets.isEmpty && at_ t.address))) then
        w.engineFault e.1 en.1 0x35 en.2.desc.dst
      else w) w) w

/-- The running task of an array ends with a status where its die is gone. -/
def Work.endOn (w : Work) (a status : Nat) : Work :=
  match (w.arr a).task with
  | some t => if t.inst.copy then w.endCopy a t .empty else w.endTask a t { status := status } .empty
  | none => w

/-- A link that begins afresh with all its credits; what it has counted since start-up stays (0x4000.08). -/
def Link.afresh (x : Link) : Link := { failed := x.failed, replays := x.replays, secondAt := x.secondAt, inSecond := x.inSecond }

/-- Links of lost dies: what their neighbours keep for them is discarded, and the links begin afresh where they come back (R230,
R247). -/
def Work.cutLinks (w : Work) (ds : List Nat) : Work :=
  let lost := fun (d : Option Nat) => d.any (fun d => ds.contains d)
  let w := w.links.foldl (fun w e => match w.linkFrom e.1 with
    | some d => if !ds.contains d && lost (w.linkTo e.1) then w.discardAll d e.2.kept else w
    | none => w) w
  { w with
    links := w.links.map (fun e => (e.1, if lost (w.linkFrom e.1) || lost (w.linkTo e.1) then e.2.afresh else e.2))
    dies := w.dies.map (fun e => (e.1, { e.2 with router := { e.2.router with
      spent := e.2.router.spent.filter (fun x => !(decide (x.1 / 12 < 4) && ds.contains (w.beyond e.1 (x.1 / 12)))) } })) }

/-- What dies held is lost: their tasks and queued instances end with a status, packets in their routers and packets for
them are discarded, and those who waited for them abort. -/
def Work.loseDies (w : Work) (ds : List Nat) (status : Nat) : Work :=
  let w := (w.arrays.filter (fun e => ds.contains (e.1 / 16))).foldl (fun w e => w.endOn e.1 status) w
  let w := ds.foldl (fun w d =>
    let tu := (w.die d).tu
    let w := w.modTu d (fun u => { u with queue := [], taken := [] })
    tu.taken.foldl (fun w e => w.notRun d e status) (tu.queue.foldl (fun w i => w.endUnstarted d i status) w)) w
  let w := ds.foldl (fun w d => w.discardAll d ((w.die d).router.slots.map (·.pkt))) w
  let w := ((w.dropBound ds).cutLinks ds).abortPeers ds
  { w with arrays := w.arrays.filter (fun e => !ds.contains (e.1 / 16)), dies := w.dies.filter (fun e => !ds.contains e.1) }

/-! ### Arrays that fail (R161) -/

/-- Channels of other arrays to lost arrays close with reason abort (R159, R161). -/
def Work.closeToward (w : Work) (lost : Nat → Bool) : Work :=
  (w.arrays.filter (fun e => !lost e.1)).foldl (fun w e =>
    let cs := e.2.chans.filter (fun c => !c.2.closed && !chRemote c.2.record &&
      lost (arrOf (w.dieOf (chPeerC c.2.record) (chPeerR c.2.record)) (chPeerK c.2.record)))
    if cs.isEmpty then w
    else
      let w := w.modArr e.1 (fun x => cs.foldl (fun x c => x.modChan c.1 (fun y => { y with closing := false, closed := true })) x)
      if (w.arr e.1).st == .run then (w.taskFault e.1 { status := 0x0E }).closeAll e.1 true else w.afterClosed e.1) w

/-- An array has become defective: its task ends with 0x54 and its channels close with reason abort (R161, R299). -/
def Work.loseArray (w : Work) (a : Nat) : Work :=
  if thas w.arrays a then (w.stopArray a 0x54 0x54).modArr a (fun x => { x with st := .empty, imageId := 0 }) else w

/-- The logical array that the map in force places on a physical one. -/
def Work.arrayAt (w : Work) (n a : Nat) : Option Nat :=
  (w.dieAt n).bind (fun d => (w.siteMap.logicalArray.find? (fun e => e.1 == n * 20 + a)).map (fun e => arrOf d e.2))

/-! ### Links and ports that fail (R28, R230) -/

/-- Both directions of a failed link: the routers stop sending, and what their output and replay buffers hold is discarded
(R230). -/
def Work.linkStops (w : Work) (l : Nat) : Work :=
  [l, opposite l].foldl (fun (w : Work) l =>
    let kept := (w.link l).kept
    let w : Work := match w.linkDie l with
      | some d =>
        let out := if isAttach l then (if l % 2 = 0 then some 5 else none) else w.portOfLink d l
        let waiting : List Slot := match out with
          | some dir => (w.die d).router.slots.filter (fun s =>
              s.out == some dir && (!isAttach l || w.attachLink d s.pkt.dstUnit == some (l / 2)))
          | none => []
        (waiting.foldl (fun w s => w.freeSlot d s) w).discardAll d (waiting.map (·.pkt) ++ kept)
      | none => w
    w.modLink l (fun x => { x.afresh with failed := true, sendSeq := x.sendSeq, lastGood := x.lastGood })) w

/-- Port dies whose attach sites have all become unusable are defective, and their edge ports with them: a record of source 6
and pattern 11, and an ERROR event (R28, R435, R465; assumption 87). -/
def Work.refitPorts (w : Work) : Work :=
  if !w.siteMap.computed then w
  else
    (List.range 16).foldl (fun w k =>
      let st := (w.port k).st
      if st = .fused ∨ st = .defective ∨ w.fuses.ports.contains k ∨ !(w.portDies k).isEmpty then w
      else ((w.portDown k .defective).addDefect { kind := 4, source := 6, site := k, sub := 0, pattern := 11, time := w.now }).event 1 0 5 k 0 |>.restartMap) w

/-! ### A record and what follows it (R36, R161, R230) -/

/-- A unit becomes defective while the panel runs, with the record that says so: what used it ends, its record and the map
follow, a failed link brings new tables, and ports without an attach go with it (R28, R36, R161, R230, R256). -/
def Work.unitFails (w : Work) (r : Defect) : Work :=
  if w.isOut r then w.recordDefect r
  else if r.kind = 0 then
    let w := match w.dieAt r.site with
      | some d => (w.closeToward (fun a => a / 16 == d)).loseDies [d] 0x54
      | none => w
    (w.recordDefect r).refitPorts
  else if r.kind = 1 then
    (match w.arrayAt r.site r.sub with | some a => w.loseArray a | none => w).recordDefect r
  else if r.kind = 2 then
    (((w.linkStops (2 * (r.site * 8 + r.sub))).recordDefect r).refitPorts).startTables
  else if r.kind = 4 then (w.portDown r.site .down).recordDefect r
  else w.recordDefect r

/-- ADD_RECORD: an operator record taken as a pending defect (0x2101.04). -/
def addRecord (data : List Byte) (w : Work) : Work :=
  if data.length ≠ 16 then w.refuse 0x72
  else if !(defectOf data).operatorOk then w.refuse 0x73
  else (w.unitFails (defectOf data)).accept

/-- ADD_RECORD (R39). -/
def execAddRecord (data : List Byte) (s : State) : Host.Outcome State Fault Refusal := run (addRecord data) s

end Sys2Proof.Machine
end

