-- ==== Sys2Proof/Machine/Fabric.lean ====
section
/-! DEFINITION. Links and their replay, routers, the fabric manager's table changes, congestion maps, and lost packets
(R227 to R260). -/

namespace Sys2Proof.Machine

/-! ### Links (R227 to R230) -/

/-- A direction of a link has failed: the link is defective, what its buffers hold is discarded, and new tables are applied
(R36, R230, R465). Links have no clock region, so the record keeps no temperature and no supply. -/
def linkFails (l : Nat) (w : Work) : Work :=
  if (w.link l).failed ∨ !linkExists (l / 16) (l / 2 % 8) then w
  else
    let w := w.unitFails { kind := 2, source := 6, site := l / 16, sub := l / 2 % 8, pattern := 11, time := w.now }
    (w.addReg 0x4000 9 1).event 1 0 3 (l / 2) 0

/-- LINK_DIRECTION_FAILS (R230). -/
def execLinkDirectionFails (l : Nat) (s : State) : Host.Outcome State Fault Refusal := run (linkFails l) s

/-- Where the frames of a direction of a link end: a die with the port of its router, or an external die (R227, R245). -/
def Work.linkEnds (w : Work) (l : Nat) : Option (Option (Nat × Nat)) :=
  if !linkExists (l / 16) (l / 2 % 8) then none
  else if isAttach l then some (if l % 2 = 0 then none else some (w.attachDie (l / 16), 5))
  else (w.linkTo l).bind (fun d => (w.portOfLink d l).map (fun port => some (d, port)))

/-- Whole packets that have come over a link, with the slots that the frame returns: into the input of a router; or at an external
die, where a port die holds what is bound for other panels in its egress buffer, and every other packet awaits its unit (R228, R236,
R239). -/
def Work.landPackets (w : Work) (l : Nat) (f : LinkFrame) (ps : List Packet) (far : Option (Nat × Nat)) : Work :=
  let back := if f.creditCount = 0 then 8 else f.creditCount
  match far with
  | some (d, port) =>
    let link := if isAttach l then some (l / 2) else none
    w.modRouter d (fun r => { r with
      slots := r.slots ++ ps.map (fun p => ({ inPort := port, pkt := p, vc := p.vc, lane := p.lane, link := link } : Slot))
      spent := if f.creditValid && !isAttach l then tmod 0 r.spent (port * 12 + f.creditVc * 2 + f.creditLane) (· - back) else r.spent })
  | none =>
    let w := if f.creditValid then w.modLink (opposite l) (fun x => { x with spent := tmod 0 x.spent (f.creditVc * 2 + f.creditLane) (· - back) }) else w
    ps.foldl (fun w p => match (if p.dstPanel = w.panelId then none else portAt (l / 16)) with
      | some k => w.toEgress k p
      | none => { w with arrived := w.arrived ++ [p] }) w

/-- LINK_FRAME_RECEIVE: a good frame in order hands over its flits, its acknowledgement, its Nak and its credit. A frame with a
bad CRC is discarded with all after it until the one that is due; the eighth replay that fails it makes the direction fail
(R228 to R230, R232). -/
def linkFrame (l : Nat) (f : LinkFrame) (w : Work) : Work :=
  let x := w.link l
  match w.linkEnds l with
  | none => w
  | some far =>
    if x.failed ∨ w.root.lost then w
    else if f.crc ≠ frameCrc f then
      if 8 ≤ x.tries then linkFails l w
      else if x.waits then w
      else w.modLink l (fun x => { x with waits := true, nak := true })
    else if f.seq ≠ (x.lastGood + 1) % 64 then w
    else
      let (part, ps) := assemble x.part (frameFlits f)
      let w := w.modLink l (fun x => { x with
        lastGood := f.seq, waits := false, tries := 0, part := part
        resend := match x.resend with
          | g :: rest => if g.seq = f.seq then rest else x.resend
          | [] => [] })
      let w := w.modLink (opposite l) (fun x =>
        let x := if f.ackValid then x.acked f.ack else x
        { x with asked := x.asked || f.nak })
      w.landPackets l f ps far

/-- LINK_FRAME_RECEIVE (R229). -/
def execLinkFrameReceive (l : Nat) (frame : LinkFrame) (s : State) : Host.Outcome State Fault Refusal := run (linkFrame l frame) s

/-- LINK_REPLAY: a Nak has asked for it, and the sender sends the frames it keeps, from Ack + 1, once more; a link whose rate
exceeds ReplayWarnPerSecond raises a WARN event (R229, 0x4000.0A). -/
def linkReplay (l : Nat) (w : Work) : Work :=
  let x := w.link l
  if x.failed ∨ !x.asked then w
  else
    let fresh := decide (x.secondAt + 1000000000 ≤ w.now)
    let n := if fresh then 1 else x.inSecond + 1
    let w := w.modLink l (fun x => { x with
      asked := false, waits := false, resend := x.sent, tries := x.tries + 1
      replays := satAdd 32 x.replays 1, inSecond := n, secondAt := if fresh then w.now else x.secondAt })
    if n = w.reg 0x4000 0x0A + 1 then w.event 2 0 3 (l / 2) n else w

/-- LINK_REPLAY (R229). -/
def execLinkReplay (l : Nat) (s : State) : Host.Outcome State Fault Refusal := run (linkReplay l) s

/-! ### Table changes (R256 to R259) -/

/-- The routers that take part: those of the present dies. -/
def Work.routers (w : Work) : List Nat := (List.range w.numDies).filter w.diePresent

/-- FMGR_TABLE: a router fills its inactive bank from the map in force (R242, R257 step 1). -/
def fmgrTable (d : Nat) (w : Work) : Work :=
  if w.fmgr.st = 1 ∧ w.diePresent d then
    let t := w.routeList w.gaps d
    w.modRouter d (fun r => { r with inactive := t, filled := true })
  else w

/-- FMGR_TABLE (R257). -/
def execFmgrTable (d : Nat) (s : State) : Host.Outcome State Fault Refusal := run (fmgrTable d) s

/-- With the last acknowledgement the manager sends STOP (R257), but not while tasks of a bay that is being switched off are still to
end: the tables are written meanwhile (R409 step 3). -/
def Work.allAcked (w : Work) : Work :=
  if w.fmgr.st = 1 ∧ w.routers.all w.fmgr.acked.contains ∧ !w.domains.any (fun e => e.2.st == .switchingOff && e.2.step == 2) then
    ({ w with fmgr := { w.fmgr with stopAt := w.now } } : Work).fabricTo 2
  else w

/-- FMGR_TABLE_ACK: the manager records the acknowledgement (R257). -/
def fmgrTableAck (d : Nat) (w : Work) : Work :=
  if w.fmgr.st = 1 ∧ (w.die d).router.filled ∧ !w.fmgr.acked.contains d then
    ({ w with fmgr := { w.fmgr with acked := w.fmgr.acked ++ [d] } } : Work).allAcked
  else w

/-- FMGR_TABLE_ACK (R257). -/
def execFmgrTableAck (d : Nat) (s : State) : Host.Outcome State Fault Refusal := run (fmgrTableAck d) s

/-- FMGR_STOP: the router takes no more non-CTRL packets from its own ports (R257 step 2). -/
def fmgrStop (d : Nat) (w : Work) : Work :=
  if w.fmgr.st = 2 ∧ w.diePresent d then w.modRouter d (fun r => { r with stopped := true }) else w

/-- FMGR_STOP (R257). -/
def execFmgrStop (d : Nat) (s : State) : Host.Outcome State Fault Refusal := run (fmgrStop d) s

/-- FMGR_STOPPED (R257). -/
def fmgrStopped (d : Nat) (w : Work) : Work :=
  if w.fmgr.st = 2 ∧ (w.die d).router.stopped ∧ !w.fmgr.stopped.contains d then
    { w with fmgr := { w.fmgr with stopped := w.fmgr.stopped ++ [d] } }
  else w

/-- FMGR_STOPPED (R257). -/
def execFmgrStopped (d : Nat) (s : State) : Host.Outcome State Fault Refusal := run (fmgrStopped d) s

/-- TABLE_DRAIN_TIMEOUT: the deadline tick 1 ms after the stop has passed: what is left is discarded, and the swap proceeds (R259). -/
def tableTimeout (w : Work) : Work :=
  if w.fmgr.st ≠ 2 then w
  else
    let w := (w.reach (w.fmgr.stopAt + 1000001)).discardTraffic
    ({ w with dies := w.dies.map (fun e => (e.1, { e.2 with router := { e.2.router with stopped := true, quiesced := true } })) } : Work).fabricTo 3

/-- TABLE_DRAIN_TIMEOUT (R259). -/
def execTableDrainTimeout (s : State) : Host.Outcome State Fault Refusal := run tableTimeout s

/-- ROUTER_QUIESCE_CHECK: the second of two good checks 1 µs apart reports QUIESCED, where the deadline tick has not passed (R257
step 3, R259). -/
def quiesceCheck (d : Nat) (w : Work) : Work :=
  let r := (w.die d).router
  if w.fmgr.st ≠ 2 ∨ !r.stopped then w
  else if w.fmgr.stopAt + 1000000 < w.now then tableTimeout w
  else if !w.routerEmpty d then w.modRouter d (fun r => { r with checkedAt := none })
  else
    match r.checkedAt with
    | none => w.modRouter d (fun r => { r with checkedAt := some w.now })
    | some t =>
      if w.fmgr.stopAt + 1000000 < t + 1000 then tableTimeout w
      else (w.reach (t + 1000)).modRouter d (fun r => { r with quiesced := true })

/-- ROUTER_QUIESCE_CHECK (R257). -/
def execRouterQuiesceCheck (d : Nat) (s : State) : Host.Outcome State Fault Refusal := run (quiesceCheck d) s

/-- FMGR_QUIESCED: once every router has stopped and drained, SWAP is sent (R257). -/
def fmgrQuiesced (d : Nat) (w : Work) : Work :=
  if w.fmgr.st = 2 ∧ (w.die d).router.quiesced ∧ !w.fmgr.quiesced.contains d then
    let w : Work := { w with fmgr := { w.fmgr with quiesced := w.fmgr.quiesced ++ [d] } }
    if w.routers.all (fun e => w.fmgr.stopped.contains e && w.fmgr.quiesced.contains e) then w.fabricTo 3 else w
  else w

/-- FMGR_QUIESCED (R257). -/
def execFmgrQuiesced (d : Nat) (s : State) : Host.Outcome State Fault Refusal := run (fmgrQuiesced d) s

/-- FMGR_SWAP: the banks change places (R257 step 4). -/
def fmgrSwap (d : Nat) (w : Work) : Work :=
  if w.fmgr.st = 3 ∧ w.diePresent d ∧ !(w.die d).router.swapped then
    w.modRouter d (fun r => { r with active := r.inactive, inactive := r.active, swapped := true })
  else w

/-- FMGR_SWAP (R257). -/
def execFmgrSwap (d : Nat) (s : State) : Host.Outcome State Fault Refusal := run (fmgrSwap d) s

/-- FMGR_SWAPPED (R257). -/
def fmgrSwapped (d : Nat) (w : Work) : Work :=
  if w.fmgr.st = 3 ∧ (w.die d).router.swapped ∧ !w.fmgr.swapped.contains d then
    { w with fmgr := { w.fmgr with swapped := w.fmgr.swapped ++ [d] } }
  else w

/-- FMGR_SWAPPED (R257). -/
def execFmgrSwapped (d : Nat) (s : State) : Host.Outcome State Fault Refusal := run (fmgrSwapped d) s

/-- A start of a timer moved on by the ticks between STOP and RESUME that lie after it (R258). -/
def excluding (stop now at_ : Nat) : Nat := if at_ ≤ now then at_ + (now - max at_ stop) else at_

/-- The timers that do not count the stop, each on its own die's counter: the drain deadline, the opening of channels and its
repetition, credit requests, and completions (R258, R383). -/
def Work.skipStop (w : Work) (stop : Nat) : Work :=
  let later := fun (d : Nat) => excluding (w.dieNow d - (w.now - stop)) (w.dieNow d)
  let arr := fun (d : Nat) (x : Arr) =>
    let later := later d
    { x with
    drainAt := later x.drainAt, commitAt := later x.commitAt
    chans := x.chans.map (fun c => (c.1, { c.2 with openAt := later c.2.openAt }))
    engines := x.engines.map (fun e => (e.1, { e.2 with
      credits := e.2.credits.map (fun c => { c with sentAt := later c.sentAt })
      transfers := e.2.transfers.map (fun t => { t with launched := later t.launched }) })) }
  { w with
    arrays := w.arrays.map (fun e => (e.1, arr (e.1 / 16) e.2))
    hutches := w.hutches.map (fun e => (e.1, { e.2 with
      wrun := e.2.wrun.map (fun x => { x with
        askedAt := later (1000 + e.1) x.askedAt, launchedAt := later (1000 + e.1) x.launchedAt }) })) }

/-- FMGR_RESUME: every router has swapped: injection restarts, TableGeneration goes up, and the stop is reported; a change
asked for meanwhile begins (R257 step 5, R258). -/
def fmgrResume (w : Work) : Work :=
  if w.fmgr.st = 3 ∧ w.routers.all w.fmgr.swapped.contains then
    let stop := w.fmgr.stopAt
    let again := w.fmgr.again
    let w : Work := { w.skipStop stop with
      fmgr := { steer := w.fmgr.next, next := w.fmgr.next }
      dies := w.dies.map (fun e => (e.1, { e.2 with router := { e.2.router with stopped := false, swapped := false } })) }
    let w := (((w.fabricTo 0).addReg 0x4000 1 1).setReg 0x4000 5 ((w.now - stop) / 1000 % 2 ^ 32)).interrupt 15
    if again then w.startTables else w
  else w

/-- FMGR_RESUME (R257). -/
def execFmgrResume (s : State) : Host.Outcome State Fault Refusal := run fmgrResume s

/-! ### Routers (R232 to R247) -/

/-- Packet types that the spec defines (R234, R285, R300, R330); a router discards the others without notice. -/
def knownType (t : Nat) : Bool :=
  (decide (1 ≤ t) && decide (t ≤ 7)) || (decide (0x10 ≤ t) && decide (t ≤ 0x1A)) || (decide (0x20 ≤ t) && decide (t ≤ 0x22)) ||
    (decide (0x30 ≤ t) && decide (t ≤ 0x36)) || (decide (0x40 ≤ t) && decide (t ≤ 0x45)) || t == 0x48 || t == 0x49 ||
    (decide (0x50 ≤ t) && decide (t ≤ 0x5C))

/-- The logical die that a packet makes for at die d: its destination, or the attach die of its egress port (R246). -/
def Work.goal (w : Work) (d : Nat) (p : Packet) : Option Nat :=
  if p.dstPanel = w.panelId then (if w.diePresent (w.dstDie p) then some (w.dstDie p) else none)
  else (w.egressPort p).bind (fun k => w.portDie k d (bit p.transfer 0))

/-- The source's route entry put into a header: a waypoint on lane 0, else lane 1; BULK-A and MCAST have lane 0 alone
(R235, R240, R241). -/
def withEntry (p : Packet) (entry : Nat) : Packet :=
  if p.vc = 3 ∨ p.vc = 5 then { p with lane := 0, wayValid := false }
  else if bit entry 9 then { p with lane := 0, wayValid := true, wayC := field entry 0 5, wayR := field entry 5 4 }
  else { p with lane := 1, wayValid := false }

/-- What a router does with a header. -/
inductive Route where
  | wait
  | lost
  | take (out : Nat) (p : Packet)
  deriving DecidableEq, Repr

/-- The external unit that a packet leaves the mesh for: its destination, or the port that leads to its panel (R245, R246). -/
def Work.exitUnit (w : Work) (p : Packet) : Option Nat :=
  if p.dstPanel = w.panelId then some p.dstUnit else (w.egressPort p).map (0x50 + ·)

/-- The output of a header at die d whose goal is die g (R240, R244). Output 4 is a unit of the die, 5 an XH or XV link, which only an
attach die of the unit has (R245). -/
def Work.routeAt (w : Work) (d g : Nat) (p : Packet) : Route :=
  let p := if p.lane = 0 ∧ p.wayValid ∧ w.dieOf p.wayC p.wayR = d then { p with lane := 1, wayValid := false } else p
  let t := if p.lane = 0 ∧ p.wayValid then w.dieOf p.wayC p.wayR else g
  let out := w.dimOut d (w.colOf t) (w.rowOf t)
  if out = 4 then
    if p.dstPanel = w.panelId ∧ p.dstUnit / 16 < 4 then .take 4 p
    else if ((w.exitUnit p).bind (w.attachLink d)).isSome then .take 5 p
    else .lost
  else if p.vc = 3 then
    let r := (w.die d).router
    let x := if w.colOf t > w.colOf d then [2] else if w.colOf t < w.colOf d then [3] else []
    let y := if w.rowOf t > w.rowOf d then [1] else if w.rowOf t < w.rowOf d then [0] else []
    let free := fun (o : Nat) => if w.outUsable d o then r.freeSlots o 3 0 else 0
    let best := (x ++ y).foldl (fun (b : Option Nat) o => match b with
      | none => if 0 < free o then some o else none
      | some c => if free c < free o then some o else some c) none
    match best with
    | some o => .take o p
    | none => if !w.outUsable d out then .lost else if 0 < r.freeSlots out 4 1 then .take out { p with vc := 4, lane := 1 } else .wait
  else if w.outUsable d out then .take out p
  else .lost

/-- A header handled: the slot it takes, or UNREACH (R247). `inject` marks the source router, which applies its entry. -/
def Work.routeHeader (w : Work) (d : Nat) (inject : Bool) (p : Packet) : Route :=
  match w.goal d p with
  | none => .lost
  | some g =>
    let e := w.route d g
    if inject ∧ g ≠ d ∧ bit e 11 then .lost
    else w.routeAt d g (if inject then withEntry p (if g = d then 0 else e) else p)

/-- A header that arrived over a mesh link, the oldest of its buffer that has no output yet, is routed where it stands (R236,
R238). -/
def Work.headerMesh (w : Work) (d inPort : Nat) (p : Packet) : Work :=
  match (w.die d).router.slots.find? (fun s => s.inPort == inPort && s.out.isNone && s.vc == p.vc && s.lane == p.lane) with
  | none => w
  | some s =>
    if s.pkt ≠ p ∨ w.forContext d p then w
    else if !knownType p.type then w.freeSlot d s
    else
      match w.routeHeader d false p with
      | .wait => w
      | .lost => (w.freeSlot d s).sayUnreach d p
      | .take out q => w.modRouter d (fun r => { r with
          slots := r.slots.map (fun x => if x = s then { s with pkt := q, out := some out } else x) })

/-- The die at which a packet from edge port k enters the mesh (R245, R246). -/
def Work.entryDie (w : Work) (k : Nat) (p : Packet) : Option Nat :=
  if p.dstPanel = w.panelId then w.portDie k (w.dstDie p) false
  else match w.egressPort p with
    | some j => w.portDie k ((w.portDies j).headD 0) false
    | none => (w.portDies k).head?

/-- Where a packet may be injected at die d: at its source's die, or at the attach die of the edge port it came in on; the first of
its flow only (R238, R245, R246). Answers the attach link that it takes, where it comes from an external die. -/
def Work.mayEnter (w : Work) (d inPort : Nat) (p : Packet) : Option (Option Nat) :=
  let viaLink := fun (unit : Nat) => (w.attachLink d unit).map some
  if w.net.contains p then
    if !(firstIn w.net p && w.srcDie p == d && inPort == (if p.srcUnit / 16 < 4 then 4 else 5)) then none
    else if inPort = 4 then some none
    else viaLink p.srcUnit
  else match w.entering.find? (fun e => decide (e.pkt = p)) with
    | some e =>
      if firstIn (w.entering.map (·.pkt)) p && inPort == 5 && w.entryDie e.port p == some d then viaLink (0x50 + e.port) else none
    | none => none

/-- A router has routed a header to an output where it stands, or as it enters: a packet for another panel spends an egress credit of
the die's router, or of the port die that it comes from (R317). -/
def Work.withEgress (w : Work) (d : Nat) (link : Option Nat) (p : Packet) (go : Work → Work) : Work :=
  if p.dstPanel = w.panelId then go w
  else
    match w.egressPort p with
    | none => w
    | some k =>
      let port := if p.srcPanel = w.panelId then none else link.bind (fun m => portAt (m / 8))
      let (ok, w') := w.spendEgress (match port with | some j => 1000 + j | none => d) k (if p.vc = 3 then 4 else p.vc)
      match ok with
      | some v => go v
      | none => w'

/-- A header that has come over an XH or XV link, the oldest of its buffer that has no output yet: this router is its source router
(R241, R245). -/
def Work.headerExternal (w : Work) (d : Nat) (s : Slot) : Work :=
  let p := s.pkt
  if w.forContext d p then w
  else if !knownType p.type then w.freeSlot d s
  else
    match w.routeHeader d true p with
    | .wait => w
    | .lost => (w.freeSlot d s).sayUnreach d p
    | .take out q =>
      w.withEgress d s.link p (fun w => w.modRouter d (fun r => { r with
        slots := r.slots.map (fun x => if x = s then { s with pkt := q, out := some out } else x) }))

/-- A header that a unit of the die injects, stamped by the die's counter; or a packet that an external die puts on its link to the
router: held while the router is stopped, its buffer is full, or egress credit is wanting (R229, R233, R236, R257, R317). -/
def Work.headerInject (w : Work) (d inPort : Nat) (p : Packet) : Work :=
  let r := (w.die d).router
  match w.mayEnter d inPort p with
  | none => w
  | some link =>
    if r.stopped ∧ p.vc ≠ 0 then w
    else if !knownType p.type then w.take p
    else
      match link with
      | some m =>
        let lane := if p.vc = 3 ∨ p.vc = 5 then 0 else 1
        if vcSlots p.vc ≤ tget 0 (w.link (2 * m + 1)).spent (p.vc * 2 + lane) then w else (w.take p).sendIn m p
      | none =>
        let enter := fun (q : Packet) (out : Option Nat) (w : Work) =>
          (w.take p).modRouter d (fun r => { r with slots := r.slots ++ [⟨inPort, w.stamped q, q.vc, q.lane, out, none⟩] })
        if w.forContext d p then w.waitLocal d p
        else
          match w.routeHeader d true p with
          | .wait => w
          | .lost => (w.take p).sayUnreach d p
          | .take out q =>
            if vcSlots q.vc ≤ (r.inBuffer inPort q.vc q.lane).length then w else w.withEgress d none p (enter q (some out))

/-- ROUTER_HEADER_ARRIVAL: a header that stands in an input is routed; else one that is still with its source enters there, or is put
on the attach link that leads there (R236, R240, R245). -/
def headerArrival (d inPort : Nat) (p : Packet) (w : Work) : Work :=
  if !w.diePresent d then w
  else if inPort < 4 then w.headerMesh d inPort p
  else
    match (w.die d).router.slots.find? (fun s => s.inPort == inPort && s.out.isNone && s.vc == p.vc && s.lane == p.lane) with
    | some s => if s.pkt = p then w.headerExternal d s else w.headerInject d inPort p
    | none => w.headerInject d inPort p

/-- ROUTER_HEADER_ARRIVAL (R240). -/
def execRouterHeaderArrival (d inPort : Nat) (pkt : Packet) (s : State) : Host.Outcome State Fault Refusal :=
  run (headerArrival d inPort pkt) s

/-- OUTPUT_ARBITRATION: the packet served leaves: over a mesh link, or over an XH or XV link, in a frame kept for replay, or to an
endpoint of the die, which still has to take it (R229, R237, R245). -/
def outputArbitration (d out : Nat) (w : Work) : Work :=
  match w.nextSlot d out with
  | none => w
  | some (vc, lane, i, s) =>
    let w := (w.freeSlot d s).modRouter d (fun r => { r with
      rrVc := if vc = 0 then r.rrVc else tput r.rrVc out vc, rrIn := tput r.rrIn (out * 12 + vc * 2 + lane) i })
    if out < 4 then (if w.outUsable d out then w.sendOut d out s.pkt else w.sayUnreach d s.pkt)
    else if out = 5 then
      match (w.exitUnit s.pkt).bind (w.attachLink d) with
      | some m => w.sendFrame (2 * m) (flitsOf (packetBytes s.pkt))
      | none => w.sayUnreach d s.pkt
    else { w with arrived := w.arrived ++ [s.pkt] }

/-- OUTPUT_ARBITRATION (R237). -/
def execOutputArbitration (d out : Nat) (s : State) : Host.Outcome State Fault Refusal := run (outputArbitration d out) s

/-! ### Lost packets (R247) -/

/-- UNREACH at a task unit, or at any other source (R247). -/
def unreached (p : Packet) (w : Work) : Work :=
  if p.dstUnit / 16 = 2 then
    let w := w.take p
    if field p.typeData 0 8 = 0x30 then w.stealLost p else if field p.typeData 0 8 = 0x32 then w.pushLost p else w
  else recvUnreach p w

/-- UNREACH (R247). -/
def execUnreach (pkt : Packet) (s : State) : Host.Outcome State Fault Refusal := run (onTurn pkt (unreached pkt)) s

/-! ### Congestion maps (R260) -/

/-- The bin of an occupancy. -/
def occBin (n : Nat) : Nat := if n = 0 then 0 else if n = 1 then 1 else if n ≤ 3 then 2 else 3

/-- CONGESTION_SAMPLE: one sample of every channel at every input, in the window of 10 µs that the time counter is in; the
first sample after a window closes it (R260). -/
def congestionSample (d : Nat) (w : Work) : Work :=
  if !w.diePresent d then w
  else
    let n := w.now / 10000
    w.modRouter d (fun r =>
      let r := if r.window = n then r else { r with window := n, closedBins := r.bins, bins := [] }
      { r with bins := (List.range 36).foldl (fun b i =>
          tmod 0 b (i * 4 + occBin (r.slots.filter (fun s => s.inPort == i / 6 && s.vc == i % 6)).length) (· + 1)) r.bins })

/-- CONGESTION_SAMPLE (R260). -/
def execCongestionSample (d : Nat) (s : State) : Host.Outcome State Fault Refusal := run (congestionSample d) s

/-- The bins of the last complete window as the time counter stands at `now`, in the 288 B of 0x4100.04 (R260). -/
def Router.mapBytes (r : Router) (now : Nat) : List Byte :=
  (List.range 144).flatMap (fun i => toBytes (tget 0 (if r.window < now / 10000 then r.bins else r.closedBins) i) 2)

/-- FMGR_MAPREQ: the router answers with its window, in two MAPDATA packets of 256 and 32 bytes (R234, R260). -/
def fmgrMapreq (d : Nat) (w : Work) : Work :=
  if !w.diePresent d then w
  else
    let bs := (w.die d).router.mapBytes w.now
    (List.range 2).foldl (fun w i =>
      w.send { w.packet 0x21 d 0x30 0 w.sideboardA w.boardUnit 0 with
        vc := 0, typeData := 9, total := 2, index := i, payload := flits (slice bs (256 * i) 256) }) w

/-- FMGR_MAPREQ (R260). -/
def execFmgrMapreq (d : Nat) (s : State) : Host.Outcome State Fault Refusal := run (fmgrMapreq d) s

/-- The ports whose full-bin count exceeded 312 samples, most full first, 64 at most (0x4100.05). -/
def hotPorts (m : List Byte) : List Byte :=
  let all := (List.range (m.length / 8)).filterMap (fun i =>
    let n := leAt m (8 * i + 6) 2
    if 312 < n then some (n, i) else none)
  ((sortBy (fun a b => decide (b.1 ≤ a.1)) all).take 64).flatMap (fun e =>
    toBytes (e.2 / 36) 2 ++ toBytes (e.2 % 36 / 6) 1 ++ toBytes (e.2 % 6) 1)

/-- FMGR_MAPDATA: a router's window is placed in the map, which holds one common window: the first of a later window begins
the map anew, and one of an earlier window, or one that starts at no multiple of 10 µs, is not placed (R260). -/
def fmgrMapdata (d window : Nat) (data : List Byte) (w : Work) : Work :=
  if w.numDies ≤ d ∨ window % 10000 ≠ 0 ∨ window < w.reg 0x4100 3 then w
  else
    let m := if window = w.reg 0x4100 3 then padTo (288 * w.numDies) (w.blob 0x4100 4) else List.replicate (288 * w.numDies) 0
    let m := m.take (288 * d) ++ padTo 288 data ++ m.drop (288 * d + 288)
    ((w.setBlob 0x4100 4 m).setBlob 0x4100 5 (hotPorts m)).setReg 0x4100 3 window

/-- FMGR_MAPDATA (R260). -/
def execFmgrMapdata (d window : Nat) (data : List Byte) (s : State) : Host.Outcome State Fault Refusal :=
  run (fmgrMapdata d window data) s

/-- DICT: a die serves dictionary traffic of the Sideboards. The spec gives its packets no contents beyond their type, so
those of the answer are a free value (R234). -/
def dictPacket (p : Packet) (w : Work) : Work :=
  let (x, w) := (w.take p).draw
  w.send { p.answer 0x22 with vc := 0, typeData := x % 2 ^ 64 }

/-- DICT (R234). -/
def execDict (pkt : Packet) (s : State) : Host.Outcome State Fault Refusal := run (onTurn pkt (dictPacket pkt)) s

end Sys2Proof.Machine
end

