-- ==== Sys2Proof/Machine/Clocks.lean ====
section
/-! DEFINITION. Clock regions and their margin monitors, the time counter and its wave down the tree, PPS, steps of the
counter, the clock root and re-parenting (R367 to R386, R437). -/

namespace Sys2Proof.Machine

/-! ### Clock regions (R367 to R371, R437) -/

/-- Number of the region of physical array a of site n, and of quadrant q of Hutch b. -/
def arrayRegion (n a : Nat) : Nat := 22 * n + a
def quadrantRegion (b q : Nat) : Nat := 9152 + 4 * b + q

/-- A region of an array-die site. -/
def onSite (r : Nat) : Bool := decide (r < 9152)

/-- Power domain of a region. -/
def regionDomain (r : Nat) : Nat := if onSite r then bayOfSite (r / 22) else 16 + (r - 9152) / 4

/-- A domain has its supply: it is on, or being switched off (R409). -/
def Work.powered (w : Work) (d : Nat) : Bool := (w.domain d).st == .on || (w.domain d).st == .switchingOff

/-- A region has a running clock: its domain has its supply, and it is neither spare nor fused nor defective (R367). A spare site's
router runs (R27). -/
def Work.regionRuns (w : Work) (r : Nat) : Bool :=
  w.powered (regionDomain r) && decide (r < 9216) &&
    (if onSite r then
      if r % 22 = 21 then w.siteUsable (r / 22)
      else (w.dieAt (r / 22)).isSome && (r % 22 == 20 || thas w.siteMap.logicalArray (r / 22 * 20 + r % 22))
    else true)

/-- The floor of a region's guard code (R368). -/
def guardFloor (r : Nat) : Nat := Config.guardFloor r % 16

/-- The guard code of a region, 15 at most (R368). -/
def Work.guard (w : Work) (r : Nat) : Nat := min 15 (guardFloor r + (w.region r).g)

/-- The guard code raised by `n`, 15 at most, or lowered by one, never below the floor. -/
def Work.raiseGuard (w : Work) (r n : Nat) : Work :=
  let g := min 15 (w.guard r + n)
  w.modRegion r (fun x => { x with g := g - guardFloor r })
def Work.lowerGuard (w : Work) (r : Nat) : Work := w.modRegion r (fun x => { x with g := x.g - 1 })

/-- The cap in force of a region: the lowest of those of margins, heat, power and the cooling policy (R369, R398, R404,
R407, R437). -/
def Work.capOf (w : Work) (r : Nat) : Nat :=
  let heat : Throttle := tget {} w.throttles (if onSite r then r / 22 else 416 + (r - 9152))
  let power : Nat := if onSite r then (w.domain (bayOfSite (r / 22))).capMHz else 1050
  min (min (w.region r).capMHz heat.capMHz) (min power w.cooling.capMHz)

/-- The logical array that a region clocks. -/
def Work.regionArray (w : Work) (r : Nat) : Option Nat :=
  if onSite r ∧ r % 22 < 20 then
    match w.dieAt (r / 22), w.siteMap.logicalArray.find? (fun e => e.1 == r / 22 * 20 + r % 22) with
    | some d, some e => some (arrOf d e.2)
    | _, _ => none
  else none

/-- FREQUENCY_LIMIT_WINDOW: 1 µs has passed with this many cycles. Above the limit guard steps are added for the next
1 µs; how many, the spec does not say (a free value). -/
def limitWindow (r cycles : Nat) (w : Work) : Work :=
  if !w.regionRuns r then w
  else
    let exceeds := decide (min 1050 (w.capOf r) < cycles)
    let (n, w) := if exceeds then w.draw else (0, w)
    let full := w.reg 0x9000 0x13 * 1000
    let now := w.now
    w.modRegion r (fun x =>
      let x : Region := { x with mhz := cycles, extra := if exceeds then n + 1 else 0, sum := x.sum + cycles, count := x.count + 1 }
      let x : Region := if full ≤ x.count then { x with mean := x.sum / x.count, sum := 0, count := 0 } else x
      if cycles < 500 then { x with slowSince := some (x.slowSince.getD now) }
      else { x with slowSince := none, slowTold := false })

/-- FREQUENCY_LIMIT_WINDOW (R369). -/
def execFrequencyLimitWindow (region cycles : Nat) (s : State) : Host.Outcome State Fault Refusal := run (limitWindow region cycles) s

/-- REGION_SLOW_CLOCK: a region has run below 500 MHz for more than 1 ms (R369). -/
def slowClock (r : Nat) (w : Work) : Work :=
  let x := w.region r
  match x.slowSince with
  | some t =>
    if x.slowTold ∨ !w.regionRuns r then w
    else ((w.reach (t + 1000001)).modRegion r (fun x => { x with slowTold := true })).event 1 0 8 r x.mhz
  | none => w

/-- REGION_SLOW_CLOCK (R369). -/
def execRegionSlowClock (region : Nat) (s : State) : Host.Outcome State Fault Refusal := run (slowClock region) s

/-- A margin check begins: the region's cap goes down by 50 MHz, to 500 MHz at least (R437). The known-answer set on its
array is KAT_RUN. -/
def Work.marginCheck (w : Work) (r : Nat) : Work := w.modRegion r (fun x => { x with capMHz := max 500 (x.capMHz - 50), restoredAt := w.now })

/-- The array of a region with margin code 0 is suspect, with pattern class 0 and a WARN event (R435, R436;
assumption 38). -/
def Work.marginSuspect (w : Work) (r : Nat) : Work :=
  if (w.regionArray r).isNone then w
  else
    let n := r / 22
    let f := n * 20 + r % 22
    if (w.markOf f).suspect then w
    else
      let t := w.siteTemp n
      let v := w.siteSupply n
      let now := w.now
      ((w.modMark f (fun m => { m with suspect := true, clean := 0, temp := t, supply := v, time := now })).setReg (0x3100 + n) 0x16 now).event 2
        0 2 (32 * n + r % 22) 0

/-- MARGIN_RESPONSE: the lowest margin code of a 1 µs window (R370, R371). -/
def marginResponse (r code : Nat) (w : Work) : Work :=
  if !w.regionRuns r then w
  else
    let code := min 15 code
    let warn := w.reg 0x9000 0x12
    let now := w.now
    let since := (w.region r).goodSince
    let w := w.modRegion r (fun x => { x with margin := code, goodSince := if 8 ≤ code then some (since.getD now) else none })
    if code = 0 then ((((w.raiseGuard r 2).marginCheck r).event 1 0 8 r code).hourly 1 8 r).marginSuspect r
    else if code ≤ warn then
      if w.guard r = 15 then (w.marginCheck r).event 1 0 8 r code else ((w.raiseGuard r 1).event 2 0 8 r code).hourly 1 8 r
    else if 8 ≤ code ∧ since.getD now + 10000000000 ≤ now then
      (w.lowerGuard r).modRegion r (fun x => { x with goodSince := some now })
    else w

/-- MARGIN_RESPONSE (R371). -/
def execMarginResponse (region code : Nat) (s : State) : Host.Outcome State Fault Refusal := run (marginResponse region code) s

/-- MARGIN_CAP_RESTORE: the region's array has had no task for 1 s: 25 MHz of the cap are given back, one step per 10 s
(R437; assumption 38). -/
def marginRestore (r : Nat) (w : Work) : Work :=
  let x := w.region r
  let (busy, idle) : Bool × Nat := match w.regionArray r with
    | some a => ((w.arr a).task.isSome, (w.arr a).idleAt)
    | none => (false, 0)
  if busy ∨ 1050 ≤ x.capMHz then w
  else
    let w := w.reach (max (x.restoredAt + 10000000000) (idle + 1000000000))
    let now := w.now
    w.modRegion r (fun x => { x with capMHz := min 1050 (x.capMHz + 25), restoredAt := now })

/-- MARGIN_CAP_RESTORE (R437). -/
def execMarginCapRestore (region : Nat) (s : State) : Host.Outcome State Fault Refusal := run (marginRestore region) s

/-! ### The tree (R375, R386) -/

/-- The direction code of the tree object for a port of a die: 0 N, 1 E, 2 W, 3 S. -/
def treeDir (dir : Nat) : Nat := if dir = 0 then 0 else if dir = 2 then 1 else if dir = 3 then 2 else 3

/-- Ports of a die in the order in which a parent is preferred: N, E, W, S (R375). -/
def parentOrder : List Nat := [0, 2, 3, 1]

/-- The die that the clock root attaches to: L(23,0), L(19,0) in VW-P320-4T, or L(0,0) (R375). -/
def Work.rootDie (w : Work) : Nat := if w.root.who = 1 then 0 else w.cols - 1

/-- The bay that holds the root's attach die: E0, or W0 when the host die is root (R375). -/
def Work.rootBay (w : Work) : Nat := if w.root.who = 1 then 0 else 8

/-- A place in the tree: die, parent, depth, direction of the parent. -/
structure TreeEntry where
  die : Nat
  parent : Nat
  depth : Nat
  dir : Nat
  deriving DecidableEq, Repr

/-- A die stays out of the tree: its bay's switch-off has come to the re-parenting, or its bay returns and its tables are still to be
applied (R386, R409 step 4, R411 step 3). -/
def Work.leavesTree (w : Work) (d : Nat) : Bool :=
  let x := w.domain (w.bayOf d)
  (x.st == .switchingOff && decide (4 ≤ x.step)) || (x.joining && w.fmgr.st != 0)

/-- The next depth of the tree: the dies not yet in it with a neighbour at the depth before, by their preferred parent. -/
def Work.treeNext (w : Work) (seen : List Nat) (front : List Nat) (depth : Nat) : List TreeEntry :=
  (List.range w.numDies).filterMap (fun d =>
    if seen.contains d ∨ w.leavesTree d then none
    else (parentOrder.find? (fun dir => w.linkPresent d dir && front.contains (w.beyond d dir))).map (fun dir =>
      ⟨d, w.beyond d dir, depth, treeDir dir⟩))

/-- The tree below a front, in order of depth; `fuel` bounds the depth. -/
def Work.treeBelow (w : Work) : Nat → List Nat → List Nat → Nat → List TreeEntry
  | 0, _, _, _ => []
  | fuel + 1, seen, front, depth =>
    match w.treeNext seen front depth with
    | [] => []
    | es => es ++ w.treeBelow fuel (seen ++ es.map (·.die)) (es.map (·.die)) (depth + 1)

/-- The tree over the present dies and links (R375). -/
def Work.tree (w : Work) : List TreeEntry :=
  let d := w.rootDie
  if w.root.who = 0xFF ∨ !w.diePresent d then []
  else ⟨d, 0xFFFE, 0, 0⟩ :: w.treeBelow w.numDies [d] [d] 1

/-! ### Leaves of the tree (R375) -/

/-- Number among the dies of the first leaf: Hutch b stands at 1,000 + b, port die k at 1,016 + k, then the host die, Sideboard B and
Sideboard A. -/
def leafBase : Nat := 1000

/-- Dies at the far end of a leaf's active attach links (R26, R375). -/
def Work.leafDies (w : Work) (j : Nat) : List Nat :=
  let at_ := fun (p : Nat × Nat) => ((w.activeSite p).bind w.dieAt).toList
  if j < 16 then w.hutchDies j else if j < 32 then w.portDies (j - 16)
  else if j = 32 then at_ hostSites else if j = 33 then at_ boardBSites else at_ boardASites

/-- A leaf has power and takes part: Sideboard A and the host die where they are not the root (R375; assumption 111). -/
def Work.leafUp (w : Work) (j : Nat) : Bool :=
  if j < 16 then w.hutchReached j
  else if j < 32 then (w.domain (32 + (j - 16) / 4)).st == .on
  else if j = 32 then (w.domain 36).st == .on && w.root.who != 1
  else if j = 33 then w.boot.boardB
  else w.root.who == 1 && w.boot.lead == 0

/-- A leaf's place: below the least deep of its dies, the first of them at equal depth (R375; assumption 51). -/
def Work.leafPlace (w : Work) (t : List TreeEntry) (j : Nat) : Option TreeEntry :=
  if !w.leafUp j then none
  else
    ((w.leafDies j).filterMap (fun d => t.find? (fun e => e.die == d))).foldl (fun (acc : Option TreeEntry) e =>
      match acc with
      | some x => if e.depth + 1 < x.depth then some ⟨leafBase + j, e.die, e.depth + 1, 0⟩ else acc
      | none => some ⟨leafBase + j, e.die, e.depth + 1, 0⟩) none

/-- The tree with its leaves (R375). -/
def Work.wholeTree (w : Work) : List TreeEntry :=
  let t := w.tree
  if t.isEmpty then [] else t ++ (List.range 35).filterMap (w.leafPlace t)

/-! ### Die counters (R379, R381) -/

/-- The slew made so far, and what the die's own rate has moved, taken into the offset. -/
def DieClock.settled (c : DieClock) (root : Int) (now : Nat) : DieClock :=
  let s := c.slewed now
  { c with offset := c.offset + s + c.drift root now, slew := c.slew - s, slewAt := now, rateFrom := now }

/-- The counters of all dies settled, as the root's rate is about to change (R379). -/
def Work.settleAll (w : Work) : Work :=
  let now := w.now
  { w with dies := w.dies.map (fun e => (e.1, { e.2 with clock := e.2.clock.settled w.root.rate now })) }

/-- The counter of a die's parent. -/
def Work.parentCounter (w : Work) (d : Nat) : Int :=
  let p := (w.die d).clock.parent
  if p = 0xFFFE then w.rootCounter else w.dieCounter p

/-- A die has set a ready bit: that of its bay, or a leaf's own (R423). -/
def Work.serving (w : Work) (d : Nat) : Bool :=
  if d < leafBase then w.boot.readyBays.contains (w.bayOf d)
  else
    let j := d - leafBase
    if j < 16 then w.boot.trained.contains j && w.hutchReached j
    else if j < 32 then w.portUp (j - 16)
    else if j = 32 then w.boot.hostReady
    else true

/-- The source that an event names a die by: its site, or the leaf (R444). -/
def Work.dieSource (w : Work) (d : Nat) : Nat × Nat :=
  let j := d - leafBase
  if d < leafBase then (1, (w.siteOf d).getD 0)
  else if j < 16 then (4, j) else if j < 32 then (5, j - 16) else if j = 32 then (0, 0) else (10, ofBool (j == 33))

/-- A die corrects its counter by an offset in 1/256 ns: up to 1 ns by a slew; beyond, forward in a step where it has no
ready bit, and otherwise by a slew that counts as a time fault. A backward correction is always a slew (R381). -/
def Work.correct (w : Work) (d : Nat) (e : Int) : Work :=
  let now := w.now
  let size := min 255 (e.natAbs / 16)
  let w := w.modDieClock d (fun c =>
    let c := c.settled w.root.rate now
    let stale := decide (c.worstAt + 1000000000 ≤ now)
    { c with worst := if stale then size else max c.worst size, worstAt := if stale then now else c.worstAt })
  let slew := fun (c : DieClock) => { c with slew := e, slewAt := now }
  if e.natAbs ≤ 256 then w.modDieClock d slew
  else if w.serving d then
    ((w.modDieClock d slew).addReg 0x9000 0x0E 1).event 2 0 (w.dieSource d).1 (w.dieSource d).2 (unsigned 64 (e / 16))
  else if 0 < e then w.modDieClock d (fun c => { c with offset := c.offset + e, slew := 0 })
  else w.modDieClock d slew

/-! ### TSYNC (R380) -/

/-- Bytes of a signed 1/256 ns value as a 64-bit time in ns and its fraction. -/
def timeBytes (t : Int) : List Byte := toBytes (unsigned 64 (t / 256)) 8 ++ toBytes (unsigned 8 (t % 256)) 1

/-- The payload of a TSYNC (R380). -/
def TimeSync.bytes (s : TimeSync) : List Byte :=
  timeBytes s.t1 ++ toBytes s.depth 1 ++ [0, 0] ++ toBytes (unsigned 32 s.rate) 4 ++ timeBytes s.prevT4 ++ List.replicate 7 0 ++
    toBytes s.rateAt 8 ++ toBytes s.stepAt 8 ++ toBytes s.stepBy 8 ++ List.replicate 8 0

/-- Rate, RateAt, StepAt and StepBy as a die hands them on: those of the TSYNC it received last, or the root's own; beside a RateAt
stands the rate that takes effect then (R380, R381). -/
def Work.handedOn (w : Work) (p : Nat) : Int × Nat × Nat × Nat :=
  if p = 0xFFFE then (if w.root.rateAt = 0 then w.root.rate else w.root.rateNew, w.root.rateAt, w.root.stepAt, w.root.stepBy)
  else
    let c := (w.die p).clock
    (if c.rateAt = 0 then c.rate else c.rateNew, c.rateAt, c.stepAt, c.stepBy)

/-- Where a die of the tree takes its FMGR packets: a logical die and the unit, of a leaf that of its class at its parent (R233). -/
def Work.syncPlace (w : Work) (d : Nat) : Nat × Nat :=
  if d = 0xFFFE then (w.rootDie, if w.root.who = 1 then 0x60 else 0x70)
  else if d < leafBase then (d, 0x30)
  else
    let j := d - leafBase
    ((w.die d).clock.parent,
      if j < 16 then 0x40 + j else if j < 32 then 0x50 + (j - 16) else if j = 32 then 0x60 else if j = 33 then 0x71 else 0x70)

/-- TSYNC from a parent to a child, from the parent's counter as it stands (R380). -/
def Work.sendSync (w : Work) (parent child : Nat) : Work :=
  let src := w.syncPlace parent
  let dst := w.syncPlace child
  let on_ := w.handedOn parent
  let depth := if parent = 0xFFFE then 0 else (w.die parent).clock.depth
  let t1 := if parent = 0xFFFE then w.rootCounter else w.dieCounter parent
  let body : TimeSync := ⟨t1, depth, on_.1, (w.die child).clock.prevT4, on_.2.1, on_.2.2.1, on_.2.2.2⟩
  w.send { w.packet 0x21 src.1 src.2 0 dst.1 dst.2 0 with typeData := 10, total := 1, payload := TimeSync.bytes body }

/-- A wave passed to the children of a die. -/
def Work.syncChildren (w : Work) (d : Nat) : Work :=
  (w.dies.filter (fun e => e.2.clock.running && e.2.clock.parent == d)).foldl (fun w e => w.sendSync d e.1) w

/-! ### Places in the tree (R379, R386) -/

/-- A place in the tree taken: a die that joins takes its value and its rate from its parent; one whose parent changes stands in
holdover until it has exchanged a TSYNC with the new one; any other has its depth told (R379, R386 steps 2 and 3). -/
def Work.takePlace (w : Work) (e : TreeEntry) : Work :=
  let c := (w.die e.die).clock
  let now := w.now
  let place := fun (c : DieClock) => { c with parent := e.parent, parentDir := e.dir, depth := e.depth, running := true }
  if !c.running then
    let off : Int := if e.parent = 0xFFFE then 0 else w.dieCounter e.parent - w.rootCounter
    let rate : Int := if e.parent = 0xFFFE then w.root.rate else (w.die e.parent).clock.rate
    w.modDieClock e.die (fun c => place { c with
      offset := off, slew := 0, delays := [], t1 := 0, prevT4 := 0, rate := rate, rateFrom := now, holdover := false })
  else if c.parent = e.parent ∧ c.parentDir = e.dir then w.modDieClock e.die place
  else
    (w.modDieClock e.die (fun c => place { c with delays := [], t1 := 0, prevT4 := 0, holdover := true })).sendSync e.parent e.die

/-- A die that has still to take its place at a depth, or to exchange a TSYNC with its new parent. -/
def Work.misplaced (w : Work) (e : TreeEntry) : Bool :=
  let c := (w.die e.die).clock
  !c.running || c.parent != e.parent || c.parentDir != e.dir || c.depth != e.depth || (c.holdover && !w.root.lost)

/-- The tree object takes the tree in force (R386 step 4). -/
def Work.showTree (w : Work) (t : List TreeEntry) : Work :=
  { w with root := { w.root with shown := t.map (fun e => (e.die, ⟨e.parent, e.depth, e.dir⟩)) } }

/-- Every die takes its place in the tree, depth by depth; dies outside it have no running counter (R375, R418). -/
def Work.joinTree (w : Work) : Work :=
  let t := w.wholeTree
  let w : Work := { w with dies := w.dies.map (fun e =>
      if t.any (fun x => x.die == e.1) then e else (e.1, { e.2 with clock := {} })) }
  let w := t.foldl Work.takePlace w
  if t.any w.misplaced then w else w.showTree t

/-! ### Bays that return (R386, R411, R423) -/

/-- A bay is ready: its bit is set (R423). Sideboard B stands by again where bay W7 carries its attach (R410). -/
def Work.bayReady (w : Work) (b : Nat) : Work :=
  ({ w with boot := { w.boot with
      readyBays := w.boot.readyBays.filter (· != b) ++ [b], failedBays := w.boot.failedBays.filter (· != b)
      standby := w.boot.standby || (b == 7 && w.boot.boardB && w.boot.lead == 0) } } : Work).readyChanged

/-- Edge ports whose attach sites lie in a bay (R410). -/
def cornerPorts (b : Nat) : List Nat :=
  if b = 0 then [0, 1, 2, 3] else if b = 8 then [4, 5, 6, 7] else if b = 7 then [8, 9, 10, 11] else if b = 15 then [12, 13, 14, 15] else []

/-- A bay whose tables are in force and whose dies are in the tree is ready, and its corner ports train again (R410, R411). -/
def Work.bayJoins (w : Work) (b : Nat) : Work :=
  if !(w.domain b).joining then w
  else
    let w := (w.modDomain b (fun x => { x with joining := false })).bayReady b
    (cornerPorts b).foldl (fun w k =>
      if w.portSt k = .down ∧ (w.domain (32 + k / 4)).st = .on then w.modPort k (fun x => { x with st := .training }) else w) w

/-- Once the tables are in force and no die has still to move, the tree object follows, and bays that return are ready (R386 step 4,
R411 step 3). -/
def Work.treeSettles (w : Work) : Work :=
  let t := w.wholeTree
  if t.any w.misplaced then w
  else
    let w := w.showTree t
    if w.fmgr.st = 0 then (List.range 16).foldl Work.bayJoins w else w

/-- REPARENT: the dies of one depth take their new parents, once the depths above have settled (R386). -/
def reparent (depth : Nat) (w : Work) : Work :=
  let t := w.wholeTree
  if t.any (fun e => decide (e.depth < depth) && w.misplaced e) then w
  else ((t.filter (fun e => e.depth == depth)).foldl Work.takePlace w).treeSettles

/-- REPARENT (R386). -/
def execReparent (depth : Nat) (s : State) : Host.Outcome State Fault Refusal := run (reparent depth) s

/-- MAP_RECOMPUTE_COMPLETE: the new tables have been swapped in and the fabric runs, the tree follows the map, and a Start that
waited goes on (R35, R37, R375). -/
def mapRecomputeComplete (w : Work) : Work :=
  if !w.siteMap.recomputing ∨ w.fmgr.st ≠ 0 then w
  else
    let w1 := w.mapDone.joinTree
    if w1.job.startWaits ∧ w1.job.st = .configured then w1.launch else w1

/-- MAP_RECOMPUTE_COMPLETE (R37). -/
def execMapRecomputeComplete (s : State) : Host.Outcome State Fault Refusal := run mapRecomputeComplete s

/-! ### The wave (R380, R381) -/

/-- TIME_WAVE: the root's counter crosses a multiple of WavePeriodUs: TSYNC goes to the root's attach die (R381). -/
def timeWave (w : Work) : Work :=
  if !w.root.running ∨ w.root.lost then w
  else
    let period := w.reg 0x9000 0x0A * 1000
    let w := w.reach ((w.root.lastWave / period + 1) * period)
    let w : Work := { w with root := { w.root with lastWave := w.now } }
    let d := w.rootDie
    if (w.die d).clock.running then w.sendSync 0xFFFE d else w

/-- TIME_WAVE (R381). -/
def execTimeWave (s : State) : Host.Outcome State Fault Refusal := run timeWave s

/-- The first packet of FMGR command `cmd` that a test picks is taken. -/
def Work.takeFmgr (w : Work) (cmd : Nat) (p : Packet → Bool) : Work :=
  let f := fun (q : Packet) => q.type == 0x21 && q.typeData == cmd && p q
  match w.flying.find? f with
  | some q => w.take q
  | none => w

/-- The link delay from the last exchange with the parent, averaged over 16 waves (R381). -/
def DieClock.delay (c : DieClock) : Int := if c.delays.isEmpty then 0 else c.delays.foldl (· + ·) 0 / Int.ofNat c.delays.length

/-- TSYNC at a child: TECHO goes back, the counter is corrected, and the wave goes on; the exchange of a die that has changed its
parent stands outside the wave, and ends its move (R381, R386). -/
def tsync (d : Nat) (s : TimeSync) (w : Work) : Work :=
  let w := w.takeFmgr 10 (fun q => (w.dstDie q, q.dstUnit) == w.syncPlace d)
  let c := (w.die d).clock
  if !c.running then w
  else
    let t2 := w.dieCounter d
    let now := w.now
    let moving := c.holdover && !w.root.lost
    let delays := if c.t1 = 0 ∨ s.prevT4 = 0 then c.delays else (((s.prevT4 - c.t1) - (c.t3 - c.t2)) / 2 :: c.delays).take 16
    let w := w.modDieClock d (fun c => { c.settled w.root.rate now with
      t1 := s.t1, t2 := t2, t3 := t2, delays := delays, rateNew := s.rate, rateAt := s.rateAt
      rate := if s.rateAt = 0 then s.rate else c.rate, stepAt := s.stepAt, stepBy := s.stepBy, holdover := c.holdover && !moving })
    let src := w.syncPlace d
    let dst := w.syncPlace c.parent
    let w := w.send { w.packet 0x21 src.1 src.2 0 dst.1 dst.2 0 with
      typeData := 11, total := 1, payload := padTo 16 (timeBytes t2) ++ padTo 48 (timeBytes t2) }
    let w := w.correct d (s.t1 + (w.die d).clock.delay - t2)
    if moving then w.treeSettles else w.syncChildren d

/-- TSYNC (R380). -/
def execTsync (d : Nat) (sync : TimeSync) (s : State) : Host.Outcome State Fault Refusal := run (tsync d sync) s

/-- TECHO of child d at its parent, which keeps its own counter at ingress for the next wave (R380). -/
def techo (d : Nat) (w : Work) : Work :=
  let w := w.takeFmgr 11 (fun q => (w.srcDie q, q.srcUnit) == w.syncPlace d)
  if (w.die d).clock.running then
    let t4 := w.parentCounter d
    w.modDieClock d (fun c => { c with prevT4 := t4 })
  else w

/-- TECHO (R380). -/
def execTecho (d : Nat) (s : State) : Host.Outcome State Fault Refusal := run (techo d) s

/-- RATE_CHANGE: the counter of die d reaches RateAt, and the new rate applies; the number of no die names the root (R381). -/
def rateChange (d : Nat) (w : Work) : Work :=
  if w.numDies ≤ d ∧ !(leafBase ≤ d ∧ d < leafBase + 35) then
    if w.root.rateAt = 0 then w
    else
      let w := (w.reach w.root.rateAt).settleAll
      { w with root := { w.root with rate := w.root.rateNew, rateAt := 0 } }
  else
    let at_ := (w.die d).clock.rateAt
    if at_ = 0 then w
    else
      let w := w.reachOn d at_
      let now := w.now
      w.modDieClock d (fun c => { c.settled w.root.rate now with rate := c.rateNew, rateAt := 0 })

/-- RATE_CHANGE (R381). -/
def execRateChange (d : Nat) (s : State) : Host.Outcome State Fault Refusal := run (rateChange d) s

/-! ### Steps (R385) -/

/-- Instants of a sensor, and of a die's clock, that intervals count from. -/
def Sensor.shift (x : Sensor) (by_ : Nat) : Sensor := { x with since := x.since + by_, history := x.history.map (fun e => (e.1 + by_, e.2)) }
def DieClock.shift (c : DieClock) (by_ : Nat) : DieClock :=
  { c with slewAt := c.slewAt + by_, worstAt := c.worstAt + by_, rateFrom := c.rateFrom + by_ }

/-- Instants that intervals count from move with a step, so that the intervals leave StepBy out (R385). The hour of R393 is judged
on the time counter itself, and does not. -/
def Work.shiftIntervals (w : Work) (by_ : Nat) : Work :=
  let late := fun (h : Held) => { h with at_ := h.at_ + by_ }
  { w with
    sessions := w.sessions.map (fun x => { x with lastAt := x.lastAt + by_ })
    hellos := w.hellos.map late, snapshots := w.snapshots.map late, staging := w.staging.map late
    cxl := { w.cxl with sentAt := w.cxl.sentAt.map (fun e => (e.1, e.2 + by_)) }
    regions := w.regions.map (fun e => (e.1, { e.2 with
      goodSince := e.2.goodSince.map (· + by_), slowSince := e.2.slowSince.map (· + by_), restoredAt := e.2.restoredAt + by_ }))
    throttles := w.throttles.map (fun e => (e.1, { e.2 with hotAt := e.2.hotAt.map (· + by_), liftedAt := e.2.liftedAt + by_ }))
    sensors := w.sensors.map (fun e => (e.1, e.2.shift by_))
    stackSensors := w.stackSensors.map (fun e => (e.1, e.2.shift by_))
    dies := w.dies.map (fun e => (e.1, { e.2 with clock := e.2.clock.shift by_ }))
    root := { w.root with lastEdge := w.root.lastEdge + by_ }
    domains := w.domains.map (fun e => (e.1, { e.2 with
      rampAt := e.2.rampAt + by_, pgAt := if e.2.pgAt = 0 then 0 else e.2.pgAt + by_, mayEnableAt := e.2.mayEnableAt + by_
      stepAt := e.2.stepAt + by_, rails := e.2.rails.map (fun r => (r.1, { r.2 with lastAt := r.2.lastAt + by_ })) }))
    ports := w.ports.map (fun e => (e.1, { e.2 with
      retryAt := e.2.retryAt + by_, upAt := e.2.upAt + by_, testUntil := e.2.testUntil + by_, lastStampAt := e.2.lastStampAt + by_ }))
    links := w.links.map (fun e => (e.1, { e.2 with secondAt := e.2.secondAt + by_ }))
    egress := w.egress.map (fun e => { e with usedAt := e.usedAt + by_ })
    log := { w.log with lastBad := w.log.lastBad + by_ }
    arrays := w.arrays.map (fun e => (e.1, { e.2 with
      idleAt := e.2.idleAt + by_, issuedAt := e.2.issuedAt + by_, slewAt := e.2.slewAt.map (· + by_) }))
    hinge := { w.hinge with lastBeat := w.hinge.lastBeat + by_, beatAt := if w.hinge.beatAt = 0 then 0 else w.hinge.beatAt + by_, copyAt := w.hinge.copyAt + by_ }
    cooling := { w.cooling with
      calmSince := w.cooling.calmSince + by_, goodSince := w.cooling.goodSince.map (· + by_), raisedAt := w.cooling.raisedAt + by_
      liftedAt := w.cooling.liftedAt + by_ }
    boot := { w.boot with zeroAt := w.boot.zeroAt + by_, beatAt := w.boot.beatAt + by_, attestUntil := w.boot.attestUntil + by_, writing := w.boot.writing.map (fun e => (e.1, e.2 + by_)) } }

/-- TIME_STEP: the counters reach StepAt and step forward by StepBy; a die that the wave has not told of it does not step.
No step is taken while a job runs (R381, R385). -/
def timeStep (w : Work) : Work :=
  let at_ := w.root.stepAt
  let by_ := w.root.stepBy
  if at_ = 0 ∨ w.jobRuns then w
  else
    let w := (w.dies.filter (fun e => e.2.clock.stepAt == at_)).foldl (fun w e => w.reachOn e.1 at_) (w.reach at_)
    let w : Work := { w with
      clock := w.clock + by_ * 2 ^ 32
      root := { w.root with stepAt := 0, stepBy := 0 }
      dies := w.dies.map (fun e => (e.1, { e.2 with clock :=
        if e.2.clock.stepAt = at_ then { e.2.clock with stepAt := 0, stepBy := 0 }
        else { e.2.clock with offset := e.2.clock.offset - Int.ofNat by_ * 256 } })) }
    let w := w.shiftIntervals by_
    if w.reg 0x9000 9 % 256 = 0xFF then w.setReg 0x9000 9 0 else w

/-- TIME_STEP (R385). -/
def execTimeStep (s : State) : Host.Outcome State Fault Refusal := run timeStep s

/-- SET_SECONDS: the counter's whole seconds after the next step. Refused while a job runs, while another runs, and where
the counter would not move forward (R352, R385; assumption 39). -/
def setSeconds (seconds : Nat) (w : Work) : Work :=
  if w.reg 0x9000 9 % 256 = 0xFF then w.refuse 0x76
  else if w.jobRuns then w.refuseJob
  else if seconds ≤ w.now / 1000000000 then (w.setReg 0x9000 9 0x73).refuse 0x73
  else ((w.announceStep ((seconds - w.now / 1000000000) * 1000000000)).setReg 0x9000 9 0xFF).accept

/-- SET_SECONDS (R385). -/
def execSetSeconds (seconds : Nat) (s : State) : Host.Outcome State Fault Refusal := run (setSeconds seconds) s

/-! ### PPS (R384) -/

/-- The greatest rate of the steering: 200 ppm, or 150 ppm beyond the correction in force in state 3 (R384). -/
def rateLimit (ppm : Nat) : Nat := ppm * 2 ^ 32 / 1000000

/-- The root steers its rate: to a value within 200 ppm that the spec does not give, a free value. It applies one full wave
period after the next wave (R381, R384). -/
def Work.steer (w : Work) (mid : Int) (ppm : Nat) : Work :=
  let (v, w) := w.draw
  let m := rateLimit ppm
  let period := w.reg 0x9000 0x0A * 1000
  { w with root := { w.root with rateNew := mid + (Int.ofNat (v % (2 * m + 1)) - Int.ofNat m), rateAt := (w.now / period + 2) * period } }

/-- The PPS state (0x9000.04). -/
def Work.ppsTo (w : Work) (st : Nat) : Work := { w with root := { w.root with pps := st, goodEdges := 0, badEdges := 0 } }

/-- An edge that begins an acquisition: with more than 1 µs to go, a step forward, or a wait for the job's end (R384,
R385). -/
def Work.acquire (w : Work) (e : Int) : Work :=
  if e.natAbs ≤ 1000 then
    let w := w.ppsTo 1
    ({ w with root := { w.root with goodEdges := ofBool (decide (e.natAbs ≤ 20)) } } : Work).steer 0 200
  else
    let by_ : Nat := ((1000000000 - e) % 1000000000).toNat
    if w.jobRuns then
      let w := w.ppsTo 3
      ({ w with root := { w.root with stepWaits := by_, refRate := w.root.rate } } : Work).steer w.root.rate 150
    else ((w.ppsTo 1).announceStep by_).steer 0 200

/-- PPS_EDGE: an edge at the present instant moves the state of R384 (assumption 40). -/
def ppsEdge (w : Work) : Work :=
  if w.reg 0x9000 7 = 0 ∨ !w.root.running ∨ w.boot.done < 2 then w
  else
    let m := w.now % 1000000000
    let e : Int := if m ≤ 500000000 then Int.ofNat m else Int.ofNat m - 1000000000
    let w : Work := { w with root := { w.root with lastEdge := w.now } }
    let w := w.setReg 0x9000 5 (unsigned 32 e)
    let st := w.root.pps
    if st = 0 ∨ st = 4 then w.acquire e
    else if st = 3 then
      if e.natAbs ≤ 1000 then ({ w with root := { w.root with stepWaits := 0 } } : Work).acquire e
      else if w.jobRuns then w.steer w.root.refRate 150
      else w.acquire e
    else if 1000 < e.natAbs then
      if 2 ≤ w.root.badEdges then (if st = 2 then w.event 2 0 0 0 (unsigned 64 e) else w).acquire e
      else { w with root := { w.root with badEdges := w.root.badEdges + 1, goodEdges := 0 } }
    else
      let good := if e.natAbs ≤ 20 then w.root.goodEdges + 1 else 0
      let w : Work := { w with root := { w.root with badEdges := 0, goodEdges := good } }
      let w := if st = 2 ∧ 100 < e.natAbs then (w.ppsTo 1).event 2 0 0 0 (unsigned 64 e)
        else if st = 1 ∧ 3 ≤ good then w.ppsTo 2 else w
      w.steer 0 200

/-- PPS_EDGE (R384). -/
def execPpsEdge (s : State) : Host.Outcome State Fault Refusal := run ppsEdge s

/-- PPS_HOLDOVER: 1.5 s have passed without an edge in state 1, 2 or 3: the last rate is kept (R384). -/
def ppsHoldover (w : Work) : Work :=
  if 1 ≤ w.root.pps ∧ w.root.pps ≤ 3 then ((w.reach (w.root.lastEdge + 1500000000)).ppsTo 4).event 2 0 0 0 0 else w

/-- PPS_HOLDOVER (R384). -/
def execPpsHoldover (s : State) : Host.Outcome State Fault Refusal := run ppsHoldover s

/-- PpsEnable written 0: state 0, with rate 0 (R384). -/
def Work.ppsOff (w : Work) : Work :=
  let w := (w.ppsTo 0).settleAll
  { w with root := { w.root with rate := 0, rateNew := 0, rateAt := 0, stepWaits := 0 } }

/-! ### The clock root (R377) -/

/-- The clock root is lost: every die is in holdover, all links fail, a FATAL event with its alert (R377, R448). -/
def Work.loseRoot (w : Work) : Work :=
  if w.root.lost ∨ !w.root.running then w
  else
    let w : Work := { w with
      root := { w.root with lost := true }
      dies := w.dies.map (fun e => (e.1, { e.2 with clock := { e.2.clock with holdover := true } }))
      links := w.links.map (fun e => (e.1, { e.2 with failed := true, sent := [] })) }
    (w.alert 4).event 0 0 0 0 w.root.who

end Sys2Proof.Machine
end

