-- ==== Sys2Proof/Machine/Ready.lean ====
section
/-! DEFINITION. What the panel reports of itself: numbers of its F32 objects, the codes of domains, the sensors' groups and
hottest readings, the ready map, the margins, and the registers that the first-failure record keeps (R399 to R401, R422,
R423, R447). -/

namespace Sys2Proof.Machine

/-! ### Numbers of the spec's F32 objects -/

/-- An F32 object's value times `k`, rounded down; 0 where it is no number. -/
def f32Times (x k : Nat) : Int :=
  match dec32 x with
  | .fin neg m e =>
    let v : Int := if 0 ≤ e then Int.ofNat (m * k * 2 ^ e.toNat) else Int.ofNat (m * k) / Int.ofNat (2 ^ (-e).toNat)
    if neg then -v else v
  | _ => 0

/-- The F32 nearest to n / d (R351). -/
def f32Of (n : Int) (d : Nat) : Nat :=
  let q := n.natAbs * 2 ^ 64 / d
  let sticky := ofBool (n.natAbs * 2 ^ 64 % d != 0)
  if n = 0 then 0 else (finish fp32 .rne (decide (n < 0)) (2 * q + sticky) (-65)).1

/-! ### Domains -/

/-- Kind of a domain: 0 compute, 1 memory, 2 port edge, 3 host die, 4 always-on (0x6000+d.01). -/
def domainKind (d : Nat) : Nat := if d < 16 then 0 else if d < 32 then 1 else if d < 36 then 2 else if d = 36 then 3 else 4

/-- Code of a domain's state (0x6000+d.02). The always-on domain is on. -/
def DomSt.code : DomSt → Nat
  | .off => 0
  | .ramping => 1
  | .on => 2
  | .switchingOff => 3
  | .offHeat => 4
  | .supplyFault => 5
  | .trip => 6

/-- Measured power of a domain over 10 ms and over 1 s, mW. -/
def Domain.power10 (x : Domain) : Nat := x.powers.headD 0
def Domain.power1s (x : Domain) : Nat := if x.powers.isEmpty then 0 else x.powers.foldl (· + ·) 0 / x.powers.length

/-- State of a domain as its object reads (0x6000+d.02): the always-on domain is on while the panel has any power. -/
def Work.domCode (w : Work) (d : Nat) : Nat := if d = 37 then 2 else (w.domain d).st.code

/-! ### Sensors (R399 to R401) -/

/-- The sensor with this number, on-die or lid, or of a stack die. -/
def Work.sensor (w : Work) (stack : Bool) (n : Nat) : Sensor := if stack then tget {} w.stackSensors n else tget {} w.sensors n

/-- A sensor changed. -/
def Work.modSensor (w : Work) (stack : Bool) (n : Nat) (f : Sensor → Sensor) : Work :=
  if stack then { w with stackSensors := tmod {} w.stackSensors n f } else { w with sensors := tmod {} w.sensors n f }

/-- The sensors of a sensor's hot-spot group, the first of which stands for the group (R399). -/
def groupOfSensor (stack : Bool) (n : Nat) : List Nat :=
  let pair := fun (m : Nat) => [m / 2 * 2, m / 2 * 2 + 1]
  if stack ∨ n < 1664 ∨ 1808 ≤ n then pair n
  else
    let base := 1664 + (n - 1664) / 9 * 9
    let j := (n - 1664) % 9
    if j = 8 ∨ j / 2 = 1 then [base + 2, base + 3, base + 8] else (pair j).map (base + ·)

/-- The first sensor of a group. -/
def leaderOf (stack : Bool) (n : Nat) : Nat := (groupOfSensor stack n).headD n

/-- Readings of a group's sensors that are not suspect, in 1/16 °C, or whole °C for stack dies. -/
def Work.groupReadings (w : Work) (stack : Bool) (n : Nat) : List (Nat × Int) :=
  (groupOfSensor stack n).filterMap (fun m =>
    let x := w.sensor stack m
    if x.suspect then none else x.reading.map (fun r => (m, r)))

/-- The throttle temperature of a group's place, which an empty group reads as (R401, R402): none is given for port dies,
the host die and the lid. -/
def throttleOf (stack : Bool) (n : Nat) : Option Int := if stack then some 90 else if n < 1808 then some (95 * 16) else none

/-- The greatest of a list of readings. -/
def hottest : List (Nat × Int) → Option (Nat × Int)
  | [] => none
  | e :: l => some (l.foldl (fun x y => if x.2 < y.2 then y else x) e)

/-- The reading of a group: its higher reading, or its throttle temperature when no sensor is left (R401; assumption 44). -/
def Work.groupReading (w : Work) (stack : Bool) (n : Nat) : Option Int :=
  if (groupOfSensor stack n).all (fun m => (w.sensor stack m).suspect) then throttleOf stack n
  else (hottest (w.groupReadings stack n)).map (·.2)

/-- The hottest junction, on-die sensors only, and the hottest stack die (0x6400.07, .08). -/
def Work.hottestJunction (w : Work) : Option (Nat × Int) :=
  hottest (w.sensors.filterMap (fun e => if 1808 ≤ e.1 ∧ e.1 < 1812 ∨ e.2.suspect then none else e.2.reading.map (fun r => (e.1, r))))
def Work.hottestStack (w : Work) : Option (Nat × Int) :=
  hottest (w.stackSensors.filterMap (fun e => if e.2.suspect then none else e.2.reading.map (fun r => (e.1, r))))

/-- Bytes of 0x6400.07 and .08; with no reading, the readings "unread" of .02 and .03. -/
def Work.hottestJunctionBytes (w : Work) : List Byte :=
  match w.hottestJunction with
  | some (n, r) => toBytes n 2 ++ toBytes (unsigned 16 r) 2
  | none => toBytes 0 2 ++ toBytes 0x8000 2
def Work.hottestStackBytes (w : Work) : List Byte :=
  match w.hottestStack with
  | some (n, r) => toBytes n 2 ++ toBytes (unsigned 8 r) 1 ++ [0]
  | none => toBytes 0 2 ++ [0xFF, 0]

/-! ### The ready map (R422, R423) -/

/-- A bitmap of the numbers of a list below `n`. -/
def bitmap (n : Nat) (l : List Nat) : Nat := (List.range n).foldl (fun x i => if l.contains i then x + 2 ^ i else x) 0

/-- The order of step 5: the root bay first, then the pairs of bays (R417). -/
def Work.bayOrder (w : Work) : List Nat := (List.range 8).flatMap (fun k => if w.root.who = 1 then [k, 8 + k] else [8 + k, k])

/-- The commands of the sequence, by the number of the step, the lower of the two for a pair of memory domains (R417). -/
def Work.sequence (w : Work) : List Nat :=
  [0x100, 0x200, 0x300] ++ (List.range 8).map (0x400 + ·) ++ w.bayOrder.map (0x500 + ·) ++ (List.range 4).map (0x600 + ·)

/-- Step now running; 0 when the sequence has ended (0x1100.07). -/
def Work.currentStep (w : Work) : Nat := if w.boot.st = 0 then w.sequence.getD w.boot.done 0 else 0

/-- The host die has its fabric attach (R28). -/
def Work.hostAttached (w : Work) : Bool := w.boot.hostReady && w.diePresent 0 && (w.activeSite hostSites).isSome

/-- Hutches that are ready: trained, and reached through a qualified XH link of a bay that is up (R418). -/
def Work.readyHutches (w : Work) : List Nat := w.boot.trained.filter (fun b => w.boot.readyBays.contains b && w.hutchReached b)

/-- Ports that are up (0x1100.05). -/
def Work.upPorts (w : Work) : List Nat := (List.range 16).filter w.portUp

/-- A standby is present: Sideboard B waits, and its way into the mesh is not lost (R28, R410, R414). -/
def Work.standsBy (w : Work) : Bool := w.boot.standby && (!w.siteMap.computed || (w.activeSite boardBSites).isSome)

/-- Every present die, and every leaf that has an attach die, has a running counter (0x1100.09). -/
def Work.timeReady (w : Work) : Bool :=
  w.root.running && !w.root.lost && w.dies.any (fun e => e.2.clock.running) &&
    (List.range w.numDies).all (fun d => !w.diePresent d || (w.die d).clock.running) &&
    (List.range 35).all (fun j => !w.leafUp j || (w.leafDies j).isEmpty || (w.die (leafBase + j)).clock.running)

/-- Scalars of the ready map by subindex, .06 being the bytes of Failed as a number (R422). -/
def Work.readyMap (w : Work) (sub : Nat) : Nat :=
  match sub with
  | 0 => 9
  | 1 => ofBool (w.cxl.st == 2) + 2 * ofBool (w.boot.hostReady && w.cxl.st == 2) + 4 * ofBool w.hostAttached
  | 2 => ofBool (w.boot.lead == 0 && decide (0 < w.boot.done)) + 2 * ofBool (w.boot.lead == 1) + 4 * ofBool w.standsBy
  | 3 => bitmap 16 w.boot.readyBays
  | 4 => bitmap 16 w.readyHutches
  | 5 => bitmap 16 w.upPorts
  | 6 => bitmap 16 w.boot.failedBays + 2 ^ 16 * bitmap 16 w.boot.failedHutches + 2 ^ 32 * bitmap 16 w.boot.failedPorts
  | 7 => w.currentStep
  | 8 => w.boot.st
  | _ => ofBool w.timeReady

/-- Bytes of a subindex of the ready map. -/
def readyWidth (sub : Nat) : Nat := match sub with | 0 => 1 | 1 => 1 | 2 => 1 | 6 => 6 | 8 => 1 | 9 => 1 | _ => 2

/-! ### Margins and the first-failure record -/

/-- Regions of a logical die: its arrays, its die store, its router. -/
def Work.regionsOf (w : Work) (d : Nat) : List Nat :=
  match w.siteOf d with
  | some n => ((List.range 22).map (22 * n + ·)).filter w.regionRuns
  | none => []

/-- Lowest margin code and highest guard code of a die's regions (0x9000.11); both 0 with no region running. -/
def Work.marginBytes (w : Work) (d : Nat) : List Byte :=
  match w.regionsOf d with
  | [] => [0, 0]
  | rs => [BitVec.ofNat 8 (rs.foldl (fun m r => min m (w.region r).margin) 15), BitVec.ofNat 8 (rs.foldl (fun m r => max m (w.guard r)) 0)]

/-- The registers that the first-failure record keeps, as bytes in the order of R447 (assumption 45). -/
def Work.failureRegs (w : Work) : List Byte :=
  (List.range 10).flatMap (fun s => toBytes (w.readyMap s) (readyWidth s)) ++
    (List.range 38).flatMap (fun d => toBytes (w.domCode d) 1 ++ toBytes (f32Of (w.domain d).power1s 1000) 4) ++
    w.hottestJunctionBytes ++ w.hottestStackBytes ++ (List.range w.numDies).flatMap w.marginBytes ++
    (List.range 5).flatMap (fun c => toBytes (tget 0 w.log.drops c) 4)

/-- The registers of a first-failure record that a command has begun are written (R447). -/
def Work.keepRegs (w : Work) : Work :=
  if w.log.firstFailed ∧ w.log.firstRegs = [] then { w with log := { w.log with firstRegs := w.failureRegs } } else w

/-- CLOCK_ROOT_LOSS (R377). -/
def execClockRootLoss (s : State) : Host.Outcome State Fault Refusal := run (fun w => w.loseRoot.keepRegs) s

end Sys2Proof.Machine
end

