-- ==== Sys2Proof/Machine/Power.lean ====
section
/-! DEFINITION. Power domains, regulators, current guards and power caps, and the loss and switching of a domain
(R387 to R398, R409 to R411, R441). -/

namespace Sys2Proof.Machine

/-! ### Domains (R387 to R393) -/

/-- Budget maximum of a domain, W (R397). -/
def Work.budget (w : Work) (d : Nat) : Nat :=
  match domainKind d with
  | 0 => if w.fuses.variant = 1 then 500 else 600
  | 1 => if w.fuses.variant = 2 then 105 else 120
  | 2 => 275
  | 3 => 70
  | _ => 30

/-- Measured power of the panel, mW. -/
def Work.panelPower (w : Work) : Nat := w.domains.foldl (fun n e => n + e.2.power1s) 0

/-- CapW of a domain, mW: what software wrote, or the budget maximum (0x6000+d.06). -/
def Work.capW (w : Work) (d : Nat) : Int :=
  if w.regs.any (fun e => e.1 == key (0x6000 + d) 6) then f32Times (w.reg (0x6000 + d) 6) 1000 else Int.ofNat (w.budget d * 1000)

/-- What the cooling cap leaves to each compute domain that is on, mW (R406). -/
def Work.coolingShare (w : Work) : Int :=
  let others := w.domains.foldl (fun n e => if e.1 < 16 then n else n + e.2.power1s) 0
  let on := (w.domains.filter (fun e => decide (e.1 < 16) && e.2.st == .on)).length
  if on = 0 then Int.ofNat (w.cooling.capW * 1000) else (Int.ofNat (w.cooling.capW * 1000) - Int.ofNat others) / Int.ofNat on

/-- CapInForceW of a domain, mW (R398). -/
def Work.capInForce (w : Work) (d : Nat) : Int :=
  let c := min (w.capW d) (Int.ofNat (w.budget d * 1000))
  if d < 16 then min c w.coolingShare else c

/-- The status of a domain's last command (0x6000+d.11). -/
def Work.tellDomain (w : Work) (d status : Nat) : Work := w.setReg (0x6000 + d) 0x11 status

/-- The clocks of a domain without supply stand: spells that were counted on them begin anew (R367, R369, R371). -/
def Work.stopClocks (w : Work) (d : Nat) : Work :=
  { w with regions := w.regions.map (fun e =>
      if regionDomain e.1 = d then (e.1, { e.2 with goodSince := none, slowSince := none, slowTold := false }) else e) }

/-- PWR_EN pulled low: the minimum off time begins (R389, R391). -/
def Work.pullLow (w : Work) (d : Nat) (st : DomSt) : Work :=
  let now := w.now
  (w.modDomain d (fun x => { x with
    st := st, enabled := false, pg := false, enableWaits := false, mayEnableAt := now + 2000000000, step := 0, bringUp := none
    powers := [], current := 0, gated := false, joining := false, sample := 0 })
    |>.stopClocks d).setReg (0x6000 + d) 0x0E now

/-! ### What a domain's loss takes with it (R185, R441) -/

/-- Logical dies of a bay that the map in force places there. -/
def Work.bayDies (w : Work) (b : Nat) : List Nat :=
  (w.siteMap.logical.filter (fun e => bayOfSite e.2 == b)).map (·.1)

/-- The array whose task has sent a request to a Hutch (assumption 29). -/
def Work.asker (w : Work) (p : Packet) : Nat := arrOf (w.srcDie p) (p.srcSub % 16)

/-- Tasks whose weight streams or updates a Hutch holds abort with 0x24, and the requests go (R186, R405). -/
def Work.abortStreams (w : Work) (b : Nat) : Work :=
  let h := w.hutch b
  let ps := (h.wrun ++ h.wqueue).map (·.req) ++ h.updWait
  if ps.isEmpty then w
  else
    ((ps.filter (fun p => p.srcPanel == w.panelId && (w.arr (w.asker p)).task.isSome)).foldl (fun w p =>
      w.taskFault (w.asker p) { status := 0x24 }) w).modHutch b (fun h => { h with wrun := [], wqueue := [], updWait := [] })

/-- An open transfer is one to Hutch b: a write or a read of its memory, or a contribution to a reduction whose root it is. -/
def Transfer.toHutch (t : Transfer) (d : Desc) (b : Nat) : Bool :=
  let x := if t.red then d.dst else t.address
  t.targets.isEmpty && decide (aSpace x ≤ 1) && aHutch x == b

/-- Tasks with an open transfer to a Hutch that is lost or no longer reached, and those whose weight streams or updates it holds,
abort with 0x24 (R186, R405, R441); a later access meets it at once. -/
def Work.abortHutchUsers (w0 : Work) (b : Nat) : Work :=
  let w := w0.abortStreams b
  (w.arrays.filter (fun e => e.2.task.isSome)).foldl (fun w e =>
    e.2.engines.foldl (fun w en =>
      if en.2.started && en.2.transfers.any (·.toHutch en.2.desc b) then
        w.engineFault e.1 en.1 0x24 en.2.desc.dst
      else w) w) w

/-- Ports of a port-edge domain (R12). -/
def edgePorts (d : Nat) : List Nat := (List.range 4).map (fun i => 4 * (d - 32) + i)

/-- Units of the ready map that fail, or work again, with a domain (0x1100.06). -/
def Boot.failed (x : Boot) (d : Nat) : Boot :=
  let add := fun (l new : List Nat) => l ++ new.filter (fun n => !l.contains n)
  match domainKind d with
  | 0 => { x with failedBays := add x.failedBays [d] }
  | 1 => { x with failedHutches := add x.failedHutches [d - 16] }
  | 2 => { x with failedPorts := add x.failedPorts (edgePorts d) }
  | _ => x
def Boot.works (x : Boot) (d : Nat) : Boot :=
  match domainKind d with
  | 0 => { x with failedBays := x.failedBays.filter (· != d) }
  | 1 => { x with failedHutches := x.failedHutches.filter (· != d - 16) }
  | _ => x

/-- A domain's units have failed or been skipped: their bits change, which raises source 8 (R423). -/
def Work.unitsFailed (w : Work) (d : Nat) : Work := ({ w with boot := w.boot.failed d } : Work).readyChanged

/-- Leaves of the tree that lose their supply (R375). -/
def Work.dropLeaves (w : Work) (js : List Nat) : Work :=
  { w with dies := w.dies.filter (fun e => !(js.map (leafBase + ·)).contains e.1) }

/-- Leaves that have come up take their places in the tree, from their parents (R375, R379). -/
def Work.joinLeaves (w : Work) : Work :=
  let t := w.wholeTree
  let w := (t.filter (fun e => decide (leafBase ≤ e.die) && !(w.die e.die).clock.running)).foldl Work.takePlace w
  if t.any w.misplaced then w else w.showTree t

/-- The contents of a Hutch's scratch and DRAM are lost, and what it was doing ends; a Hutch that stays poison-full until the
panel restarts stays so (R185, R195). -/
def Work.loseHutch (w : Work) (b : Nat) : Work :=
  let w := w.modHutch b (fun h => ({ cacheMiB := h.cacheMiB, ecc := h.ecc, stackStates := h.stackStates, reserves := h.reserves
                                     stuck := h.stuck } : Hutch))
  let w := (w.forget (dramAddr b 0) (2 ^ 38)).forget (scratchAddr b 0) (2 ^ 38)
  ({ w with boot := { w.boot with trained := w.boot.trained.filter (· != b) } } : Work).readyChanged

/-- What the dies of a bay held is lost with their stores (R441). -/
def Work.loseBay (w : Work) (b status : Nat) : Work :=
  let ds := w.bayDies b
  let w := w.loseDies ds status
  let w : Work := { w with links := w.links.map (fun e => (e.1, if bayOfSite (e.1 / 16) == b then e.2.afresh else e.2)) }
  let w := ds.foldl (fun w d =>
    (w.forget (2 * 2 ^ 60 + w.colOf d * 2 ^ 39 + w.rowOf d * 2 ^ 35) (2 ^ 35)).forget (w.padAddr (arrOf d 0) 0) (2 ^ 35)) w
  ({ w with boot := { w.boot with
      readyBays := w.boot.readyBays.filter (· != b), standby := w.boot.standby && b != 7 } } : Work).readyChanged

/-- Ports stop: whatever they were doing, they read down (R410). -/
def Work.portsDown (w : Work) (ks : List Nat) : Work :=
  (ks.filter (fun k => (w.port k).st != .down && (w.port k).st != .fused && (w.port k).st != .defective)).foldl (fun w k => w.portDown k .down) w

/-- The host die without power: its CXL state is gone (R342). -/
def Work.loseHost (w : Work) : Work :=
  ({ w with cxl := { perst := w.cxl.perst }, boot := { w.boot with hostReady := false } } : Work).readyChanged

/-- The job is killed, where one runs (R304). -/
def Work.killJob (w : Work) : Work := if w.job.st = .running ∨ w.job.st = .stopping then w.killSteps else w

/-- A sensor without power is unread; its suspect mark stays (R401). -/
def Sensor.unread (x : Sensor) : Sensor := { suspect := x.suspect, empty := x.empty }

/-- Domain that an on-die sensor's place is fed from; the lid's sensors have none (R399). -/
def sensorDomain (n : Nat) : Nat :=
  if n < 1664 then bayOfSite (n / 4)
  else if n < 1808 then 16 + (n - 1664) / 9
  else if n < 1812 then 37
  else if n < 1844 then 32 + (n - 1812) / 8
  else 36

/-- The sensors of a domain are unread. -/
def Work.blindDomain (w : Work) (d : Nat) : Work :=
  { w with
    sensors := w.sensors.map (fun e => if sensorDomain e.1 = d then (e.1, e.2.unread) else e)
    stackSensors := w.stackSensors.map (fun e => if 16 + e.1 / 64 = d then (e.1, e.2.unread) else e) }

/-- What a domain held is lost as its supply goes. -/
def Work.loseDomain (w0 : Work) (d status : Nat) : Work :=
  let w := w0.blindDomain d
  match domainKind d with
  | 0 => ((w.abortHutchUsers d).loseBay d status).portsDown (cornerPorts d)
  | 1 => ((w.abortHutchUsers (d - 16)).loseHutch (d - 16)).dropLeaves [d - 16]
  | 2 => (w.portsDown (edgePorts d)).dropLeaves ((edgePorts d).map (16 + ·))
  | 3 => w.loseHost.dropLeaves [32]
  | _ => w

/-- Everything that switched domains hold is lost at once. -/
def Work.loseAll (w : Work) : Work :=
  let w := w.portsDown (List.range 16)
  let w : Work := { w with
    arrays := [], dies := [], links := [], net := [], entering := [], arrived := [], fmgr := { steer := w.fmgr.steer, next := w.fmgr.next }
    hutches := w.hutches.map (fun e => (e.1, ({ cacheMiB := e.2.cacheMiB, ecc := e.2.ecc, stackStates := e.2.stackStates, reserves := e.2.reserves, stuck := e.2.stuck } : Hutch)))
    boot := { w.boot with readyBays := [], trained := [], standby := false } }
  let w := (List.range 37).foldl Work.blindDomain w
  (w.forget 0 (4 * 2 ^ 60)).loseHost

/-! ### Bringing a bay back (R411, R424 to R426) -/

/-- Ms from the deassertion of PANEL_RST_N (R420). -/
def Work.bootNow (w : Work) : Nat := w.boot.bootMs + (w.now - w.boot.zeroAt) / 1000000

/-- A unit has a factory record (R426). -/
def Work.factoryBad (w : Work) (kind site sub wire : Nat) : Bool :=
  w.allDefects.any (fun r => r.names kind site sub && r.wire == wire && r.source == 0)

/-- A wire fails: PRBS errors, or an eye below 0.30 UI, in 1/64 UI, or below 40 mV (R425). -/
def wireFails (e : WireTest) : Bool := e.errors != 0 || decide (e.eyeUi * 100 < 30 * 64) || decide (e.eyeMv < 40)

/-- The wires of a link that fail, and what is replaced: a spare that shows errors as it repeats the PRBS is itself replaced by the
next (R425 steps 3 and 4). -/
def badWires (t : LinkTest) : List WireTest := t.wires.filter wireFails
def wireTakes (e : WireTest) : Nat := 1 + (e.again.takeWhile (· != 0)).length

/-- Stitch spares and link spares that the failing wires of a link take: a stitch spare only where the fault lies in the
stitch segment (R32). -/
def linkSpares (t : LinkTest) : Nat × Nat :=
  let s := if stitched (t.link / 8) (t.link % 8) then min 16 (((badWires t).filter WireTest.stitch).map wireTakes).sum else 0
  (s, ((badWires t).map wireTakes).sum - s)

/-- The link qualifies: its failing wires are covered (R32, R425). -/
def linkPasses (t : LinkTest) : Bool := decide ((linkSpares t).2 ≤ 32)

/-- PRBS errors of a link before repair, those counted in the stitch segment, and its worst eye (R427). -/
def linkFound (t : LinkTest) (ms : Nat) : LinkResult :=
  { spares := min (linkSpares t).2 32, stitch := (linkSpares t).1, errors := (t.wires.map WireTest.errors).sum
    stitchErrors := if stitched (t.link / 8) (t.link % 8) then ((t.wires.filter WireTest.stitch).map WireTest.errors).sum else 0
    eyeUi := t.wires.foldl (fun x e => min x e.eyeUi) t.eyeUi, eyeMv := t.wires.foldl (fun x e => min x e.eyeMv) t.eyeMv
    temp := t.temp % 256, ms := ms }

/-- Pattern class of a failing wire: PRBS errors, or an eye alone (R465). -/
def wirePattern (e : WireTest) : Nat := if e.errors = 0 then 2 else 1

/-- One link's qualification: its results, a record for every replaced wire, and one of the link where the spares do not
reach (R425, R427, R465). Links have no clock region, so no temperature and no supply is kept (R465). The record of a failed link
whose wires failed in both ways has pattern 1 (DESIGN CHOICE, assumption 114). -/
def Work.qualify (w : Work) (ms : Nat) (t : LinkTest) : Work :=
  let base : Defect := { kind := 3, source := 1, site := t.link / 8, sub := t.link % 8, time := w.now }
  let w : Work := { w with linkResults := tput w.linkResults t.link (linkFound t ms) }
  if linkPasses t then
    ((badWires t).filter (fun e => !w.factoryBad 3 base.site base.sub (e.wire % 1064))).foldl (fun w e =>
      w.addDefect { base with wire := e.wire % 1064, pattern := wirePattern e }) w
  else w.recordDefect { base with kind := 2, pattern := if (badWires t).all (fun e => wirePattern e == 2) then 2 else 1 }

/-- The results of a bay's die self-test and link qualification go into the defect map, but for units with a factory record, which
are not retested; a link between bays is qualified when the second of them comes up (R418, R424 to R426, R465). -/
def Work.bayResults (w : Work) (b : Nat) (t : BayTest) : Work :=
  let now := w.now
  let ms := w.bootNow + t.ms
  let up := fun (n : Nat) => bayOfSite n == b || w.boot.readyBays.contains (bayOfSite n)
  let mine := fun (l : Nat) => decide (l / 8 < 416) && linkExists (l / 8) (l % 8) && up (l / 8) &&
    match linkEnd (l / 8) (l % 8) with
    | some m => (bayOfSite (l / 8) == b || bayOfSite m == b) && up m
    | none => bayOfSite (l / 8) == b
  let w : Work := { w with boot := { w.boot with qualified := tput w.boot.qualified b ms } }
  let found : Finding → Defect := fun f => { kind := 0, source := 2, site := f.unit, sub := 0, temp := f.temp % 256, supply := f.supply % 4096, time := now }
  let w := (t.badSites.filter (fun f => decide (f.unit < 416) && bayOfSite f.unit == b && !w.factoryBad 0 f.unit 0 0)).foldl (fun w f =>
    w.recordDefect { found f with pattern := 4 }) w
  let w := (t.badArrays.filter (fun f => decide (f.unit < 8320) && bayOfSite (f.unit / 20) == b && !w.factoryBad 1 (f.unit / 20) (f.unit % 20) 0)).foldl
    (fun w f => w.recordDefect { found f with kind := 1, site := f.unit / 20, sub := f.unit % 20, pattern := f.pattern % 16 }) w
  (t.links.filter (fun e => mine e.link && !w.factoryBad 2 (e.link / 8) (e.link % 8) 0)).foldl (fun w e => w.qualify ms e) w

/-- A bay enabled while the panel runs: tested, in at most 10 s; where it passes, tables with its dies present are begun, and the bay
joins once they are in force and its dies are in the tree (R386, R411, R417). -/
def Work.bayReturns (w0 : Work) (b : Nat) (t : BayTest) : Work :=
  let w := w0.reach (w0.now + min t.ms 10000 * 1000000)
  if t.timedOut ∨ 10000 < t.ms then (w.pullLow b .off).unitsFailed b
  else ((w.bayResults b t).modDomain b (fun x => { x with joining := true })).startTables

/-! ### Enable and Disable (R389 to R393, R410, R411) -/

/-- A path over present links to the clock root: a die of the bay next to a die of the tree (R392). -/
def Work.hasPath (w : Work) (b : Nat) : Bool :=
  b == w.rootBay || (w.bayDies b).any (fun d => parentOrder.any (fun dir =>
    (w.meshLink d dir).any (fun l => w.linkOwn l == 0) && (w.die (w.beyond d dir)).clock.running))

/-- PWR_EN released (R389). A compute domain waits 50 ms after the PG of the one before (R392). -/
def Work.releaseEn (w : Work) (d : Nat) : Work :=
  let last := if d < 16 then (w.domains.filter (fun e => decide (e.1 < 16) && e.2.pgAt != 0)).foldl (fun t e => max t (e.2.pgAt + 50000000)) 0 else 0
  let w := w.reach last
  let now := w.now
  w.modDomain d (fun x => { x with st := .ramping, enabled := true, pg := false, rampAt := now, enableWaits := false })

/-- Another compute domain ramps (R392). -/
def Work.rampsNow (w : Work) : Bool := w.domains.any (fun e => decide (e.1 < 16) && e.2.st == .ramping)

/-- Enables after supply faults within 3,600 s (R393). -/
def Work.recentEnables (w : Work) (d : Nat) : List Nat := (w.domain d).faultEnables.filter (fun t => decide (w.now < t + 3600000000000))

/-- DOMAIN_ENABLE: PWR_EN is released where R391 to R393 allow; what the bay's tests will find comes with it (R411). -/
def domainEnable (d : Nat) (t : BayTest) (w : Work) : Work :=
  let x := w.domain d
  if d = 37 then (w.tellDomain d 0x94).accept
  else if 37 < d then w.refuse 0x70
  else if x.st = .switchingOff ∨ x.st = .ramping ∨ x.enableWaits then w.refuse 0x76
  else if x.st = .on then (w.tellDomain d 0).accept
  else if x.st = .trip ∨ w.thermTrip ∨ !(w.domain 37).pg ∨ (d < 16 ∧ !w.hasPath d) then (w.tellDomain d 0x94).accept
  else if w.now < x.mayEnableAt then (w.tellDomain d 0x90).accept
  else if x.faulted ∧ 3 ≤ (w.recentEnables d).length then (w.tellDomain d 0x91).accept
  else
    let now := w.now
    let w := w.modDomain d (fun x => { x with
      bringUp := some t, faultEnables := if x.faulted then x.faultEnables ++ [now] else x.faultEnables })
    let w := if d < 16 ∧ w.rampsNow then w.modDomain d (fun x => { x with enableWaits := true }) else w.releaseEn d
    (w.tellDomain d 0xFF).accept

/-- DOMAIN_ENABLE (R411). -/
def execDomainEnable (dom : Nat) (test : BayTest) (s : State) : Host.Outcome State Fault Refusal := run (domainEnable dom test) s

/-- Nominal voltage of each rail of a domain with its operating range, mV, in the order of R387 (R454); VDD_CORE's range
is that of its setpoint. -/
def railRatings (d : Nat) : List (Nat × Nat × Nat) :=
  match domainKind d with
  | 0 => [(700, 0, 0), (750, 730, 770)]
  | 1 => [(750, 730, 770), (1800, 1700, 1950), (1050, 1010, 1120), (900, 870, 970), (500, 470, 570)]
  | 2 => [(750, 730, 770), (900, 882, 918), (1200, 1140, 1260)]
  | 3 => [(750, 730, 770), (900, 882, 918)]
  | _ => [(800, 760, 840), (3300, 3135, 3465)]

/-- The rails as their regulators stand once PG has asserted (R394). -/
def startRails (d : Nat) (now : Nat) : List (Nat × Rail) :=
  (railRatings d).zipIdx.map (fun e => (e.2, { setMv := e.1.1, mV := e.1.1, lastAt := now }))

/-- A domain is on: PG has asserted (R390, R394). -/
def Work.domainOn (w : Work) (d : Nat) : Work :=
  let now := w.now
  w.modDomain d (fun x => { x with st := .on, enabled := true, pg := true, pgAt := now, faulted := false, bringUp := none, rails := startRails d now })

/-- The next Enable that waits for its turn to ramp (R392). -/
def Work.nextEnable (w : Work) : Work :=
  match (List.range 16).find? (fun d => (w.domain d).enableWaits) with
  | some d => w.releaseEn d
  | none => w

/-- PG_ASSERT: a ramping domain is on; a bay is tested and joins, a Hutch trains its stacks, ports train (R390, R411). -/
def pgAssert (d : Nat) (w : Work) : Work :=
  let x := w.domain d
  if x.st ≠ .ramping then w
  else
    let w := (w.domainOn d).tellDomain d 0
    match domainKind d with
    | 0 => (w.bayReturns d (x.bringUp.getD ⟨true, false, [], [], [], 0⟩)).nextEnable
    | 1 =>
      let boot := w.boot.works d
      ({ w with boot := { boot with trained := boot.trained.filter (· != d - 16) ++ [d - 16] } } : Work).joinLeaves.readyChanged
    | 2 => ((edgePorts d).foldl (fun w k => if w.portSt k = .down then w.modPort k (fun p => { p with st := .training }) else w) w).joinLeaves
    | _ => ({ w with boot := { w.boot with hostReady := true } } : Work).joinLeaves.readyChanged

/-- PG_ASSERT (R390). -/
def execPgAssert (dom : Nat) (s : State) : Host.Outcome State Fault Refusal := run (pgAssert dom) s

/-- A domain enters supply fault: alert first, PWR_EN low, ERROR 0x93, its units failed (R390, R423, R441, R448). -/
def Work.supplyFault (w : Work) (d detail : Nat) : Work :=
  let w := ((w.alert 8).pullLow d .supplyFault).modDomain d (fun x => { x with faulted := true })
  ((w.event 1 0x93 6 d detail).tellDomain d 0x93).unitsFailed d

/-- PG_TIMEOUT: 25 ms have passed since the release without PG (R390). -/
def pgTimeout (d : Nat) (w : Work) : Work :=
  if (w.domain d).st = .ramping then ((w.reach ((w.domain d).rampAt + 25000000)).supplyFault d 0).nextEnable else w

/-- PG_TIMEOUT (R390). -/
def execPgTimeout (dom : Nat) (s : State) : Host.Outcome State Fault Refusal := run (pgTimeout dom) s

/-- Mirror regions whose Src lies in a bay's Hutch, as a bitmap of the first 64 (R441 step 4). -/
def Work.regionsIn (w : Work) (b : Nat) : Nat :=
  ((w.mirrorRegions.zipIdx.filter (fun e => decide (e.2 < 64) && decide (aSpace e.1.1 ≤ 1) && aHutch e.1.1 == b)).map (fun e => 2 ^ e.2)).foldl (· + ·) 0

/-- PG_FALL: a domain with a PWR_EN that is on loses its supply (R389, R390, R441); that of PG[37] is a reset (R412). The root bay takes the clock root with it, bay W0 the host
die's way into the mesh and the job. -/
def pgFall (d : Nat) (w : Work) : Work :=
  let x := w.domain d
  if 36 < d ∨ !x.pg ∨ !x.enabled then w
  else Work.keepRegs <|
    let w := w.setReg (0x6000 + d) 0x0F w.now
    let regions := if d < 32 then w.regionsIn (d % 16) else 0
    let w := if d = 0 then w.killJob else w
    let lost := (w.loseDomain d 0x54).supplyFault d regions
    match domainKind d with
    | 0 =>
      let w := lost.startTables
      let w := if d = w.rootBay then w.loseRoot else w
      w.nextEnable
    | 3 => if lost.root.who = 1 then lost.loseRoot else lost
    | _ => lost

/-- PG_FALL (R441). -/
def execPgFall (dom : Nat) (s : State) : Host.Outcome State Fault Refusal := run (pgFall dom) s

/-! ### Switching a bay off (R409, R410) -/

/-- Step 1 at one die: it stops taking slots and stealing; stealable entries go by TPUSH, one each, to the first victim outside the
bay; the others, and descriptors taken and not acted on, end with 0x92. -/
def Work.emptyQueue (w : Work) (d : Nat) : Work :=
  let tu := (w.die d).tu
  let w := w.modTu d (fun u => { u with queue := [], taken := [], quiet := true, steal := .idle })
  let w := tu.taken.foldl (fun w e => w.notRun d e 0x92) w
  tu.queue.foldl (fun w i => w.sendAway d i) w

/-- A compute domain begins to switch off, and tables without its dies are written; W0's takes the job with it (R409 steps 1 to 3,
R410). -/
def Work.beginOff (w : Work) (b : Nat) (forHeat : Bool) : Work :=
  let w := if b = 0 then w.killJob else w
  let now := w.now
  let ds := w.bayDies b
  let w := ds.foldl (fun w d => w.emptyQueue d) w
  ((w.modDomain b (fun x => { x with st := .switchingOff, step := 2, forHeat := forHeat, stepAt := now })).startTables).tellDomain b 0xFF

/-- No task holds an array of a bay. -/
def Work.bayIdle (w : Work) (b : Nat) : Bool :=
  let ds := w.bayDies b
  w.arrays.all (fun e => !ds.contains (e.1 / 16) || e.2.task.isNone)

/-- The next step of a switch-off begins (R409). -/
def Work.offStep (w : Work) (b n : Nat) : Work := w.modDomain b (fun x => { x with step := n })

/-- A switch-off goes on as far as it can: tasks, tables, tree, links, supply (R409 steps 2 to 6); `fuel` bounds the
steps. -/
def Work.goOff (b : Nat) : Nat → Work → Work
  | 0, w => w
  | fuel + 1, w =>
    let x := w.domain b
    if x.st ≠ .switchingOff then w
    else if x.step = 2 then if w.bayIdle b then Work.goOff b fuel (w.offStep b 3).allAcked else w
    else if x.step = 3 then if w.fmgr.st = 0 then Work.goOff b fuel (w.offStep b 4) else w
    else if x.step = 4 then if w.wholeTree.any w.misplaced then w else Work.goOff b fuel (w.offStep b 5)
    else
      ((w.loseDomain b 0x92).pullLow b (if x.forHeat then .offHeat else .off)).tellDomain b 0

/-- BAY_SWITCH_OFF: firmware switches a bay off for heat, or a switch-off that runs goes on (R409). The root bay is never
switched off (R410). -/
def baySwitchOff (b : Nat) (w : Work) : Work :=
  let x := w.domain b
  if 16 ≤ b ∨ b = w.rootBay then w
  else if x.st = .on then Work.goOff b 5 (w.beginOff b true)
  else Work.goOff b 5 w

/-- BAY_SWITCH_OFF (R409). -/
def execBaySwitchOff (b : Nat) (s : State) : Host.Outcome State Fault Refusal := run (baySwitchOff b) s

/-- DRAIN_GRACE_EXPIRY: DrainGraceMs have passed, and the bay's tasks abort with 0x92 as in a forced load (R142, R409
step 2). -/
def drainGrace (b : Nat) (w : Work) : Work :=
  let x := w.domain b
  if x.st ≠ .switchingOff ∨ x.step ≠ 2 then w
  else
    let w := w.reach (x.stepAt + w.reg 0x6500 0x0A * 1000000)
    let ds := w.bayDies b
    (w.arrays.filter (fun e => ds.contains (e.1 / 16))).foldl (fun w e => w.stopArray e.1 0x92 0x92) w

/-- DRAIN_GRACE_EXPIRY (R409). -/
def execDrainGraceExpiry (b : Nat) (s : State) : Host.Outcome State Fault Refusal := run (drainGrace b) s

/-- DOMAIN_DISABLE (R393, R409, R410). -/
def domainDisable (d : Nat) (w : Work) : Work :=
  let x := w.domain d
  if d = 37 then (w.tellDomain d 0x94).accept
  else if 37 < d then w.refuse 0x70
  else if x.st = .switchingOff then w.refuse 0x76
  else if d = 36 ∧ w.jobRuns then w.refuseJob
  else if d < 16 ∧ d = w.rootBay ∧ x.st = .on then (w.tellDomain d 0x94).accept
  else if x.st = .on then
    if d < 16 then (Work.goOff d 5 (w.beginOff d false)).accept
    else
      let w := ((w.loseDomain d 0x24).pullLow d .off).tellDomain d 0
      (if d = 36 ∧ w.root.who = 1 then w.loseRoot.keepRegs else w).accept
  else if x.st = .ramping ∨ x.enableWaits then ((w.pullLow d .off).tellDomain d 0).nextEnable.accept
  else (w.tellDomain d 0).accept

/-- DOMAIN_DISABLE (R409). -/
def execDomainDisable (dom : Nat) (s : State) : Host.Outcome State Fault Refusal := run (domainDisable dom) s

/-! ### PMBus (R394, R454) -/

/-- The domains that a PMBus segment serves. -/
def segmentOf (d : Nat) : Nat := if (8 ≤ d ∧ d < 16) ∨ (24 ≤ d ∧ d < 32) ∨ d = 33 ∨ d = 35 then 1 else 0

/-- A rail's reading lies outside its operating range (R454). -/
def outOfRange (d i mV setMv : Nat) : Bool :=
  match (railRatings d)[i]? with
  | some (_, lo, hi) => if d < 16 ∧ i = 0 then decide (mV + 15 < setMv) || decide (setMv + 15 < mV) else decide (mV < lo) || decide (hi < mV)
  | none => false

/-- One answer, or its want: a value out of range warns, and so does a regulator silent for 1 s. -/
def Work.railAnswer (w : Work) (r : RailReading) : Work :=
  let x := w.domain r.dom
  let old : Rail := tget {} x.rails r.rail
  let now := w.now
  let put := fun (w : Work) (v : Rail) => w.modDomain r.dom (fun x => { x with rails := tput x.rails r.rail v })
  if (railRatings r.dom).length ≤ r.rail ∨ 37 < r.dom then w
  else if r.answered then
    let w := put w { old with mV := r.mV, mA := r.mA, temp := r.temp, status := r.status, lastAt := now, silent := false }
    if x.pg ∧ outOfRange r.dom r.rail r.mV old.setMv then w.event 2 0 6 r.dom (r.rail + 256 * r.mV) else w
  else if !old.silent ∧ old.lastAt + 1000000000 ≤ now then
    (put w { old with silent := true }).event 2 0 6 r.dom r.rail
  else w

/-- Power of a domain by its regulators, mW; with a silent one by the current estimate, or the budget maximum (R394). -/
def Work.railPower (w : Work) (d : Nat) : Nat :=
  let x := w.domain d
  if x.rails.any (fun e => e.2.silent) then
    if d < 16 then x.current * (tget {} x.rails 0).setMv / 1000 else w.budget d * 1000
  else x.rails.foldl (fun n e => n + e.2.mV * e.2.mA / 1000) 0

/-- VDD_CORE's setpoint moves toward VcoreMv by 10 mV a ms, ten steps between two polls (R394). -/
def Work.moveCore (w : Work) (d : Nat) : Work :=
  let want := w.reg (0x6000 + d) 0x0C
  w.modDomain d (fun x => { x with rails := tmod {} x.rails 0 (fun (r : Rail) =>
    { r with setMv := if r.setMv < want then min want (r.setMv + 100) else max want (r.setMv - 100) }) })

/-- PMBUS_POLL: every rail's readings, 10 ms after the last (R394). -/
def pmbusPoll (rs : List RailReading) (w : Work) : Work :=
  let w := rs.foldl Work.railAnswer w
  (List.range 38).foldl (fun w d =>
    if (w.domain d).pg then
      let w := if d < 16 then w.moveCore d else w
      let p := w.railPower d
      w.modDomain d (fun x => { x with powers := (p :: x.powers).take 100 })
    else w) w

/-- PMBUS_POLL (R394). -/
def execPmbusPoll (readings : List RailReading) (s : State) : Host.Outcome State Fault Refusal := run (pmbusPoll readings) s

/-- PMBUS_ALERT: STATUS_WORD is read from the regulators of a segment, and the faults are cleared there (R394). -/
def pmbusAlert (segment : Nat) (rs : List RailReading) (w : Work) : Work :=
  (rs.filter (fun r => r.answered && segmentOf r.dom == segment && decide (r.rail < (railRatings r.dom).length))).foldl (fun w r =>
    w.modDomain r.dom (fun x => { x with rails := tmod {} x.rails r.rail (fun (v : Rail) => { v with status := r.status }) })) w

/-- PMBUS_ALERT (R394). -/
def execPmbusAlert (segment : Nat) (readings : List RailReading) (s : State) : Host.Outcome State Fault Refusal :=
  run (pmbusAlert segment readings) s

/-! ### Guards and caps (R395 to R398) -/

/-- The hardware cap of a domain's guard, mA (R395); no guard elsewhere. -/
def guardCap (d : Nat) : Nat := if d < 16 then 800000 else if d < 32 then 80000 else 0

/-- The cap in force of a domain's guard, mA: a CapW that software has written may lower it, and never raises it; to what, the spec
does not say (R395; assumption 43). -/
def Work.guardNow (w : Work) (d : Nat) : Nat :=
  if guardCap d ≠ 0 ∧ thas w.regs (key (0x6000 + d) 6) then min (guardCap d) (Config.loweredCap d (w.reg (0x6000 + d) 6)) else guardCap d

/-- Slew limit of a domain's guard, A/µs (R395). -/
def guardSlew (d : Nat) : Nat := if d < 16 then 64 else if d < 32 then 16 else 0

/-- Array cycles of a bay that the guard gates in 100 ns: one cycle in two of each array region (R396). -/
def Work.gatedCycles (w : Work) (b : Nat) : Nat :=
  ((w.siteMap.logicalArray.filter (fun e => bayOfSite (e.1 / 20) == b)).map (fun e => (w.region (arrayRegion (e.1 / 20) (e.1 % 20))).mhz / 20)).foldl (· + ·) 0

/-- CURRENT_GUARD_SAMPLE: the sum of a bay's estimates, every 100 ns (R396). -/
def guardSample (d milliamps : Nat) (w : Work) : Work :=
  if guardCap d = 0 ∨ !(w.domain d).pg then w
  else
    let exceeds := decide (w.guardNow d < milliamps)
    let n := w.free + 1
    let w : Work := { w with free := n }
    let w := w.modDomain d (fun x => { x with current := milliamps, gated := exceeds, sample := n })
    if exceeds ∧ d < 16 then w.addReg (0x6000 + d) 0x10 (w.gatedCycles d) else w

/-- CURRENT_GUARD_SAMPLE (R396). -/
def execCurrentGuardSample (dom milliamps : Nat) (s : State) : Host.Outcome State Fault Refusal := run (guardSample dom milliamps) s

/-- POWER_CAP_LOOP: every 1 ms each bay's region cap moves by 25 MHz against its cap in force, and each Hutch limits its
DRAM command rate (R398). -/
def powerCapLoop (w : Work) : Work :=
  (List.range 32).foldl (fun w d =>
    let x := w.domain d
    if x.st ≠ .on then w
    else
      let cap := w.capInForce d
      let p := Int.ofNat x.power10
      if d < 16 then
        if cap < p then w.modDomain d (fun x => { x with capMHz := max 500 (x.capMHz - 25) })
        else if p * 100 ≤ cap * 95 then w.modDomain d (fun x => { x with capMHz := min 1050 (x.capMHz + 25) })
        else w
      else if cap < p then w.modHutch (d - 16) (fun h => { h with powerLimited := true })
      else if p * 100 ≤ cap * 95 then w.modHutch (d - 16) (fun h => { h with powerLimited := false })
      else w) w

/-- POWER_CAP_LOOP (R398). -/
def execPowerCapLoop (s : State) : Host.Outcome State Fault Refusal := run powerCapLoop s

end Sys2Proof.Machine
end

