-- ==== Sys2Proof/Machine/Heat.lean ====
section
/-! DEFINITION. Sensors and thermal limits, the junction throttle, the thermal trip, and the cooling policy (R399 to
R408). -/

namespace Sys2Proof.Machine

/-! ### Groups: disagreement and suspicion (R401) -/

/-- Units of a sensor's reading in 1 °C: 16, or 1 for a stack die (R399). -/
def unitsPerC (stack : Bool) : Int := if stack then 1 else 16

/-- Number of a sensor in an event's source: stack dies stand above the numbered sensors (assumption 46). -/
def sensorNumber (stack : Bool) (n : Nat) : Nat := if stack then 4096 + n else n

/-- A reading as an event's detail, 1/16 °C (R444). -/
def readingDetail (stack : Bool) (g : Int) : Nat := unsigned 64 (if stack then 16 * g else g)

/-- The disagreements of a group as its readings now stand: how long each member has disagreed, and how it has moved. -/
def Work.compareGroup (w : Work) (stack : Bool) (l : Nat) : Work :=
  let rs := w.groupReadings stack l
  let limit := Int.ofNat (w.reg 0x6400 6) * unitsPerC stack
  let was := rs.any (fun e => (w.sensor stack e.1).disagree)
  let now := w.now
  rs.foldl (fun w e =>
    let off := rs.any (fun f => decide (limit < (f.2 - e.2).natAbs))
    let low := rs.all (fun f => decide (e.2 ≤ f.2))
    w.modSensor stack e.1 (fun x =>
      if !off then { x with disagree := false, first := if was then x.first else e.2 }
      else if x.disagree then { x with lowest := x.lowest && low }
      else { x with disagree := true, since := now, first := e.2, lowest := low })) w

/-- A member has disagreed for 10 s, and has read lowest throughout or has stood still while another moved (R401). -/
def Work.becomesSuspect (w : Work) (stack : Bool) (rs : List (Nat × Int)) (e : Nat × Int) : Bool :=
  let x := w.sensor stack e.1
  let still := decide (4 * (e.2 - x.first).natAbs < unitsPerC stack)
  let moved := rs.any (fun f => f.1 != e.1 && decide (3 * unitsPerC stack ≤ (f.2 - (w.sensor stack f.1).first).natAbs))
  x.disagree && decide (x.since + 10000000000 ≤ w.now) && (x.lowest || (still && moved))

/-- Suspect sensors leave their group, with a WARN event each; an empty group raises an ERROR event (R401). -/
def Work.judgeGroup (w0 : Work) (stack : Bool) (l : Nat) : Work :=
  let w := w0.compareGroup stack l
  let rs := w.groupReadings stack l
  let bad := rs.filter (w.becomesSuspect stack rs)
  let w := bad.foldl (fun w e =>
    ((w.modSensor stack e.1 (fun x => { x with suspect := true, disagree := false })).addReg 0x6400 5 1).event 2 0 7
      (sensorNumber stack e.1) (readingDetail stack e.2)) w
  if bad ≠ [] ∧ (groupOfSensor stack l).all (fun m => (w.sensor stack m).suspect) then
    (w.modSensor stack l (fun x => { x with empty := true })).event 1 0 7 (sensorNumber stack l) 0
  else w

/-! ### Limits (R402, R405, R408) -/

/-- A warning begins at its temperature and ends 3 °C below it (R402). -/
def Work.warnGroup (w : Work) (stack : Bool) (l : Nat) (g limit : Int) : Work :=
  let x := w.sensor stack l
  if limit ≤ g then
    if x.warned then w
    else (w.modSensor stack l (fun x => { x with warned := true })).event 2 0 7 (sensorNumber stack l) (readingDetail stack g)
  else if g ≤ limit - 3 * unitsPerC stack then w.modSensor stack l (fun x => { x with warned := false })
  else w

/-- The cooling policy takes a state (0x6500.08, .0B). -/
def Work.coolingTo (w : Work) (st : Nat) : Work := { w with cooling := { w.cooling with st := st, changedAt := w.now } }

/-- The switched domains in the order in which the start-up enables them, memory domains in pairs (R417). -/
def Work.startOrder (w : Work) : List Nat :=
  36 :: (List.range 8).flatMap (fun k => [16 + k, 24 + k]) ++ w.bayOrder ++ (List.range 4).map (32 + ·)

/-- The whole panel shuts down for heat: the job killed, PWR_EN[36:0] low, a FATAL event (R408). -/
def Work.shutDown (w0 : Work) (l : Nat) (g : Int) : Work :=
  let w := w0.killJob
  let on := w.startOrder.filter (fun d => (w.domain d).enabled)
  let w := on.reverse.foldl (fun w d => w.pullLow d .offHeat) w.loseAll
  let w := if w.root.who = 1 then w.loseRoot else w
  (w.coolingTo 4).event 0 0 7 l (readingDetail false g)

/-- A junction group has reached HardLimitC (R408). -/
def Work.hardLimit (w : Work) (l : Nat) (g : Int) : Work :=
  let b := if l < 1664 then bayOfSite (l / 4) else (l - 1664) / 9
  if w.reg 0x6500 1 = 1 then w.event 2 0 7 l (readingDetail false g)
  else if b = w.rootBay then w.shutDown l g
  else if (w.domain b).st = .on then Work.goOff b 5 (w.beginOff b true)
  else w

/-- Limits of a junction group of an array die or a Hutch: warning and firmware limit; the throttle is a loop of its own
(R402). -/
def Work.junctionLimits (w0 : Work) (l : Nat) (g : Int) : Work :=
  let w := w0.warnGroup false l g (90 * 16)
  let limit := Int.ofNat (w.reg 0x6500 2) * 16
  let x := w.sensor false l
  if limit ≤ g then
    if x.limited then w else (w.modSensor false l (fun x => { x with limited := true })).hardLimit l g
  else if g ≤ limit - 48 then w.modSensor false l (fun x => { x with limited := false })
  else w

/-- A memory domain off for heat: its users abort, its contents go, a FATAL event names it (R405). -/
def Work.memoryOff (w : Work) (b : Nat) : Work :=
  if (w.domain (16 + b)).st ≠ .on then w
  else (((w.loseDomain (16 + b) 0x24).pullLow (16 + b) .offHeat).addReg 0x6400 0x0B 1).event 0 0 6 (16 + b) 0

/-- Limits of a stack group: warning, half the command rate from 90 °C until every die of the Hutch's stacks reads 87 °C or
less, and the memory domain off at 95 °C (R402, R405). -/
def Work.stackLimits (w0 : Work) (l : Nat) (g : Int) : Work :=
  let b := l / 64
  let w := w0.warnGroup true l g 85
  if 95 ≤ g then w.memoryOff b
  else if 90 ≤ g then w.modHutch b (fun h => { h with halfRate := true })
  else if (List.range 32).all (fun i => match w.groupReading true (64 * b + 2 * i) with
      | some r => decide (r ≤ 87)
      | none => true) then w.modHutch b (fun h => { h with halfRate := false })
  else w

/-- The actions of R402 on the reading of a group. -/
def Work.groupLimits (w : Work) (stack : Bool) (l : Nat) : Work :=
  match w.groupReading stack l with
  | none => w
  | some g =>
    if stack then w.stackLimits l g
    else if l < 1808 then w.junctionLimits l g
    else if l < 1812 then w.warnGroup false l g (Int.ofNat (w.reg 0x6500 4) * 16 - 80)
    else w.warnGroup false l g 1600

/-! ### Sudden stop (R407) -/

/-- Every region to 500 MHz, issue to one cycle in four, an ERROR event, state *sudden stop*. -/
def Work.suddenStop (w : Work) (kind number : Nat) : Work :=
  if w.cooling.st = 2 ∨ w.cooling.st = 4 then w
  else
    let w : Work := { w with cooling := { w.cooling with capMHz := 500, duty := 2, calmSince := w.now } }
    (w.coolingTo 2).event 1 0 kind number 0

/-- The least-squares slope of readings with their times, in 1/16 °C per second (R407): 0 below two readings. -/
def leastSquares (l : List (Nat × Int)) : Int :=
  let n := Int.ofNat l.length
  let t0 := (l.map (·.1)).foldl min ((l.map (·.1)).headD 0)
  let ts := l.map (fun e => Int.ofNat (e.1 - t0))
  let sum := fun (x : List Int) => x.foldl (· + ·) 0
  let st := sum ts
  let sv := sum (l.map (·.2))
  let stv := sum ((ts.zip (l.map (·.2))).map (fun e => e.1 * e.2))
  let stt := sum (ts.map (fun x => x * x))
  let d := n * stt - st * st
  if d ≤ 0 then 0 else (n * stv - st * sv) * 1000000000 / d

/-- A group's reading joins its last second, and the slope over it follows: none before the readings have spanned a second (R407). -/
def Sensor.taken (x : Sensor) (now : Nat) (g : Int) : Sensor :=
  let all := (now, g) :: x.history
  let kept := all.filter (fun e => decide (now ≤ e.1 + 1000000000))
  let spanned := x.spanned || all.any (fun e => decide (e.1 + 1000000000 ≤ now))
  { x with history := kept, spanned := spanned, slope := if spanned then leastSquares kept else 0 }

/-- The slope of a group over 1 s: at 0.5 °C/s or more the calm starts anew, above 2 °C/s on either path the stop is
sudden (R400, R407). -/
def Work.groupSlope (w : Work) (stack : Bool) (l : Nat) : Work :=
  match w.groupReading stack l with
  | none => w
  | some g =>
    let now := w.now
    let w := w.modSensor stack l (fun x => x.taken now (if stack then 16 * g else g))
    let slope := (w.sensor stack l).slope
    let w : Work := if 8 ≤ slope then { w with cooling := { w.cooling with calmSince := w.now } } else w
    if 32 < slope ∧ (stack = true ∨ l < 1808) then w.suddenStop 7 (sensorNumber stack l) else w

/-- SENSOR_READ: one reading, so many ns after the command before it: its group is judged, and the limits and the slope rule act on
it (R399, R401, R402, R407). -/
def sensorRead (stack : Bool) (n : Nat) (r : Int) (after : Nat) (w0 : Work) : Work :=
  if (if stack then 1024 else 1846) ≤ n then w0
  else
    let l := leaderOf stack n
    let w := (w0.reach (w0.now + after)).modSensor stack n (fun x => { x with reading := some r })
    (((w.judgeGroup stack l).groupLimits stack l).groupSlope stack l).keepRegs

/-- SENSOR_READ (R401). -/
def execSensorRead (stack : Bool) (n : Nat) (reading : Int) (after : Nat) (s : State) : Host.Outcome State Fault Refusal :=
  run (sensorRead stack n reading after) s

/-! ### Junction throttle (R404) -/

/-- Reading of an array die, the higher of its two groups, or of a Hutch quadrant, by throttle number. -/
def Work.throttleReading (w : Work) (k : Nat) : Option Int :=
  if k < 416 then
    match w.groupReading false (4 * k), w.groupReading false (4 * k + 2) with
    | some x, some y => some (max x y)
    | some x, none => some x
    | none, y => y
  else w.groupReading false (1664 + 9 * ((k - 416) / 4) + 2 * ((k - 416) % 4))

/-- One pass of the loop at a die or quadrant: 50 MHz down while hot, then the duty by halves every 100 ms; one step lifted
per 10 ms in reverse once the condition has ended, 3 °C below its start (R402, R404). -/
def Throttle.pass (now : Nat) (die : Bool) (g : Option Int) (x : Throttle) : Throttle :=
  let above : Bool := match g with
    | some r => decide (95 * 16 ≤ r)
    | none => false
  let ended : Bool := match g with
    | some r => decide (r ≤ 92 * 16)
    | none => true
  if above then
    let x : Throttle := { x with hot := true }
    if 500 < x.capMHz then
      let c := max 500 (x.capMHz - 50)
      { x with capMHz := c, hotAt := if c = 500 then some now else none }
    else
      match x.hotAt with
      | none => { x with hotAt := some now }
      | some t => if die && decide (2 < x.duty) && decide (t + 100000000 ≤ now) then { x with duty := x.duty / 2, hotAt := some now } else x
  else
    let x : Throttle := { x with hotAt := none, hot := x.hot && !ended }
    if x.hot ∨ now < x.liftedAt + 10000000 then x
    else if x.duty < 8 then { x with duty := 2 * x.duty, liftedAt := now }
    else if x.capMHz < 1050 then { x with capMHz := min 1050 (x.capMHz + 50), liftedAt := now }
    else x

/-- What a sudden stop left is lifted in the same way once the state has gone on (R404, R407; assumption 38). -/
def Cooling.lift (now : Nat) (c : Cooling) : Cooling :=
  if c.st = 2 ∨ now < c.liftedAt + 10000000 then c
  else if c.duty < 8 then { c with duty := 2 * c.duty, liftedAt := now }
  else if c.capMHz < 1050 then { c with capMHz := min 1050 (c.capMHz + 50), liftedAt := now }
  else c

/-- JUNCTION_THROTTLE: one pass of the loop, every 1 ms. A die or quadrant that begins to throttle counts, and raises source
11 (R350, R404). -/
def junctionThrottle (w0 : Work) : Work :=
  let now := w0.now
  let w : Work := { w0 with cooling := w0.cooling.lift now }
  (List.range 480).foldl (fun w k =>
    let x : Throttle := tget {} w.throttles k
    let y := Throttle.pass now (decide (k < 416)) (w.throttleReading k) x
    if y = x then w
    else
      let w : Work := { w with throttles := tput w.throttles k y }
      if y.hot && !x.hot then (w.addReg 0x6400 0x0A 1).interrupt 11 else w) w

/-- JUNCTION_THROTTLE (R404). -/
def execJunctionThrottle (s : State) : Host.Outcome State Fault Refusal := run junctionThrottle s

/-- Dies now under R404 (0x6400.09). -/
def Work.throttledDies (w : Work) : Nat := (w.throttles.filter (fun e => e.2.hot || decide (e.2.capMHz < 1050) || decide (e.2.duty < 8))).length

/-- Issue duty of a site's arrays, in eighths: the lower of those of its throttle and of the cooling policy (0x3100+n.12). -/
def Work.dutyOf (w : Work) (n : Nat) : Nat := min (tget {} w.throttles n : Throttle).duty w.cooling.duty

/-! ### Thermal trip (R403) -/

/-- THERMAL_TRIP: a comparator of an on-die sensor has fired on 16 samples: PWR_EN[36:0] low, THERM_TRIP_N asserted, the
sensor latched, alert before the FATAL event (R403, R411, R448). -/
def thermalTrip (n : Nat) (w : Work) : Work :=
  if 1846 ≤ n ∨ (1808 ≤ n ∧ n < 1812) then w
  else
    let w := (w.alert 3).setReg 0x6400 0x0D n
    let w := (List.range 37).foldl (fun w d =>
      if (w.domain d).enabled then w.pullLow d .trip else w.modDomain d (fun x => { x with st := .trip, enableWaits := false })) w.loseAll
    let w := if w.root.who = 1 then w.loseRoot else w
    ((({ w with thermTrip := true } : Work).event 0 0 7 n 0).interrupt 11).keepRegs

/-- THERMAL_TRIP (R403). -/
def execThermalTrip (n : Nat) (s : State) : Host.Outcome State Fault Refusal := run (thermalTrip n) s

/-! ### Slow loss of airflow (R406) -/

/-- InletC in 10⁻⁶ °C, AirWarnKPerW in 10⁻⁶ K/W. -/
def Work.inlet (w : Work) : Int := f32Times (w.reg 0x6500 3) 1000000
def Work.airWarn (w : Work) : Int := f32Times (w.reg 0x6500 5) 1000000

/-- T_lid: the higher of the two lid groups. -/
def Work.lidReading (w : Work) : Option Int :=
  match w.groupReading false 1808, w.groupReading false 1810 with
  | some x, some y => some (max x y)
  | some x, none => some x
  | none, y => y

/-- The hottest reading that the memory trend follows, °C: that of the stacks, and of a bay's own on-die sensors where its memory
domain is off or no stack of it can be read (R400, R406). -/
def Work.trendReading (w : Work) : Option Int :=
  let bay := fun (b : Nat) =>
    let stack := w.stackSensors.filterMap (fun e => if e.1 / 64 = b ∧ !e.2.suspect then e.2.reading else none)
    let dies := w.sensors.filterMap (fun e =>
      if (if e.1 < 1664 then bayOfSite (e.1 / 4) = b else e.1 < 1808 ∧ (e.1 - 1664) / 9 = b) ∧ !e.2.suspect then e.2.reading.map (· / 16) else none)
    if (w.domain (16 + b)).st == .on && !stack.isEmpty then stack else dies
  (hottest ((List.range 16).flatMap (fun b => (bay b).map (fun r => (b, r))))).map (·.2)

/-- R_est at this instant, in 10⁻⁶ K/W; none with no lid reading or no draw. -/
def Work.airEstimate (w : Work) : Option Int :=
  match w.lidReading with
  | some t => if w.panelPower = 0 then none else some ((t * 62500 - w.inlet) * 1000 / Int.ofNat w.panelPower)
  | none => none

/-- The 60 s mean of R_est (0x6500.06). -/
def Cooling.mean (c : Cooling) : Int := if c.rest.isEmpty then 0 else c.rest.foldl (· + ·) 0 / Int.ofNat c.rest.length

/-- The cap of slow loss, W: a multiple of 640, 12,800 at most (R406). -/
def Work.airCap (w : Work) : Nat :=
  let m := w.cooling.mean
  if m ≤ 0 then 12800
  else min 12800 (((Int.ofNat (w.reg 0x6500 4) * 1000000 - w.inlet) / m).toNat / 640 * 640)

/-- The highest cap that R406 allows while recovering. -/
def Work.airAllows (w : Work) : Nat := if w.airWarn < w.cooling.mean then w.airCap else 12800

/-- The hottest stack die has risen by 0.5 °C per minute over 5 minutes at a panel power within ±2 % (R406; assumption 42). -/
def memoryTrend (l : List (Int × Nat)) : Bool :=
  match l, l[300]? with
  | x :: _, some y => decide (5 ≤ 2 * (x.1 - y.1)) && (l.take 301).all (fun e => decide (50 * ((e.2 : Int) - y.2).natAbs ≤ y.2))
  | _, _ => false

/-- Slow loss: the cap falls at once to its step, and rises by one step per 60 s; the state ends when the mean has been below
the warning for 300 s (R406). -/
def Work.slowLoss (w : Work) : Work :=
  let c := w.cooling
  let now := w.now
  let cap := w.airCap
  let c : Cooling := if cap < c.capW then { c with capW := cap, raisedAt := now }
    else if c.capW < cap ∧ c.raisedAt + 60000000000 ≤ now then { c with capW := min cap (c.capW + 640), raisedAt := now }
    else c
  let c : Cooling := { c with goodSince := if c.mean < w.airWarn then some (c.goodSince.getD now) else none }
  let warm : Bool := match c.goodSince with
    | some t => decide (t + 300000000000 ≤ now)
    | none => false
  if warm then ({ w with cooling := { c with capW := 12800, goodSince := none } } : Work).coolingTo 0 else { w with cooling := c }

/-- AIRFLOW_ESTIMATE: every 1 s R_est is taken into its mean, and the state and the cap follow (R406). -/
def airflow (w0 : Work) : Work :=
  let rest := match w0.airEstimate with
    | some x => (x :: w0.cooling.rest).take 60
    | none => w0.cooling.rest
  let trend := match w0.trendReading with
    | some r => ((r, w0.panelPower) :: w0.cooling.trend).take 301
    | none => []
  let w : Work := { w0 with cooling := { w0.cooling with rest := rest, trend := trend } }
  let slow := decide (w.airWarn < w.cooling.mean) || memoryTrend trend
  if w.cooling.st = 0 then
    if slow then
      let w := (w.coolingTo 1).event 2 0 0 0 (unsigned 64 w.cooling.mean)
      ({ w with cooling := { w.cooling with raisedAt := w.now, goodSince := none } } : Work).slowLoss
    else w
  else if w.cooling.st = 1 then w.slowLoss
  else if w.cooling.st = 3 then { w with cooling := { w.cooling with capW := min w.cooling.capW w.airAllows } }
  else w

/-- AIRFLOW_ESTIMATE (R406). -/
def execAirflowEstimate (s : State) : Host.Outcome State Fault Refusal := run airflow s

/-! ### COOL_FAIL_N and recovery (R407) -/

/-- COOL_FAIL_N goes low: a sudden stop; the pin is not looked at before step 2 of the start-up has ended (R458). -/
def coolFail (w : Work) : Work :=
  let w : Work := { w with coolFailPin := true }
  if w.boot.done < 2 then w else w.suddenStop 0 0

/-- COOL_FAIL_N_ASSERT (R407). -/
def execCoolFailNAssert (s : State) : Host.Outcome State Fault Refusal := run coolFail s

/-- COOL_FAIL_N goes high: the calm starts (R407). -/
def coolGood (w : Work) : Work :=
  if w.coolFailPin then { w with coolFailPin := false, cooling := { w.cooling with calmSince := w.now } } else w

/-- COOL_FAIL_N_DEASSERT (R407). -/
def execCoolFailNDeassert (s : State) : Host.Outcome State Fault Refusal := run coolGood s

/-- Every slope is below 0.5 °C/s. -/
def Work.calm (w : Work) : Bool := !w.coolFailPin && (w.sensors ++ w.stackSensors).all (fun e => decide (e.2.slope < 8))

/-- COOLING_RECOVERY: 30 s of calm end a sudden stop with a cap of 2,560 W; from then on the cap rises by 640 W per 10 s up to
what R406 allows, where the recovery ends (R407). -/
def coolingRecovery (w : Work) : Work :=
  if w.cooling.st = 2 then
    if w.calm then
      let w := w.reach (w.cooling.calmSince + 30000000000)
      ({ w with cooling := { w.cooling with capW := 2560, raisedAt := w.now } } : Work).coolingTo 3
    else w
  else if w.cooling.st = 3 then
    let w := w.reach (w.cooling.raisedAt + 10000000000)
    let top := w.airAllows
    let cap := min top (w.cooling.capW + 640)
    let w : Work := { w with cooling := { w.cooling with capW := cap, raisedAt := w.now, goodSince := none } }
    if cap = top then w.coolingTo (if w.airWarn < w.cooling.mean then 1 else 0) else w
  else w

/-- COOLING_RECOVERY (R407). -/
def execCoolingRecovery (s : State) : Host.Outcome State Fault Refusal := run coolingRecovery s

end Sys2Proof.Machine
end

