-- ==== Sys2Proof/Machine/Boot.lean ====
section
/-! DEFINITION. PANEL_RST_N, the start-up sequence and its journal, and the lead of the Sideboards (R376, R378, R412 to
R428, R458 to R460). -/

namespace Sys2Proof.Machine

/-! ### The journal (R420, R421) -/

/-- Mark of a step: 0 none, 1 alternate, 2 skip. -/
def Boot.markOf (x : Boot) (step : Nat) : Nat := tget 0 x.marks step

/-- A step's record joins the present run; a start holds at most 64 records (assumption 47). -/
def Boot.record (x : Boot) (startMs step path outcome ms status : Nat) : Boot :=
  let r : JRec := ⟨step, path, outcome, startMs, min ms 65535, status⟩
  match x.runs with
  | [] => { x with runs := [[r]] }
  | run :: older => { x with runs := (run ++ [r]).take 64 :: older }

/-- Steps that a run left failed or begun (R421, rule 1): the last record of each counts. -/
def badSteps (run : List JRec) : List Nat :=
  let last := fun (n : Nat) => run.foldl (fun acc r => if r.step = n then some r else acc) (none : Option JRec)
  ((run.map (·.step)).foldl (fun l n => if l.contains n then l else l ++ [n]) []).filter (fun n =>
    n != 0 && (match last n with
      | some r => r.outcome == 0 || r.outcome == 2
      | none => false))

/-- A step has an alternate: every one but the host die's (R417). -/
def hasAlternate (step : Nat) : Bool := step / 256 != 3

/-- A step may be skipped: steps 3 to 6, but never that of the root bay, which is E0 or W0 (R417). -/
def maySkip (root step : Nat) : Bool := decide (3 ≤ step / 256) && step != 0x500 + root

/-- The mark that follows an interrupted or failed step (R421, rules 2 and 3). -/
def nextMark (root step mark : Nat) : Nat :=
  if mark = 0 then (if hasAlternate step then 1 else if maySkip root step then 2 else 0)
  else if mark = 1 ∧ maySkip root step then 2
  else mark

/-- The marks as a start begins: those of the last run's failures go on, and cleared marks go (R421; assumption 47). The
root bay is that of the last run. -/
def Boot.newMarks (x : Boot) (root : Nat) : List (Nat × Nat) :=
  let bad := match x.runs with
    | run :: _ => badSteps run
    | [] => []
  let marks := bad.foldl (fun m n =>
    let v := nextMark root n (tget 0 m n)
    if v = 0 then m else tput m n v) x.marks
  marks.filter (fun e => !x.clearMark.contains e.1 && !x.clearMark.contains 0xFFFF)

/-- The step of the sequence that is due, with a leading Sideboard to run it, on a panel that no thermal trip and no shut-down for
heat keeps dark until PANEL_RST_N (R403, R408). -/
def Work.due (w : Work) (step : Nat) : Bool :=
  w.boot.st == 0 && (w.boot.lead != 2 || step == 0x100) && !w.thermTrip && w.cooling.st != 4 && w.sequence[w.boot.done]? == some step

/-- Domains of the steps that begin as the panel comes to a step: the host die's, and those of the four port edges together (R417). -/
def domainsAt (step : Nat) : List (Nat × Nat) :=
  if step = 0x300 then [(36, 0x300)] else if step = 0x600 then (List.range 4).map (fun e => (32 + e, 0x600 + e)) else []

/-- PWR_EN of a domain released by the sequence, once its off time is over, unless it is on, ramps, is skipped, or has had a supply
fault, after which only its Enable brings it up (R391, R393, R413). -/
def Work.startRamp (w : Work) (d step : Nat) : Work :=
  let x := w.domain d
  if x.st = .on ∨ x.st = .ramping ∨ x.faulted ∨ w.boot.markOf step = 2 then w else (w.reach x.mayEnableAt).releaseEn d

/-- The step that is now due begins (R417). -/
def Work.beginStep (w : Work) : Work := (domainsAt w.currentStep).foldl (fun w e => w.startRamp e.1 e.2) w

/-- A step has ended, after `ms`; the last one completes the start (R417, 0x1800.05). -/
def Work.stepEnds (w0 : Work) (ms : Nat) : Work :=
  let w : Work := if w0.root.running then w0.reach (w0.now + ms * 1000000)
    else { w0 with boot := { w0.boot with bootMs := w0.boot.bootMs + ms } }
  let w : Work := { w with boot := { w.boot with done := w.boot.done + 1 } }
  if w.boot.done = w.sequence.length then
    ({ w with boot := { w.boot with st := 1 } } : Work).setReg 0x1800 5 w.bootNow
  else w.beginStep

/-- A duration that the spec leaves open below a limit: a free value (assumption 5). -/
def Work.drawMs (w : Work) (limit : Nat) : Nat × Work :=
  let (v, w) := w.draw
  (v % (limit + 1), w)

/-- A record of the journal, of a step that began now (R420). -/
def Work.journal (w : Work) (step path outcome ms status : Nat) : Work :=
  { w with boot := w.boot.record w.bootNow step path outcome ms status }

/-! ### Reset (R412, R413, R458) -/

/-- Steps that have begun and not ended: both domains of a pair, and every port edge still to come (R417, R421). -/
def Work.begunSteps (w : Work) : List Nat :=
  let s := w.currentStep
  let all := if s / 256 = 4 then [s, s + 8] else if s / 256 = 6 then (List.range 4).filterMap (fun e => if s ≤ 0x600 + e then some (0x600 + e) else none) else [s]
  if w.boot.st = 0 then all.filter (fun n => w.boot.markOf n != 2) else []

/-- What the Sideboards keep in flash through a reset. A step under way is left as begun, on the path of its mark; of step 1, in a
run of its own (R413, R420, R421; assumption 47). -/
def Work.bootOverReset (w : Work) : Boot :=
  let x := w.boot
  let starts := (x.starts + 1) % 2 ^ 32
  let y : Boot := if x.done = 0 ∧ x.st = 0 then { x with starts := starts, runs := ([⟨0, 0, 0, starts, 0, 0⟩] :: x.runs).take 9 } else x
  let z := w.begunSteps.foldl (fun (y : Boot) n => y.record w.bootNow n (x.markOf n) 0 0 0) y
  { marks := z.marks, clearMark := z.clearMark, service := z.service, runs := z.runs, starts := z.starts, slots := z.slots
    activeSlot := z.activeSlot, nextSlot := z.nextSlot, keys := z.keys }

/-- The off timer of a domain through a reset: 2 s for one whose PWR_EN is now pulled low, the rest for any other (R391,
R413). -/
def Domain.overReset (x : Domain) (now : Nat) : Domain :=
  { mayEnableAt := if x.enabled then 2000000000 else x.mayEnableAt - now }

/-- The panel as a reset leaves it. -/
def Work.afterReset (w : Work) : Work :=
  let p : Panel := State.reset.toPanel
  let now := w.now
  { toPanel := { p with
      free := w.free + 1, lost := [(0, 2 ^ 64, w.free)], flash := w.flash, flashBlobs := w.flashBlobs
      regs := (w.regs.filter (fun e => e.1 == key 0x6400 0x0D || e.1 == key 0x2100 0x09))
      defects := w.defects, defectMarks := w.defectMarks
      domains := w.domains.map (fun e => (e.1, e.2.overReset now))
      boot := w.bootOverReset
      log := { firstFailure := w.log.firstFailure, firstFailed := w.log.firstFailed, firstRegs := w.log.firstRegs }
      cxl := { perst := w.cxl.perst }
      coolFailPin := w.coolFailPin }
    fuses := w.fuses, mem := w.mem, stores := [.zero 0 (2 ^ 64)] }

/-- PANEL_RST_N_ASSERT: held low for a time, or a fall of PG[37]. 10 µs or more resets, less than 9.4 µs does not, and in
between the panel's own oscillator decides, which is a free value (R412, R458; assumption 8). -/
def panelRst (lowNs : Nat) (pgFall : Bool) (w : Work) : Work :=
  if pgFall ∨ 10000 ≤ lowNs ∨ (9400 ≤ lowNs ∧ Config.shortResetTaken lowNs = true) then w.afterReset else w

/-- PANEL_RST_N_ASSERT (R412). -/
def execPanelRstNAssert (lowNs : Nat) (pgFall : Bool) (s : State) : Host.Outcome State Fault Refusal := run (panelRst lowNs pgFall) s

/-! ### Step 1 (R414, R417, R429, R460) -/

/-- Every object whose value in flash applies from this start on, put in force; saved values read as they were saved
(R352). -/
def Work.loadFlash (w0 : Work) : Work :=
  let w : Work := { w0 with
    regs := w0.flash.foldl (fun t e => tput t e.1 e.2) w0.regs
    blobs := w0.flashBlobs.foldl (fun t e => tput t e.1 e.2) w0.blobs }
  let w := w.flash.foldl (fun w e =>
    match objAt (e.1 / 256) (e.1 % 256) with
    | some o => if bit o.attr 2 then w.setEff (e.1 / 256) (e.1 % 256) e.2 else w
    | none => w) w
  w.setReg 0x7000 4 (w.reg 0x7000 3)

/-- A firmware slot passes the boot ROM: its digest and signature were found good when it was written or made, and its
version is not below the fused count (R429; assumption 48). -/
def Work.slotGood (w : Work) (n : Nat) : Bool :=
  let x : FwSlot := tget {} w.boot.slots n
  (x.st == 1 || x.st == 3) && decide (w.fuses.securityVersion ≤ x.security)

/-- The first of a Sideboard's slots that passes, in the order in which its ROM tries them (R429). -/
def Work.bootSlot (w : Work) (flash : Nat) (order : List Nat) : Option Nat := (order.map (2 * flash + ·)).find? w.slotGood

/-- What manufacture puts into the panel: 0 root key hash, 1 identity key, 2 certificates, 3 serial number, 4 MAC
address, 5 ROM digest, 6 factory firmware's digest (R429, R431, R433; assumption 11). -/
def factory (i n : Nat) : List Byte := padTo n (Config.factoryBytes i)

/-- The header and body of an image without its signature, which the digest covers (R429). -/
def signedPart (image : List Byte) : List Byte := image.take 0x720 ++ image.drop 0xC20

/-- An image passes steps 1 to 3 of R429: its key's hash is the fused one, and its signature is good over its digest; its header's
fields lie in their ranges. -/
def imageGood (image : List Byte) : Bool :=
  let key := slice image 0x10 1793
  let len := leAt image 0x0A 2
  leAt image 0 4 == 0x57465756 && decide (leAt image 8 2 ≤ 64) && decide (len ≤ 1280) && decide (leAt image 0x0C 4 ≤ 60 * 2 ^ 20) &&
    image.length == 0xC20 + leAt image 0x0C 4 && decide (Config.shake256 key 32 = factory 0 32) &&
    Config.falconVerify key (Config.shake256 (signedPart image) 64) (slice image 0x720 len)

/-- The status of a slot that the boot ROM refuses: 0x81 where its image is good and its version below the fused count (R429). -/
def Work.slotRefusal (w : Work) (n : Nat) : Nat :=
  let x : FwSlot := tget {} w.boot.slots n
  if x.st = 0 ∨ (x.st = 2 ∧ !imageGood x.image) then 0x80 else 0x81

/-- The slot that runs is the active one and valid from now on, and those that a version refuses read as refused (R430). -/
def Work.runSlot (w : Work) (n : Nat) : Work :=
  let old := fun (x : FwSlot) => decide (x.st ≠ 0) && decide (x.security < w.fuses.securityVersion)
  let slots := w.boot.slots.map (fun e => if e.1 = n then (e.1, { e.2 with st := 1 }) else if old e.2 then (e.1, { e.2 with st := 2 }) else e)
  { w with boot := { w.boot with slots := slots, runningSlot := some n, activeSlot := n % 2 } }

/-- Requests of window channels in flight at a takeover return 0x7C (R358, R360). -/
def Work.failChannels (w : Work) : Work :=
  w.cxl.channels.foldl (fun w e =>
    match e.2.request with
    | some q =>
      if e.2.go = e.2.done then w
      else
        Work.interrupt { w with cxl := { w.cxl with channels := tput w.cxl.channels e.1 (e.2.answered q { status := 0x7C }) } } e.1
    | none => w) w

/-- Sideboard B takes the lead with an empty event ring; what the old leader held in its memory is gone, and every request in flight,
multicast reads among them, is answered 0x7C (R360, R415). -/
def Work.takeLead (w0 : Work) (cause : Nat) : Work :=
  let job := w0.jobRuns
  let w := w0.killJob
  let w := if job then w.jobStatus 0x83 0 0 else w
  let w : Work := { w with
    boot := { w.boot with lead := 1, standby := false, boardB := true }
    sessions := [], hellos := [], snapshots := [], staging := [], discovery := []
    reply := { status := 0x7C, messages := w.discovery.flatMap (fun e => messagesOf e.2 { status := 0x7C }) }
    log := { w.log with ring := [], overflow := [], incident := false } }
  ((((w.alert 16).event 0 0 10 1 cause).keepRegs).failChannels).readyChanged

/-- The port-table check of a start: status and port of the first entry that disagrees, with an ERROR event (R326). -/
def Work.checkTable (w : Work) : Work :=
  match (List.range 16).find? (fun k => !w.entryOk k) with
  | some k => (w.setReg 0x4810 0x0B (0x63 + 256 * k)).event 1 0x63 5 k 0
  | none => w

/-- The root bay of the last run, by its journal: that of the first record of step 5, which starts at it; with none, by the path of
step 2 (R376, R417, R421). -/
def Boot.lastRoot (x : Boot) : Nat :=
  match x.runs with
  | run :: _ =>
    match run.find? (fun r => r.step / 256 == 5) with
    | some r => r.step % 256
    | none => if run.any (fun r => r.step == 0x200 && r.path == 1) then 0 else 8
  | [] => 8

/-- The step whose failed alternate has brought the service state, until its mark is cleared (R419). -/
def Boot.serviceLeft (x : Boot) : Option Nat := x.service.filter (fun n => !x.clearMark.contains n && !x.clearMark.contains 0xFFFF)

/-- STARTUP_ROM_SELF_TEST: the marks, the saved objects and the straps are taken; A leads with a slot that passes, else B
does. With no slot good the record has the status of the slot tried last (DESIGN CHOICE, assumption 115) (R414, R417, R419, R421,
R429, R460). -/
def romSelfTest (aOk bOk : Bool) (straps : Nat) (w0 : Work) : Work :=
  if !w0.due 0x100 then w0
  else
    let b := w0.boot
    let starts := (b.starts + 1) % 2 ^ 32
    let w : Work := { w0 with boot := { b with
        marks := b.newMarks b.lastRoot, clearMark := [], service := b.serviceLeft, starts := starts, boardB := bOk
        runs := ([⟨0, 0, 0, starts, 0, 0⟩] :: b.runs).take 9
        nodeId := straps % 32, activeSlot := b.nextSlot, st := 0, lead := 2 } }
    let w := ((w.loadFlash).startupDefects).domainOn 37
    let (ms, w) := w.drawMs 200
    let alt := w.boot.markOf 0x100 == 1
    let order := if alt then [1, 0] else [w.boot.activeSlot, 1 - w.boot.activeSlot]
    let slotA := if aOk then w.bootSlot 0 order else none
    let slotB := if bOk then w.bootSlot 1 order else none
    let path := ofBool alt
    match slotA, slotB with
    | some n, _ =>
      let w := (w.runSlot n).checkTable
      (({ w with boot := { w.boot with lead := 0, standby := bOk } } : Work).journal 0x100 path 1 ms 0).readyChanged.stepEnds ms
    | none, some n => (((w.runSlot n).checkTable.takeLead (if aOk then 1 else 0)).journal 0x100 1 1 ms 0).stepEnds ms
    | none, none =>
      let last := order.getD 1 0
      (w.journal 0x100 path 2 ms (if bOk then w.slotRefusal (2 + last) else if aOk then w.slotRefusal last else 0)).stepEnds ms

/-- STARTUP_ROM_SELF_TEST (R417). -/
def execStartupRomSelfTest (aOk bOk : Bool) (straps : Nat) (s : State) : Host.Outcome State Fault Refusal :=
  run (romSelfTest aOk bOk straps) s

/-! ### Step 2 (R376, R378, R379) -/

/-- A domain is switched on by the sequence once its off time is over, and a compute domain 50 ms after the power good of the one before
it; one that is on stays as it is (R391, R392, R413). -/
def Work.startDomain (w : Work) (d : Nat) : Work :=
  let x := w.domain d
  if x.st = .on then w
  else if x.st = .ramping then w.domainOn d
  else ((w.reach x.mayEnableAt).releaseEn d).domainOn d

/-- A domain whose PG does not assert within 25 ms of its release (R390). -/
def Work.startFault (w : Work) (d : Nat) : Work :=
  let x := w.domain d
  pgTimeout d (if x.st = .ramping then w else (w.reach x.mayEnableAt).releaseEn d)

/-- Sideboard A's attach site as the defect map has it: the site and its XV link (R28, R378). -/
def Work.attachGood (w : Work) (n : Nat) : Bool := w.siteUsable n && !w.fuses.links.contains (n * 8 + 7) && !w.hasDefect 2 n 7

/-- STARTUP_CLOCK_ROOT: Sideboard A roots the tree where an attach site of its is usable and its PLL locks; else the host
die where its own reference has no spread spectrum and its PLL locks; else no die does. The fallback releases PWR_EN[36] at once,
which ramps on where the PLL does not lock. The counter starts at 0. `refclk` is 0x9000.03 (R376, R378). A COOL_FAIL_N that is low as
the step ends counts as asserted (R458). -/
def clockRoot (aLock hostLock : Bool) (refclk : Nat) (w : Work) : Work :=
  if !w.due 0x200 then w
  else
    let a := aLock && (w.attachGood 25 || w.attachGood 24)
    let tried := !a && bit refclk 1 && !bit refclk 2 && !(w.domain 36).faulted
    let host := tried && hostLock
    let who := if a then 0 else if host then 1 else 0xFF
    let w := if host then w.startDomain 36 else if tried then w.startRamp 36 0x200 else w
    let (ms, w) := w.drawMs (if a then 10 else 40)
    let base := w.bootNow
    let now := w.now
    let w : Work := { w with
      clock := 0
      domains := w.domains.map (fun e => (e.1, { e.2 with
        mayEnableAt := e.2.mayEnableAt - now, rampAt := e.2.rampAt - now, pgAt := 0, rails := e.2.rails.map (fun r => (r.1, { r.2 with lastAt := 0 })) }))
      boot := { w.boot with bootMs := base, zeroAt := 0 }
      root := { w.root with who := who, running := decide (who ≠ 0xFF), refclk := refclk % 8 } }
    let w := (w.journal 0x200 (ofBool tried) (if who = 0xFF then 2 else 1) ms 0).stepEnds ms
    if w.coolFailPin then w.suddenStop 0 0 else w

/-- STARTUP_CLOCK_ROOT (R376). -/
def execStartupClockRoot (aLock hostLock : Bool) (refclk : Nat) (s : State) : Host.Outcome State Fault Refusal :=
  run (clockRoot aLock hostLock refclk) s

/-! ### Step 3 (R417) -/

/-- A width and a rate that the link comes up at: x8, x4, x2 or x1, at 64 or 32 GT/s, or lower as PCIe only (R340, R341). -/
def linkForm (width rate : Nat) : Bool := [1, 2, 4, 8].contains width && (rate == 64 || rate == 32 || (decide (0 < rate) && decide (rate < 32)))

/-- The CXL link trains to a width and a rate that it supports, while PERST_N is deasserted: below 32 GT/s it is PCIe only (R340 to
R342). -/
def Work.cxlTrain (w : Work) (width rate : Nat) : Work :=
  if w.cxl.perst ∨ !linkForm width rate then w
  else ({ w with cxl := { w.cxl with st := if rate < 32 then 1 else 2, width := width, rate := rate } } : Work).readyChanged

/-- STARTUP_HOST_DIE: domain 36 on, the die's self-test, CXL training, the dictionary window live; where PG[36] has not come, the step
has failed (R390, R393, R417). -/
def startHost (ok : Bool) (width rate : Nat) (w : Work) : Work :=
  if !w.due 0x300 then w
  else if w.boot.markOf 0x300 = 2 then (w.journal 0x300 2 3 0 0).stepEnds 0
  else
    let faulted := (w.domain 36).faulted
    let w := if faulted then w else w.startDomain 36
    let (ms, w) := if faulted then (0, w) else w.drawMs 900
    if faulted then (w.journal 0x300 0 2 0 0x93).stepEnds 0
    else if ok then
      let w := ({ w with boot := { w.boot with hostReady := true } } : Work).readyChanged
      ((w.cxlTrain width rate).journal 0x300 0 1 ms 0).stepEnds ms
    else
      let w := if w.root.who = 1 then w else w.pullLow 36 .off
      (w.journal 0x300 0 2 ms 0).stepEnds ms

/-- STARTUP_HOST_DIE (R417). -/
def execStartupHostDie (ok : Bool) (width rate : Nat) (s : State) : Host.Outcome State Fault Refusal := run (startHost ok width rate) s

/-! ### Step 4 (R187, R417) -/

/-- One memory domain of a pair: on its primary path every stack trains; its alternate marks the stacks that fail as
defective (R417). -/
def Work.startMemory (w : Work) (b : Nat) (t : MemTest) : Work :=
  let step := 0x400 + b
  let mark := w.boot.markOf step
  let bad := t.badStacks.filter (fun i => decide (i < 8))
  if mark = 2 then (w.unitsFailed (16 + b)).journal step 2 3 0 0
  else if (w.domain (16 + b)).faulted then (w.unitsFailed (16 + b)).journal step mark 2 0 0x93
  else if !t.pgOk ∧ (w.domain (16 + b)).st ≠ .on then (w.startFault (16 + b)).journal step mark 2 t.ms 0x93
  else
    let w := w.startDomain (16 + b)
    let all := (List.range 8).all bad.contains
    if !t.sramOk ∨ 2000 < t.ms ∨ (mark = 0 ∧ bad ≠ []) ∨ all then ((w.pullLow (16 + b) .off).unitsFailed (16 + b)).journal step mark 2 t.ms 0
    else
      let w := w.modHutch b (fun h => { h with ecc := w.eff (0x5000 + b) 5 == 1, stackStates := bad.map (fun i => (i, 3)) })
      (({ w with boot := { w.boot with trained := w.boot.trained.filter (· != b) ++ [b] } } : Work).readyChanged).journal step mark 1 t.ms 0

/-- STARTUP_MEMORY_DOMAIN: bays Wk and Ek together (R417). -/
def startPair (k : Nat) (west east : MemTest) (w : Work) : Work :=
  if 8 ≤ k ∨ !w.due (0x400 + k) then w
  else ((w.startMemory k west).startMemory (8 + k) east).stepEnds (max west.ms east.ms)

/-- STARTUP_MEMORY_DOMAIN (R417). -/
def execStartupMemoryDomain (k : Nat) (west east : MemTest) (s : State) : Host.Outcome State Fault Refusal :=
  run (startPair k west east) s

/-! ### Step 5 (R417 to R419, R424 to R426) -/

/-- The root bay has failed on its alternate in an earlier run, and no ClearMark has taken its mark since: the service state
stays (R419). -/
def Work.serviceStays (w : Work) : Bool := w.boot.service.isSome

/-- The service state: steps 5 and 6 do not run (R419). -/
def Work.toService (w : Work) : Work :=
  { w with boot := { w.boot with st := 2, service := some (w.boot.service.getD (0x500 + w.rootBay)) } }

/-- A bay fails its step and stays off; the root bay on its alternate brings the service state (R417, R419). -/
def Work.bayFails (w0 : Work) (b ms status : Nat) : Work :=
  let step := 0x500 + b
  let mark := w0.boot.markOf step
  let w := ((w0.unitsFailed b).journal step mark 2 ms status).stepEnds ms
  if b = w.rootBay ∧ mark = 1 then w.toService else w

/-- STARTUP_COMPUTE_BAY, while no other bay ramps: one bay on, tested, its map and tables computed, its dies joined to the tree (R378, R392, R418, R424
to R426). -/
def startBay (b : Nat) (t : BayTest) (w : Work) : Work :=
  let step := 0x500 + b
  let mark := w.boot.markOf step
  if 16 ≤ b ∨ !w.due step ∨ w.rampsNow then w
  else if b = w.rootBay ∧ w.serviceStays then ((w.unitsFailed b).journal step 1 2 0 0).toService
  else if mark = 2 then ((w.unitsFailed b).journal step 2 3 0 0).stepEnds 0
  else if !w.hasPath b ∨ w.root.lost ∨ !w.root.running then w.bayFails b 0 0
  else if (w.domain b).faulted then w.bayFails b 0 0x93
  else if !t.pgOk ∧ (w.domain b).st ≠ .on then (w.startFault b).bayFails b t.ms 0x93
  else
    let w := w.startDomain b
    if t.timedOut ∨ 10000 < t.ms then (w.pullLow b .off).bayFails b t.ms 0
    else
      let w := (w.bayResults b t).installMap
      if b = 8 ∧ w.root.who = 0 ∧ (w.activeSite boardASites).isNone then ((w.loseRoot.keepRegs).pullLow b .off).bayFails b t.ms 0
      else ((w.joinTree.bayReady b).journal step mark 1 t.ms 0).stepEnds t.ms

/-- STARTUP_COMPUTE_BAY (R418). -/
def execStartupComputeBay (b : Nat) (test : BayTest) (s : State) : Host.Outcome State Fault Refusal := run (startBay b test) s

/-! ### Step 6 (R319, R320, R417, R428) -/

/-- What a port's bring-up may find on the alternate path: half width at most (R417). -/
def halvedTest (t : PortTest) : PortTest := if t.peerHalf then t else { t with lanes := t.lanes.take 8 }

/-- STARTUP_PORT_EDGE: a port-edge domain on, its ports trained, tested and their peers checked (R319, R417, R428). A cabled
port that is not up has failed. The four domains come up together: the step of each begins with the first, and the start goes on by
the longest of them. -/
def startEdge (e : Nat) (tests : List PortTest) (w : Work) : Work :=
  let step := 0x600 + e
  let mark := w.boot.markOf step
  let ks := edgePorts (32 + e)
  let fail := fun (w : Work) (l : List Nat) =>
    ({ w with boot := { w.boot with failedPorts := w.boot.failedPorts ++ l.filter (fun k => !w.boot.failedPorts.contains k) } } : Work).readyChanged
  let ends := fun (w : Work) (outcome ms status : Nat) =>
    let before := w.boot.edgeMs
    let w : Work := { w with boot := { w.boot.record (w.bootNow - before) step mark outcome ms status with edgeMs := max before ms } }
    w.stepEnds (ms - before)
  if 4 ≤ e ∨ !w.due step then w
  else if mark = 2 then ends (fail w ks) 3 0 0
  else if (w.domain (32 + e)).faulted then ends (fail w ks) 2 0 0x93
  else
    let ms := tests.foldl (fun n t => max n t.ms) 0
    let w := w.startDomain (32 + e)
    let w := (tests.filter (fun t => ks.contains t.port)).foldl (fun w t =>
      w.bringUpPort t.port (if mark = 1 then halvedTest t else t)) w
    let down := ks.filter (fun k => w.peerRole k != 0 && !w.portUp k)
    ends (fail w down).joinLeaves (if down = [] ∧ ms ≤ 30000 then 1 else 2) ms 0

/-- STARTUP_PORT_EDGE (R417). -/
def execStartupPortEdge (edge : Nat) (tests : List PortTest) (s : State) : Host.Outcome State Fault Refusal := run (startEdge edge tests) s

/-! ### Marks, heartbeat and takeover (R414, R415, R421) -/

/-- CLEAR_MARK: the marks of a step, or of all for 0xFFFF, are cleared at the next start (R421, 0x1800.04). -/
def clearMark (step : Nat) (w : Work) : Work :=
  ({ w with boot := { w.boot with clearMark := w.boot.clearMark.filter (· != step) ++ [step] } } : Work).accept

/-- CLEAR_MARK (R421). -/
def execClearMark (step : Nat) (s : State) : Host.Outcome State Fault Refusal := run (clearMark step) s

/-- SIDEBOARD_HEARTBEAT_SEND: A's heartbeat to B, 10 ms after the last (R414). -/
def heartbeat (w : Work) : Work :=
  if w.boot.lead = 0 ∧ 0 < w.boot.done then
    let w := w.reach (w.boot.beatAt + 10000000)
    { w with boot := { w.boot with beatAt := w.now } }
  else w

/-- SIDEBOARD_HEARTBEAT_SEND (R414). -/
def execSideboardHeartbeatSend (s : State) : Host.Outcome State Fault Refusal := run heartbeat s

/-- SIDEBOARD_TAKEOVER: B, which stands by, takes the lead of a panel that A leads: cause 0 the ROM self-test, 1 firmware, 2
100 ms without a heartbeat (R414, R415). Requests in flight are answered 0x7C (R360). -/
def takeover (cause : Nat) (w : Work) : Work :=
  if w.boot.lead ≠ 0 ∨ !w.standsBy then w
  else
    let w := if cause = 2 then w.reach (w.boot.beatAt + 100000000) else w
    w.takeLead cause

/-- SIDEBOARD_TAKEOVER (R415). -/
def execSideboardTakeover (cause : Nat) (s : State) : Host.Outcome State Fault Refusal := run (takeover cause) s

end Sys2Proof.Machine
end

