-- ==== Sys2Proof/Machine/Reads.lean ====
section
/-! DEFINITION. What every object of the dictionary reads as: scalars and bytes that the panel's state gives, by the object
tables of all chapters (R135, R225, R243, R351, R353, R422, R427, R444 to R447). -/

namespace Sys2Proof.Machine

/-! ### Small parts -/

/-- A measured value that no command hands in: a free value of its own (assumption 49). -/
def measured (i : Nat) : Nat := Config.freeValue (2 ^ 70 + i)

/-- Numbers as bytes, `n` each. -/
def bytesOf (n : Nat) (l : List Nat) : List Byte := l.flatMap (fun x => toBytes x n)

/-- How many numbers below `n` satisfy `p`. -/
def howMany (n : Nat) (p : Nat → Bool) : Nat := ((List.range n).filter p).length

/-- Ordering code of a variant (R1). -/
def orderingCode (v : Nat) : String :=
  if v = 1 then "VW-P320-4T" else if v = 2 then "VW-P384-2T" else if v = 3 then "VW-P384-4T-O" else "VW-P384-4T"

/-- Name of a bay: W0 to W7, E0 to E7 (0x3000+b.01). -/
def bayName (b : Nat) : List Byte := [if b < 8 then 0x57 else 0x45, BitVec.ofNat 8 (0x30 + b % 8)]

/-- State of a port (0x4800+k.01). -/
def PortSt.code : PortSt → Nat
  | .down => 0
  | .training => 1
  | .up => 2
  | .half => 3
  | .miswired => 4
  | .unqualified => 5
  | .failed => 6
  | .fused => 7
  | .defective => 8
  | .testing => 9

/-- State of an array (R135). -/
def ArraySt.code : ArraySt → Nat
  | .empty => 0
  | .loading => 1
  | .opening => 2
  | .ready => 3
  | .run => 4
  | .drain => 5
  | .held => 6

/-- State of a set (0x7001+s.01), and of a generation, numbered in the order of R270 (assumption 50). -/
def SetSt.code : SetSt → Nat
  | .free => 0
  | .defined => 1
  | .ready => 2
  | .training => 3
def GenSt.code : GenSt → Nat
  | .free => 0
  | .building => 1
  | .live => 2
  | .current => 3
  | .retiring => 4

/-- The 16 bytes of an array state record (R135). -/
def Arr.stateRecord (x : Arr) : List Byte :=
  toBytes x.imageId 4 ++ toBytes x.graphId 4 ++
    toBytes (x.epoch % 4 + 4 * x.st.code + 2 ^ 8 * (min x.stale 65535) + 2 ^ 24 * (min x.discarded 65535) + 2 ^ 40 * (min x.spills 255) +
      2 ^ 48 * (min x.suspicions 255) + 2 ^ 56 * (x.lastStatus % 256)) 8

/-- The 16 bytes of a generation record (R270). -/
def Gen.bytes (g : Gen) (slot : Nat) : List Byte :=
  toBytes g.number 2 ++ toBytes g.st.code 1 ++ toBytes slot 1 ++ toBytes g.pins 4 ++ toBytes g.created 8

/-- The 32 bytes of an event record (R444). -/
def Event.bytes (e : Event) : List Byte :=
  toBytes e.time 8 ++ toBytes e.seq 4 ++ toBytes e.cls 1 ++ toBytes e.flags 1 ++ toBytes e.code 2 ++
    toBytes (e.kind % 256 + 256 * e.number) 4 ++ toBytes e.repeats 4 ++ toBytes e.detail 8

/-- The 16 bytes of a journal record (R420). -/
def JRec.bytes (r : JRec) : List Byte :=
  let b := toBytes r.step 2 ++ toBytes r.path 1 ++ toBytes r.outcome 1 ++ toBytes r.startMs 4 ++ toBytes r.durationMs 2 ++ toBytes r.status 2
  b ++ toBytes (crc32c b) 4

/-- The 12 bytes of a firmware slot's record (0x8000.04). -/
def Work.slotBytes (w : Work) (n : Nat) : List Byte :=
  let x : FwSlot := tget {} w.boot.slots n
  toBytes x.version 4 ++ toBytes x.security 2 ++ toBytes x.st 1 ++ toBytes (ofBool (n % 2 == w.boot.activeSlot)) 1 ++ toBytes 0 4

/-- A key slot's key, and the digest of it (R432). -/
def Work.keyOf (w : Work) (i : Nat) : Option (List Byte) := (w.boot.keys.find? (fun e => e.1 == i)).map (·.2)
def Work.keyDigest (w : Work) (i : Nat) : List Byte :=
  match w.keyOf i with
  | some k => padTo 32 (Config.shake256 k 32)
  | none => List.replicate 32 0
def Work.keyDigests (w : Work) : List Byte := (List.range 8).flatMap w.keyDigest

/-- The panel's ML-KEM keys of this start: 0 for sessions (0x1200.07), 1 for wrapped keys (0x7000.05) (R431). -/
def Work.kemKey (w : Work) (i : Nat) : List Byte := padTo 1568 (Config.kemPublicKey i w.boot.starts)

/-- The link-local address with the modified EUI-64 of the MAC address (R362). -/
def linkLocal (m : List Byte) : List Byte :=
  [0xFE, 0x80, 0, 0, 0, 0, 0, 0, m.getD 0 0 ^^^ 2, m.getD 1 0, m.getD 2 0, 0xFF, 0xFE, m.getD 3 0, m.getD 4 0, m.getD 5 0]

/-! ### Maps (R39, 0x2100, 0x3000, 0x3100) -/

def Work.logicalMap (w : Work) : List Byte := bytesOf 2 ((List.range w.numDies).map (fun d => (w.siteOf d).getD 0xFFFF))
def Work.siteStates (w : Work) : List Byte := bytesOf 1 ((List.range 416).map w.siteState)
def Work.siteLinks (w : Work) (n : Nat) : List Byte := bytesOf 1 ((List.range 8).map (w.linkCode n))
def Work.linkStates (w : Work) : List Byte := (List.range 416).flatMap w.siteLinks

/-- Logical index of each physical array of a site (0x3100+n.08). -/
def Work.logicalArrays (w : Work) (n : Nat) : List Byte :=
  bytesOf 1 ((List.range 20).map (fun a => ((w.siteMap.logicalArray.find? (fun e => e.1 == n * 20 + a)).map (·.2)).getD 0xFF))

/-- The marks of a site's arrays, and their clean checks (0x3100+n.14, .17). -/
def Work.arrayMarks (w : Work) (n : Nat) : List Byte :=
  bytesOf 1 ((List.range 20).map (fun a =>
    let m : Mark := tget {} w.marks (n * 20 + a)
    ofBool m.suspect + 2 * ofBool m.retire + 4 * min m.failures 3 + 16 * (m.pattern % 16)))
def Work.cleanChecks (w : Work) (n : Nat) : List Byte :=
  bytesOf 1 ((List.range 20).map (fun a => min (tget {} w.marks (n * 20 + a) : Mark).clean 64))

/-- The last report produced: that of the last attestation once it has ended (R433). -/
def Work.lastReport (w : Work) : List Byte := if w.now < w.boot.attestUntil then w.boot.report else w.boot.attested

/-- A reading as an I16; 0x8000 unread (0x6400.02). -/
def readingBytes (r : Option Int) : List Byte :=
  match r with
  | some x => toBytes (unsigned 16 x) 2
  | none => toBytes 0x8000 2

/-- Sites of a bay that are in a state. -/
def Work.baySites (w : Work) (b code : Nat) : Nat := howMany 416 (fun n => bayOfSite n == b && w.siteState n == code)

/-! ### Sensors (0x6400) -/

/-- The flags of a sensor: disagreeing, suspect, lone, group empty. -/
def Work.sensorFlags (w : Work) (stack : Bool) (n : Nat) : Nat :=
  let x := w.sensor stack n
  let left := ((groupOfSensor stack n).filter (fun m => !(w.sensor stack m).suspect)).length
  ofBool x.disagree + 2 * ofBool x.suspect + 4 * ofBool (left == 1 && !x.suspect) + 8 * ofBool (left == 0)

/-- The largest group slope (0x6400.0C), in 1/16 °C per second; 0 with none. -/
def Work.slopeMax (w : Work) : Int :=
  ((w.sensors ++ w.stackSensors).map (fun e => e.2.slope)).foldl max 0

/-! ### Time and clocks (0x9000) -/

/-- The greatest depth in force, leaves included, as the tree object shows it (R375, R382, R386; assumption 51). -/
def Work.treeDepth (w : Work) : Nat :=
  ((w.root.shown.filter (fun e => (w.die e.1).clock.running)).map (fun e => e.2.depth)).foldl max 0

/-- The tree entry of a die (0x9000.0C). -/
def Work.treeBytes (w : Work) (d : Nat) : List Byte :=
  match w.root.shown.find? (fun e => e.1 == d) with
  | some e => if (w.die d).clock.running then toBytes e.2.parent 2 ++ toBytes e.2.depth 1 ++ toBytes e.2.dir 1 else toBytes 0xFFFF 2 ++ [0, 0]
  | none => toBytes 0xFFFF 2 ++ [0, 0]

/-- The clocks of a die (0x9000.0F): arrays' lowest and mean, die store, router. -/
def Work.clockBytes (w : Work) (d : Nat) : List Byte :=
  let rs := w.regionsOf d
  let arrs := (rs.filter (fun r => decide (r % 22 < 20))).map (fun r => (w.region r).mean)
  let one := fun (i : Nat) => ((rs.filter (fun r => r % 22 == i)).map (fun r => (w.region r).mean)).headD 0
  bytesOf 2 [match arrs with
    | [] => 0
    | x :: l => l.foldl min x, if arrs.isEmpty then 0 else arrs.foldl (· + ·) 0 / arrs.length, one 20, one 21]

/-- The largest correction of a die in the last second (0x9000.0D). -/
def Work.worstOf (w : Work) (d : Nat) : Nat :=
  let c := (w.die d).clock
  if w.now < c.worstAt + 1000000000 then c.worst else 0

/-- What the qualification of link l has found: of a link that no test of its bay names, neither spare nor error, at the time at which
the second of its bays was qualified, with an eye and a temperature that no command has brought, the eye one that passes (R425, R427;
assumption 49). A link that no start has qualified reads 0. -/
def Work.linkResult (w : Work) (l : Nat) : LinkResult :=
  match w.linkResults.find? (fun e => e.1 == l) with
  | some e => e.2
  | none =>
    let bays := (l / 8 :: (linkEnd (l / 8) (l % 8)).toList).map bayOfSite
    if linkExists (l / 8) (l % 8) && bays.all (thas w.boot.qualified) then
      ⟨0, 0, 0, 0, 20 + measured (4 * l) % 45, 40 + measured (4 * l + 1) % 216, measured (4 * l + 2) % 256,
        (bays.map (tget 0 w.boot.qualified)).foldl max 0⟩
    else ⟨0, 0, 0, 0, 0, 0, 0, 0⟩

/-! ### Edge (0x4800, 0x4810) -/

/-- Attach links of a port that are usable (0x4800+k.0D). -/
def Work.attachMask (w : Work) (k : Nat) : Nat :=
  ofBool (w.attachUsable (portSites k).1 7) + 2 * ofBool (w.attachUsable (portSites k).2 7)

/-- The payload limit of a port in force: half width, or its usable attach sites (R28, R29, R320). The 409.6 GB/s of one
site reads 409, the object being whole GB/s (DESIGN CHOICE, assumption 84). -/
def Work.portLimit (w : Work) (k : Nat) : Nat :=
  min (if (w.port k).st = .half then 400 else 800) (if w.attachMask k = 3 then 800 else if w.attachMask k = 0 then 0 else 409)

/-- Ports up of each group, in the order of R325 (0x4810.09). -/
def Work.groupsUp (w : Work) : List Byte :=
  (List.range w.groupCount).map (fun g => BitVec.ofNat 8 ((groupPorts w.topo w.altForm g).filter w.portUp).length)

/-! ### The event log (0xA000) -/

/-- The first-failure record: the FATAL record, those before it, the registers (R447; assumption 45). -/
def Log.failureBytes (l : Log) : List Byte :=
  if !l.firstFailed then []
  else
    let rs := l.firstFailure
    padTo 65536 ((rs.drop (rs.length - 1) ++ rs.take (rs.length - 1)).flatMap Event.bytes ++ l.firstRegs)

/-! ### BLOBs and STRs -/

/-- Bytes of an object of the index range 0x1000 to 0x2FFF; none for one held as it was written. -/
def Work.lowBlob (w : Work) (i sub : Nat) : Option (List Byte) :=
  match i, sub with
  | 0x1000, 1 => some (ascii "Unholt Devices")
  | 0x1000, 2 => some (ascii "Cerivies")
  | 0x1000, 3 => some (ascii (orderingCode w.fuses.variant))
  | 0x1000, 4 => some (factory 3 16)
  | 0x1000, 5 => some (factory 1 1793)
  | 0x1000, 6 => some (Config.factoryBytes 2)
  | 0x1100, 6 => some (toBytes (w.readyMap 6) 6)
  | 0x1200, 5 => some (factory 4 6)
  | 0x1200, 6 => some (linkLocal (factory 4 6))
  | 0x1200, 7 => some (w.kemKey 0)
  | 0x1200, 0x10 => some (padTo 128 (w.blob i sub))
  | 0x1200, 0x11 => some (if thas w.blobs (key i sub) then w.blob i sub else (List.range 16).map (BitVec.ofNat 8))
  | 0x1800, 2 => some ((w.boot.runs.take 8).flatMap (fun run => run.flatMap JRec.bytes))
  | 0x1800, 3 => some (w.boot.marks.flatMap (fun e => toBytes e.1 2 ++ toBytes e.2 1 ++ [0]))
  | 0x2100, 0x0A => some w.logicalMap
  | 0x2100, 0x0B => some w.siteStates
  | 0x2100, 0x0C => some w.linkStates
  | 0x2101, 2 => some (w.defects.flatMap Defect.bytes)
  | 0x2400, 0x0D => some (padTo 16384 (w.blob i sub))
  | 0x2400, 0x0E => some (bytesOf 4 ((List.range 4096).map (tget 0 w.job.completions)))
  | 0x2400, 0x13 => some w.job.firstAbort
  | 0x2400, 0x14 =>
    let sum := fun (f : Arr → Nat) => (w.arrays.map (fun e => f e.2)).foldl (· + ·) 0
    some (toBytes (sum (·.stale)) 8 ++ toBytes (sum (·.discarded)) 8 ++ toBytes (sum (·.spills)) 4 ++ toBytes (sum (·.suspicions)) 4 ++
      toBytes w.job.notRun 8)
  | 0x2401, 4 => some (w.lists.flatMap (fun e =>
      toBytes e.1 2 ++ toBytes e.2.holder 2 ++ toBytes e.2.slots 4 ++ toBytes e.2.ring 8 ++ toBytes e.2.status 8 ++ toBytes e.2.taken 4 ++
        toBytes 0 4))
  | 0x2800, 7 => some (w.registry.flatMap (fun x =>
      toBytes x.id 4 ++ toBytes x.graph 4 ++ toBytes x.address 8 ++ toBytes x.length 4 ++ toBytes x.epoch 1 ++ toBytes x.templates 1 ++
        toBytes x.channels 1 ++ [0] ++ toBytes x.loads 4 ++ toBytes 0 4))
  | 0x2801, 1 => some ((List.range (16 * w.numDies)).flatMap (fun a => (w.arr a).stateRecord))
  | _, _ => none

/-- Bytes of an object of the index range 0x3000 to 0x5FFF. -/
def Work.midBlob (w : Work) (i sub : Nat) : Option (List Byte) :=
  if 0x3000 ≤ i ∧ i < 0x3010 then (if sub = 1 then some (bayName (i - 0x3000)) else none)
  else if 0x3100 ≤ i ∧ i < 0x32A0 then
    let n := i - 0x3100
    match sub with
    | 7 => some (bytesOf 1 ((List.range 20).map (w.arrayCode n)))
    | 8 => some (w.logicalArrays n)
    | 0x10 => some ((List.range 4).flatMap (fun j => readingBytes (w.sensor false (4 * n + j)).reading))
    | 0x14 => some (w.arrayMarks n)
    | 0x17 => some (w.cleanChecks n)
    | _ => none
  else if i = 0x4000 then
    match sub with
    | 2 => some ((List.range w.numDies).flatMap (fun d => bytesOf 2 ((List.range w.numDies).map (w.route d))))
    | 8 => some (bytesOf 4 ((List.range 3328).map (fun l => satAdd 32 (w.link (2 * l)).replays (w.link (2 * l + 1)).replays)))
    | _ => none
  else if i = 0x4100 then
    if sub = 4 then some (padTo (288 * w.numDies) (w.blob i sub)) else if sub = 5 then some (w.blob i sub) else none
  else if 0x4800 ≤ i ∧ i < 0x4810 then
    let k := i - 0x4800
    if sub = 5 then some (toBytes (w.peerRole k) 1 ++ toBytes (w.peerPort k) 1 ++ toBytes (w.peerPanel k) 2)
    else if sub = 0x11 then some (padTo 18 (w.blob i sub)) else none
  else if i = 0x4810 then
    if sub = 7 then some (bytesOf 1 ((List.range 3).map (fun j => if j < max 1 w.topoDims then w.coord w.panelId j else 0)))
    else if sub = 9 then some w.groupsUp else none
  else if i = 0x4900 then
    if sub = 3 then some (padTo 16 (w.blob i sub))
    else if sub = 4 then some (padTo 16 (bytesOf 4 w.hinge.twinTags)) else none
  else if 0x5000 ≤ i ∧ i < 0x5010 then
    let h := w.hutch (i - 0x5000)
    if sub = 7 then some (bytesOf 1 ((List.range 8).map (tget 0 h.stackStates))) else if sub = 0x11 then some (bytesOf 8 h.poison) else none
  else if i = 0x5800 then
    if sub = 2 then some ((List.range 417).flatMap (fun u =>
      let r := w.checkRecord u (decide (384 ≤ u) || w.diePresent u)
      if 384 ≤ u then lmod r 1 (fun _ => BitVec.ofNat 8 (ofBool (w.feeding u))) else r))
    else if sub = 3 then some (padTo 384 (w.blob i sub)) else none
  else none

/-- Bytes of an object of the index range 0x6000 and up. -/
def Work.highBlob (w : Work) (i sub : Nat) : Option (List Byte) :=
  if 0x6000 ≤ i ∧ i < 0x6026 then
    let d := i - 0x6000
    let n := (railRatings d).length
    if sub = 0x0A then some ((List.range n).flatMap (fun j =>
      let r : Rail := tget {} (w.domain d).rails j
      toBytes r.setMv 2 ++ toBytes r.mV 2 ++ toBytes (f32Of r.mA 1000) 4 ++ toBytes (unsigned 16 r.temp) 2 ++ toBytes r.status 2 ++ toBytes 0 4))
    else if sub = 0x0B then some (padTo (4 * n) (w.blob i sub)) else none
  else if i = 0x6400 then
    match sub with
    | 2 => some ((List.range 1846).flatMap (fun n => readingBytes (w.sensor false n).reading))
    | 3 => some ((List.range 1024).map (fun n => match (w.sensor true n).reading with
        | some r => BitVec.ofInt 8 r
        | none => 0xFF))
    | 4 => some (((List.range 1846).map (fun n => BitVec.ofNat 8 (w.sensorFlags false n))) ++
        (List.range 1024).map (fun n => BitVec.ofNat 8 (w.sensorFlags true n)))
    | 7 => some w.hottestJunctionBytes
    | 8 => some w.hottestStackBytes
    | _ => none
  else if i = 0x7000 then
    if sub = 5 then some (w.kemKey 1) else if sub = 6 then some (padTo 16 (w.blob i sub)) else none
  else if 0x7001 ≤ i ∧ i < 0x7041 then
    let x := w.wset (i - 0x7001)
    match sub with
    | 7 => some ((List.range 4).flatMap (fun j => (tget {} x.gens j : Gen).bytes j))
    | 0x12 => some (match x.ingest with
        | some g => bytesOf 4 [g.done, g.failed, g.firstFailed, if g.running then 0xFF else g.status]
        | none => List.replicate 16 0)
    | 0x14 => some (padTo 48 (w.blob i sub))
    | _ => none
  else if i = 0x7800 then
    match sub with
    | 4 => some (w.lates.flatMap (fun x => toBytes x.panel 2 ++ [0, 0] ++ toBytes x.history.toNat 8))
    | 5 => some (bytesOf 2 w.suspects)
    | 0x0D => some (match w.hinge.twinCopy with
        | some (step, half) => toBytes step 4 ++ toBytes half 1 ++ [1, 0, 0]
        | none => List.replicate 8 0)
    | _ => none
  else if i = 0x8000 then
    match sub with
    | 2 => some (factory 0 32)
    | 4 => some ((List.range 4).flatMap w.slotBytes)
    | 0x0A => some w.keyDigests
    | 0x0C => some w.lastReport
    | _ => none
  else if i = 0x9000 then
    match sub with
    | 0x0C => some ((List.range w.numDies).flatMap w.treeBytes)
    | 0x0D => some (bytesOf 1 ((List.range w.numDies).map w.worstOf))
    | 0x0F => some ((List.range w.numDies).flatMap w.clockBytes)
    | 0x10 => some (bytesOf 2 ((List.range 64).map (fun q =>
        if w.regionRuns (quadrantRegion (q / 4) (q % 4)) then (w.region (quadrantRegion (q / 4) (q % 4))).mean else 0)))
    | 0x11 => some ((List.range w.numDies).flatMap w.marginBytes)
    | _ => none
  else if i = 0xA000 then
    match sub with
    | 1 => some (w.log.records.flatMap Event.bytes)
    | 2 => some (bytesOf 4 ((List.range 5).map (tget 0 w.log.counts)))
    | 3 => some (bytesOf 4 ((List.range 5).map (tget 0 w.log.drops)))
    | 5 => some (toBytes (ofBool w.log.incident) 4 ++ toBytes w.log.head 4 ++ toBytes w.log.tail 4 ++ toBytes 0 4 ++ toBytes w.log.openedAt 8)
    | 6 => some w.log.failureBytes
    | _ => none
  else if i = 0xB000 then
    match sub with
    | 1 => some ((List.range 3328).flatMap (fun l =>
        let x := w.linkResult l
        toBytes (w.linkCode (l / 8) (l % 8)) 1 ++ toBytes x.spares 1 ++ toBytes x.stitch 1 ++ [0] ++ toBytes x.errors 4 ++
          toBytes x.eyeUi 1 ++ toBytes x.eyeMv 1 ++ toBytes x.temp 1 ++ [0] ++ toBytes x.ms 4))
    | 2 => some ((List.range 3328).flatMap (fun l => toBytes (w.linkResult l).stitchErrors 4))
    | 3 => some ((List.range 16).flatMap (fun k =>
        let x := w.port k
        toBytes x.passed 2 ++ toBytes x.bitErrors 8 ++ toBytes x.worst 1 ++ [0] ++ toBytes x.rate 4 ++ toBytes x.st.code 1 ++
          List.replicate 15 0))
    | _ => none
  else none

/-- Bytes of a STR or BLOB as it now reads. -/
def Work.bytesAt (w : Work) (i sub : Nat) : List Byte :=
  ((if i < 0x3000 then w.lowBlob i sub else if i < 0x6000 then w.midBlob i sub else w.highBlob i sub)).getD (w.blob i sub)

/-! ### Scalars -/

/-- A scalar of the index range 0x1000 to 0x2FFF; none for one held in a register. -/
def Work.lowScalar (w : Work) (i sub : Nat) : Option Nat :=
  match i, sub with
  | 0x1000, 7 => some (howMany 416 (fun n => !w.fuses.sites.contains n))
  | 0x1000, 8 => some (howMany 8320 (fun f => !w.fuses.sites.contains (f / 20) && !w.fuses.arrays.contains f))
  | 0x1000, 9 => some (if w.fuses.variant = 2 then 2 ^ 34 else 2 ^ 35)
  | 0x1000, 0x0A => some (ofBool (w.fuses.variant == 3))
  | 0x1000, 0x0B => some (match w.boot.runningSlot with
      | some n => (tget {} w.boot.slots n : FwSlot).version
      | none => 0)
  | 0x1100, 0 => none
  | 0x1100, sub => some (w.readyMap sub)
  | 0x1200, 1 => some (if w.boot.lead = 2 ∨ w.boot.done = 0 then 0 else if w.boot.nodeId = 0 then 2 else 1)
  | 0x1200, 2 => some w.boot.nodeId
  | 0x1200, 8 => some w.sessions.length
  | 0x1200, 0x0C => some w.cxl.st
  | 0x1200, 0x0D => some w.cxl.width
  | 0x1200, 0x0E => some w.cxl.rate
  | 0x1800, 1 => some w.boot.starts
  | 0x2100, 2 => some (howMany 416 (fun n => w.siteState n == 0))
  | 0x2100, 3 => some (howMany 416 (fun n => w.siteState n == 1))
  | 0x2100, 4 => some (howMany 416 (fun n => w.siteState n == 2))
  | 0x2100, 5 => some (howMany 416 (fun n => w.siteState n == 3))
  | 0x2100, 6 => some (howMany w.numDies (fun d => (w.siteOf d).isNone))
  | 0x2100, 7 => some w.cols
  | 0x2101, 1 => some w.defects.length
  | 0x2400, 1 => some w.job.st.code
  | 0x2401, 1 => some w.lists.length
  | 0x2800, 1 => some w.registry.length
  | _, _ => none

/-- The estimate of a site's core current in the last sample of its bay's guard, as an F32 in A; 0 before the first (R396; assumption
49). -/
def Work.coreCurrent (w : Work) (n : Nat) : Nat :=
  let s := (w.domain (bayOfSite n)).sample
  if s = 0 then 0 else f32Of (Int.ofNat (Config.dieCurrent n s)) 1000

/-- A scalar of the index range 0x3000 to 0x5FFF. -/
def Work.midScalar (w : Work) (i sub : Nat) : Option Nat :=
  if 0x3000 ≤ i ∧ i < 0x3010 then
    let b := i - 0x3000
    match sub with
    | 2 => some (2 * (b % 8))
    | 3 => some (w.baySites b 0)
    | 4 => some (w.baySites b 1)
    | 5 => some (w.hutchAttach b)
    | _ => none
  else if 0x3100 ≤ i ∧ i < 0x32A0 then
    let n := i - 0x3100
    match sub with
    | 1 => some (n % 26)
    | 2 => some (n / 26)
    | 3 => some (w.siteState n)
    | 4 => some (match w.dieAt n with
        | some d => w.colOf d
        | none => 0xFF)
    | 5 => some (match w.dieAt n with
        | some d => w.rowOf d
        | none => 0xFF)
    | 6 => some (bayOfSite n)
    | 9 => some (ofBytes (w.siteLinks n))
    | 0x0A => some (attachByte n)
    | 0x0B => some (((List.range 8).map (fun c => ofBool (stitched n c) * 2 ^ c)).foldl (· + ·) 0)
    | 0x0C => some (w.defects.filter (fun r => decide (r.kind ≤ 3) && r.site == n)).length
    | 0x11 => some (((List.range 22).map (fun a => w.capOf (22 * n + a))).foldl min 1050)
    | 0x12 => some (w.dutyOf n)
    | 0x13 => some (w.coreCurrent n)
    | _ => none
  else if i = 0x4000 ∧ sub = 3 then some w.unreachablePairs
  else if 0x4800 ≤ i ∧ i < 0x4810 then
    let k := i - 0x4800
    match sub with
    | 1 => some (w.portSt k).code
    | 6 => some (w.port k).lanes
    | 7 => some (w.portLimit k)
    | 0x0D => some (w.attachMask k)
    | _ => none
  else if i = 0x4810 ∧ sub = 8 then some w.unreachablePanels
  else if 0x5000 ≤ i ∧ i < 0x5010 then
    let b := i - 0x5000
    match sub with
    | 3 => some (w.scratchBytes b / 2 ^ 20)
    | 4 => some ((((w.hutch b).reserves.map (·.bytes)).foldl (· + ·) 0 + 2 ^ 20 - 1) / 2 ^ 20)
    | 6 => some (w.dramBytes b)
    | 0x10 => some (w.hutch b).poison.length
    | _ => none
  else none

/-- A scalar of the index range 0x6000 and up. -/
def Work.highScalar (w : Work) (i sub : Nat) : Option Nat :=
  if 0x6000 ≤ i ∧ i < 0x6026 then
    let d := i - 0x6000
    match sub with
    | 1 => some (domainKind d)
    | 2 => some (w.domCode d)
    | 5 => some (f32Of (w.domain d).power1s 1000)
    | 6 => if thas w.regs (key i 6) then none else some (f32Of (w.budget d) 1)
    | 7 => some (f32Of (w.capInForce d) 1000)
    | 8 => some (f32Of (w.guardNow d) 1000)
    | 9 => some (f32Of (guardSlew d) 1)
    | 0x0D => some (w.recentEnables d).length
    | _ => none
  else if i = 0x6400 then
    if sub = 9 then some w.throttledDies else if sub = 0x0C then some (f32Of w.slopeMax 16) else none
  else if i = 0x6500 then
    match sub with
    | 6 => some (f32Of w.cooling.mean 1000000)
    | 7 => some (f32Of w.cooling.capW 1)
    | 8 => some w.cooling.st
    | 9 => some (ofBool w.coolFailPin)
    | 0x0B => some w.cooling.changedAt
    | 0x0C => some (bitmap 16 ((List.range 16).filter (fun b => (w.domain b).st == .offHeat)))
    | _ => none
  else if i = 0x7000 then
    if sub = 1 then some (w.sets.filter (fun e => e.2.st != .free)).length else none
  else if 0x7001 ≤ i ∧ i < 0x7041 then
    let x := w.wset (i - 0x7001)
    match sub with
    | 1 => some x.st.code
    | 3 => some x.setId
    | 4 => some x.layers.length
    | _ => none
  else if i = 0x7100 then
    if sub = 2 then some (w.adapters.filter (fun e => e.2.st != 0)).length else if sub = 3 then some w.slotTable else none
  else if i = 0x7200 then
    if sub = 4 then some (w.streams.filter (fun e => e.2.st != .free)).length else if sub = 0x0E then some w.streamTable else none
  else if i = 0x8000 then
    if sub = 1 then some (ofBool (!w.boot.keys.isEmpty)) else if sub = 3 then some w.fuses.securityVersion
    else if sub = 0x0D ∧ w.now < w.boot.attestUntil then some 0xFF else none
  else if i = 0x9000 then
    match sub with
    | 1 => some w.now
    | 2 => some w.root.who
    | 3 => some w.root.refclk
    | 4 => some w.root.pps
    | 6 => some (unsigned 32 w.root.rate)
    | 0x0B => some w.treeDepth
    | _ => none
  else none

/-- A scalar as it now reads. -/
def Work.scalarAt (w : Work) (i sub : Nat) : Nat :=
  ((if i < 0x3000 then w.lowScalar i sub else if i < 0x6000 then w.midScalar i sub else w.highScalar i sub)).getD (w.reg i sub)

/-- An object's bytes as it now reads, of whatever type. -/
def Work.objectBytes (w : Work) (o : Obj) (i sub : Nat) : List Byte :=
  if typeSize o.type = 0 then w.bytesAt i sub else toBytes (w.scalarAt i sub) (typeSize o.type)

end Sys2Proof.Machine
end

