-- ==== Sys2Proof/Machine/Security.lean ====
section
/-! DEFINITION. Firmware updates, the anti-rollback count, key slots, attestation, and the commands of the event log (R429 to
R433, R446 to R448). -/

namespace Sys2Proof.Machine

/-- Status of the last security command (0x8000.0D). -/
def Work.tellSecurity (w : Work) (status : Nat) : Work := w.setReg 0x8000 0x0D status

/-! ### Firmware (R429, R430) -/

/-- The slot number, within a flash die, that does not run: updates go there in both dies (R430). -/
def Work.spareSlot (w : Work) : Nat := 1 - w.boot.activeSlot

/-- The inactive slot of both flash dies changed, A's first. -/
def Work.modSpare (w : Work) (f : FwSlot → FwSlot) : Work :=
  let n := w.spareSlot
  { w with boot := { w.boot with slots := tmod {} (tmod {} w.boot.slots n f) (2 + n) f } }

/-- What verification makes of a slot that has been written (R429, R430). -/
def Work.verifySpare (w : Work) : Work :=
  let image := (tget {} w.boot.slots w.spareSlot : FwSlot).image
  let version := leAt image 4 4
  let security := leAt image 8 2
  let status := if !imageGood image then 0x80 else if security < w.fuses.securityVersion then 0x81 else 0
  (w.modSpare (fun x => { x with version := version, security := security, st := if status = 0 then 3 else 2 })).tellSecurity status

/-- FIRMWARE_WRITE: a segment, at the offset that the write has reached; offset 0 begins a write. The last segment brings the
verification (R355, R430). -/
def firmwareWrite (offset : Nat) (data : List Byte) (more : Bool) (w : Work) : Work :=
  let at_ : Nat := match w.boot.writing with
    | some (n, t) => if w.now ≤ t + 1000000000 then n else 0
    | none => 0
  if offset ≠ 0 ∧ offset ≠ at_ then w.refuse 0x7B
  else
    let now := w.now
    let w := w.modSpare (fun x => if offset = 0 then { image := data } else { x with image := x.image ++ data })
    if more then
      ({ w with boot := { w.boot with writing := some (offset + data.length, now) } } : Work).accept
    else ({ w with boot := { w.boot with writing := none } } : Work).verifySpare.accept

/-- FIRMWARE_WRITE (R430). -/
def execFirmwareWrite (offset : Nat) (data : List Byte) (more : Bool) (s : State) : Host.Outcome State Fault Refusal :=
  run (firmwareWrite offset data more) s

/-- FIRMWARE_WRITE_ABANDON: 1 s has passed without a segment: the slot reads empty (R430). -/
def firmwareAbandon (w : Work) : Work :=
  match w.boot.writing with
  | some (_, t) =>
    let w := (w.reach (t + 1000000000)).modSpare (fun _ => {})
    { w with boot := { w.boot with writing := none } }
  | none => w

/-- FIRMWARE_WRITE_ABANDON (R430). -/
def execFirmwareWriteAbandon (s : State) : Host.Outcome State Fault Refusal := run firmwareAbandon s

/-- ACTIVATE: the slot for the next start (R430). -/
def activate (slot : Nat) (w : Work) : Work :=
  if 1 < slot then w.refuse 0x73
  else (({ w with boot := { w.boot with nextSlot := slot } } : Work).tellSecurity 0).accept

/-- ACTIVATE (R430). -/
def execActivate (slot : Nat) (s : State) : Host.Outcome State Fault Refusal := run (activate slot) s

/-- SecurityVersion of the running image; none when no image was verified. -/
def Work.runningSecurity (w : Work) : Option Nat := w.boot.runningSlot.map (fun n => (tget {} w.boot.slots n : FwSlot).security)

/-- A commit to this version burns fuses: it is the running image's, and above the fused count (R430). -/
def Work.mayCommit (w : Work) (version : Nat) : Bool :=
  w.runningSecurity == some version && decide (w.fuses.securityVersion < version)

/-- COMMIT_VERSION: the fused count is to rise to the version; 0x81 where that would change nothing or the image was not
verified (R430). -/
def commitVersion (version : Nat) (w : Work) : Work :=
  if w.mayCommit version then ((({ w with boot := { w.boot with burn := some version } } : Work)).tellSecurity 0).accept
  else (w.tellSecurity 0x81).accept

/-- A command that may burn fuses: they change in no other way, and the count never falls (R2, R430). -/
def runBurning (f : Work → Work) (s : State) : Host.Outcome State Fault Refusal :=
  let w := f s.work
  match w.boot.burn with
  | none => .next (s.commit w)
  | some v =>
    .next { s.commit { w with boot := { w.boot with burn := none } } with
      fuses := { s.fuses with securityVersion := max s.fuses.securityVersion v } }

/-- COMMIT_VERSION (R430). -/
def execCommitVersion (version : Nat) (s : State) : Host.Outcome State Fault Refusal := runBurning (commitVersion version) s

/-! ### Key slots (R432) -/

/-- The session of a path was opened with the key in slot 0. -/
def Work.ownerSession (w : Work) (p : Path) : Bool :=
  w.sessions.any (fun s => s.id == p.session && decide (s.path = { p with session := 0 }) && s.keySlot == 0)

/-- The lifecycle rules allow a slot to be written on this path: while no slot holds a key, slot 0 through the CXL window;
afterwards a session of slot 0's key (R432). -/
def Work.mayWriteKey (w : Work) (p : Path) (slot : Nat) : Bool :=
  if w.boot.keys.isEmpty then p.cxl && slot == 0 else w.ownerSession p

/-- KEY_SLOT_WRITE: slot, three zero bytes, the key (R432, 0x8000.08). -/
def keySlotWrite (p : Path) (data : List Byte) (w : Work) : Work :=
  let slot := leAt data 0 1
  if data.length ≠ 1572 then w.refuse 0x72
  else if 8 ≤ slot ∨ !allZero (slice data 1 3) then w.refuse 0x73
  else if !w.mayWriteKey p slot then (w.tellSecurity 0x82).accept
  else (({ w with boot := { w.boot with keys := tput w.boot.keys slot (data.drop 4) } } : Work).tellSecurity 0).accept

/-- KEY_SLOT_WRITE (R432). -/
def execKeySlotWrite (path : Path) (data : List Byte) (s : State) : Host.Outcome State Fault Refusal := run (keySlotWrite path data) s

/-- KEY_SLOT_CLEAR: slot 0 is cleared last (R432). -/
def keySlotClear (p : Path) (slot : Nat) (w : Work) : Work :=
  if 8 ≤ slot then w.refuse 0x73
  else if !w.ownerSession p ∨ slot = 0 ∧ w.boot.keys.any (fun e => e.1 != 0) then (w.tellSecurity 0x82).accept
  else (({ w with boot := { w.boot with keys := tdel w.boot.keys slot } } : Work).tellSecurity 0).accept

/-- KEY_SLOT_CLEAR (R432). -/
def execKeySlotClear (path : Path) (slot : Nat) (s : State) : Host.Outcome State Fault Refusal := run (keySlotClear path slot) s

/-! ### Attestation (R433) -/

/-- The running image, as it was written; none of the factory's. -/
def Work.runningImage (w : Work) : List Byte :=
  match w.boot.runningSlot with
  | some n => (tget {} w.boot.slots n : FwSlot).image
  | none => []

/-- The digest of the running image: of the image as written, or the factory's (R433). -/
def Work.firmwareDigest (w : Work) : List Byte :=
  if w.runningImage.isEmpty then factory 6 64 else padTo 64 (Config.shake256 (signedPart w.runningImage) 64)

/-- Digests of the microcode in the running image and of the fuse map, whose bytes the spec does not lay out (R433; assumption
52). -/
def Work.microcodeDigest (w : Work) : List Byte := padTo 64 (Config.shake256 (Config.microcodeOf w.runningImage) 64)
def Fuses.digest (f : Fuses) : List Byte :=
  padTo 64 (Config.shake256 (Config.fuseMap ([f.variant, f.securityVersion, f.sites.length, f.arrays.length, f.links.length] ++
    f.sites ++ f.arrays ++ f.links ++ f.ports)) 64)

/-- DebugState of a report. -/
def Work.debugState (w : Work) : Nat :=
  w.reg 0x7000 4 % 2 + 2 * ofBool (bit (w.reg 0x2400 4) 2) + 4 * ofBool (w.job.st == .retained) + 8 * ofBool w.boot.keys.isEmpty

/-- The signed 512 bytes of a report (R433). -/
def Work.reportBody (w : Work) (nonce : List Byte) : List Byte :=
  toBytes 0x54415756 4 ++ toBytes 1 2 ++ toBytes 0x200 2 ++ padTo 32 nonce ++ toBytes w.now 8 ++ toBytes w.panelId 2 ++
    toBytes (ofBool (w.boot.lead == 1)) 1 ++ toBytes (w.boot.runningSlot.getD 0 % 2) 1 ++ toBytes (w.runningSecurity.getD 0) 2 ++
    toBytes w.fuses.securityVersion 2 ++ toBytes w.debugState 1 ++ List.replicate 7 0 ++ factory 5 64 ++ w.firmwareDigest ++
    w.microcodeDigest ++ w.fuses.digest ++ padTo 64 (Config.shake256 (w.logicalMap ++ w.siteStates ++ w.linkStates) 64) ++
    toBytes (w.reg 0x2100 9) 4 ++ toBytes w.boot.starts 4 ++ List.replicate 8 0 ++
    padTo 32 (Config.shake256 (w.keyDigests ++ w.kemKey 0 ++ w.kemKey 1) 32) ++ List.replicate 80 0

/-- ATTEST: a report over a 32 B nonce, signed with the identity key. It takes up to 50 ms, in which another is refused with
0x84 (R433; assumption 112). -/
def attest (nonce : List Byte) (w : Work) : Work :=
  if nonce.length ≠ 32 then w.refuse 0x72
  else if w.now < w.boot.attestUntil then w.refuse 0x84
  else
    let (fresh, w) := w.draw
    let (ms, w) := w.draw
    let body := w.reportBody nonce
    let sig := (Config.falconSign (Config.shake256 body 64) fresh).take 1280
    let report := body ++ toBytes sig.length 2 ++ padTo 1280 sig
    (({ w with boot := { w.boot with report := w.lastReport, attested := report, attestUntil := w.now + ms % 50000001 } } : Work).tellSecurity 0).accept

/-- ATTEST (R433). -/
def execAttest (data : List Byte) (s : State) : Host.Outcome State Fault Refusal := run (attest data) s

/-! ### The event log (R446 to R448) -/

/-- The last 64 records of an incident become its tail, protected until the next incident opens (R446). -/
def Log.close (l : Log) : Log :=
  let all := l.records.filter (fun e => decide (l.head ≤ e.seq))
  let tail := (all.drop (all.length - 64)).map (·.seq)
  let mark := fun (e : Event) => if tail.contains e.seq then { e with kept := true, flags := e.flags ||| 4 } else e
  { l with ring := l.ring.map mark, overflow := l.overflow.map mark, incident := false, tail := tail.foldl max 0 }

/-- INCIDENT_CLOSE: 10 s have passed without a FATAL or ERROR event (R446). -/
def incidentClose (w : Work) : Work :=
  if w.log.incident then
    let w := w.reach (w.log.lastBad + 10000000000)
    { w with log := w.log.close }
  else w

/-- INCIDENT_CLOSE (R446). -/
def execIncidentClose (s : State) : Host.Outcome State Fault Refusal := run incidentClose s

/-- CLEAR_FIRST_FAILURE (R447). -/
def clearFirstFailure (w : Work) : Work :=
  ({ w with log := { w.log with firstFailure := [], firstFailed := false, firstRegs := [] } } : Work).accept

/-- CLEAR_FIRST_FAILURE (R447). -/
def execClearFirstFailure (s : State) : Host.Outcome State Fault Refusal := run clearFirstFailure s

/-- Alert bits whose condition has ended: those of an instant, and that of supply faults when no domain is in one (R448). -/
def Work.endedAlerts (w : Work) : Nat := 0x11 ||| (if w.domains.any (fun e => e.2.st == .supplyFault) then 0 else 8)

/-- ALERT_ACK: the named bits whose condition has ended are cleared; ALERT_N is released with the last (R448). -/
def alertAck (bits : Nat) (w : Work) : Work :=
  let gone := bits &&& w.endedAlerts
  let left := w.log.alerts ^^^ (w.log.alerts &&& gone)
  (({ w with log := { w.log with alerts := left }, alertPin := left != 0 } : Work).setReg 0xA000 9 left).accept

/-- ALERT_ACK (R448). -/
def execAlertAck (bits : Nat) (s : State) : Host.Outcome State Fault Refusal := run (alertAck bits) s

end Sys2Proof.Machine
end

