-- ==== Sys2Proof/Machine/Dict.lean ====
section
/-! DEFINITION. The dictionary server: who may read and write what, snapshots and staging, descriptions, Domain reads, and
what a write to each object does (R351 to R356, R366). -/

namespace Sys2Proof.Machine

/-! ### Sessions and paths (R356, R365) -/

/-- The dictionary server is in service: a Sideboard leads, and step 1 of start-up has ended (R415, R417, R422). -/
def Work.served (w : Work) : Bool := w.boot.lead != 2 && decide (0 < w.boot.done)

/-- An access over a path reaches the server: in service, and over CXL with the dictionary window live, from step 3 (R341, R422). -/
def Work.serves (w : Work) (p : Path) : Bool := w.served && (!p.cxl || w.cxl.st == 2)

/-- An access over a path has its effect where it reaches the server; before that nothing answers it (R422). -/
def onServer (p : Path) (f : Work → Work) (w : Work) : Work := if w.serves p then f w else w

/-- The session a path names, where it is open on that path. -/
def Work.sessionOf (w : Work) (p : Path) : Option Session :=
  w.sessions.find? (fun s => s.id == p.session && decide (s.path = { p with session := 0 }))

/-- SessionIdleSeconds, in ns. -/
def Work.idleNs (w : Work) : Nat := w.reg 0x1200 9 * 1000000000

/-- The path names no session, or one that is open and has not idled out (R365). -/
def Work.pathOpen (w : Work) (p : Path) : Bool :=
  p.session == 0 ||
    (match w.sessionOf p with
     | some s => decide (w.now < s.lastAt + w.idleNs)
     | none => false)

/-- A message of a path's session has come (R365). -/
def Work.touch (w : Work) (p : Path) : Work :=
  if p.session = 0 then w
  else { w with sessions := w.sessions.map (fun s => if s.id = p.session then { s with lastAt := w.now } else s) }

/-- A session closed, with what was held for it (R365). -/
def Work.closeSession (w : Work) (id : Nat) : Work :=
  { w with
    sessions := w.sessions.filter (fun s => s.id != id)
    snapshots := w.snapshots.filter (fun h => h.path.session != id)
    staging := w.staging.filter (fun h => h.path.session != id) }

/-- The object at index.sub; VcoreMv exists only on compute domains (0x6000+d.0C). -/
def objOf (i sub : Nat) : Option Obj := if 0x6010 ≤ i ∧ i < 0x6026 ∧ sub = 0x0C then none else objAt i sub

/-- The most bytes one access of a path carries (R357). -/
def pathMost (p : Path) : Nat := if p.cxl then 65536 else 1024

/-! ### Descriptions (R353) -/

/-- MaxLength of an object on this panel. -/
def Work.maxLength (w : Work) (o : Obj) (i sub : Nat) : Nat :=
  let n := w.numDies
  if typeSize o.type ≠ 0 then typeSize o.type
  else if o.type = 8 then 255
  else if o.type = 10 then 0
  else if 0x6000 ≤ i ∧ i < 0x6026 then (if sub = 0x0A then 16 else 4) * (railRatings (i - 0x6000)).length
  else
    match i, sub with
    | 0x1000, 6 => (Config.factoryBytes 2).length
    | 0x2100, 0x0A => 2 * n
    | 0x2801, 1 => 256 * n
    | 0x4000, 2 => 2 * n * n
    | 0x4100, 4 => 288 * n
    | 0x9000, 0x0C => 4 * n
    | 0x9000, 0x0D => n
    | 0x9000, 0x0F => 8 * n
    | 0x9000, 0x11 => 2 * n
    | _, _ => o.max

/-- Default of a scalar: CapW's is the budget maximum (0x6000+d.06). -/
def Work.defaultOf (w : Work) (o : Obj) (i sub : Nat) : Nat :=
  if typeSize o.type = 0 then 0
  else if 0x6000 ≤ i ∧ i < 0x6026 ∧ sub = 6 then f32Of (w.budget (i - 0x6000)) 1
  else o.dflt

/-- The 24 B description of an object (R353). -/
def Work.description (w : Work) (o : Obj) (i sub : Nat) : List Byte :=
  let len := if o.type = 10 then 0 else (w.objectBytes o i sub).length
  toBytes o.type 1 ++ toBytes o.access 1 ++ toBytes o.attr 1 ++ [0] ++ toBytes len 4 ++ toBytes (w.maxLength o i sub) 4 ++
    toBytes (w.defaultOf o i sub) 8 ++ toBytes 0 4

/-- DICT_DESCRIBE (R353). -/
def dictDescribe (p : Path) (i sub : Nat) (w : Work) : Work :=
  if !w.pathOpen p then w.refuse 0x75
  else
    let w := w.touch p
    match objOf i sub with
    | none => w.refuse 0x70
    | some o => w.accept (w.description o i sub)

/-- DICT_DESCRIBE (R353). -/
def execDictDescribe (path : Path) (index sub : Nat) (s : State) : Host.Outcome State Fault Refusal :=
  run (onServer path (dictDescribe path index sub)) s

/-! ### Domain reads (R366) -/

/-- Nine bytes of a token, zero for an empty place: payload, then tag. -/
def tokenBytes (t : Option Token) : List Byte :=
  match t with
  | some t => toBytes t.pay.toNat 8 ++ [t.tag]
  | none => List.replicate 9 0

/-- Bytes of a region of a cell (R366); none where the region is not defined. -/
def Cell.region (c : Cell) (r : Nat) : Option (List Byte) :=
  match r with
  | 0 => some ((List.range 64).flatMap (fun i => toBytes (tget 0 c.ob i).toNat 8))
  | 1 => some ((List.range 32).flatMap (fun i => toBytes (tget 0 c.prog i).toNat 8))
  | 2 => some ((List.range 4).flatMap (fun d => (List.range 4).flatMap (fun i => tokenBytes (c.queue d)[i]?)))
  | 3 => some ((List.range 4).flatMap (fun d => tokenBytes (tget none c.outs d)))
  | 4 => some ((List.range 8).flatMap (fun i => toBytes (tget 0 c.acc i).toNat 4))
  | 5 => some (toBytes c.prev.toNat 8 ++ toBytes c.sca.toNat 8 ++ toBytes c.scb.toNat 8 ++ toBytes c.nstat.toNat 4 ++ toBytes c.sr.toNat 4)
  | _ => none

/-- A read of cell state: refused while the array is in RUN or LOADING, and outside the regions (R366). -/
def Work.readCell (w : Work) (a n : Nat) : Work :=
  let x := arrOf (w.dieOf (field a 39 5) (field a 35 4)) (field a 31 4)
  let st := (w.arr x).st
  let off := field a 0 20
  if field a 44 16 ≠ 0 ∨ w.cols ≤ field a 39 5 ∨ !w.arrPresent x ∨ st = .run ∨ st = .loading then w.refuse 0x78
  else
    match ({ w.cell x (field a 23 8) with sr := w.generator x (field a 23 8) } : Cell).region (field a 20 3) with
    | some bs => if off + n ≤ bs.length then w.accept (slice bs off n) else w.refuse 0x78
    | none => w.refuse 0x78

/-- A byte that a Domain read finds unreadable: an uncorrectable word, a poisoned line, a Hutch that is not reached or whose
reads are all poisoned, a protected range without debug readback (R195, R268, R366). -/
def Work.unreadable (w : Work) (a : Nat) : Bool :=
  if aSpace a ≤ 1 then
    !w.hutchReached (aHutch a) || (w.hutch (aHutch a)).stuck || (w.hutch (aHutch a)).poisoned (lineOf a) ||
      (w.isProtected a 1 && w.reg 0x7000 4 != 1)
  else w.hasBadWord a 1

/-- A byte as a Domain read finds it: in the spill area, the runs of the array; where a slot is not valid, what memory holds
(R148, R366; assumption 98). -/
def Work.debugByte (w : Work) (a : Nat) : Byte :=
  if inSpill a then ((w.arr (w.addrArr a)).spillByte (aByte a - 47104 * 8)).getD (w.readByte a) else w.readByte a

/-- A Domain read of `n` bytes: unreadable words come as zeros, with 0x79 and the number of the first (R359, R366). -/
def Work.readDomain (w : Work) (a n : Nat) : Work :=
  if aSpace a = 13 then w.readCell a n
  else if 3 < aSpace a ∨ w.invalid a ∨ w.invalid (a + n - 1) ∨ aSpace (a + n - 1) ≠ aSpace a ∨ w.absent a ∨ w.absent (a + n - 1) then
    w.refuse 0x78
  else if aSpace a = 3 ∧ (w.arr (w.addrArr a)).task.isSome ∧ inSpill (a + n - 1) then w.refuse 0x78
  else
    let bad := (List.range ((n + 7) / 8)).filter (fun j => (List.range (min 8 (n - 8 * j))).any (fun i => w.unreadable (a + 8 * j + i)))
    let data := (List.range n).map (fun i => if bad.contains (i / 8) then 0 else w.debugByte (a + i))
    let w := if aSpace a = 0 ∧ w.hutchReached (aHutch a) then w.hutchAccesses a n false false else w
    match bad with
    | [] => w.accept data
    | j :: _ => { w with reply := { status := 0x79, detail := min j 0xFF, data := data } }

/-! ### Reads (R355) -/

/-- A snapshot or a staged write of a path that is not yet 1 s old (R355). -/
def heldOf (l : List Held) (p : Path) (i sub now : Nat) : Option Held :=
  l.find? (fun h => decide (h.path = p) && h.index == i && h.sub == sub && decide (now ≤ h.at_ + 1000000000))

/-- One held item of a path in place of what it held. -/
def holdFor (l : List Held) (h : Held) : List Held := l.filter (fun x => !decide (x.path = h.path)) ++ [h]

/-- A read of a STR or a BLOB: a snapshot at offset 0, from the snapshot with the continue flag, else from the present
value (R355). -/
def Work.readBlob (w : Work) (p : Path) (o : Obj) (i sub off n : Nat) (cont : Bool) : Work :=
  let give := fun (w : Work) (bs : List Byte) =>
    if bs.length < off then w.refuse 0x72
    else { w with reply := { data := slice bs off n, more := decide (off + n < bs.length) } }
  if off = 0 then
    let bs := w.objectBytes o i sub
    give { w with snapshots := holdFor w.snapshots ⟨p, i, sub, bs, w.now⟩ } bs
  else if cont then
    match heldOf w.snapshots p i sub w.now with
    | some h => give w h.bytes
    | none => w.refuse 0x77
  else give w (w.objectBytes o i sub)

/-- DICT_READ: session, object, access class, authorisation, offset and length in this order (R351, R352, R355, R356, R357). -/
def dictRead (p : Path) (i sub off len : Nat) (cont : Bool) (w : Work) : Work :=
  if !w.pathOpen p then w.refuse 0x75
  else
    let w := w.touch p
    match objOf i sub with
    | none => w.refuse 0x70
    | some o =>
      let n := if len = 0 then pathMost p else len
      let size := typeSize o.type
      if o.access = 4 ∨ (o.access = 5 ∧ !o.readable) then w.refuse 0x71
      else if o.type = 10 ∧ !p.cxl ∧ p.session = 0 then w.refuse 0x74
      else if pathMost p < n then w.refuse 0x72
      else if o.type = 10 then w.readDomain off n
      else if size ≠ 0 then
        if off ≠ 0 ∨ (len ≠ 0 ∧ len ≠ size) then w.refuse 0x72 else w.accept (w.objectBytes o i sub)
      else w.readBlob p o i sub off n cont

/-- DICT_READ (R355). -/
def execDictRead (path : Path) (index sub offset length : Nat) (cont : Bool) (s : State) : Host.Outcome State Fault Refusal :=
  run (onServer path (dictRead path index sub offset length cont)) s

/-! ### What a write does -/

/-- A scalar stored, and saved to flash where its class is RWS (R352). -/
def Work.putScalar (w : Work) (o : Obj) (i sub v : Nat) : Work :=
  let w := w.setReg i sub v
  (if o.access = 3 then { w with flash := tput w.flash (key i sub) v } else w).accept

/-- A BLOB stored, and saved to flash where its class is RWS (R352). -/
def Work.putBlob (w : Work) (o : Obj) (i sub : Nat) (bs : List Byte) : Work :=
  let w := w.setBlob i sub bs
  (if o.access = 3 then { w with flashBlobs := tput w.flashBlobs (key i sub) bs } else w).accept

/-- A scalar that is bound to the job: written in IDLE, CONFIGURED or RETAINED (R301, 0x2400.02). -/
def Work.putBound (w : Work) (o : Obj) (i sub v : Nat) : Work := if w.job.st.mayBind then w.putScalar o i sub v else w.refuseJob

/-- The object that names the feature of a reservation (R182): the tracker's Enable, the adapter slot table and Load, the
set's Ingest. -/
def Reserve.owner (r : Reserve) : Nat :=
  if r.feature = 1 then nameOf 0x7200 1 else if r.feature = 2 then nameOf 0x7100 3 else if r.feature = 3 then nameOf 0x7100 4
  else nameOf (0x7001 + r.who) 0x11

/-- CacheMiB written: four sizes, and a split that holds every reservation (R182). -/
def Work.putCache (w : Work) (o : Obj) (i sub v : Nat) : Work :=
  let room := (1536 - v) * 2 ^ 20
  if v ≠ 0 ∧ v ≠ 256 ∧ v ≠ 512 ∧ v ≠ 1024 then w.refuse 0x73
  else
    match (w.hutch (i - 0x5000)).reserves.find? (fun r => decide (room < r.offset + r.bytes)) with
    | some r => w.refuse 0x7D r.owner
    | none => w.putScalar o i sub v

/-- An edge port's CheckFeed written: refused while the unit's feeder is active (R225). -/
def Work.putFeed (w : Work) (o : Obj) (i sub v : Nat) : Work :=
  let u := 400 + (i - 0x4800)
  if v ≠ w.reg i sub ∧ w.feeding u then w.refuse 0x7D (feederName u) else w.putScalar o i sub v

/-- HutchCheckFeed written: 16 bytes, no feeder that is active changed (R225, R284). -/
def Work.putHutchFeeds (w : Work) (o : Obj) (bs : List Byte) : Work :=
  let old := padTo 16 (w.blob 0x7000 6)
  if bs.length ≠ 16 then w.refuse 0x72
  else if bs.any (fun b => decide (5 < b.toNat)) then w.refuse 0x73
  else
    match (List.range 16).find? (fun b => bs.getD b 0 != old.getD b 0 && w.feeding (384 + b)) with
    | some b => w.refuse 0x7D (feederName (384 + b))
    | none => w.putBlob o 0x7000 6 bs

/-- An ingest window's record: base, flags (R346). -/
def windowOf (bs : List Byte) (i : Nat) : Nat × Nat := (leAt bs (16 * i) 8, leAt bs (16 * i + 8) 4)

/-- A record of an ingest window keeps R346. -/
def ingestOk (bs : List Byte) (i : Nat) : Bool :=
  let (base, flags) := windowOf bs i
  decide (base < 2 ^ 42) && base % 2 ^ 30 == 0 && decide (base % 2 ^ 38 ≤ 240 * 2 ^ 30) && decide (flags < 4) && leAt bs (16 * i + 12) 4 == 0

/-- IngestWindows written: at most one window feeds the check-value unit (R346; assumption 53). -/
def Work.putWindows (w : Work) (o : Obj) (bs : List Byte) : Work :=
  let feeds := fun (l : List Byte) => (List.range 8).filter (fun i => bit (windowOf l i).2 1)
  let old := feeds (padTo 128 (w.blob 0x1200 0x10))
  if bs.length ≠ 128 then w.refuse 0x72
  else if !(List.range 8).all (ingestOk bs) then w.refuse 0x73
  else if 1 < (feeds bs).length then w.refuse 0x7D (nameOf 0x1200 0x10 + 2 ^ 24 * ((old ++ feeds bs).headD 0))
  else w.putBlob o 0x1200 0x10 bs

/-- A BLOB of a fixed size, or of whole records. -/
def Work.putSized (w : Work) (o : Obj) (i sub : Nat) (ok : Bool) (bs : List Byte) : Work :=
  if ok then w.putBlob o i sub bs else w.refuse 0x72

/-- What the tests of a bay find that is enabled through the dictionary: free values (R411; assumption 54). -/
def Work.enableTest (w : Work) : BayTest × Work :=
  let d := w.draw
  ({ pgOk := true
     timedOut := !(Config.enableFinding w.free 0).isEmpty
     badSites := (Config.enableFinding w.free 1).map (fun x => { unit := x / 2 ^ 20, temp := x % 256, supply := x / 256 % 4096 })
     badArrays := (Config.enableFinding w.free 2).map (fun x =>
       { unit := x / 2 ^ 24, pattern := x / 2 ^ 20 % 16, temp := x % 256, supply := x / 256 % 4096 })
     links := (Config.enableFinding w.free 3).map (fun l =>
       { link := l
         wires := (Config.enableFinding w.free (4 + 4 * l)).map (fun x =>
           { wire := x % 1064, errors := x / 2 ^ 11 % 2 ^ 31, eyeUi := x / 2 ^ 42 % 65, eyeMv := x / 2 ^ 49 % 256, stitch := bit x 57 })
         eyeUi := 20 + (Config.enableFinding w.free (5 + 4 * l)).headD 0 % 45
         eyeMv := 40 + (Config.enableFinding w.free (6 + 4 * l)).headD 0 % 216
         temp := (Config.enableFinding w.free (7 + 4 * l)).headD 0 % 256 })
     ms := d.1 % 10001 }, d.2)

/-- A scalar of the index ranges of several objects written. -/
def Work.writeRange (w : Work) (o : Obj) (i sub v : Nat) : Work :=
  if 0x4800 ≤ i ∧ i < 0x4810 then
    if sub = 0x0E then w.putFeed o i sub v else if sub = 0x0F then patternTest (i - 0x4800) v w else w.putScalar o i sub v
  else if 0x5000 ≤ i ∧ i < 0x5010 then (if sub = 2 then w.putCache o i sub v else w.putScalar o i sub v)
  else if 0x6000 ≤ i ∧ i < 0x6026 then
    if sub = 3 then (let e := w.enableTest; domainEnable (i - 0x6000) e.1 e.2)
    else if sub = 4 then domainDisable (i - 0x6000) w
    else w.putScalar o i sub v
  else if 0x7001 ≤ i ∧ i < 0x7041 then
    let s := i - 0x7001
    match sub with
    | 5 => setMode s v w
    | 8 => newGeneration s w
    | 0x0A => publish s v w
    | 0x0B => switchCurrent s v w
    | 0x0C => discard s v w
    | 0x0D => pin s w
    | 0x0F => unpin s v w
    | 0x15 => undefine s w
    | _ => w.putScalar o i sub v
  else w.putScalar o i sub v

/-- What a write of scalar `v` does. -/
def Work.writeScalar (w : Work) (p : Path) (o : Obj) (i sub v : Nat) : Work :=
  match i, sub with
  | 0x1800, 4 => clearMark v w
  | 0x2010, 1 => w.putBound o i sub v
  | 0x2101, 3 => clearRecord v w
  | 0x2400, 2 => w.putBound o i sub v
  | 0x2400, 5 => configure w
  | 0x2400, 6 => start w
  | 0x2400, 7 => stop w
  | 0x2400, 8 => kill w
  | 0x2401, 3 => listDelete v w
  | 0x2800, 4 => registerImage w
  | 0x2800, 6 => unregisterImage v w
  | 0x4000, 7 => w.putBound o i sub v
  | 0x4900, 5 => attach w
  | 0x4900, 6 => detach w
  | 0x5800, 5 => checkUnitReset v w
  | 0x7100, 5 => release v w
  | 0x7200, 1 => trackerEnable (v == 1) w
  | 0x7800, 6 => clearSuspectPanel v w
  | 0x8000, 6 => activate v w
  | 0x8000, 7 => commitVersion v w
  | 0x8000, 9 => keySlotClear p v w
  | 0x9000, 7 => if v = 0 then w.ppsOff.putScalar o i sub v else w.putScalar o i sub v
  | 0x9000, 8 => setSeconds v w
  | 0xA000, 7 => clearFirstFailure w
  | 0xA000, 0x0A => alertAck v w
  | _, _ => w.writeRange o i sub v

/-- What a write of BLOB `bs` does to a domain or a weight set. -/
def Work.writeRangeBlob (w : Work) (o : Obj) (i sub : Nat) (bs : List Byte) : Work :=
  if 0x6000 ≤ i ∧ i < 0x6026 then w.putSized o i sub (bs.length == w.maxLength o i sub) bs
  else if 0x7001 ≤ i ∧ i < 0x7041 then
    let s := i - 0x7001
    match sub with
    | 2 => define s bs w
    | 0x10 => wrappedKey s bs w
    | 0x11 => ingest s bs w
    | 0x13 => w.putSized o i sub (bs.length % 2 == 0) bs
    | _ => w.putSized o i sub (bs.length == 48) bs
  else w.putBlob o i sub bs

/-- What a write of BLOB `bs` does. -/
def Work.writeBlob (w : Work) (p : Path) (o : Obj) (i sub : Nat) (bs : List Byte) : Work :=
  match i, sub with
  | 0x1200, 0x10 => w.putWindows o bs
  | 0x1200, 0x11 =>
    if bs.all (fun b => decide (b.toNat < 16) || b == 0xFF) then w.putSized o i sub (bs.length == 16) bs else w.refuse 0x73
  | 0x2101, 4 => addRecord bs w
  | 0x2400, 0x0D => w.putSized o i sub (bs.length % 4 == 0) bs
  | 0x2401, 2 => listCreate bs w
  | 0x2800, 8 =>
    if bs.length ≠ 8 then w.refuse 0x72
    else if 1 < leAt bs 7 1 then w.refuse 0x73
    else loadArray (leAt bs 0 4) (leAt bs 4 2) (leAt bs 6 1) (leAt bs 7 1 == 1) w
  | 0x4900, 3 => w.putSized o i sub (bs.length == 16) bs
  | 0x5800, 3 => if !w.job.st.mayBind then w.refuseJob else if bs.any (fun b => bit b.toNat 6) then w.refuse 0x73 else w.putSized o i sub (bs.length == 384) bs
  | 0x5800, 4 => checkUnitLoad bs w
  | 0x7000, 6 => w.putHutchFeeds o bs
  | 0x7100, 4 => adapterLoad bs w
  | 0x7800, 1 => w.putSized o i sub (bs.length % 8 == 0) bs
  | 0x7800, 0x0A => w.putSized o i sub (bs.length % 32 == 0) bs
  | 0x7800, 0x0B => w.putSized o i sub (bs.length % 16 == 0) bs
  | 0x8000, 8 => keySlotWrite p bs w
  | 0x8000, 0x0B => attest bs w
  | 0xB000, 0x17 => if bs.length ≠ 2 then w.refuse 0x72 else clearArraySuspect (leAt bs 0 2) w
  | _, _ => w.writeRangeBlob o i sub bs

/-- A scalar's value lies in its range (R351): BOOL is 0 or 1; the bit patterns of two positive F32 values are in their
order. -/
def Obj.inRange (o : Obj) (v : Nat) : Bool :=
  if o.type = 7 then decide (v ≤ 1) else o.hi == 0 || (decide (o.lo ≤ v) && decide (v ≤ o.hi))

/-- A whole value written to an object (R351, R352). -/
def Work.writeWhole (w : Work) (p : Path) (o : Obj) (i sub : Nat) (bs : List Byte) : Work :=
  let size := typeSize o.type
  if size ≠ 0 then
    if bs.length ≠ size then w.refuse 0x72
    else if !o.inRange (ofBytes bs) then w.refuse 0x73
    else w.writeScalar p o i sub (ofBytes bs)
  else if w.maxLength o i sub < bs.length then w.refuse 0x72
  else w.writeBlob p o i sub bs

/-- The object forbids a write while a job runs (R353, R356). LoadArray answers for itself. -/
def Work.jobForbids (w : Work) (o : Obj) (i sub : Nat) : Bool := bit o.attr 1 && w.jobRuns && !(i == 0x2800 && sub == 8)

/-- A segment of a BLOB: staged, or the last of a staged write, which applies the whole; refused with 0x7B out of its order
or over 64 KiB (R355; assumption 55). -/
def Work.writeSegment (w : Work) (p : Path) (o : Obj) (i sub off : Nat) (bs : List Byte) (more : Bool) : Work :=
  let before : Option (List Byte) :=
    if off = 0 then some []
    else match heldOf w.staging p i sub w.now with
      | some h => if h.bytes.length = off then some h.bytes else none
      | none => none
  match before with
  | none => w.refuse 0x7B
  | some head =>
    let all := head ++ bs
    if 65536 < all.length then w.refuse 0x7B
    else if more then ({ w with staging := holdFor w.staging ⟨p, i, sub, all, w.now⟩ } : Work).accept
    else ({ w with staging := w.staging.filter (fun x => !decide (x.path = p)) } : Work).writeWhole p o i sub all

/-- DICT_WRITE: session, object, access class, authorisation, job, order of segments, length and range in this order (R351,
R352, R354 to R356). -/
def dictWrite (p : Path) (i sub off : Nat) (bs : List Byte) (more : Bool) (w : Work) : Work :=
  if !w.pathOpen p then w.refuse 0x75
  else
    let w := w.touch p
    match objOf i sub with
    | none => w.refuse 0x70
    | some o =>
      if o.access = 1 then w.refuse 0x71
      else if p.session = 0 ∧ (!p.cxl ∨ bit o.attr 0) then w.refuse 0x74
      else if w.jobForbids o i sub then w.refuseJob
      else if pathMost p < bs.length then w.refuse 0x72
      else if i = 0x8000 ∧ sub = 5 then firmwareWrite off bs more w
      else if typeSize o.type ≠ 0 then
        if off ≠ 0 ∨ more then w.refuse 0x72 else w.writeWhole p o i sub bs
      else w.writeSegment p o i sub off bs more

/-- DICT_WRITE (R354). -/
def execDictWrite (path : Path) (index sub offset : Nat) (data : List Byte) (more : Bool) (s : State) :
    Host.Outcome State Fault Refusal := runBurning (onServer path (dictWrite path index sub offset data more)) s

/-- The path of the host's own window, with no session. -/
def hostPath : Path := { cxl := true, chan := 0, session := 0 }

/-- REGISTER_WRITE: a whole value written, already authorised (R352). -/
def registerWrite (i sub : Nat) (bs : List Byte) (w : Work) : Work :=
  match objOf i sub with
  | none => w.refuse 0x70
  | some o =>
    if o.access = 1 then w.refuse 0x71
    else if w.jobForbids o i sub then w.refuseJob
    else if i = 0x8000 ∧ sub = 5 then firmwareWrite 0 bs false w
    else w.writeWhole hostPath o i sub bs

/-- REGISTER_WRITE (R352). -/
def execRegisterWrite (index sub : Nat) (data : List Byte) (s : State) : Host.Outcome State Fault Refusal :=
  runBurning (registerWrite index sub data) s

/-! ### Closing and expiry (R355, R365) -/

/-- DICT_CLOSE (R365). -/
def dictClose (p : Path) (w : Work) : Work :=
  if p.session = 0 ∨ !w.pathOpen p then w.refuse 0x75 else (w.closeSession p.session).accept

/-- DICT_CLOSE (R365). -/
def execDictClose (path : Path) (s : State) : Host.Outcome State Fault Refusal := run (onServer path (dictClose path)) s

/-- SESSION_IDLE_TIMEOUT: SessionIdleSeconds have passed since the session's last message (R365). -/
def sessionIdle (id : Nat) (w : Work) : Work :=
  match w.sessions.find? (fun s => s.id == id) with
  | some s => (w.reach (s.lastAt + w.idleNs)).closeSession id
  | none => w

/-- SESSION_IDLE_TIMEOUT (R365). -/
def execSessionIdleTimeout (session : Nat) (s : State) : Host.Outcome State Fault Refusal := run (sessionIdle session) s

/-- SNAPSHOT_EXPIRY: 1 s has passed since the path's snapshot (R355). -/
def snapshotExpiry (p : Path) (w : Work) : Work :=
  match w.snapshots.find? (fun h => decide (h.path = p)) with
  | some h =>
    let w := w.reach (h.at_ + 1000000000)
    { w with snapshots := w.snapshots.filter (fun x => !decide (x.path = p)) }
  | none => w

/-- SNAPSHOT_EXPIRY (R355). -/
def execSnapshotExpiry (path : Path) (s : State) : Host.Outcome State Fault Refusal := run (snapshotExpiry path) s

/-- STAGING_EXPIRY: 1 s has passed without a segment on the path (R355). The first half of a HELLO goes in the same way
(assumption 56). -/
def stagingExpiry (p : Path) (w : Work) : Work :=
  match (w.staging ++ w.hellos).find? (fun h => decide (h.path = p)) with
  | some h =>
    let w := w.reach (h.at_ + 1000000000)
    { w with staging := w.staging.filter (fun x => !decide (x.path = p)), hellos := w.hellos.filter (fun x => !decide (x.path = p)) }
  | none => w

/-- STAGING_EXPIRY (R355). -/
def execStagingExpiry (path : Path) (s : State) : Host.Outcome State Fault Refusal := run (stagingExpiry path) s

end Sys2Proof.Machine
end

