-- ==== Sys2Proof/Machine/Host.lean ====
section
/-! DEFINITION. The host's and the fleet's ways in: sessions, window channels, Sacor datagrams, the CXL link and its resets, HDM
decoders, the mailbox, MSI-X, and host accesses to the DPA regions (R340 to R350, R357 to R365). -/

namespace Sys2Proof.Machine

/-! ### Opening a session (R364) -/

/-- A session opened from the 1,604 B of a HELLO: both encapsulations, the key, the panel's answer (R364). -/
def openSession (p : Path) (data : List Byte) (w : Work) : Work :=
  let slot := leAt data 0 1
  if data.length ≠ 1604 then w.refuse 0x72
  else if 8 ≤ slot ∨ !allZero (slice data 1 3) then w.refuse 0x73
  else if 8 ≤ w.sessions.length then w.refuse 0x7E
  else
    match w.keyOf slot, Config.kemDecaps (2 * w.boot.starts) (slice data 36 1568) with
    | some key, some ss1 =>
      let (fresh, w) := w.draw
      let (r, w) := w.draw
      let (c2, ss2) := Config.kemEncaps key fresh
      let id := w.nextSession
      let nonce := toBytes r 32
      let k := padTo 32 (Config.kmac256 (ss1 ++ ss2) (slice data 4 32 ++ nonce ++ toBytes id 4 ++ toBytes w.panelId 2) (ascii "VW-SACOR-K"))
      let s : Session := { id := id, path := { p with session := 0 }, keySlot := slot, key := k, lastAt := w.now }
      let w : Work := { w with sessions := w.sessions ++ [s], nextSession := if id + 1 < 2 ^ 32 then id + 1 else 1 }
      w.accept (toBytes id 4 ++ nonce ++ padTo 1568 c2)
    | _, _ => w.refuse 0x73

/-- A response under a session: its Counter, and the code over header and data (R365). -/
def Session.signs (x : Session) (q : Request) (r : Reply) (counter : Nat) : Reply :=
  { r with
    counter := counter
    code := padTo 32 (Config.kmac256 x.key (responseHeader q r x.id counter true ++ r.data) (ascii "VW-SACOR-M")) }

/-- The answer to a HELLO that has opened a session names it in its header, and its last segment, the 580 B after the first 1,024 on
Sacor and all of it in a window, carries a code under the new key (R364, R365; assumption 110). -/
def Work.signHello (w : Work) (p : Path) (q : Request) : Work :=
  match w.sessions.getLast? with
  | some x =>
    if w.reply.data.length = 1604 then
      let last := if p.cxl then x.signs q w.reply 0 else x.signs { q with offset := 1024 } { w.reply with data := w.reply.data.drop 1024 } 0
      { w with reply := { w.reply with code := last.code, session := x.id } }
    else w
  | none => w

/-- An answer over a path: on Sacor it goes out as messages (R363). -/
def Work.answers (w : Work) (p : Path) (q : Request) : Work := if p.cxl then w else w.framed q

/-- The request that a bare HELLO stands for. -/
def helloRequest (data : List Byte) : Request := ⟨4, false, false, false, 0, 0, 0, 0, 0, 0, data.length, data, []⟩

/-- HELLO: the first segment of 1,024 B is kept, the second of 580 B completes it (R364; assumption 56). -/
def hello (p : Path) (data : List Byte) (w : Work) : Work :=
  if data.length = 1024 then ({ w with hellos := holdFor w.hellos ⟨p, 0, 0, data, w.now⟩ } : Work).accept
  else if data.length = 580 then
    match heldOf w.hellos p 0 0 w.now with
    | some h => openSession p (h.bytes ++ data) { w with hellos := w.hellos.filter (fun x => !decide (x.path = p)) }
    | none => w.refuse 0x7B
  else openSession p data w

/-- HELLO (R364). -/
def execHello (path : Path) (data : List Byte) (s : State) : Host.Outcome State Fault Refusal :=
  run (onServer path (fun w => ((hello path data w).signHello path (helloRequest data)).answers path (helloRequest data))) s

/-! ### Requests (R357, R365) -/

/-- The 40 B header of a request (R357). -/
def requestHeader (q : Request) : List Byte :=
  [1] ++ toBytes q.op 1 ++ toBytes (ofBool q.more + 2 * ofBool q.cont + 4 * ofBool q.mac) 2 ++ toBytes q.tag 4 ++ toBytes q.session 4 ++
    toBytes q.counter 4 ++ toBytes q.index 2 ++ toBytes q.sub 1 ++ [0] ++ toBytes q.offset 4 ++ toBytes q.length 2 ++ [0, 0] ++
    toBytes 0 8 ++ toBytes (q.offset / 2 ^ 32) 4

/-- A message of a session carries its code and a counter above the last one accepted (R363, R365). -/
def Session.proves (x : Session) (q : Request) : Bool :=
  q.mac && decide (q.code = padTo 32 (Config.kmac256 x.key (requestHeader q ++ q.data) (ascii "VW-SACOR-M"))) && decide (x.counterIn < q.counter)

/-- The bytes of an answer: status, detail, Other, data; and the answer that bytes spell. -/
def Reply.bytes (r : Reply) : List Byte :=
  toBytes r.status 1 ++ toBytes r.detail 1 ++ toBytes r.other 4 ++ toBytes (ofBool r.more) 1 ++ r.data
def replyOf (bs : List Byte) : Reply :=
  { status := leAt bs 0 1, detail := leAt bs 1 1, other := leAt bs 2 4, more := leAt bs 6 1 == 1, data := bs.drop 7 }

/-- What a request asks for, done (R357). A HELLO has Index and Sub zero (R364). An operation that the table does not list is
refused with 0x71. -/
def Work.perform (w : Work) (p : Path) (q : Request) : Work :=
  if q.op = 1 then dictRead p q.index q.sub q.offset q.length q.cont w
  else if q.op = 2 then dictWrite p q.index q.sub q.offset q.data q.more w
  else if q.op = 3 then dictDescribe p q.index q.sub w
  else if q.op = 4 then (if q.index = 0 ∧ q.sub = 0 then (hello p q.data w).signHello p q else w.refuse 0x70)
  else if q.op = 5 then dictClose p w
  else w.refuse 0x71

/-- The answer of a session's message goes out with the next Counter and its code (R365; assumption 110). -/
def Work.signAnswer (w : Work) (x : Session) (q : Request) : Work :=
  { w with
    reply := x.signs q w.reply (x.counterOut + 1)
    sessions := w.sessions.map (fun s => if s.id = x.id then { s with counterOut := x.counterOut + 1 } else s) }

/-- A session's answer, kept among its last 16 (R363). -/
def Work.keepAnswer (w : Work) (id tag : Nat) : Work :=
  { w with sessions := w.sessions.map (fun s =>
      if s.id = id then
        let l := s.answers ++ [(tag, w.reply.bytes)]
        { s with answers := l.drop (l.length - 16) }
      else s) }

/-- The counter of an accepted message stands as the session's last. -/
def Work.acceptCounter (w : Work) (id c : Nat) : Work :=
  { w with sessions := w.sessions.map (fun s => if s.id = id then { s with counterIn := c, lastAt := w.now } else s) }

/-! ### Window channels (R358) -/

/-- A message of a session that has proved itself: a Tag among its last 16 is answered from the store, and any other has its effect and
is kept there; the answer goes out with the next Counter and its code (R363, R365). -/
def Work.sessionRequest (w : Work) (x : Session) (p : Path) (q : Request) : Work :=
  let w := w.acceptCounter x.id q.counter
  match x.answers.find? (fun e => e.1 == q.tag) with
  | some e => ({ w with reply := replyOf e.2 } : Work).signAnswer x q
  | none => ((w.perform p q).keepAnswer x.id q.tag).signAnswer x q

/-- A request of a channel answered: a session's message that does not prove itself is refused with 0x75 (assumption 57). -/
def Work.channelRequest (w : Work) (p : Path) (q : Request) : Work :=
  if q.session = 0 then w.perform p q
  else
    match w.sessionOf p with
    | none => w.refuse 0x75
    | some x =>
      if !w.pathOpen p ∨ !x.proves q then w.refuse 0x75
      else w.sessionRequest x p q

/-- A request as software writes it: the header and the code into the page, the data into the buffer (R358). -/
def Channel.written (c : Channel) (q : Request) : Channel :=
  { c with header := requestHeader q, code := if q.code.isEmpty then c.code else q.code, data := patch c.data 0 q.data }

/-- WINDOW_GO: software has written a request, and writes its Tag to Go: ignored while the channel runs a request; the answer, Done and source `chan` follow (R341, R350, R358). -/
def windowGo (chan tag : Nat) (q : Request) (w : Work) : Work :=
  let c : Channel := tget {} w.cxl.channels chan
  if w.cxl.st ≠ 2 ∨ 4 ≤ chan ∨ c.go ≠ c.done then w
  else
    let c : Channel := { c.written q with go := tag, request := some q }
    let w := { w with cxl := { w.cxl with channels := tput w.cxl.channels chan c } }
    if !w.served then w
    else
      let w := w.channelRequest { cxl := true, chan := chan, session := q.session } q
      Work.interrupt { w with cxl := { w.cxl with channels := tput w.cxl.channels chan (c.answered q w.reply) } } chan

/-- WINDOW_GO (R358). -/
def execWindowGo (chan tag : Nat) (req : Request) (s : State) : Host.Outcome State Fault Refusal := runBurning (windowGo chan tag req) s

/-! ### Sacor (R362, R363) -/

/-- The form of a Sacor request: an operation of the table, at most 1,024 data bytes that Length counts; a READ carries
none (R357, R363). -/
def wellFormedRequest (q : Request) : Bool :=
  decide (1 ≤ q.op) && decide (q.op ≤ 5) && decide (q.length ≤ 1024) && (if q.op = 1 then q.data.isEmpty else q.data.length == q.length)

/-- A datagram dropped and counted (R363). -/
def Work.dropDatagram (w : Work) : Work := w.addReg 0x1200 0x0B 1

/-- A request answered on the network: one more answered since start-up (0x1200.0A). -/
def Work.countAnswer (w : Work) : Work := w.addReg 0x1200 0x0A 1

/-- A datagram of a session: dropped when it does not prove itself, answered from the store when its Tag is repeated
(R363, R365). -/
def Work.sessionDatagram (w : Work) (p : Path) (q : Request) : Work :=
  match w.sessionOf p with
  | none => (w.refuse 0x75).countAnswer.framed q
  | some x =>
    if !w.pathOpen p then (w.refuse 0x75).countAnswer.framed q
    else if !x.proves q then w.dropDatagram
    else (w.sessionRequest x p q).countAnswer.framed q

/-- SACOR_DATAGRAM: a multicast read of identity or communication objects waits for its delay; other multicasts get no
answer (R362, R363). -/
def sacorDatagram (source : Nat) (multicast malformed : Bool) (q : Request) (w : Work) : Work :=
  if !w.served then w
  else if malformed ∨ !wellFormedRequest q ∨ (q.session = 0 ∧ (q.mac ∨ q.counter ≠ 0)) then w.dropDatagram
  else if multicast then
    if q.op = 1 ∧ q.session = 0 ∧ (q.index = 0x1000 ∨ q.index = 0x1200) then { w with discovery := w.discovery ++ [(source, q)] } else w
  else
    let p : Path := { cxl := false, chan := source, session := q.session }
    if q.session = 0 then (w.perform p q).countAnswer.framed q else w.sessionDatagram p q

/-- SACOR_DATAGRAM (R363). -/
def execSacorDatagram (source : Nat) (multicast malformed : Bool) (req : Request) (s : State) : Host.Outcome State Fault Refusal :=
  runBurning (sacorDatagram source multicast malformed req) s

/-- DISCOVERY_REPLY: the oldest multicast read is answered, after a delay of at most 50 ms (R362). -/
def discoveryReply (w : Work) : Work :=
  match w.discovery with
  | [] => w
  | (source, q) :: rest =>
    let (ns, w) := w.draw
    let w : Work := { w with clock := w.clock + ns % 50000001 * 2 ^ 32, discovery := rest }
    (w.perform { cxl := false, chan := source, session := 0 } q).countAnswer.framed q

/-- DISCOVERY_REPLY (R362). -/
def execDiscoveryReply (s : State) : Host.Outcome State Fault Refusal := run discoveryReply s

/-! ### The CXL link and its resets (R341, R342) -/

/-- PERST_N asserted: port, configuration space, decoders, MSI-X table and window channels are held in reset; nothing
else changes (R342). -/
def perstAssert (w : Work) : Work :=
  if w.cxl.perst then w else ({ w with cxl := { perst := true } } : Work).readyChanged

/-- PERST_N_ASSERT (R342). -/
def execPerstNAssert (s : State) : Host.Outcome State Fault Refusal := run perstAssert s

/-- PERST_N deasserted: link training starts, which CXL_LINK_UP ends, and within 20 ms configuration requests are no longer answered
with retry status (R342). -/
def perstDeassert (w : Work) : Work :=
  let (ns, w) := w.draw
  { w with cxl := { w.cxl with perst := false, configAt := w.now + ns % 20000001 } }

/-- PERST_N_DEASSERT (R342). -/
def execPerstNDeassert (s : State) : Host.Outcome State Fault Refusal := run perstDeassert s

/-- Function-level reset: the same state, without the link (R342). -/
def functionReset (w : Work) : Work :=
  { w with cxl := { perst := w.cxl.perst, st := w.cxl.st, width := w.cxl.width, rate := w.cxl.rate, configAt := w.cxl.configAt } }

/-- FUNCTION_LEVEL_RESET (R342). -/
def execFunctionLevelReset (s : State) : Host.Outcome State Fault Refusal := run functionReset s

/-- CXL_LINK_UP: the link of a host die that is ready trains (R341). -/
def linkUp (width rate : Nat) (w : Work) : Work :=
  if w.boot.hostReady then w.cxlTrain width rate else w

/-- CXL_LINK_UP (R341). -/
def execCxlLinkUp (width rate : Nat) (s : State) : Host.Outcome State Fault Refusal := run (linkUp width rate) s

/-! ### HDM decoders and the mailbox (R340, R343) -/

/-- The regions of the DPA space: base and size (R343). -/
def dpaRegions : List (Nat × Nat) := [(0, 2 ^ 42), (2 ^ 42, 2 ^ 37), (2 ^ 42 + 2 ^ 37, 2 ^ 28)]

/-- A span of whole 256 MiB within one region (R340, R343). -/
def spanOk (dpa size : Nat) : Bool :=
  dpa % 2 ^ 28 == 0 && size % 2 ^ 28 == 0 && size != 0 && dpaRegions.any (fun r => decide (r.1 ≤ dpa) && decide (dpa + size ≤ r.1 + r.2))

/-- The host has set up the function, which answers configuration requests with retry status until it is ready (R342). -/
def Work.setUp (w : Work) : Work := w.reach w.cxl.configAt

/-- HDM_DECODER_COMMIT: committed, or failed where its span crosses a region boundary (R343). -/
def hdmCommit (i dpa size : Nat) (w : Work) : Work :=
  if w.cxl.st ≠ 2 ∨ 4 ≤ i then w
  else
    let w := w.setUp
    { w with cxl := { w.cxl with decoders := tput w.cxl.decoders i (dpa, size, spanOk dpa size) } }

/-- HDM_DECODER_COMMIT (R343). -/
def execHdmDecoderCommit (i dpa size : Nat) (s : State) : Host.Outcome State Fault Refusal := run (hdmCommit i dpa size) s

/-- Capacity in multiples of 256 MiB, as Identify Memory Device reports it (R343). -/
def capacityUnits : Nat := 16897

/-- Answer of Identify Memory Device: total and volatile capacity in its bytes 16 to 31, no persistent capacity in bytes 32 to
39; the rest is the CXL specification's (R340, R343; assumption 12). -/
def identifyBytes (data : List Byte) : List Byte :=
  let rest := padTo 67 (Config.cxlAnswer 0x4000 data)
  rest.take 16 ++ toBytes capacityUnits 8 ++ toBytes capacityUnits 8 ++ toBytes 0 8 ++ rest.drop 40

/-- MAILBOX_COMMAND: the four commands of R340; any other is answered with the return code "unsupported" (assumption 12). -/
def mailbox (op : Nat) (data : List Byte) (w : Work) : Work :=
  if w.cxl.st = 0 then w
  else if op = 0x4000 then { w with cxl := { w.cxl with mailCode := 0, mailbox := identifyBytes data } }
  else if op = 0x0400 ∨ op = 0x0401 ∨ op = 0x4200 then
    { w with cxl := { w.cxl with mailCode := 0, mailbox := Config.cxlAnswer op data } }
  else { w with cxl := { w.cxl with mailCode := 0x15, mailbox := [] } }

/-- MAILBOX_COMMAND (R340). -/
def execMailboxCommand (op : Nat) (data : List Byte) (s : State) : Host.Outcome State Fault Refusal := run (mailbox op data) s

/-! ### MSI-X (R350) -/

/-- MSIX_MESSAGE: a pending vector's message, at least 0x1200.14 µs after its last one (R350). -/
def msixMessage (v : Nat) (w : Work) : Work :=
  if w.cxl.st = 0 ∨ !tget false w.cxl.pending v then w
  else
    let w := match w.cxl.sentAt.find? (fun e => e.1 == v) with
      | some e => w.reach (e.2 + w.reg 0x1200 0x14 * 1000)
      | none => w
    { w with cxl := { w.cxl with
        pending := tput w.cxl.pending v false, sentAt := tput w.cxl.sentAt v w.now, msix := (v, w.now) :: w.cxl.msix } }

/-- MSIX_MESSAGE (R350). -/
def execMsixMessage (vector : Nat) (s : State) : Host.Outcome State Fault Refusal := run (msixMessage vector) s

/-! ### Host accesses (R186, R195, R268, R343 to R347) -/

/-- The 64 B units of an access: offset within it, and length. -/
def unitsOf (a n : Nat) : List (Nat × Nat) :=
  (List.range ((a % 64 + n + 63) / 64)).map (fun i =>
    let lo := max a (a / 64 * 64 + 64 * i)
    (lo - a, min (a + n) (a / 64 * 64 + 64 * i + 64) - lo))

/-- A Hutch is reached from the host die: the die has its attach, and the Hutch its links (R28, R186). -/
def Work.hostReaches (w : Work) (b : Nat) : Bool := w.hostAttached && w.hutchReached b

/-- A unit of panel DRAM as the host reads it; none is poison: a hole, an unreachable Hutch, a protected range, a poisoned line
(R344). -/
def Work.hostReadDram (w : Work) (g n : Nat) : Option (List Byte) × Work :=
  let b := aHutch g
  if w.invalid g || !w.hostReaches b || (w.isProtected g n && w.reg 0x7000 4 != 1) || (w.hutch b).stuck || w.hasPoison g n then (none, w)
  else (some (w.read g n), w.hutchAccesses g n false false)

/-- A unit of the DPA space as the host reads it (R343, R346, R347). -/
def Work.hostReadUnit (w : Work) (dpa n : Nat) : Option (List Byte) × Work :=
  if dpa < 2 ^ 42 then w.hostReadDram dpa n
  else if dpa < 2 ^ 42 + 2 ^ 37 then (none, w)
  else
    let off := dpa - (2 ^ 42 + 2 ^ 37)
    if off / 64 < 262144 ∧ w.tracking then (some (slice (w.stream (off / 64)).bytes (off % 64) n), w) else (none, w)

/-! ### BAR0 (R349, R358) -/

/-- The offset in BAR0 that an address of space 0x4 names (R349). A host access to such an address is one to BAR0 (DESIGN CHOICE,
assumption 128). -/
def barOf (a : Nat) : Option Nat := if a / 2 ^ 20 = 2 ^ 42 then some (a % 2 ^ 20) else none

/-- A channel page as it stands, 256 B: header, Go, Done, message code (R358). -/
def Channel.page (c : Channel) : List Byte :=
  padTo 64 c.header ++ toBytes c.go 4 ++ toBytes c.done 4 ++ List.replicate 56 0 ++ padTo 32 c.code ++ List.replicate 96 0

/-- The pending-bit array (R349). -/
def Cxl.pendingBits (x : Cxl) : List Byte := toBytes ((List.range 16).map (fun v => if tget false x.pending v then 2 ^ v else 0)).sum 8

/-- A byte of BAR0 above the device registers. The channel pages and buffers are there while the dictionary window is; what the layout
does not list reads as zero (R341, R349). -/
def Work.barByte (w : Work) (off : Nat) : Byte :=
  let chan := fun (j : Nat) => (tget {} w.cxl.channels j : Channel)
  if 0x10000 ≤ off ∧ off < 0x10400 then (if w.cxl.st = 2 then (chan ((off - 0x10000) / 256)).page.getD (off % 256) 0 else 0)
  else if 0x20000 ≤ off ∧ off < 0x60000 then (if w.cxl.st = 2 then (chan ((off - 0x20000) / 65536)).data.getD (off % 65536) 0 else 0)
  else if 0x60000 ≤ off ∧ off < 0x60100 then w.cxl.table.getD (off - 0x60000) 0
  else if 0x61000 ≤ off ∧ off < 0x61008 then w.cxl.pendingBits.getD (off - 0x61000) 0
  else 0

/-- A host read of BAR0. The CXL device registers, whose layout this spec does not give, read as free values (R349; assumption 12). -/
def Work.barRead (w : Work) (off n : Nat) : Work :=
  if w.cxl.st = 0 then w
  else
    let (x, w) := w.setUp.draw
    let bs := (List.range n).map (fun i => if off + i < 0x10000 then BitVec.ofNat 8 (x / 256 ^ i) else w.barByte (off + i))
    { w with cxl := { w.cxl with readData := bs, readPoison := false } }

/-- The request that a channel page and its buffer spell. A Length of 0 with flag more means 65,536 data bytes, without it none
(R357; DESIGN CHOICE, assumption 128). -/
def Channel.asked (c : Channel) : Request :=
  let h := padTo 40 c.header
  let flags := leAt h 2 2
  let n := leAt h 0x18 2
  let most := if n = 0 ∧ bit flags 0 then 65536 else n
  { op := leAt h 1 1, more := bit flags 0, cont := bit flags 1, mac := bit flags 2, tag := leAt h 4 4, session := leAt h 8 4
    counter := leAt h 0xC 4, index := leAt h 0x10 2, sub := leAt h 0x12 1, offset := leAt h 0x14 4 + leAt h 0x24 4 * 2 ^ 32, length := n
    data := if leAt h 1 1 = 1 then [] else padTo most c.data, code := if bit flags 2 then padTo 32 c.code else [] }

/-- Software's bytes into a channel page, but for the Go and Done words (R358). -/
def Channel.pageWritten (c : Channel) (off : Nat) (bs : List Byte) : Channel :=
  let p := patch c.page off bs
  { c with header := slice p 0 64, code := slice p 0x80 32 }

/-- A host write to BAR0: into the pages, buffers and the MSI-X table; one that covers the Go word writes Go. Writes to the device
registers have no effect of their own here, and every other write is ignored (R349, R358; assumption 128). -/
def Work.barWrite (w : Work) (off : Nat) (bs : List Byte) : Work :=
  if w.cxl.st = 0 then w
  else if 0x10000 ≤ off ∧ off + bs.length ≤ 0x10400 ∧ w.cxl.st = 2 then
    let j := (off - 0x10000) / 256
    let c := (tget {} w.cxl.channels j : Channel).pageWritten (off % 256) bs
    let w := { w.setUp with cxl := { w.cxl with channels := tput w.cxl.channels j c } }
    if off % 256 ≤ 0x40 ∧ 0x44 ≤ off % 256 + bs.length then windowGo j (leAt bs (0x40 - off % 256) 4) c.asked w else w
  else if 0x20000 ≤ off ∧ off + bs.length ≤ 0x60000 ∧ w.cxl.st = 2 then
    let j := (off - 0x20000) / 65536
    let c : Channel := tget {} w.cxl.channels j
    { w.setUp with cxl := { w.cxl with channels := tput w.cxl.channels j { c with data := patch c.data (off % 65536) bs } } }
  else if 0x60000 ≤ off ∧ off + bs.length ≤ 0x60100 then
    { w.setUp with cxl := { w.cxl with table := patch w.cxl.table (off - 0x60000) bs } }
  else w

/-- HOST_CXL_READ: the units in order; one without data comes as zeros with poison indicated, and is counted (R344,
0x1200.12; assumption 58). An address of space 0x4 reads BAR0 (R349). -/
def hostRead (dpa n : Nat) (w : Work) : Work :=
  if let some off := barOf dpa then w.barRead off n
  else if w.cxl.st ≠ 2 then w
  else
    let w := { w with cxl := { w.cxl with readData := [], readPoison := false } }
    (unitsOf dpa n).foldl (fun w u =>
      let (bs, w) := w.hostReadUnit (dpa + u.1) u.2
      match bs with
      | some bs => { w with cxl := { w.cxl with readData := w.cxl.readData ++ bs } }
      | none =>
        Work.addReg { w with cxl := { w.cxl with readData := w.cxl.readData ++ List.replicate u.2 0, readPoison := true } } 0x1200 0x12 1) w

/-- HOST_CXL_READ (R344). -/
def execHostCxlRead (dpa bytes : Nat) (s : State) : Host.Outcome State Fault Refusal := run (hostRead dpa bytes) s

/-- A host write dropped and counted (0x1200.13). -/
def Work.dropWrite (w : Work) : Work := w.addReg 0x1200 0x13 1

/-- Ranges of a set into which ciphertext may be ingested: masters and moments, and the slots of a generation that is FREE or
BUILDING (R266, R270). -/
def WSet.cipherRanges (x : WSet) : List (Nat × Nat) :=
  (x.layers.filter (·.encrypted)).flatMap (fun l => l.masterRanges ++
    ((List.range 4).filter (fun i => (x.gen i).st == .free || (x.gen i).st == .building)).flatMap l.slotRange)

/-- A range lies in a chunk range that an Ingest has not yet begun: one that a manifest names and that still waits, or, before
the Ingest is written, a range for ciphertext no chunk of which has been begun (R266, R268; assumption 105). -/
def Work.mayCipher (w : Work) (a n : Nat) : Bool :=
  w.sets.any (fun e =>
    (match e.2.ingest with
     | some g => g.waiting.any (fun r => decide (r.1 ≤ a) && decide (a + n ≤ r.1 + r.2))
     | none => false) ||
    (e.2.st != .free && !e.2.zeroing && !e.2.begun.any (meets (a, n)) &&
      e.2.cipherRanges.any (fun r => decide (r.1 ≤ a) && decide (a + n ≤ (r.1 + r.2 + 255) / 256 * 256))))

/-- Enabled bytes of a unit, as offset and byte. -/
def enabledBytes (bs : List Byte) (en : Nat) : List (Nat × Byte) :=
  (bs.zipIdx.filter (fun p => bit en p.2)).map (fun p => (p.2, p.1))

/-- The runs of enabled bytes of a write, as offset and bytes. -/
def runsOf (bs : List Byte) (en : Nat) : List (Nat × List Byte) :=
  (enabledBytes bs en).foldl (fun l e =>
    match l.getLast? with
    | some r => if r.1 + r.2.length = e.1 then l.dropLast ++ [(r.1, r.2 ++ [e.2])] else l ++ [(e.1, [e.2])]
    | none => [(e.1, [e.2])]) []

/-- A unit written to panel DRAM: dropped at a hole, at an unreachable Hutch and in a protected range, else the enabled
bytes stored (R186, R195, R268, R344). Answers whether it was performed. -/
def Work.hostWriteDram (w : Work) (g : Nat) (bs : List Byte) (en : Nat) (noAlloc : Bool) : Bool × Work :=
  let b := aHutch g
  if g ≥ 2 ^ 42 ∨ w.invalid g then (false, w.dropWrite)
  else if !w.hostReaches b then (false, w.dropWrite.event 1 0x24 4 b 0)
  else if w.isProtected g bs.length && !w.mayCipher g bs.length then (false, w.dropWrite.event 1 0x47 4 b g)
  else
    let w := w.hutchAccesses g bs.length true noAlloc
    (true, (enabledBytes bs en).foldl (fun w p => w.hutchWrite (g + p.1) [p.2]) w)

/-- A unit written through an ingest window: dropped while the window is disabled; the feeding window's enabled bytes reach
check-value unit 416 (R346). -/
def Work.hostWriteIngest (w : Work) (off : Nat) (bs : List Byte) (en : Nat) : Bool × Work :=
  let (base, flags) := windowOf (padTo 128 (w.blob 0x1200 0x10)) (off / 2 ^ 34)
  if !bit flags 0 then (false, w.dropWrite)
  else
    let w := if bit flags 1 then w.feedUnit 416 ((enabledBytes bs en).map (·.2)) else w
    w.hostWriteDram (base + off % 2 ^ 34) bs en true

/-- A unit written to the tracker window: ADMIT with all 64 bytes, END and RETIRE with byte 0 alone; every other write is
rejected (R281, R347). -/
def Work.hostWriteEntry (w : Work) (off : Nat) (bs : List Byte) (en : Nat) : Work :=
  let i := off / 64
  let on : List Nat := (enabledBytes bs en).map (·.1)
  let first : Bool := on == [0]
  if off % 64 = 0 ∧ bs.length = 64 ∧ on.length = 64 then admitEntry i bs w
  else if off % 64 = 0 && first && leAt bs 0 1 == 6 then endStream i w
  else if off % 64 = 0 && first && leAt bs 0 1 == 7 then retire i w
  else w.rejectEntry

/-- A unit of the DPA space as the host writes it. -/
def Work.hostWriteUnit (w : Work) (dpa : Nat) (bs : List Byte) (en : Nat) : Bool × Work :=
  if dpa < 2 ^ 42 then w.hostWriteDram dpa bs en false
  else if dpa < 2 ^ 42 + 2 ^ 37 then w.hostWriteIngest (dpa - 2 ^ 42) bs en
  else
    let off := dpa - (2 ^ 42 + 2 ^ 37)
    if off / 64 < 262144 then (false, w.hostWriteEntry off bs en) else (false, w.dropWrite)

/-- Where a unit lands in panel DRAM. -/
def Work.landing (w : Work) (dpa : Nat) : Nat :=
  if dpa < 2 ^ 42 then dpa
  else
    let off := dpa - 2 ^ 42
    (windowOf (padTo 128 (w.blob 0x1200 0x10)) (off / 2 ^ 34)).1 + off % 2 ^ 34

/-- HOST_CXL_WRITE: the units in order, each applied as one; a line whose every byte the units have written loses its poison
(R195, R344, R345; assumption 59). An address of space 0x4 writes BAR0, whole runs of enabled bytes at a time (R349). -/
def hostWrite (dpa : Nat) (data : List Byte) (en : Nat) (w : Work) : Work :=
  if let some off := barOf dpa then (runsOf data en).foldl (fun w r => w.barWrite (off + r.1) r.2) w
  else if w.cxl.st ≠ 2 then w
  else
    let (ok, w) := (unitsOf dpa data.length).foldl (fun (acc : Bool × Work) u =>
      let (ok, w) := acc.2.hostWriteUnit (dpa + u.1) (slice data u.1 u.2) (en / 2 ^ u.1)
      (acc.1 && ok, w)) (true, w)
    let g := w.landing dpa
    if ok && (List.range data.length).all (bit en) then
      let whole := (linesOf g data.length).filter (covers g data.length)
      if whole.any (w.hutch (aHutch g)).poisoned then w.modHutch (aHutch g) (fun h => whole.foldl Hutch.clearLine h) else w
    else w

/-- HOST_CXL_WRITE (R344). -/
def execHostCxlWrite (dpa : Nat) (data : List Byte) (enables : Nat) (s : State) : Host.Outcome State Fault Refusal :=
  runBurning (hostWrite dpa data enables) s

end Sys2Proof.Machine
end

