-- ==== Sys2Proof/Machine/Dispatch.lean ====
section
/-! DEFINITION. The dispatch of a command to its meaning: one arm for each row of the opcode table. -/

namespace Sys2Proof.Machine

/-- The effect of a command on everything but the queue. -/
def exec (i : Instr) (s : State) : Host.Outcome State Fault Refusal :=
  match i with
  | .panelRstNAssert lowNs pgFall => Sys2Proof.Machine.execPanelRstNAssert lowNs pgFall s
  | .startupRomSelfTest aOk bOk straps => Sys2Proof.Machine.execStartupRomSelfTest aOk bOk straps s
  | .startupClockRoot aLock hostLock refclk => Sys2Proof.Machine.execStartupClockRoot aLock hostLock refclk s
  | .startupHostDie ok width rate => Sys2Proof.Machine.execStartupHostDie ok width rate s
  | .startupMemoryDomain k west east => Sys2Proof.Machine.execStartupMemoryDomain k west east s
  | .startupComputeBay b test => Sys2Proof.Machine.execStartupComputeBay b test s
  | .startupPortEdge edge tests => Sys2Proof.Machine.execStartupPortEdge edge tests s
  | .sideboardHeartbeatSend => Sys2Proof.Machine.execSideboardHeartbeatSend s
  | .sideboardTakeover cause => Sys2Proof.Machine.execSideboardTakeover cause s
  | .clearRecord record => Sys2Proof.Machine.execClearRecord record s
  | .addRecord data => Sys2Proof.Machine.execAddRecord data s
  | .mapRecomputeComplete => Sys2Proof.Machine.execMapRecomputeComplete s
  | .registerWrite index sub data => Sys2Proof.Machine.execRegisterWrite index sub data s
  | .nop a p => Sys2Proof.Machine.execNop a p s
  | .bar a p => Sys2Proof.Machine.execBar a p s
  | .ptcfg a p => Sys2Proof.Machine.execPtcfg a p s
  | .park a p => Sys2Proof.Machine.execPark a p s
  | .scla a p => Sys2Proof.Machine.execScla a p s
  | .sclb a p => Sys2Proof.Machine.execSclb a p s
  | .doth a p => Sys2Proof.Machine.execDoth a p s
  | .dotf8 a p => Sys2Proof.Machine.execDotf8 a p s
  | .doti8 a p => Sys2Proof.Machine.execDoti8 a p s
  | .doti4 a p => Sys2Proof.Machine.execDoti4 a p s
  | .dotmx4 a p => Sys2Proof.Machine.execDotmx4 a p s
  | .dotmx8 a p => Sys2Proof.Machine.execDotmx8 a p s
  | .sdoth a p => Sys2Proof.Machine.execSdoth a p s
  | .sdotf8 a p => Sys2Proof.Machine.execSdotf8 a p s
  | .sdoti8 a p => Sys2Proof.Machine.execSdoti8 a p s
  | .sdoti4 a p => Sys2Proof.Machine.execSdoti4 a p s
  | .sdotmx4 a p => Sys2Proof.Machine.execSdotmx4 a p s
  | .sdotmx8 a p => Sys2Proof.Machine.execSdotmx8 a p s
  | .drain a p => Sys2Proof.Machine.execDrain a p s
  | .draincv a p => Sys2Proof.Machine.execDraincv a p s
  | .accld a p => Sys2Proof.Machine.execAccld a p s
  | .accadd a p => Sys2Proof.Machine.execAccadd a p s
  | .fadd a p => Sys2Proof.Machine.execFadd a p s
  | .fsub a p => Sys2Proof.Machine.execFsub a p s
  | .fmul a p => Sys2Proof.Machine.execFmul a p s
  | .ffma a p => Sys2Proof.Machine.execFfma a p s
  | .fmin a p => Sys2Proof.Machine.execFmin a p s
  | .fmax a p => Sys2Proof.Machine.execFmax a p s
  | .iadd a p => Sys2Proof.Machine.execIadd a p s
  | .isub a p => Sys2Proof.Machine.execIsub a p s
  | .imul a p => Sys2Proof.Machine.execImul a p s
  | .imin a p => Sys2Proof.Machine.execImin a p s
  | .imax a p => Sys2Proof.Machine.execImax a p s
  | .and a p => Sys2Proof.Machine.execAnd a p s
  | .or a p => Sys2Proof.Machine.execOr a p s
  | .xor a p => Sys2Proof.Machine.execXor a p s
  | .shl a p => Sys2Proof.Machine.execShl a p s
  | .shr a p => Sys2Proof.Machine.execShr a p s
  | .sar a p => Sys2Proof.Machine.execSar a p s
  | .fcmp a p => Sys2Proof.Machine.execFcmp a p s
  | .icmp a p => Sys2Proof.Machine.execIcmp a p s
  | .sel a p => Sys2Proof.Machine.execSel a p s
  | .steer a p => Sys2Proof.Machine.execSteer a p s
  | .gate a p => Sys2Proof.Machine.execGate a p s
  | .merge a p => Sys2Proof.Machine.execMerge a p s
  | .cmerge a p => Sys2Proof.Machine.execCmerge a p s
  | .repl a p => Sys2Proof.Machine.execRepl a p s
  | .rfwd a p => Sys2Proof.Machine.execRfwd a p s
  | .cvt a p => Sys2Proof.Machine.execCvt a p s
  | .mxpack a p => Sys2Proof.Machine.execMxpack a p s
  | .mxunpk a p => Sys2Proof.Machine.execMxunpk a p s
  | .mov a p => Sys2Proof.Machine.execMov a p s
  | .obst a p => Sys2Proof.Machine.execObst a p s
  | .sfu a p => Sys2Proof.Machine.execSfu a p s
  | .sfuService a col => Sys2Proof.Machine.execSfuService a col s
  | .resultWriteback a p n => Sys2Proof.Machine.execResultWriteback a p n s
  | .tokenAccept a p dir => Sys2Proof.Machine.execTokenAccept a p dir s
  | .passThroughMove a p dir => Sys2Proof.Machine.execPassThroughMove a p dir s
  | .staleTokenRemoval a p dir => Sys2Proof.Machine.execStaleTokenRemoval a p dir s
  | .cellFault a p word => Sys2Proof.Machine.execCellFault a p word s
  | .register => Sys2Proof.Machine.execRegister s
  | .unregister imageId => Sys2Proof.Machine.execUnregister imageId s
  | .loadArray imageId d k force => Sys2Proof.Machine.execLoadArray imageId d k force s
  | .arrayLoad a => Sys2Proof.Machine.execArrayLoad a s
  | .closeWaitTimeout a => Sys2Proof.Machine.execCloseWaitTimeout a s
  | .loadWriteComplete a => Sys2Proof.Machine.execLoadWriteComplete a s
  | .arrayRunStart a => Sys2Proof.Machine.execArrayRunStart a s
  | .drainSuccess a => Sys2Proof.Machine.execDrainSuccess a s
  | .drainDeadline a => Sys2Proof.Machine.execDrainDeadline a s
  | .drainNoProgress a => Sys2Proof.Machine.execDrainNoProgress a s
  | .progressSuspicion a => Sys2Proof.Machine.execProgressSuspicion a s
  | .spillRefill a p dir => Sys2Proof.Machine.execSpillRefill a p dir s
  | .incomingWindowWord a port => Sys2Proof.Machine.execIncomingWindowWord a port s
  | .outgoingWindowWrite a port => Sys2Proof.Machine.execOutgoingWindowWrite a port s
  | .incomingTokenDelivery a port => Sys2Proof.Machine.execIncomingTokenDelivery a port s
  | .openChan pkt => Sys2Proof.Machine.execOpenChan pkt s
  | .openRepeat a c => Sys2Proof.Machine.execOpenRepeat a c s
  | .grant pkt => Sys2Proof.Machine.execGrant pkt s
  | .reject pkt => Sys2Proof.Machine.execReject pkt s
  | .openTimeout a => Sys2Proof.Machine.execOpenTimeout a s
  | .dataLaunch a port => Sys2Proof.Machine.execDataLaunch a port s
  | .data pkt => Sys2Proof.Machine.execData pkt s
  | .credit pkt => Sys2Proof.Machine.execCredit pkt s
  | .closeChan pkt => Sys2Proof.Machine.execCloseChan pkt s
  | .closed pkt => Sys2Proof.Machine.execClosed pkt s
  | .scratchpadAccessComplete access => Sys2Proof.Machine.execScratchpadAccessComplete access s
  | .sramPatrol b corrected bad => Sys2Proof.Machine.execSramPatrol b corrected bad s
  | .dramPatrolScrub b corrected bad => Sys2Proof.Machine.execDramPatrolScrub b corrected bad s
  | .hostCxlRead dpa bytes => Sys2Proof.Machine.execHostCxlRead dpa bytes s
  | .hostCxlWrite dpa data enables => Sys2Proof.Machine.execHostCxlWrite dpa data enables s
  | .move a e => Sys2Proof.Machine.execMove a e s
  | .fill a e => Sys2Proof.Machine.execFill a e s
  | .copy a e => Sys2Proof.Machine.execCopy a e s
  | .tcopy a e => Sys2Proof.Machine.execTcopy a e s
  | .invalidate a e => Sys2Proof.Machine.execInvalidate a e s
  | .feed a e => Sys2Proof.Machine.execFeed a e s
  | .collect a e => Sys2Proof.Machine.execCollect a e s
  | .reduce a e => Sys2Proof.Machine.execReduce a e s
  | .openrx a e => Sys2Proof.Machine.execOpenrx a e s
  | .closerx a e => Sys2Proof.Machine.execCloserx a e s
  | .cksave a e => Sys2Proof.Machine.execCksave a e s
  | .ckload a e => Sys2Proof.Machine.execCkload a e s
  | .descriptorComplete a e => Sys2Proof.Machine.execDescriptorComplete a e s
  | .barrierArrivalPost a e => Sys2Proof.Machine.execBarrierArrivalPost a e s
  | .crq pkt => Sys2Proof.Machine.execCrq pkt s
  | .creditGrant a w => Sys2Proof.Machine.execCreditGrant a w s
  | .cgr pkt => Sys2Proof.Machine.execCgr pkt s
  | .crj pkt => Sys2Proof.Machine.execCrj pkt s
  | .crqTimeout a e => Sys2Proof.Machine.execCrqTimeout a e s
  | .wr pkt => Sys2Proof.Machine.execWr pkt s
  | .mwrStep d pkt => Sys2Proof.Machine.execMwrStep d pkt s
  | .done pkt => Sys2Proof.Machine.execDone pkt s
  | .ccan pkt => Sys2Proof.Machine.execCcan pkt s
  | .multicastTimeout a e => Sys2Proof.Machine.execMulticastTimeout a e s
  | .awr pkt => Sys2Proof.Machine.execAwr pkt s
  | .rdreq pkt => Sys2Proof.Machine.execRdreq pkt s
  | .rddata pkt => Sys2Proof.Machine.execRddata pkt s
  | .checkUnitLoad data => Sys2Proof.Machine.execCheckUnitLoad data s
  | .checkUnitReset unit => Sys2Proof.Machine.execCheckUnitReset unit s
  | .linkFrameReceive l frame => Sys2Proof.Machine.execLinkFrameReceive l frame s
  | .linkReplay l => Sys2Proof.Machine.execLinkReplay l s
  | .linkDirectionFails l => Sys2Proof.Machine.execLinkDirectionFails l s
  | .routerHeaderArrival d inPort pkt => Sys2Proof.Machine.execRouterHeaderArrival d inPort pkt s
  | .outputArbitration d out => Sys2Proof.Machine.execOutputArbitration d out s
  | .unreach pkt => Sys2Proof.Machine.execUnreach pkt s
  | .red d pkt => Sys2Proof.Machine.execRed d pkt s
  | .redCombine d n => Sys2Proof.Machine.execRedCombine d n s
  | .reduceDoneTimeout a e => Sys2Proof.Machine.execReduceDoneTimeout a e s
  | .fmgrTable d => Sys2Proof.Machine.execFmgrTable d s
  | .fmgrStop d => Sys2Proof.Machine.execFmgrStop d s
  | .fmgrStopped d => Sys2Proof.Machine.execFmgrStopped d s
  | .fmgrQuiesced d => Sys2Proof.Machine.execFmgrQuiesced d s
  | .fmgrSwap d => Sys2Proof.Machine.execFmgrSwap d s
  | .fmgrSwapped d => Sys2Proof.Machine.execFmgrSwapped d s
  | .fmgrResume => Sys2Proof.Machine.execFmgrResume s
  | .tableDrainTimeout => Sys2Proof.Machine.execTableDrainTimeout s
  | .congestionSample d => Sys2Proof.Machine.execCongestionSample d s
  | .fmgrMapreq d => Sys2Proof.Machine.execFmgrMapreq d s
  | .fmgrMapdata d window data => Sys2Proof.Machine.execFmgrMapdata d window data s
  | .dict pkt => Sys2Proof.Machine.execDict pkt s
  | .define set data => Sys2Proof.Machine.execDefine set data s
  | .setMode set mode => Sys2Proof.Machine.execSetMode set mode s
  | .newGeneration set => Sys2Proof.Machine.execNewGeneration set s
  | .publish set gen => Sys2Proof.Machine.execPublish set gen s
  | .switchCurrent set gen => Sys2Proof.Machine.execSwitchCurrent set gen s
  | .discard set gen => Sys2Proof.Machine.execDiscard set gen s
  | .pin set => Sys2Proof.Machine.execPin set s
  | .unpin set gen => Sys2Proof.Machine.execUnpin set gen s
  | .wrappedKey set data => Sys2Proof.Machine.execWrappedKey set data s
  | .ingest set data => Sys2Proof.Machine.execIngest set data s
  | .decryptChunk b n => Sys2Proof.Machine.execDecryptChunk b n s
  | .ingestComplete set => Sys2Proof.Machine.execIngestComplete set s
  | .chunk pkt => Sys2Proof.Machine.execChunk pkt s
  | .chunkdone pkt => Sys2Proof.Machine.execChunkdone pkt s
  | .chunkConfirmTimeout b chunk => Sys2Proof.Machine.execChunkConfirmTimeout b chunk s
  | .undefine set => Sys2Proof.Machine.execUndefine set s
  | .undefineZeroComplete set => Sys2Proof.Machine.execUndefineZeroComplete set s
  | .wstream pkt => Sys2Proof.Machine.execWstream pkt s
  | .wstreamRun b n => Sys2Proof.Machine.execWstreamRun b n s
  | .wdone pkt => Sys2Proof.Machine.execWdone pkt s
  | .update pkt => Sys2Proof.Machine.execUpdate pkt s
  | .udone pkt => Sys2Proof.Machine.execUdone pkt s
  | .adapterLoad data => Sys2Proof.Machine.execAdapterLoad data s
  | .release slot => Sys2Proof.Machine.execRelease slot s
  | .trackerEnable on => Sys2Proof.Machine.execTrackerEnable on s
  | .admitEntry n data => Sys2Proof.Machine.execAdmit n data s
  | .endStream n => Sys2Proof.Machine.execEndStream n s
  | .retire n => Sys2Proof.Machine.execRetire n s
  | .batchForm set => Sys2Proof.Machine.execBatchForm set s
  | .tstep pkt => Sys2Proof.Machine.execTstep pkt s
  | .tack pkt => Sys2Proof.Machine.execTack pkt s
  | .listCreate data => Sys2Proof.Machine.execListCreate data s
  | .listDelete list => Sys2Proof.Machine.execListDelete list s
  | .listPoll list => Sys2Proof.Machine.execListPoll list s
  | .run d => Sys2Proof.Machine.execRun d s
  | .batch d => Sys2Proof.Machine.execBatch d s
  | .fence d => Sys2Proof.Machine.execFence d s
  | .fenceComplete d => Sys2Proof.Machine.execFenceComplete d s
  | .taskPlacement d => Sys2Proof.Machine.execTaskPlacement d s
  | .steal pkt => Sys2Proof.Machine.execSteal pkt s
  | .give pkt => Sys2Proof.Machine.execGive pkt s
  | .stealRetry d => Sys2Proof.Machine.execStealRetry d s
  | .hotCheck d => Sys2Proof.Machine.execHotCheck d s
  | .tpush pkt => Sys2Proof.Machine.execTpush pkt s
  | .pushack pkt => Sys2Proof.Machine.execPushack pkt s
  | .tdone pkt => Sys2Proof.Machine.execTdone pkt s
  | .barrive pkt => Sys2Proof.Machine.execBarrive pkt s
  | .bdone pkt => Sys2Proof.Machine.execBdone pkt s
  | .taskComplete a => Sys2Proof.Machine.execTaskComplete a s
  | .taskAbort a => Sys2Proof.Machine.execTaskAbort a s
  | .timeLimit d k waiting => Sys2Proof.Machine.execTimeLimit d k waiting s
  | .configure => Sys2Proof.Machine.execConfigure s
  | .start => Sys2Proof.Machine.execStart s
  | .stop => Sys2Proof.Machine.execStop s
  | .stopTimeout => Sys2Proof.Machine.execStopTimeout s
  | .kill => Sys2Proof.Machine.execKill s
  | .jobEnd => Sys2Proof.Machine.execJobEnd s
  | .scrubComplete => Sys2Proof.Machine.execScrubComplete s
  | .edgeFrameReceive k frame => Sys2Proof.Machine.execEdgeFrameReceive k frame s
  | .edgeReplay k => Sys2Proof.Machine.execEdgeReplay k s
  | .portFailure k cause => Sys2Proof.Machine.execPortFailure k cause s
  | .portRetrain k test => Sys2Proof.Machine.execPortRetrain k test s
  | .ecrq pkt => Sys2Proof.Machine.execEcrq pkt s
  | .ecgr pkt => Sys2Proof.Machine.execEcgr pkt s
  | .ecret pkt => Sys2Proof.Machine.execEcret pkt s
  | .egressCreditIdle n => Sys2Proof.Machine.execEgressCreditIdle n s
  | .xbarrive pkt => Sys2Proof.Machine.execXbarrive pkt s
  | .xbdone pkt => Sys2Proof.Machine.execXbdone pkt s
  | .xsuspect pkt => Sys2Proof.Machine.execXsuspect pkt s
  | .hbeatSend => Sys2Proof.Machine.execHbeatSend s
  | .hbeat pkt => Sys2Proof.Machine.execHbeat pkt s
  | .twinLoss => Sys2Proof.Machine.execTwinLoss s
  | .attach => Sys2Proof.Machine.execAttach s
  | .detach => Sys2Proof.Machine.execDetach s
  | .hattach pkt => Sys2Proof.Machine.execHattach pkt s
  | .hack pkt => Sys2Proof.Machine.execHack pkt s
  | .mranges pkt => Sys2Proof.Machine.execMranges pkt s
  | .mrack pkt => Sys2Proof.Machine.execMrack pkt s
  | .mirrorCopyComplete => Sys2Proof.Machine.execMirrorCopyComplete s
  | .mcommit pkt => Sys2Proof.Machine.execMcommit pkt s
  | .mack pkt => Sys2Proof.Machine.execMack pkt s
  | .patternTest k ms => Sys2Proof.Machine.execPatternTest k ms s
  | .clearSuspect panel => Sys2Proof.Machine.execClearSuspect panel s
  | .perstNAssert => Sys2Proof.Machine.execPerstNAssert s
  | .perstNDeassert => Sys2Proof.Machine.execPerstNDeassert s
  | .functionLevelReset => Sys2Proof.Machine.execFunctionLevelReset s
  | .cxlLinkUp width rate => Sys2Proof.Machine.execCxlLinkUp width rate s
  | .windowGo chan tag req => Sys2Proof.Machine.execWindowGo chan tag req s
  | .sacorDatagram source multicast malformed req => Sys2Proof.Machine.execSacorDatagram source multicast malformed req s
  | .dictRead path index sub offset length cont => Sys2Proof.Machine.execDictRead path index sub offset length cont s
  | .dictWrite path index sub offset data more => Sys2Proof.Machine.execDictWrite path index sub offset data more s
  | .dictDescribe path index sub => Sys2Proof.Machine.execDictDescribe path index sub s
  | .hello path data => Sys2Proof.Machine.execHello path data s
  | .dictClose path => Sys2Proof.Machine.execDictClose path s
  | .sessionIdleTimeout session => Sys2Proof.Machine.execSessionIdleTimeout session s
  | .snapshotExpiry path => Sys2Proof.Machine.execSnapshotExpiry path s
  | .stagingExpiry path => Sys2Proof.Machine.execStagingExpiry path s
  | .discoveryReply => Sys2Proof.Machine.execDiscoveryReply s
  | .msixMessage vector => Sys2Proof.Machine.execMsixMessage vector s
  | .frequencyLimitWindow region cycles => Sys2Proof.Machine.execFrequencyLimitWindow region cycles s
  | .regionSlowClock region => Sys2Proof.Machine.execRegionSlowClock region s
  | .marginResponse region code => Sys2Proof.Machine.execMarginResponse region code s
  | .marginCapRestore region => Sys2Proof.Machine.execMarginCapRestore region s
  | .timeWave => Sys2Proof.Machine.execTimeWave s
  | .tsync d sync => Sys2Proof.Machine.execTsync d sync s
  | .techo d => Sys2Proof.Machine.execTecho d s
  | .timeStep => Sys2Proof.Machine.execTimeStep s
  | .rateChange d => Sys2Proof.Machine.execRateChange d s
  | .setSeconds seconds => Sys2Proof.Machine.execSetSeconds seconds s
  | .ppsEdge => Sys2Proof.Machine.execPpsEdge s
  | .ppsHoldover => Sys2Proof.Machine.execPpsHoldover s
  | .clockRootLoss => Sys2Proof.Machine.execClockRootLoss s
  | .reparent depth => Sys2Proof.Machine.execReparent depth s
  | .domainEnable dom test => Sys2Proof.Machine.execDomainEnable dom test s
  | .domainDisable dom => Sys2Proof.Machine.execDomainDisable dom s
  | .pgAssert dom => Sys2Proof.Machine.execPgAssert dom s
  | .pgTimeout dom => Sys2Proof.Machine.execPgTimeout dom s
  | .pgFall dom => Sys2Proof.Machine.execPgFall dom s
  | .pmbusPoll readings => Sys2Proof.Machine.execPmbusPoll readings s
  | .pmbusAlert segment readings => Sys2Proof.Machine.execPmbusAlert segment readings s
  | .currentGuardSample dom milliamps => Sys2Proof.Machine.execCurrentGuardSample dom milliamps s
  | .powerCapLoop => Sys2Proof.Machine.execPowerCapLoop s
  | .sensorRead stack n reading after => Sys2Proof.Machine.execSensorRead stack n reading after s
  | .junctionThrottle => Sys2Proof.Machine.execJunctionThrottle s
  | .thermalTrip n => Sys2Proof.Machine.execThermalTrip n s
  | .airflowEstimate => Sys2Proof.Machine.execAirflowEstimate s
  | .coolFailNAssert => Sys2Proof.Machine.execCoolFailNAssert s
  | .coolingRecovery => Sys2Proof.Machine.execCoolingRecovery s
  | .baySwitchOff b => Sys2Proof.Machine.execBaySwitchOff b s
  | .drainGraceExpiry b => Sys2Proof.Machine.execDrainGraceExpiry b s
  | .clearMark step => Sys2Proof.Machine.execClearMark step s
  | .firmwareWrite offset data more => Sys2Proof.Machine.execFirmwareWrite offset data more s
  | .firmwareWriteAbandon => Sys2Proof.Machine.execFirmwareWriteAbandon s
  | .activate slot => Sys2Proof.Machine.execActivate slot s
  | .commitVersion version => Sys2Proof.Machine.execCommitVersion version s
  | .keySlotWrite path data => Sys2Proof.Machine.execKeySlotWrite path data s
  | .keySlotClear path slot => Sys2Proof.Machine.execKeySlotClear path slot s
  | .attest data => Sys2Proof.Machine.execAttest data s
  | .katRun a failed => Sys2Proof.Machine.execKatRun a failed s
  | .clearArraySuspect site => Sys2Proof.Machine.execClearArraySuspect site s
  | .incidentClose => Sys2Proof.Machine.execIncidentClose s
  | .clearFirstFailure => Sys2Proof.Machine.execClearFirstFailure s
  | .alertAck bits => Sys2Proof.Machine.execAlertAck bits s
  | .mailboxCommand op data => Sys2Proof.Machine.execMailboxCommand op data s
  | .hdmDecoderCommit n dpa size => Sys2Proof.Machine.execHdmDecoderCommit n dpa size s
  | .coolFailNDeassert => Sys2Proof.Machine.execCoolFailNDeassert s
  | .patternTestComplete k => Sys2Proof.Machine.execPatternTestComplete k s
  | .adapterLoadComplete slot => Sys2Proof.Machine.execAdapterLoadComplete slot s
  | .streamEntrySettled n => Sys2Proof.Machine.execStreamEntrySettled n s
  | .routerQuiesceCheck d => Sys2Proof.Machine.execRouterQuiesceCheck d s
  | .fmgrTableAck d => Sys2Proof.Machine.execFmgrTableAck d s

end Sys2Proof.Machine
end

