-- ==== Sys2Proof/Machine/Tick.lean ====
section
/-! DEFINITION. What passes when no command is waiting: 1 ns of the time counter and one cycle of each running
array, for the monitors that count array cycles. -/

namespace Sys2Proof.Machine

/-- The share of an issue cycle that the slew guard allows an array, in 1/96,000: one in eight as an array that had rested for 1 µs
starts, rising linearly to full over 12 µs (R396). -/
def slewShare (now : Nat) (began : Option Nat) : Nat :=
  match began with
  | some t => min 96000 (12000 + 7 * (now - t))
  | none => 96000

/-- Since when an array has been issuing without 1 µs of rest, as one of its cycles ends (R396). -/
def Arr.slewing (x : Arr) (now : Nat) : Option Nat :=
  if x.fired then some (x.slewAt.getD now) else if now < x.issuedAt + 1000 then x.slewAt else none

/-- One array cycle: of a channel's gathered packet, the cycles since its first token (R156); of a drain, the cycles without movement
(R144); of a running task, the cycles in which no cell fires and a queue is full, but for those in which issue is gated (R147, R396);
and whether the next cycle is gated, by the share of cycles that the issue duty, the current guard and the slew leave (R396, R404,
R407). -/
def Arr.cycle (x : Arr) (held : Bool) (share now : Nat) : Arr :=
  let began := x.slewing now
  let sum := x.share + min share (slewShare now began)
  let y := { x with
    fired := false, moved := false
    issuedAt := if x.fired then now else x.issuedAt, slewAt := began
    share := if 96000 ≤ sum then sum - 96000 else sum, gated := decide (sum < 96000)
    chans := x.chans.map (fun e => (e.1, { e.2 with age := if e.2.gather.isEmpty then 0 else e.2.age + 1 })) }
  if x.st = .drain then { y with still := if x.moved then 0 else x.still + 1 }
  else if x.st = .run ∧ x.task.isSome ∧ !held ∧ !x.gated then
    { y with progress := if !x.fired && !x.fullQueues.isEmpty then x.progress + 1 else 0 }
  else y

/-- The time counter of the root advances by one rate step a nanosecond while its clock runs (R379). -/
def Work.tickTime (w : Work) : Work :=
  if w.root.running then { w with clock := w.clock + (2 ^ 32 + w.root.rate).toNat } else w

/-- The share of cycles in which an array may issue, in 1/96,000: the issue duty of its die, and one in two while its bay's current
guard gates (R396, R404, R407). -/
def Work.issueShare (w : Work) (a : Nat) : Nat :=
  match w.siteOf (a / 16) with
  | some n => min (12000 * w.dutyOf n) (if (w.domain (bayOfSite n)).gated then 48000 else 96000)
  | none => 96000

/-- One nanosecond, for every array that the state lists one array cycle, and for every link and edge port its idle frame
(R227, R312; assumptions 1 and 86). Between STOP and RESUME the progress monitors hold (R258). -/
def Work.tick (w : Work) : Work :=
  let w : Work := { w.tickTime with arrays := w.arrays.map (fun e => (e.1, e.2.cycle (decide (2 ≤ w.fmgr.st)) (w.issueShare e.1) w.now)) }
  w.ports.foldl (fun w e => w.idleEdge e.1) (w.links.foldl (fun w e => w.idleFrame e.1) w)

/-- What passes when no command waits. -/
def tick (s : State) : State := s.commit s.work.tick

end Sys2Proof.Machine
end

