-- ==== Sys2Proof/WellFormed.lean ====
section
/-! DEFINITION. When a command is well formed: its operands lie in the ranges that the spec gives the things they name. -/

namespace Sys2Proof

/-- A logical array by its record number k + 16·d, d < 384 (R135). -/
def arrayOk (a : Nat) : Bool := decide (a < 6144)

/-- A cell of an array (R123). -/
def cellOk (p : Nat) : Bool := decide (p < 256)

/-- A direction N, S, E, W (R82). -/
def dirOk (d : Nat) : Bool := decide (d < 4)

/-- A stream engine of an array (R198). -/
def engineOk (e : Nat) : Bool := decide (e < 4)

/-- A bay, a Hutch (R11). -/
def bayOk (b : Nat) : Bool := decide (b < 16)

/-- A logical die (R135). -/
def dieOk (d : Nat) : Bool := decide (d < 384)

/-- A weight set (R262). -/
def setOk (s : Nat) : Bool := decide (s < 64)

/-- A generation number (R270). -/
def genOk (g : Nat) : Bool := decide (g < 65536)

/-- An adapter slot (R278). -/
def adapterOk (i : Nat) : Bool := decide (i < 65536)

/-- A firmware slot (R430). -/
def fwSlotOk (n : Nat) : Bool := decide (n < 2)

/-- A key slot (R432). -/
def keySlotOk (n : Nat) : Bool := decide (n < 8)

/-- A stream entry (R280). -/
def streamOk (i : Nat) : Bool := decide (i < 262144)

/-- An HDM decoder (R340). -/
def decoderOk (i : Nat) : Bool := decide (i < 4)

/-- A check-value unit (R221). -/
def unitOk (u : Nat) : Bool := decide (u < 417)

/-- A site (R11). -/
def siteOk (n : Nat) : Bool := decide (n < 416)

/-- A direction of a link: (site·8 + link code)·2 + direction (R227). -/
def linkOk (l : Nat) : Bool := decide (l < 6656)

/-- An array of a die (R33). -/
def arrayIndexOk (k : Nat) : Bool := decide (k < 16)

/-- A pair of memory domains (R417). -/
def pairOk (k : Nat) : Bool := decide (k < 8)

/-- An edge port (R308). -/
def portOk (k : Nat) : Bool := decide (k < 16)

/-- A power domain (R387). -/
def domainOk (d : Nat) : Bool := decide (d < 38)

/-- A clock region (R367). -/
def regionOk (r : Nat) : Bool := decide (r < 9216)

/-- A task list (R287). -/
def listOk (n : Nat) : Bool := decide (n < 1024)

/-- An ImageId (R124). -/
def imageOk (n : Nat) : Bool := decide (n < 4294967296)

/-- A port of a router (R235). -/
def routerPortOk (n : Nat) : Bool := decide (n < 6)

/-- A column of an array (R123). -/
def columnOk (c : Nat) : Bool := decide (c < 16)

/-- A dictionary index (R357). -/
def indexOk (i : Nat) : Bool := decide (i < 65536)

/-- A dictionary subindex (R357). -/
def subOk (i : Nat) : Bool := decide (i < 256)

/-- A port-edge domain (R387). -/
def edgeOk (e : Nat) : Bool := decide (e < 4)

/-- An MSI-X vector (R350). -/
def vectorOk (v : Nat) : Bool := decide (v < 16)

/-- A PMBus segment (R394). -/
def segmentOk (n : Nat) : Bool := decide (n < 2)

/-- A window channel (R358). -/
def channelOk (j : Nat) : Bool := decide (j < 4)

/-- A mode of a weight set (R262). -/
def modeOk (m : Nat) : Bool := decide (m < 2)

/-- A margin code (R370). -/
def codeOk (c : Nat) : Bool := decide (c < 16)

/-- A panel ID (R324). -/
def panelOk (p : Nat) : Bool := decide (p < 4096)

/-- A port of the array edge (R128). -/
def arrayPortOk (e : Nat) : Bool := decide (e < 64)

/-- A packet's fields fit the bits that R233 gives them, and its payload is whole flits or less (R232). -/
def packetOk (p : Packet) : Bool :=
  decide (p.type < 256) && decide (p.vc < 6) && decide (p.lane < 2) && panelOk p.dstPanel && panelOk p.srcPanel && decide (p.dstC < 32) &&
    decide (p.dstR < 16) && decide (p.srcC < 32) && decide (p.srcR < 16) && decide (p.dstUnit < 256) && decide (p.srcUnit < 256) &&
    decide (p.payload.length ≤ 256)

/-- A path of a dictionary access: one of four window channels, or a Sacor requester (R356, R358). -/
def pathOk (p : Path) : Bool := (!p.cxl || channelOk p.chan) && decide (p.session < 4294967296)

/-- A command whose operands name things that exist. -/
def Instr.wf : Instr → Bool
  | .panelRstNAssert _ _ => true
  | .startupRomSelfTest _ _ _ => true
  | .startupClockRoot _ _ _ => true
  | .startupHostDie _ _ _ => true
  | .sideboardHeartbeatSend => true
  | .sideboardTakeover _ => true
  | .clearRecord _ => true
  | .addRecord _ => true
  | .mapRecomputeComplete => true
  | .register => true
  | .hostCxlRead _ _ => true
  | .hostCxlWrite _ _ _ => true
  | .checkUnitLoad _ => true
  | .fmgrResume => true
  | .tableDrainTimeout => true
  | .adapterLoad _ => true
  | .trackerEnable _ => true
  | .listCreate _ => true
  | .configure => true
  | .start => true
  | .stop => true
  | .stopTimeout => true
  | .kill => true
  | .jobEnd => true
  | .scrubComplete => true
  | .egressCreditIdle _ => true
  | .hbeatSend => true
  | .twinLoss => true
  | .attach => true
  | .detach => true
  | .mirrorCopyComplete => true
  | .perstNAssert => true
  | .perstNDeassert => true
  | .functionLevelReset => true
  | .cxlLinkUp _ _ => true
  | .sacorDatagram _ _ _ _ => true
  | .sessionIdleTimeout _ => true
  | .discoveryReply => true
  | .timeWave => true
  | .timeStep => true
  | .setSeconds _ => true
  | .ppsEdge => true
  | .ppsHoldover => true
  | .clockRootLoss => true
  | .reparent _ => true
  | .pmbusPoll _ => true
  | .powerCapLoop => true
  | .sensorRead _ _ _ _ => true
  | .junctionThrottle => true
  | .thermalTrip _ => true
  | .airflowEstimate => true
  | .coolFailNAssert => true
  | .coolingRecovery => true
  | .clearMark _ => true
  | .firmwareWrite _ _ _ => true
  | .firmwareWriteAbandon => true
  | .commitVersion _ => true
  | .attest _ => true
  | .incidentClose => true
  | .clearFirstFailure => true
  | .alertAck _ => true
  | .mailboxCommand _ _ => true
  | .coolFailNDeassert => true
  | .startupMemoryDomain k _ _ => pairOk k
  | .startupComputeBay b _ => bayOk b
  | .sramPatrol b _ _ => bayOk b
  | .dramPatrolScrub b _ _ => bayOk b
  | .decryptChunk b _ => bayOk b
  | .chunkConfirmTimeout b _ => bayOk b
  | .wstreamRun b _ => bayOk b
  | .baySwitchOff b => bayOk b
  | .drainGraceExpiry b => bayOk b
  | .startupPortEdge edge _ => edgeOk edge
  | .registerWrite index sub _ => indexOk index && subOk sub
  | .nop a p => arrayOk a && cellOk p
  | .bar a p => arrayOk a && cellOk p
  | .ptcfg a p => arrayOk a && cellOk p
  | .park a p => arrayOk a && cellOk p
  | .scla a p => arrayOk a && cellOk p
  | .sclb a p => arrayOk a && cellOk p
  | .doth a p => arrayOk a && cellOk p
  | .dotf8 a p => arrayOk a && cellOk p
  | .doti8 a p => arrayOk a && cellOk p
  | .doti4 a p => arrayOk a && cellOk p
  | .dotmx4 a p => arrayOk a && cellOk p
  | .dotmx8 a p => arrayOk a && cellOk p
  | .sdoth a p => arrayOk a && cellOk p
  | .sdotf8 a p => arrayOk a && cellOk p
  | .sdoti8 a p => arrayOk a && cellOk p
  | .sdoti4 a p => arrayOk a && cellOk p
  | .sdotmx4 a p => arrayOk a && cellOk p
  | .sdotmx8 a p => arrayOk a && cellOk p
  | .drain a p => arrayOk a && cellOk p
  | .draincv a p => arrayOk a && cellOk p
  | .accld a p => arrayOk a && cellOk p
  | .accadd a p => arrayOk a && cellOk p
  | .fadd a p => arrayOk a && cellOk p
  | .fsub a p => arrayOk a && cellOk p
  | .fmul a p => arrayOk a && cellOk p
  | .ffma a p => arrayOk a && cellOk p
  | .fmin a p => arrayOk a && cellOk p
  | .fmax a p => arrayOk a && cellOk p
  | .iadd a p => arrayOk a && cellOk p
  | .isub a p => arrayOk a && cellOk p
  | .imul a p => arrayOk a && cellOk p
  | .imin a p => arrayOk a && cellOk p
  | .imax a p => arrayOk a && cellOk p
  | .and a p => arrayOk a && cellOk p
  | .or a p => arrayOk a && cellOk p
  | .xor a p => arrayOk a && cellOk p
  | .shl a p => arrayOk a && cellOk p
  | .shr a p => arrayOk a && cellOk p
  | .sar a p => arrayOk a && cellOk p
  | .fcmp a p => arrayOk a && cellOk p
  | .icmp a p => arrayOk a && cellOk p
  | .sel a p => arrayOk a && cellOk p
  | .steer a p => arrayOk a && cellOk p
  | .gate a p => arrayOk a && cellOk p
  | .merge a p => arrayOk a && cellOk p
  | .cmerge a p => arrayOk a && cellOk p
  | .repl a p => arrayOk a && cellOk p
  | .rfwd a p => arrayOk a && cellOk p
  | .cvt a p => arrayOk a && cellOk p
  | .mxpack a p => arrayOk a && cellOk p
  | .mxunpk a p => arrayOk a && cellOk p
  | .mov a p => arrayOk a && cellOk p
  | .obst a p => arrayOk a && cellOk p
  | .sfu a p => arrayOk a && cellOk p
  | .resultWriteback a p _ => arrayOk a && cellOk p
  | .cellFault a p _ => arrayOk a && cellOk p
  | .sfuService a col => arrayOk a && columnOk col
  | .tokenAccept a p dir => arrayOk a && cellOk p && dirOk dir
  | .passThroughMove a p dir => arrayOk a && cellOk p && dirOk dir
  | .staleTokenRemoval a p dir => arrayOk a && cellOk p && dirOk dir
  | .spillRefill a p dir => arrayOk a && cellOk p && dirOk dir
  | .unregister imageId => imageOk imageId
  | .loadArray imageId d k _ => imageOk imageId && dieOk d && arrayIndexOk k
  | .arrayLoad a => arrayOk a
  | .closeWaitTimeout a => arrayOk a
  | .loadWriteComplete a => arrayOk a
  | .arrayRunStart a => arrayOk a
  | .drainSuccess a => arrayOk a
  | .drainDeadline a => arrayOk a
  | .drainNoProgress a => arrayOk a
  | .progressSuspicion a => arrayOk a
  | .openRepeat a _ => arrayOk a
  | .openTimeout a => arrayOk a
  | .scratchpadAccessComplete x => arrayOk x.array
  | .creditGrant a _ => arrayOk a
  | .taskComplete a => arrayOk a
  | .taskAbort a => arrayOk a
  | .katRun a _ => arrayOk a
  | .incomingWindowWord a port => arrayOk a && arrayPortOk port
  | .outgoingWindowWrite a port => arrayOk a && arrayPortOk port
  | .incomingTokenDelivery a port => arrayOk a && arrayPortOk port
  | .dataLaunch a port => arrayOk a && arrayPortOk port
  | .openChan pkt => packetOk pkt
  | .grant pkt => packetOk pkt
  | .reject pkt => packetOk pkt
  | .data pkt => packetOk pkt
  | .credit pkt => packetOk pkt
  | .closeChan pkt => packetOk pkt
  | .closed pkt => packetOk pkt
  | .crq pkt => packetOk pkt
  | .cgr pkt => packetOk pkt
  | .crj pkt => packetOk pkt
  | .wr pkt => packetOk pkt
  | .done pkt => packetOk pkt
  | .ccan pkt => packetOk pkt
  | .awr pkt => packetOk pkt
  | .rdreq pkt => packetOk pkt
  | .rddata pkt => packetOk pkt
  | .unreach pkt => packetOk pkt
  | .dict pkt => packetOk pkt
  | .chunk pkt => packetOk pkt
  | .chunkdone pkt => packetOk pkt
  | .wstream pkt => packetOk pkt
  | .wdone pkt => packetOk pkt
  | .update pkt => packetOk pkt
  | .udone pkt => packetOk pkt
  | .tstep pkt => packetOk pkt
  | .tack pkt => packetOk pkt
  | .steal pkt => packetOk pkt
  | .give pkt => packetOk pkt
  | .tpush pkt => packetOk pkt
  | .pushack pkt => packetOk pkt
  | .tdone pkt => packetOk pkt
  | .barrive pkt => packetOk pkt
  | .bdone pkt => packetOk pkt
  | .ecrq pkt => packetOk pkt
  | .ecgr pkt => packetOk pkt
  | .ecret pkt => packetOk pkt
  | .xbarrive pkt => packetOk pkt
  | .xbdone pkt => packetOk pkt
  | .xsuspect pkt => packetOk pkt
  | .hbeat pkt => packetOk pkt
  | .hattach pkt => packetOk pkt
  | .hack pkt => packetOk pkt
  | .mranges pkt => packetOk pkt
  | .mrack pkt => packetOk pkt
  | .mcommit pkt => packetOk pkt
  | .mack pkt => packetOk pkt
  | .move a e => arrayOk a && engineOk e
  | .fill a e => arrayOk a && engineOk e
  | .copy a e => arrayOk a && engineOk e
  | .tcopy a e => arrayOk a && engineOk e
  | .invalidate a e => arrayOk a && engineOk e
  | .feed a e => arrayOk a && engineOk e
  | .collect a e => arrayOk a && engineOk e
  | .reduce a e => arrayOk a && engineOk e
  | .openrx a e => arrayOk a && engineOk e
  | .closerx a e => arrayOk a && engineOk e
  | .cksave a e => arrayOk a && engineOk e
  | .ckload a e => arrayOk a && engineOk e
  | .descriptorComplete a e => arrayOk a && engineOk e
  | .barrierArrivalPost a e => arrayOk a && engineOk e
  | .crqTimeout a e => arrayOk a && engineOk e
  | .multicastTimeout a e => arrayOk a && engineOk e
  | .reduceDoneTimeout a e => arrayOk a && engineOk e
  | .mwrStep d pkt => dieOk d && packetOk pkt
  | .red d pkt => dieOk d && packetOk pkt
  | .checkUnitReset unit => unitOk unit
  | .linkFrameReceive l _ => linkOk l
  | .linkReplay l => linkOk l
  | .linkDirectionFails l => linkOk l
  | .routerHeaderArrival d inPort pkt => dieOk d && routerPortOk inPort && packetOk pkt
  | .outputArbitration d out => dieOk d && routerPortOk out
  | .redCombine d _ => dieOk d
  | .fmgrTable d => dieOk d
  | .fmgrStop d => dieOk d
  | .fmgrStopped d => dieOk d
  | .fmgrQuiesced d => dieOk d
  | .fmgrSwap d => dieOk d
  | .fmgrSwapped d => dieOk d
  | .congestionSample d => dieOk d
  | .fmgrMapreq d => dieOk d
  | .fmgrMapdata d _ _ => dieOk d
  | .run d => dieOk d
  | .batch d => dieOk d
  | .fence d => dieOk d
  | .fenceComplete d => dieOk d
  | .taskPlacement d => dieOk d
  | .stealRetry d => dieOk d
  | .hotCheck d => dieOk d
  | .tsync d _ => dieOk d
  | .techo d => dieOk d
  | .rateChange d => dieOk d
  | .routerQuiesceCheck d => dieOk d
  | .fmgrTableAck d => dieOk d
  | .define set _ => setOk set
  | .newGeneration set => setOk set
  | .pin set => setOk set
  | .wrappedKey set _ => setOk set
  | .ingest set _ => setOk set
  | .ingestComplete set => setOk set
  | .undefine set => setOk set
  | .undefineZeroComplete set => setOk set
  | .batchForm set => setOk set
  | .setMode set mode => setOk set && modeOk mode
  | .publish set gen => setOk set && genOk gen
  | .switchCurrent set gen => setOk set && genOk gen
  | .discard set gen => setOk set && genOk gen
  | .unpin set gen => setOk set && genOk gen
  | .release slot => adapterOk slot
  | .adapterLoadComplete slot => adapterOk slot
  | .admitEntry i _ => streamOk i
  | .endStream i => streamOk i
  | .retire i => streamOk i
  | .streamEntrySettled i => streamOk i
  | .listDelete list => listOk list
  | .listPoll list => listOk list
  | .timeLimit d k _ => dieOk d && arrayIndexOk k
  | .edgeFrameReceive k _ => portOk k
  | .edgeReplay k => portOk k
  | .portFailure k _ => portOk k
  | .portRetrain k _ => portOk k
  | .patternTest k _ => portOk k
  | .patternTestComplete k => portOk k
  | .clearSuspect panel => panelOk panel
  | .windowGo chan _ _ => channelOk chan
  | .dictRead path index sub _ _ _ => pathOk path && indexOk index && subOk sub
  | .dictWrite path index sub _ _ _ => pathOk path && indexOk index && subOk sub
  | .dictDescribe path index sub => pathOk path && indexOk index && subOk sub
  | .hello path _ => pathOk path
  | .dictClose path => pathOk path
  | .snapshotExpiry path => pathOk path
  | .stagingExpiry path => pathOk path
  | .keySlotWrite path _ => pathOk path
  | .msixMessage vector => vectorOk vector
  | .frequencyLimitWindow region _ => regionOk region
  | .regionSlowClock region => regionOk region
  | .marginCapRestore region => regionOk region
  | .marginResponse region code => regionOk region && codeOk code
  | .domainEnable dom _ => domainOk dom
  | .domainDisable dom => domainOk dom
  | .pgAssert dom => domainOk dom
  | .pgTimeout dom => domainOk dom
  | .pgFall dom => domainOk dom
  | .currentGuardSample dom _ => domainOk dom
  | .pmbusAlert segment _ => segmentOk segment
  | .activate slot => fwSlotOk slot
  | .keySlotClear path slot => pathOk path && keySlotOk slot
  | .clearArraySuspect site => siteOk site
  | .hdmDecoderCommit i _ _ => decoderOk i

end Sys2Proof
end

