-- ==== Sys2Proof/Safety.lean ====
section
/-! DEFINITION. The terms in which claims about a run are stated: what a command leaves behind, when a cell instruction may
fire and what its firing makes of the state, and the invariants that every step keeps. -/

namespace Sys2Proof.Machine

/-- The state that work `f` leaves. -/
def State.after (s : State) (f : Work → Work) : State := s.commit (f s.work)

/-- The state that work `w` leaves where the work may have burned the anti-rollback count (R430). -/
def State.burned (s : State) (w : Work) : State :=
  { s.commit { w with boot := { w.boot with burn := none } } with
    fuses := { s.fuses with securityVersion := max s.fuses.securityVersion (w.boot.burn.getD 0) } }

/-- The outcome is a next state. -/
def Answers (o : Host.Outcome State Fault Refusal) : Prop := ∃ t, o = .next t

/-- Memory has its canonical form. -/
def State.memOk (s : State) : Bool := Memory.wf s.mem

/-- Fuses as they may come to be: everything but the anti-rollback count is as before, and that has not fallen (R2, R430). -/
def Fuses.grows (f g : Fuses) : Prop :=
  g.variant = f.variant ∧ g.sites = f.sites ∧ g.arrays = f.arrays ∧ g.links = f.links ∧ g.ports = f.ports ∧
    f.securityVersion ≤ g.securityVersion

/-! ### Cells -/

/-- Array a, and cell p of it, as a state has them. -/
def State.array (s : State) (a : Nat) : Arr := s.work.arr a
def State.cell (s : State) (a p : Nat) : Cell := s.work.cell a p

/-- The instruction that cell p of array a would fire next. -/
def State.instr (s : State) (a p : Nat) : Nat := (s.cell a p).instr

/-- What the cells of an array see of it as they fire. -/
def State.env (s : State) (a : Nat) : Env := (s.array a).env

/-- Bits [31:0] of what the sources A, B and C of the current instruction supply. -/
def State.srcA (s : State) (a p : Nat) : Nat := low32 ((s.cell a p).source (s.instr a p) (iSrcA (s.instr a p)))
def State.srcB (s : State) (a p : Nat) : Nat := low32 ((s.cell a p).source (s.instr a p) (iSrcB (s.instr a p)))
def State.srcC (s : State) (a p : Nat) : Nat := low32 ((s.cell a p).source (s.instr a p) (iSrcC (s.instr a p)))

/-- Cell p of array a may fire with effect `e` an instruction whose opcode lies in lo..hi: its array issues, it is not parked,
and the firing rule holds (R89, R90). -/
def State.mayFire (s : State) (a p lo hi : Nat) (e : Eff) : Bool :=
  (s.array a).issues && !(s.cell a p).parked && decide (lo ≤ iOp (s.instr a p)) && decide (iOp (s.instr a p) ≤ hi) &&
    e.ready && (s.cell a p).outsFree e.outs && (s.cell a p).noBarrier (s.array a).epoch (s.instr a p) &&
    e.need.all (fun d => ((s.cell a p).head (s.array a).epoch d).isSome)

/-- Cell p of array a is at rest before an instruction whose opcode lies in lo..hi: its array issues, it is not parked, no result
of it is in flight, no special-function request of it waits, and its output registers are empty (R44, R89 to R93). -/
def State.rests (s : State) (a p lo hi : Nat) : Bool :=
  (s.array a).issues && !(s.cell a p).parked && decide (lo ≤ iOp (s.instr a p)) && decide (iOp (s.instr a p) ≤ hi) &&
    (s.cell a p).flight.isEmpty && (s.cell a p).sfu.isNone && (List.range 4).all (fun d => (s.cell a p).out d == none)

/-- Queue d of cell p shows a token of its array's epoch that is no barrier token (R79, R89, R94). -/
def State.shows (s : State) (a p d : Nat) : Bool := ((s.cell a p).head (s.array a).epoch d).any (fun t => t.kind != 3)

/-- The cell is at rest, and every queue that its instruction names shows such a token: the instruction may fire (R89). -/
def State.canFire (s : State) (a p lo hi : Nat) : Bool := s.rests a p lo hi && (named (s.instr a p)).all (s.shows a p)

/-- A cell that has fired with effect `e`: sticky flags set, queue heads gone, results in flight, and the next instruction
chosen (R44, R72, R85 to R87, R92). -/
def Cell.afterFiring (c : Cell) (e : Eff) : Cell :=
  let c1 := (e.cell.flag e.flags e.flushes).dequeue e.deq
  let c2 := { c1 with flight := c1.flight ++ e.flights }
  if e.again then c2 else if e.final then { c2 with run := 0 }.sequence c.instr (c.anyLast e.deq) else { c2 with run := c2.run + 1 }

/-- The state with cell c in place p of array a, which has counted a firing; nothing else differs. -/
def State.withFired (s : State) (a p : Nat) (c : Cell) : State :=
  { s with arrays := tput s.arrays a { (s.array a).modCell p (fun _ => c) with fired := true, moved := true, firedSince := true } }

/-- The state after cell p of array a has fired with effect `e`. -/
def State.fired (s : State) (a p : Nat) (e : Eff) : State := s.withFired a p ((s.cell a p).afterFiring e)

/-- A firing that yields one token of the kind, lane code and payload given, to dest and to the previous-result register, with
the last bits of the consumed tokens (R77, R80, R83). -/
def State.yields (s : State) (a p kind lane pay flags : Nat) : Eff :=
  let c := s.cell a p
  let w := s.instr a p
  let t := mkTok (s.array a).epoch (c.anyLast (c.consumed w).1) kind lane pay
  { need := named w, deq := (c.consumed w).1, outs := iDest w, cell := c, flags := flags, final := (c.consumed w).2,
    ready := c.srcWritten w (iSrcA w) && c.srcWritten w (iSrcB w) && c.srcWritten w (iSrcC w) && c.sfu.isNone,
    flights := [{ mask := iDest w, tok := t, prev := some (t.pay, t.lane) }] }

/-- The instructions that cell p of array a may fire, one command each (R81). -/
def cellInstrs (a p : Nat) : List Instr :=
  [.nop a p, .bar a p, .ptcfg a p, .park a p, .scla a p, .sclb a p, .doth a p, .dotf8 a p, .doti8 a p, .doti4 a p, .dotmx4 a p,
   .dotmx8 a p, .sdoth a p, .sdotf8 a p, .sdoti8 a p, .sdoti4 a p, .sdotmx4 a p, .sdotmx8 a p] ++
  [.drain a p, .draincv a p, .accld a p, .accadd a p, .fadd a p, .fsub a p, .fmul a p, .ffma a p, .fmin a p, .fmax a p, .iadd a p,
   .isub a p, .imul a p, .imin a p, .imax a p, .and a p, .or a p, .xor a p, .shl a p, .shr a p, .sar a p, .fcmp a p, .icmp a p] ++
  [.sel a p, .steer a p, .gate a p, .merge a p, .cmerge a p, .repl a p, .rfwd a p, .cvt a p, .mxpack a p, .mxunpk a p, .mov a p,
   .obst a p, .sfu a p]

end Sys2Proof.Machine
end

