-- ==== Sys2Proof/Certificates/Slice0/Obligations.lean ====
section
/-! DEFINITION. The statements about the panel: what each command does where the spec lets it take its own effect, and what
every step keeps. -/

open Sys2Proof Sys2Proof.Machine

/-! ### The queue and what every command keeps -/

/-- The block takes the command at the front of its queue and runs it on the state with the rest of the queue; with nothing
waiting the clocks tick (assumption 1, the model's choice). Rules: 00_scope.md, R412. -/
def Obligations.StepRunsFrontCommand : Prop :=
  ∀ (s : State),
    (∀ c rest, s.pending = c :: rest → step s = exec c { s with pending := rest }) ∧ (s.pending = [] → step s = .next (tick s))

/-- Every command answers a next state: none stops the panel, and none touches the commands that wait behind it. Rules:
opcode_table.json, R412. -/
def Obligations.EveryCommandAnswersAndKeepsQueue : Prop :=
  ∀ (c : Instr) (s : State), ∃ t, exec c s = .next t ∧ t.pending = s.pending

/-- Every step keeps memory in its canonical form: addresses strictly rising, no zero byte listed. Rules: R190. -/
def Obligations.StepKeepsMemoryForm : Prop :=
  ∀ (s t : State), s.memOk = true → step s = .next t → t.memOk = true

/-- No step changes a fuse but the anti-rollback count, and that never falls. Only COMMIT_VERSION and the accesses that can carry
its write change the anti-rollback count. Rules: R2, R430. -/
def Obligations.StepKeepsFuses : Prop :=
  (∀ (s t : State), step s = .next t → s.fuses.grows t.fuses) ∧
  (∀ (c : Instr) (s t : State), exec c s = .next t → t.fuses ≠ s.fuses →
     (∃ v, c = .commitVersion v) ∨ (∃ i j d, c = .registerWrite i j d) ∨ (∃ p i j o d m, c = .dictWrite p i j o d m) ∨
       (∃ n g q, c = .windowGo n g q) ∨ (∃ n m f q, c = .sacorDatagram n m f q) ∨ (∃ a d n, c = .hostCxlWrite a d n))

/-- Reset leaves memory in canonical form, no command waiting, no image, job, session or event, PERST_N low and every object at
its default. Rules: R412, R413. -/
def Obligations.ResetState : Prop :=
  State.reset.memOk = true ∧ State.reset.mem = [] ∧ State.reset.pending = [] ∧ State.reset.registry = [] ∧ State.reset.sessions = [] ∧
    State.reset.log.ring = [] ∧ State.reset.cxl.perst = true ∧ State.reset.job.st = .idle ∧ State.reset.regs = [] ∧
    ∀ i sub, State.reset.work.reg i sub = regDefault (key i sub)

/-- What a command has written is what memory holds after it: the byte that its own work reads at an address is the byte that the
next command reads there. Bytes written from an address read back there, and every other address reads as before. Rules: R13,
R190. -/
def Obligations.MemoryReadsWhatWasWritten : Prop :=
  (∀ (s : State) (w : Work) (a : Nat), s.memOk = true → w.mem = s.mem → (s.commit w).work.readByte a = w.readByte a) ∧
  (∀ (w : Work) (b a : Nat) (bs : List Byte),
     (w.write b bs).readByte a = (if b ≤ a ∧ a < b + bs.length then bs.getD (a - b) 0 else w.readByte a) ∧
     ∀ n, (w.zero b n).readByte a = (if b ≤ a ∧ a < b + n then 0 else w.readByte a))


/-! ### Records and numbers -/

/-- Every record that the panel writes and reads back keeps all of its fields: the tokens of a DATA packet and its sequence
number, with up to 28 tokens of any payload and tag; a defect record, in both directions; the state record of a check-value
unit, for a unit whose values lie within their widths. Rules: R40, R155, R226. -/
def Obligations.RecordsRoundTrip : Prop :=
  (∀ (n : Nat) (ts : List Token), n < 65536 → ts.length ≤ 28 →
    dataTokens (dataPayload n ts) = ts ∧ leAt (dataPayload n ts) 0 2 = n ∧
      (dataPayload n ts).length = (32 + 8 * ts.length + 63) / 64 * 64) ∧
  (∀ r : Defect, r.kind < 2 ^ 4 → r.source < 2 ^ 3 → r.site < 2 ^ 9 → r.sub < 2 ^ 5 → r.wire < 2 ^ 11 → r.temp < 2 ^ 8 →
    r.supply < 2 ^ 12 → r.pattern < 2 ^ 4 → r.count < 2 ^ 8 → r.time < 2 ^ 64 → defectOf r.bytes = r) ∧
  (∀ bs : List Byte, bs.length = 16 → (defectOf bs).bytes = bs) ∧
  (∀ (w : Work) (u v : Nat),
    let c := w.check u
    let d := (w.loadCheck v (w.checkRecord u true)).check v
    c.poly < 4 → c.running < 2 ^ (if c.poly ≤ 1 then 32 else if c.poly = 2 then 64 else 16) → c.bytes < 2 ^ 64 →
    d.poly = c.poly ∧ d.running = c.running ∧ d.bytes = c.bytes)

/-- Where FP32 addition, subtraction, multiplication, fused multiply-add, minimum, maximum, division and square root yield a NaN,
they yield the canonical pattern 0x7FC0_0000, and every result lies in 32 bits. Rules: R52, R63. -/
def Obligations.ResultNaNsAreCanonical : Prop :=
  ∀ (x y z : Nat), ∀ r ∈ [(fAdd x y).1, (fSub x y).1, (fMul x y).1, (fFma x y z).1, (fMin x y).1, (fMax x y).1, fDiv x y, fSqrt x],
    r < 2 ^ 32 ∧ (fIsNan r = true → r = 0x7FC00000)


/-! ### Cells -/

/-- FADD, FSUB, FMUL, FFMA, FMIN and FMAX yield one scalar-word token with the FP32 result of bits [31:0] of their sources, to
dest and to the previous-result register, and change nothing but their cell. IADD, ISUB, IMUL, IMIN, IMAX, AND, OR, XOR, SHL,
SHR and SAR yield one scalar-word token with the low 32 bits of the result, raise no flag, and change nothing but their cell;
a shift takes its count modulo 32. FCMP and ICMP yield a control token holding 1 or 0; SEL yields the source its predicate
chooses. On a cell at rest whose queues show what the instruction names, each of FADD to SEL completes with the token of its
result. Rules: R63, R102, R103, R104. -/
def Obligations.CellScalarResults : Prop :=
  (∀ (s : State) (a p : Nat),
     let x := s.srcA a p
     let y := s.srcB a p
     let z := s.srcC a p
     let e := fun (r : Nat × Nat) => s.yields a p 0 0 (low32 r.1) r.2
     (s.mayFire a p 0x60 0x60 (e (fAdd x y)) = true → exec (.fadd a p) s = .next (s.fired a p (e (fAdd x y)))) ∧
     (s.mayFire a p 0x61 0x61 (e (fSub x y)) = true → exec (.fsub a p) s = .next (s.fired a p (e (fSub x y)))) ∧
     (s.mayFire a p 0x62 0x62 (e (fMul x y)) = true → exec (.fmul a p) s = .next (s.fired a p (e (fMul x y)))) ∧
     (s.mayFire a p 0x63 0x63 (e (fFma x y z)) = true → exec (.ffma a p) s = .next (s.fired a p (e (fFma x y z)))) ∧
     (s.mayFire a p 0x64 0x64 (e (fMin x y)) = true → exec (.fmin a p) s = .next (s.fired a p (e (fMin x y)))) ∧
     (s.mayFire a p 0x65 0x65 (e (fMax x y)) = true → exec (.fmax a p) s = .next (s.fired a p (e (fMax x y))))) ∧
  (∀ (s : State) (a p : Nat),
     let x := s.srcA a p
     let y := s.srcB a p
     let e := fun (v : Nat) => s.yields a p 0 0 (v % 2 ^ 32) 0
     (s.mayFire a p 0x68 0x68 (e (x + y)) = true → exec (.iadd a p) s = .next (s.fired a p (e (x + y)))) ∧
     (s.mayFire a p 0x69 0x69 (e (x + 2 ^ 32 - y)) = true → exec (.isub a p) s = .next (s.fired a p (e (x + 2 ^ 32 - y)))) ∧
     (s.mayFire a p 0x6A 0x6A (e (x * y)) = true → exec (.imul a p) s = .next (s.fired a p (e (x * y)))) ∧
     (s.mayFire a p 0x6B 0x6B (e (if signed 32 x ≤ signed 32 y then x else y)) = true →
       exec (.imin a p) s = .next (s.fired a p (e (if signed 32 x ≤ signed 32 y then x else y)))) ∧
     (s.mayFire a p 0x6C 0x6C (e (if signed 32 x ≤ signed 32 y then y else x)) = true →
       exec (.imax a p) s = .next (s.fired a p (e (if signed 32 x ≤ signed 32 y then y else x)))) ∧
     (s.mayFire a p 0x70 0x70 (e (x &&& y)) = true → exec (.and a p) s = .next (s.fired a p (e (x &&& y)))) ∧
     (s.mayFire a p 0x71 0x71 (e (x ||| y)) = true → exec (.or a p) s = .next (s.fired a p (e (x ||| y)))) ∧
     (s.mayFire a p 0x72 0x72 (e (x ^^^ y)) = true → exec (.xor a p) s = .next (s.fired a p (e (x ^^^ y)))) ∧
     (s.mayFire a p 0x73 0x73 (e (x * 2 ^ (y % 32))) = true → exec (.shl a p) s = .next (s.fired a p (e (x * 2 ^ (y % 32))))) ∧
     (s.mayFire a p 0x74 0x74 (e (x / 2 ^ (y % 32))) = true → exec (.shr a p) s = .next (s.fired a p (e (x / 2 ^ (y % 32))))) ∧
     (s.mayFire a p 0x75 0x75 (e (unsigned 32 (signed 32 x / 2 ^ (y % 32)))) = true →
       exec (.sar a p) s = .next (s.fired a p (e (unsigned 32 (signed 32 x / 2 ^ (y % 32))))))) ∧
  (∀ (s : State) (a p : Nat),
     let c := s.cell a p
     let w := s.instr a p
     let cc := field (iOp w) 0 3
     let f := fCmp cc (s.srcA a p) (s.srcB a p)
     let i := ofBool (iCmp cc (s.srcA a p) (s.srcB a p))
     let from_ := if bit (c.source w (iSrcC w)) 0 then iSrcA w else iSrcB w
     let e := s.yields a p 0 (c.emitLane w from_) (c.source w from_) 0
     (s.mayFire a p 0x80 0x87 (s.yields a p 1 0 (ofBool f.1) f.2) = true →
       exec (.fcmp a p) s = .next (s.fired a p (s.yields a p 1 0 (ofBool f.1) f.2))) ∧
     (s.mayFire a p 0x88 0x8D (s.yields a p 1 0 i 0) = true → exec (.icmp a p) s = .next (s.fired a p (s.yields a p 1 0 i 0))) ∧
     (s.mayFire a p 0x90 0x90 e = true → exec (.sel a p) s = .next (s.fired a p e))) ∧
  (∀ (s : State) (a p : Nat),
     let x := s.srcA a p
     let y := s.srcB a p
     let c := s.cell a p
     let w := s.instr a p
     let cc := field (iOp w) 0 3
     let e := fun (v flags : Nat) => (.next (s.fired a p (s.yields a p 0 0 (low32 v) flags)) : Host.Outcome State Fault Refusal)
     let from_ := if bit (c.source w (iSrcC w)) 0 then iSrcA w else iSrcB w
     (s.canFire a p 0x60 0x60 = true → exec (.fadd a p) s = e (fAdd x y).1 (fAdd x y).2) ∧
     (s.canFire a p 0x61 0x61 = true → exec (.fsub a p) s = e (fSub x y).1 (fSub x y).2) ∧
     (s.canFire a p 0x62 0x62 = true → exec (.fmul a p) s = e (fMul x y).1 (fMul x y).2) ∧
     (s.canFire a p 0x63 0x63 = true → exec (.ffma a p) s = e (fFma x y (s.srcC a p)).1 (fFma x y (s.srcC a p)).2) ∧
     (s.canFire a p 0x64 0x64 = true → exec (.fmin a p) s = e (fMin x y).1 (fMin x y).2) ∧
     (s.canFire a p 0x65 0x65 = true → exec (.fmax a p) s = e (fMax x y).1 (fMax x y).2) ∧
     (s.canFire a p 0x68 0x68 = true → exec (.iadd a p) s = e (x + y) 0) ∧
     (s.canFire a p 0x69 0x69 = true → exec (.isub a p) s = e (x + 2 ^ 32 - y) 0) ∧
     (s.canFire a p 0x6A 0x6A = true → exec (.imul a p) s = e (x * y) 0) ∧
     (s.canFire a p 0x6B 0x6B = true → exec (.imin a p) s = e (if signed 32 x ≤ signed 32 y then x else y) 0) ∧
     (s.canFire a p 0x6C 0x6C = true → exec (.imax a p) s = e (if signed 32 x ≤ signed 32 y then y else x) 0) ∧
     (s.canFire a p 0x70 0x70 = true → exec (.and a p) s = e (x &&& y) 0) ∧
     (s.canFire a p 0x71 0x71 = true → exec (.or a p) s = e (x ||| y) 0) ∧
     (s.canFire a p 0x72 0x72 = true → exec (.xor a p) s = e (x ^^^ y) 0) ∧
     (s.canFire a p 0x73 0x73 = true → exec (.shl a p) s = e (x * 2 ^ (y % 32)) 0) ∧
     (s.canFire a p 0x74 0x74 = true → exec (.shr a p) s = e (x / 2 ^ (y % 32)) 0) ∧
     (s.canFire a p 0x75 0x75 = true → exec (.sar a p) s = e (unsigned 32 (signed 32 x / 2 ^ (y % 32))) 0) ∧
     (s.canFire a p 0x80 0x87 = true → exec (.fcmp a p) s =
       .next (s.fired a p (s.yields a p 1 0 (ofBool (fCmp cc x y).1) (fCmp cc x y).2))) ∧
     (s.canFire a p 0x88 0x8D = true → exec (.icmp a p) s = .next (s.fired a p (s.yields a p 1 0 (ofBool (iCmp cc x y)) 0))) ∧
     (s.canFire a p 0x90 0x90 = true → exec (.sel a p) s =
       .next (s.fired a p (s.yields a p 0 (c.emitLane w from_) (c.source w from_) 0))))

/-- The dense and sparse dot products fire by the common rule and put one value, the dot product added to the accumulator that
their firing names, in flight toward that accumulator. On a cell at rest whose queues show what the instruction names, each
dot product completes: its state is that of a firing with its effect, and the value in flight to the accumulator named is the
dot product of its element pairs, flushed where the array's image says so, added to that accumulator, at the scales' values
where the elements are scaled. Rules: R56, R60, R62, R96. -/
def Obligations.CellDotProducts : Prop :=
  (∀ (s : State) (a p : Nat),
     let eff := fun (op : Env → Cell → Nat → Eff) => op (s.env a) (s.cell a p) (s.instr a p)
     let goes := fun (i : Instr) (lo hi : Nat) (op : Env → Cell → Nat → Eff) =>
       s.mayFire a p lo hi (eff op) = true → exec i s = .next (s.fired a p (eff op)) ∧
         ∃ v, (eff op).flights.head? = some { acc := some ((s.cell a p).accIdx (s.instr a p) % 8, v), dot := true }
     goes (.doth a p) 0x10 0x13 (opDoth false) ∧ goes (.dotf8 a p) 0x14 0x17 (opDotf8 false) ∧
     goes (.doti8 a p) 0x18 0x18 (opDotI 8 8 3 false) ∧ goes (.doti4 a p) 0x19 0x19 (opDotI 4 16 6 false) ∧
     goes (.dotmx4 a p) 0x1A 0x1A (opDotF e2m1 e2m1 16 true false) ∧ goes (.dotmx8 a p) 0x20 0x2F (opDotmx8 false) ∧
     goes (.sdoth a p) 0x30 0x33 (opDoth true) ∧ goes (.sdotf8 a p) 0x34 0x37 (opDotf8 true) ∧
     goes (.sdoti8 a p) 0x38 0x38 (opDotI 8 8 3 true) ∧ goes (.sdoti4 a p) 0x39 0x39 (opDotI 4 16 6 true) ∧
     goes (.sdotmx4 a p) 0x3A 0x3A (opDotF e2m1 e2m1 16 true true) ∧ goes (.sdotmx8 a p) 0x40 0x4F (opDotmx8 true)) ∧
  (∀ (s : State) (a p : Nat),
     let c := s.cell a p
     let w := s.instr a p
     let acc := c.accForward (c.accIdx w)
     let keep := (s.env a).keepDenorm
     let nums := fun (fa fb : Fmt) (n : Nat) (sparse : Bool) => (c.rawPairs w sparse n fa.width fb.width).1.map (fun q =>
       ((flushNum fa keep q.1).1, (flushNum fb keep q.2).1))
     let ints := fun (ew n : Nat) (sparse : Bool) => (c.rawPairs w sparse n ew ew).1.map (fun q => (signed ew q.1, signed ew q.2))
     let scales := some (scaleAt c.sca c.ptrA, scaleAt c.scb c.ptrB)
     let put := fun (v : Nat) => some ({ acc := some (c.accIdx w % 8, BitVec.ofNat 32 v), dot := true } : Flight)
     (s.canFire a p 0x10 0x13 = true → ∃ t, exec (.doth a p) s = .next t ∧ t = s.fired a p (opDoth false (s.env a) c w) ∧
       (t.cell a p).flight.head? = put (dotFloat (nums (halfFmt (bit (iOp w) 0)) (halfFmt (bit (iOp w) 1)) 4 false) acc none).1) ∧
     (s.canFire a p 0x14 0x17 = true → ∃ t, exec (.dotf8 a p) s = .next t ∧ t = s.fired a p (opDotf8 false (s.env a) c w) ∧
       (t.cell a p).flight.head? = put (dotFloat (nums (f8Fmt (bit (iOp w) 0)) (f8Fmt (bit (iOp w) 1)) 8 false) acc none).1) ∧
     (s.canFire a p 0x18 0x18 = true → ∃ t, exec (.doti8 a p) s = .next t ∧ t = s.fired a p (opDotI 8 8 3 false (s.env a) c w) ∧
       (t.cell a p).flight.head? = put (dotInt (ints 8 8 false) acc).1) ∧
     (s.canFire a p 0x19 0x19 = true → ∃ t, exec (.doti4 a p) s = .next t ∧ t = s.fired a p (opDotI 4 16 6 false (s.env a) c w) ∧
       (t.cell a p).flight.head? = put (dotInt (ints 4 16 false) acc).1) ∧
     (s.canFire a p 0x1A 0x1A = true → ∃ t, exec (.dotmx4 a p) s = .next t ∧ t = s.fired a p (opDotF e2m1 e2m1 16 true false (s.env a) c w) ∧
       (t.cell a p).flight.head? = put (dotFloat (nums e2m1 e2m1 16 false) acc scales).1) ∧
     (s.canFire a p 0x20 0x2F = true → ∃ t, exec (.dotmx8 a p) s = .next t ∧ t = s.fired a p (opDotmx8 false (s.env a) c w) ∧
       (t.cell a p).flight.head? = put (dotFloat (nums (mxFmt (field (iOp w) 2 2)) (mxFmt (field (iOp w) 0 2)) 8 false) acc scales).1) ∧
     (s.canFire a p 0x30 0x33 = true → ∃ t, exec (.sdoth a p) s = .next t ∧ t = s.fired a p (opDoth true (s.env a) c w) ∧
       (t.cell a p).flight.head? = put (dotFloat (nums (halfFmt (bit (iOp w) 0)) (halfFmt (bit (iOp w) 1)) 4 true) acc none).1) ∧
     (s.canFire a p 0x34 0x37 = true → ∃ t, exec (.sdotf8 a p) s = .next t ∧ t = s.fired a p (opDotf8 true (s.env a) c w) ∧
       (t.cell a p).flight.head? = put (dotFloat (nums (f8Fmt (bit (iOp w) 0)) (f8Fmt (bit (iOp w) 1)) 8 true) acc none).1) ∧
     (s.canFire a p 0x38 0x38 = true → ∃ t, exec (.sdoti8 a p) s = .next t ∧ t = s.fired a p (opDotI 8 8 3 true (s.env a) c w) ∧
       (t.cell a p).flight.head? = put (dotInt (ints 8 8 true) acc).1) ∧
     (s.canFire a p 0x39 0x39 = true → ∃ t, exec (.sdoti4 a p) s = .next t ∧ t = s.fired a p (opDotI 4 16 6 true (s.env a) c w) ∧
       (t.cell a p).flight.head? = put (dotInt (ints 4 16 true) acc).1) ∧
     (s.canFire a p 0x3A 0x3A = true → ∃ t, exec (.sdotmx4 a p) s = .next t ∧ t = s.fired a p (opDotF e2m1 e2m1 16 true true (s.env a) c w) ∧
       (t.cell a p).flight.head? = put (dotFloat (nums e2m1 e2m1 16 true) acc scales).1) ∧
     (s.canFire a p 0x40 0x4F = true → ∃ t, exec (.sdotmx8 a p) s = .next t ∧ t = s.fired a p (opDotmx8 true (s.env a) c w) ∧
       (t.cell a p).flight.head? = put (dotFloat (nums (mxFmt (field (iOp w) 2 2)) (mxFmt (field (iOp w) 0 2)) 8 true) acc scales).1))

/-- STEER, GATE, MERGE, CMERGE, REPL, CVT, MXPACK and MXUNPK fire by the common rule, with the effect that their rules give, and
change nothing but their cell. DRAIN, DRAINCV, ACCLD, ACCADD and RFWD fire by the common rule on the accumulators they name.
NOP changes nothing but the instruction's place; PTCFG opens and closes declared paths; PARK parks the cell; SCLA and SCLB put
their source in flight toward a scale register; MOV yields its source; OBST writes the operand buffer; SFU posts a request;
BAR consumes the barrier tokens it names and sends one on. On a cell at rest whose queues show what the instruction names,
each completes with its effect, and with the token or the accumulator's value that its rule gives in flight: MERGE with a
token in either of its queues, CMERGE with one in the queue its predicate selects, BAR with a barrier token of its ID in every
queue it names. Rules: R95, R99, R100, R101, R105, R106, R107, R108, R109, R110, R112, R113, R114, R115, R116, R117, R118,
R119, R120, R121. -/
def Obligations.CellTokenInstructions : Prop :=
  (∀ (s : State) (a p : Nat),
     let eff := fun (op : Env → Cell → Nat → Eff) => op (s.env a) (s.cell a p) (s.instr a p)
     (s.mayFire a p 0x98 0x98 (eff opSteer) = true → exec (.steer a p) s = .next (s.fired a p (eff opSteer))) ∧
     (s.mayFire a p 0x99 0x99 (eff opGate) = true → exec (.gate a p) s = .next (s.fired a p (eff opGate))) ∧
     (s.mayFire a p 0x9A 0x9A (eff opMerge) = true → exec (.merge a p) s = .next (s.fired a p (eff opMerge))) ∧
     (s.mayFire a p 0x9B 0x9B (eff opCmerge) = true → exec (.cmerge a p) s = .next (s.fired a p (eff opCmerge))) ∧
     (s.mayFire a p 0x9C 0x9C (eff opRepl) = true → exec (.repl a p) s = .next (s.fired a p (eff opRepl))) ∧
     (s.mayFire a p 0xA0 0xA0 (eff opCvt) = true → exec (.cvt a p) s = .next (s.fired a p (eff opCvt))) ∧
     (s.mayFire a p 0xA1 0xA1 (eff opMxpack) = true → exec (.mxpack a p) s = .next (s.fired a p (eff opMxpack))) ∧
     (s.mayFire a p 0xA2 0xA2 (eff opMxunpk) = true → exec (.mxunpk a p) s = .next (s.fired a p (eff opMxunpk)))) ∧
  (∀ (s : State) (a p : Nat),
     let eff := fun (op : Env → Cell → Nat → Eff) => op (s.env a) (s.cell a p) (s.instr a p)
     (s.mayFire a p 0x50 0x50 (eff opDrain) = true → exec (.drain a p) s = .next (s.fired a p (eff opDrain))) ∧
     (s.mayFire a p 0x51 0x51 (eff opDraincv) = true → exec (.draincv a p) s = .next (s.fired a p (eff opDraincv))) ∧
     (s.mayFire a p 0x52 0x52 (eff opAccld) = true → exec (.accld a p) s = .next (s.fired a p (eff opAccld))) ∧
     (s.mayFire a p 0x53 0x53 (eff opAccadd) = true → exec (.accadd a p) s = .next (s.fired a p (eff opAccadd))) ∧
     (s.mayFire a p 0x9D 0x9D (eff opRfwd) = true → exec (.rfwd a p) s = .next (s.fired a p (eff opRfwd)))) ∧
  (∀ (s : State) (a p : Nat),
     let c := s.cell a p
     let w := s.instr a p
     let b := c.base w
     let eff := fun (op : Env → Cell → Nat → Eff) => op (s.env a) c w
     let parks : Eff := { b with cell := { c with parked := true } }
     (s.mayFire a p 0 0 b = true → exec (.nop a p) s = .next (s.fired a p b)) ∧
     (s.mayFire a p 2 2 (eff opPtcfg) = true → exec (.ptcfg a p) s = .next (s.fired a p (eff opPtcfg))) ∧
     (s.mayFire a p 3 3 parks = true → exec (.park a p) s = .next (s.fired a p parks)) ∧
     (s.mayFire a p 4 4 (eff (opScale false)) = true → exec (.scla a p) s = .next (s.fired a p (eff (opScale false)))) ∧
     (s.mayFire a p 5 5 (eff (opScale true)) = true → exec (.sclb a p) s = .next (s.fired a p (eff (opScale true)))) ∧
     (s.mayFire a p 0xB0 0xB0 (eff opMov) = true → exec (.mov a p) s = .next (s.fired a p (eff opMov))) ∧
     (s.mayFire a p 0xB1 0xB1 (eff opObst) = true → exec (.obst a p) s = .next (s.fired a p (eff opObst))) ∧
     (s.mayFire a p 0xB8 0xB8 (eff opSfu) = true → exec (.sfu a p) s = .next (s.fired a p (eff opSfu))) ∧
     ((s.array a).issues = true → c.parked = false → iOp w = 1 → barReady (s.env a) c w = true → barIds (s.env a) c w = true →
       c.outsFree (iDest w) = true →
       exec (.bar a p) s = .next (s.withFired a p
         (({ c.dequeue (named w) with
             flight := (c.dequeue (named w)).flight ++ [{ mask := iDest w, tok := mkTok (s.array a).epoch false 3 0 (iImm w) }] } : Cell).sequence w
           false)))) ∧
  (∀ (s : State) (a p : Nat),
     let c := s.cell a p
     let w := s.instr a p
     let e := fun (op : Env → Cell → Nat → Eff) => (.next (s.fired a p (op (s.env a) c w)) : Host.Outcome State Fault Refusal)
     let x := c.source w (iSrcA w)
     let k := iAcc w
     let ep := (s.array a).epoch
     let both := immBit w 1
     let sends := fun (t : Token) => some ({ mask := iDest w, tok := t, prev := some (t.pay, t.lane) } : Flight)
     let adds := fun (k v : Nat) => some ({ acc := some (k % 8, BitVec.ofNat 32 v), dot := false } : Flight)
     let drained := drainFmt (field (iImm w) 0 3)
     let held := (List.range drained.2.1).map (fun i =>
       readElem (if field (iImm w) 0 3 = 4 then .int 32 else .flt fp32) (c.accBits (k + i)))
     let lane := fun (v b : Nat) => (rfwdLane (immBit w 0) (field (iImm w) 3 2) (low32 v) b).1
     let from_ := cvtFmt (field (iImm w) 0 4)
     let into := cvtFmt (field (iImm w) 4 4)
     let read := (elems from_.1.width (perToken from_.1) x).map (readElem from_.1)
     let pf := packFmt (field (iImm w) 0 3)
     let packed := mxPack pf (immBit w 3) c.sr
       ((List.range 32).map (fun i => dec32 (field (c.obWord (iObA w + i / 2)) (32 * (i % 2)) 32)))
     let per := if pf.width = 4 then 16 else 8
     let sc := c.scaleOut ++ [packed.2.1]
     let pair := (((elems pf.width per x).drop (c.group * 2)).take 2).map (mxUnpack pf (scaleAt c.sca c.ptrA))
     let closing := fun (done : Bool) => match c.srcToken (iSrcA w) with | some t => done && t.last | none => false
     (s.canFire a p 0x50 0x50 = true → ∃ t, exec (.drain a p) s = .next t ∧ t = s.fired a p (opDrain (s.env a) c w) ∧
       (t.cell a p).flight.head? = sends (mkTok ep (immBit w 2) 0 0 (c.accBits k + if both then c.accBits (k + 1) * 2 ^ 32 else 0))) ∧
     (s.canFire a p 0x51 0x51 = true → ∃ t, exec (.draincv a p) s = .next t ∧ t = s.fired a p (opDraincv (s.env a) c w) ∧
       (t.cell a p).flight.head? = sends (mkTok ep (immBit w 6) 0 drained.2.2
         (joinElems drained.1.width (convertAll drained.1 (immBit w 3) (immBit w 4) c.sr held).1))) ∧
     (s.canFire a p 0x52 0x52 = true → ∃ t, exec (.accld a p) s = .next t ∧ t = s.fired a p (opAccld (s.env a) c w) ∧
       (t.cell a p).flight.head? = adds k (low32 x)) ∧
     (s.canFire a p 0x53 0x53 = true → ∃ t, exec (.accadd a p) s = .next t ∧ t = s.fired a p (opAccadd (s.env a) c w) ∧
       (t.cell a p).flight.head? = adds k (accSum (immBit w 0) (c.accBits k) (low32 x)).1) ∧
     (s.canFire a p 0x9D 0x9D = true → ∃ t, exec (.rfwd a p) s = .next t ∧ t = s.fired a p (opRfwd (s.env a) c w) ∧
       (t.cell a p).flight.head? = sends (mkTok ep (c.lastOf (c.base w)) 0 0 (if both then
         lane x (c.accBits k) + lane (x / 2 ^ 32) (c.accBits (k + 1)) * 2 ^ 32 else lane x (c.accBits k)))) ∧
     (s.canFire a p 0x98 0x98 = true → ∃ t, exec (.steer a p) s = .next t ∧ t = s.fired a p (opSteer (s.env a) c w) ∧
       (t.cell a p).flight = [{ mask := if c.pred w then iDest w else field (iImm w) 0 4, tok := c.tokenA w }]) ∧
     (s.canFire a p 0x99 0x99 = true → ∃ t, exec (.gate a p) s = .next t ∧ t = s.fired a p (opGate (s.env a) c w) ∧
       (t.cell a p).flight = if xor (c.pred w) (immBit w 0) then [{ mask := iDest w, tok := c.tokenA w }] else []) ∧
     (s.canFire a p 0x9C 0x9C = true → ∃ t, exec (.repl a p) s = .next t ∧ t = s.fired a p (opRepl (s.env a) c w) ∧
       (t.cell a p).flight.head? = sends (mkTok ep (closing (decide (c.run + 1 ≥ iCount w)))
         (match c.srcToken (iSrcA w) with | some t => t.kind | none => 0) (c.emitLane w (iSrcA w)) x)) ∧
     (s.canFire a p 0xA0 0xA0 = true → ∃ t, exec (.cvt a p) s = .next t ∧ t = s.fired a p (opCvt (s.env a) c w) ∧
       (perToken from_.1 = perToken into.1 → (t.cell a p).flight.head? = sends (mkTok ep (c.lastOf (c.base w)) 0 into.2
         (joinElems into.1.width (convertAll into.1 (immBit w 8) (immBit w 9) c.sr read).1)))) ∧
     (s.canFire a p 0xA1 0xA1 = true → ∃ t, exec (.mxpack a p) s = .next t ∧ t = s.fired a p (opMxpack (s.env a) c w) ∧
       (t.cell a p).flight = (packTokens ep (laneOf pf) pf.width per (immBit w 8) packed.1 (32 / per)).map (fun t =>
         ({ mask := iDest w, tok := t } : Flight)) ++ (if decide (sc.length ≥ 8) || immBit w 8 then
           [{ mask := field (iImm w) 4 4, tok := mkTok ep (immBit w 8) 0 7 (joinElems 8 (sc ++ List.replicate (8 - sc.length) 0x7F)) }] else [])) ∧
     (s.canFire a p 0xA2 0xA2 = true → ∃ t, exec (.mxunpk a p) s = .next t ∧ t = s.fired a p (opMxunpk (s.env a) c w) ∧
       (t.cell a p).flight.head? = sends (mkTok ep (closing (decide ((c.group + 1) * 2 ≥ per))) 0 0 (joinElems 32 (pair.map (·.1))))) ∧
     (s.canFire a p 0x00 0x00 = true → exec (.nop a p) s = e (opNop)) ∧
     (s.canFire a p 0x02 0x02 = true → exec (.ptcfg a p) s = e (opPtcfg)) ∧
     (s.canFire a p 0x03 0x03 = true → exec (.park a p) s = e (opPark)) ∧
     (s.canFire a p 0x04 0x04 = true → exec (.scla a p) s = e (opScale false)) ∧
     (s.canFire a p 0x05 0x05 = true → exec (.sclb a p) s = e (opScale true)) ∧
     (s.canFire a p 0xB0 0xB0 = true → exec (.mov a p) s = e (opMov)) ∧
     (s.canFire a p 0xB1 0xB1 = true → exec (.obst a p) s = e (opObst)) ∧
     (s.canFire a p 0xB8 0xB8 = true → exec (.sfu a p) s = e (opSfu)) ∧
     (s.rests a p 0x9A 0x9A = true → (s.shows a p (iSrcA w) = true ∨ s.shows a p (iSrcB w) = true) →
       c.noBarrier (s.array a).epoch w = true → exec (.merge a p) s = e opMerge) ∧
     (s.rests a p 0x9B 0x9B = true → (isQueue (iSrcC w) = true → s.shows a p (iSrcC w) = true) →
       s.shows a p (if bit (c.source w (iSrcC w)) 0 then iSrcA w else iSrcB w) = true → exec (.cmerge a p) s = e opCmerge) ∧
     (s.rests a p 1 1 = true → (∀ d ∈ named w, ∃ t, c.head (s.array a).epoch d = some t ∧ t.kind = 3 ∧ field t.pay.toNat 0 12 = iImm w) →
       exec (.bar a p) s = .next (s.withFired a p
         (({ c.dequeue (named w) with
             flight := [{ mask := iDest w, tok := mkTok (s.array a).epoch false 3 0 (iImm w) }] } : Cell).sequence w false))))

/-- A column's special-function unit serves the next request of its scan and puts the result in flight toward the cell's
previous-result register; a result whose places are free lands there; a token moves into the neighbour's queue, along a
declared path or out of its port; a token of another epoch is removed and counted. Each changes nothing but its array. A cell
whose instruction may not fire as its queues stand stops issue in its array, and the task aborts with status 0x53, the fault
code, the cell and the instruction's index; a BAR on a token with another ID has consumed the barrier tokens first, and faults
likewise with 0x03. A word that cannot be corrected is fault 0x04, and a corrected word is counted for the site and harms
nothing. A fault is given to a task once: the first cause stays, the array's LastStatus tells it, and issue stops. Rules: R45,
R71, R79, R91, R92, R94, R118. -/
def Obligations.CellServicesAndFaults : Prop :=
  (∀ (s : State) (a p : Nat),
     let w := s.work
     let x := s.array a
     let c := s.cell a p
     (∀ col r fn v, x.sfuNext col = some r → (x.cell (16 * r + col)).sfu = some (fn, v) →
       exec (.sfuService a col) s = .next (s.commit (w.modArr a fun x =>
         { x.modCell (16 * r + col) (fun c => { c.flag (sfuResult fn v).2 with
             sfu := none, flight := c.flight ++ [{ prev := some (BitVec.ofNat 64 (sfuResult fn v).1, 0), sfu := true }] }) with
           sfuLast := tput x.sfuLast col r }))) ∧
     (∀ n f, c.flight[n]? = some f → (∀ g ∈ c.flight.take n, g.clashes f = false) →
       (∀ d < 4, inMask f.mask d = true → c.out d = none) →
       exec (.resultWriteback a p n) s =
         .next (s.commit (w.modArr a (·.modCell p fun c => { c.land f with flight := ldrop c.flight n })))) ∧
     (∀ d q e t, edgePort p d = none → c.out d = some t → neighbour p d = some (q, e) → x.moving = true → x.hasRoom q e = true →
       exec (.tokenAccept a p d) s =
         .next (s.commit (w.modArr a fun x => (x.modCell p (fun c => c.setOut d none)).enqueue q e t))) ∧
     (∀ d t, c.head x.epoch d = some t → x.moving = true → bit (c.pathByte d) 7 = true → bit (c.pathByte d) 6 = true →
       c.out (field (c.pathByte d) 0 2) = none →
       exec (.passThroughMove a p d) s = .next (s.commit (w.modArr a fun x =>
         { x.modCell p (fun c => (c.setQueue d (c.queue d).tail).setOut (field (c.pathByte d) 0 2) (some t)) with
           moved := true }))) ∧
     (∀ d t rest, c.queue d = t :: rest → t.epoch ≠ x.epoch →
       exec (.staleTokenRemoval a p d) s = .next (s.commit (w.modArr a fun x =>
         { x.modCell p (fun c => c.setQueue d rest) with stale := satAdd 16 x.stale 1 })))) ∧
  (∀ (s : State) (a p : Nat),
     let c := s.cell a p
     let code := c.faultCode (s.array a).epoch
     let stops := fun (w : Work) (k : Nat) =>
       (.next (s.commit ((w.taskFault a { status := 0x53, detail := k, cell := p, idx := c.idx }).modArr a
         (fun x => { x with stopped := true }))) : Host.Outcome State Fault Refusal)
     let taken := s.work.modArr a (fun x => x.modCell p (fun c => c.dequeue (named (s.instr a p))))
     (s.array a).issues = true → c.parked = false →
     (∀ k, code = some k → k ≠ 0x03 → exec (.cellFault a p .good) s = stops s.work k) ∧
     (code = some 0x03 → exec (.cellFault a p .good) s = stops taken 0x03) ∧
     (iOp (s.instr a p) = 1 → barReady (s.env a) c (s.instr a p) = true → barIds (s.env a) c (s.instr a p) = false →
       c.outsFree (iDest (s.instr a p)) = true → exec (.bar a p) s = stops taken 0x03) ∧
     exec (.cellFault a p .uncorrectable) s = stops s.work 0x04 ∧
     exec (.cellFault a p .corrected) s = .next (s.commit (s.work.wordsCorrected (a / 16) 1))) ∧
  (∀ (w : Work) (a : Nat) (t : Active) (f g : Cause), (w.arr a).task = some t → t.fault = none →
     ((w.taskFault a f).arr a).task = some { t with fault := some f } ∧ ((w.taskFault a f).arr a).stopped = true ∧
       ((w.taskFault a f).arr a).lastStatus = f.status ∧ (w.taskFault a f).taskFault a g = w.taskFault a f ∧
       ∀ b, b ≠ a → (w.taskFault a f).arr b = w.arr b)

/-- A cell instruction changes nothing but its own cell and its array's note that a cell has fired: memory, fuses, every other
array, every other cell of the array, its token ports, its task, its engines and its channels stay; only BAR on a token with
another ID also gives the task its fault and stops the array. Rules: R41, R89. -/
def Obligations.CellInstructionsChangeOnlyTheirCell : Prop :=
  ∀ (s t : State) (a p : Nat), ∀ c ∈ cellInstrs a p, exec c s = .next t →
    t = { s with arrays := t.arrays } ∧ (∀ b, b ≠ a → t.array b = s.array b) ∧ (∀ q, q ≠ p → t.cell a q = s.cell a q) ∧
      (¬(c = .bar a p ∧ barWrong (s.env a) (s.cell a p) (s.instr a p) = true) →
        { t.array a with cells := (s.array a).cells, fired := (s.array a).fired, moved := (s.array a).moved
                         firedSince := (s.array a).firedSince } = s.array a) ∧
      (c = .bar a p → barWrong (s.env a) (s.cell a p) (s.instr a p) = true →
        { t.array a with cells := (s.array a).cells, task := (s.array a).task, stopped := (s.array a).stopped
                         lastStatus := (s.array a).lastStatus } = s.array a)

/-- A parked cell never fires: each cell instruction leaves the state as it is. PARK parks its cell, whose queues, other than
those it names, and whose paths stay as they were; and a path of a parked cell goes on as any other. Rules: R120. -/
def Obligations.ParkedCellsNeverFire : Prop :=
  ∀ (s : State) (a p : Nat),
    ((s.cell a p).parked = true → ∀ c ∈ cellInstrs a p, exec c s = .next s) ∧
    (let e : Eff := { (s.cell a p).base (s.instr a p) with cell := { s.cell a p with parked := true } }
     s.mayFire a p 3 3 e = true → ∃ u, exec (.park a p) s = .next u ∧ (u.cell a p).parked = true ∧
      (u.cell a p).paths = (s.cell a p).paths ∧
      ∀ d, d ∉ ((s.cell a p).consumed (s.instr a p)).1 → (u.cell a p).queue d = (s.cell a p).queue d) ∧
    (∀ d t, (s.cell a p).parked = true → (s.cell a p).head (s.array a).epoch d = some t → (s.array a).moving = true →
      bit ((s.cell a p).pathByte d) 7 = true → bit ((s.cell a p).pathByte d) 6 = true →
      (s.cell a p).out (field ((s.cell a p).pathByte d) 0 2) = none →
      ∃ u, exec (.passThroughMove a p d) s = .next u ∧ (u.cell a p).out (field ((s.cell a p).pathByte d) 0 2) = some t)


/-! ### Images, loads and tasks -/

/-- REGISTER enters the image at LoadAddress in the registry when its header, its checksum and every check of R466 hold, and
RegisterStatus reads 0; UNREGISTER takes an entry out. LOAD_ARRAY asks for a load of a registered image on an idle array while
no job and no load runs, its LastStatus 0xFF meanwhile; the load closes the channels of an EMPTY array, discards the contents
of a forced one and drains any other; its image is committed, the channels open, and the array is READY or OPENING; a wrong
checksum leaves the array EMPTY with every cell parked. Rules: R134, R135, R137, R140. -/
def Obligations.ImagesAndArraysLoad : Prop :=
  (∀ (s : State),
     let w := s.work
     let base := w.reg 0x2800 3
     let h := headerOf (w.read base 256)
     (w.imageStatus base 256 = none → headerOk (w.read base 256) = true → w.imageStatus base h.length = none →
       checkImage (w.loadBytes base h.length false).1 (w.registry.any (fun e => e.id == h.id)) (decide (4096 ≤ w.registry.length)) =
         none →
       exec .register s = .next (s.commit (({ (w.loadBytes base h.length false).2 with
         registry := (w.loadBytes base h.length false).2.registry ++
           [⟨h.id, h.graph, base, h.length, h.epoch, h.templates, h.channels, 0⟩] } : Work).setReg 0x2800 5 0).accept)) ∧
     (∀ id, (∃ e ∈ s.registry, e.id = id) → exec (.unregister id) s =
       .next (s.commit (({ w with registry := w.registry.filter (fun e => e.id != id) } : Work).setReg 0x2800 5 0).accept))) ∧
  (∀ (s : State) (a : Nat),
     let w := s.work
     let x := s.array a
     (∀ id d k force, w.jobRuns = false → d < w.cols * 16 → k < 16 → w.arrPresent (arrOf d k) = true →
       (w.arr (arrOf d k)).task = none → (w.registry.any fun e => e.id == id) = true →
       ((∀ e ∈ w.arrays, e.2.load = .none ∧ e.2.st ≠ .opening) → exec (.loadArray id d k force) s =
         .next (s.commit (w.modArr (arrOf d k) (fun x => { x with
           load := .asked, loadImage := id, loadForced := force, lastStatus := 0xFF })).accept)) ∧
       ((∃ e ∈ w.arrays, e.2.load ≠ .none ∨ e.2.st = .opening) →
         exec (.loadArray id d k force) s = .next (s.commit (w.refuse 0x76)))) ∧
     (∀ e, x.load = .asked → w.arrPresent a = true → w.registry.find? (fun e => e.id == x.loadImage) = some e →
       e.epoch ≠ x.epoch → (w.registeredChans e).any w.peerAbsent = false →
       exec (.arrayLoad a) s = .next (s.commit
         (if x.loadForced then (w.modArr a Arr.discard).beginClose a true
          else if x.st = .empty then w.beginClose a false
          else (w.modArr a (fun x => { x with load := .draining })).beginDrain a))) ∧
     (∀ t, x.load = .closing t →
       exec (.closeWaitTimeout a) s = .next (s.commit ((w.reachOn (a / 16) (t + 100000)).modArr a
         (fun x => { x with st := .loading, load := .writing })))) ∧
     (∀ e, x.load = .writing → w.registry.find? (fun e => e.id == x.loadImage) = some e → w.imageStatus e.address e.length = none →
       let bs := w.read (w.localAddr e.address) e.length
       let got := w.hutchAccesses (w.localAddr e.address) e.length false false
       let v := got.commitImage a e bs
       (imageCrc bs ≠ (headerOf (bs.take 256)).crc → exec (.loadWriteComplete a) s =
         .next (s.commit (got.loadRefused a 0x03 (some (headerOf (bs.take 256)).epoch)))) ∧
       (imageCrc bs = (headerOf (bs.take 256)).crc → (v.arr a).chans = [] →
         exec (.loadWriteComplete a) s = .next (s.commit (v.answerHeld a))) ∧
       (imageCrc bs = (headerOf (bs.take 256)).crc → (v.arr a).chans ≠ [] →
         let o := v.modArr a (fun y => { y with st := .opening, lastStatus := if x.lastStatus = 0xFF then 0xFF else 0 })
         exec (.loadWriteComplete a) s = .next (s.commit
           ((((o.arr a).chans.filter (fun c => !chDir c.2.record)).foldl (fun w c => w.sendOpen a c.1) o).answerHeld a)))))

/-- An image whose recomputed CRC differs from its Crc leaves every cell's program a single PARK, the epoch of the header, the
array EMPTY with LastStatus 0x03 and the task that asked for the load with 0x03 as its cause, so that TASK_ABORT ends it; the
array issues nothing. Rules: R140. -/
def Obligations.RefusedImagesNeverIssue : Prop :=
  ∀ (s : State) (a : Nat) (e : Image),
    let w := s.work
    let h := headerOf ((w.read (w.localAddr e.address) e.length).take 256)
    (s.array a).load = .writing → w.registry.find? (fun e => e.id == (s.array a).loadImage) = some e →
    w.imageStatus e.address e.length = none → imageCrc (w.read (w.localAddr e.address) e.length) ≠ h.crc →
    ∃ u, exec (.loadWriteComplete a) s = .next u ∧ (∀ p < 256, (u.cell a p).prog = [(0, parkWord)] ∧ u.instr a p = 0x03FFF00000000000) ∧
      (u.array a).epoch = h.epoch ∧ (u.array a).st = .empty ∧ (u.array a).lastStatus = 0x03 ∧ (u.array a).issues = false ∧
      (∀ t, (s.array a).task = some t → t.fault = none → (u.array a).task = some { t with fault := some { status := 0x03 } })

/-- A load of an image of the array's own epoch is refused with 0x05, and nothing else of the array changes; a good image's epoch
takes effect at its commit; a head of another epoch is removed and counted in StaleTokens, which stays at its greatest value
once there. Rules: R138. -/
def Obligations.EpochsMustDiffer : Prop :=
  ∀ (s : State) (a : Nat) (e : Image),
    let w := s.work
    let x := s.array a
    let bs := w.read (w.localAddr e.address) e.length
    (x.load = .asked → w.arrPresent a = true → w.registry.find? (fun e => e.id == x.loadImage) = some e → e.epoch = x.epoch →
      exec (.arrayLoad a) s = .next (s.commit
        ((w.taskFault a { status := 0x05 }).modArr a (fun x => { x with load := .none, lastStatus := 0x05 })))) ∧
    (x.load = .writing → w.registry.find? (fun e => e.id == x.loadImage) = some e → w.imageStatus e.address e.length = none →
      imageCrc bs = (headerOf (bs.take 256)).crc →
      ∃ u, exec (.loadWriteComplete a) s = .next u ∧ (u.array a).epoch = (headerOf (bs.take 256)).epoch) ∧
    (∀ p d t rest, (s.cell a p).queue d = t :: rest → t.epoch ≠ x.epoch →
      ∃ u, exec (.staleTokenRemoval a p d) s = .next u ∧ (u.cell a p).queue d = rest ∧
        (u.array a).stale = min (x.stale + 1) 65535)

/-- A task placed on a READY array starts it: the array is in RUN, its task is running from its die's present time, its engines
take their first templates and its windows begin anew. A drain ends READY when the array is empty, and otherwise, at its
deadline or without progress, HELD with status 0x09 and its tokens in spill runs; time in which the fabric stands still is not
counted; a progress suspicion after 4,096 cycles is counted and opens spill runs, or holds a deadlocked array with 0x0D; an
open run gives its oldest token back to its queue while tokens move in the array, and a slot that cannot be read aborts the
task with 0x20. Rules: R137, R144, R147, R150. -/
def Obligations.TasksStartAndDrain : Prop :=
  (∀ (s : State) (a : Nat) (t : Active), (s.array a).task = some t → (s.array a).st = .ready → (s.array a).load = .none →
     t.running = false → t.fault = none → t.inst.checked = false →
     ∃ u, exec (.arrayRunStart a) s = .next u ∧ (u.array a).st = .run ∧ (u.array a).engines = (s.array a).startEngines ∧
       (u.array a).stopped = false ∧ (u.array a).inWin = [] ∧ (u.array a).outWin = [] ∧ (u.array a).cells = (s.array a).cells ∧
       (u.array a).task = some { t with
         running := true, startAt := s.work.dieNow (a / 16), stale0 := (s.array a).stale, discard0 := (s.array a).discarded
         spills0 := (s.array a).spills, susp0 := (s.array a).suspicions, savedSr := [] } ∧
       ∀ b, b ≠ a → u.array b = s.array b) ∧
  (∀ (s : State) (a : Nat),
     let w := s.work
     let x := s.array a
     let late := w.reachOn (a / 16) (x.drainAt + 1000000)
     let seen := w.modArr a (fun x => { x with suspicions := satAdd 8 x.suspicions 1 })
     (x.st = .drain → x.drained = true → exec (.drainSuccess a) s = .next (s.commit (w.drainDone a))) ∧
     (x.st = .drain → w.fmgr.st < 2 → exec (.drainDeadline a) s =
       .next (s.commit (if x.drained then late.drainDone a else (late.modArr a Arr.spillResidue).hold a 0x09))) ∧
     (x.st = .drain → 2 ≤ w.fmgr.st → exec (.drainDeadline a) s = .next s) ∧
     (x.st = .drain → x.drained = false → 4096 ≤ x.still →
       exec (.drainNoProgress a) s = .next (s.commit ((w.modArr a Arr.spillResidue).hold a 0x09))) ∧
     (x.st = .run → x.task.isSome = true → 4096 ≤ x.progress → exec (.progressSuspicion a) s =
       .next (s.commit (if x.deadlocked then (seen.closeAll a true).hold a 0x0D
         else seen.modArr a (fun x => { x.spillRound with spills := satAdd 8 x.spills 1 })))) ∧
     (∀ p d, x.moving = false → exec (.spillRefill a p d) s = .next s) ∧
     (∀ p d r t rest, x.moving = true → x.openRun p d = some r → r.toks = t :: rest →
       let slot := w.slotAddr a (8 * r.num + 1)
       (w.hasBadWord slot 8 = false → ((x.cell p).queue d).length < 4 →
         exec (.spillRefill a p d) s = .next (s.commit (w.modArr a fun x =>
           { x.modCell p (fun c => c.setQueue d (c.queue d ++ [t])) with
             runs := (x.runs.map (fun q => if q.num = r.num then { q with toks := rest } else q)).filter
               (fun q => q.num != r.num || !rest.isEmpty) }))) ∧
       (w.hasBadWord slot 8 = true → exec (.spillRefill a p d) s = .next (s.commit (w.taskFault a { status := 0x20, address := slot })))))


/-! ### Windows, channels and stores -/

/-- The next word of an incoming window becomes a token of the array's epoch, `last` at its final word; one access takes what is
left of a bank row; the token in an outgoing window's port is gathered for the window's next word, and the words are written
as a bank row or the window is complete, or in a drain; the oldest token of a port's incoming buffer enters the boundary
cell's queue and its channel owes a credit. Rules: R130, R157. -/
def Obligations.PortsMoveTokens : Prop :=
  ∀ (s : State) (a e : Nat),
    let w := s.work
    let x := s.array a
    let v := tget 0 x.ports e
    let i := tget 0 x.inWin e
    let o := tget 0 x.outWin e
    let tok := fun (y : Nat) => mkTok x.epoch (i + 1 == pWords v) 0 (pLane v) y
    let k := min (32 - (pBase v + i) % 32) (pWords v - i)
    let row := w.padAddr a (8 * (pBase v + i))
    let read := (List.range k).map (fun j => w.readNat (row + 8 * j) 8)
    let gone := fun (t : Token) => w.modArr a (fun x => { x.clearOut e with
      outHold := tmod [] x.outHold e (· ++ [t.pay.toNat]), outWin := tput x.outWin e (o + 1) })
    (x.st = .run → x.task.isSome = true → x.faulted = false → pInKind v = 1 → i < pWords v → 0 < x.bufRoom e →
      (∀ y rest, tget [] x.inHold e = y :: rest →
        exec (.incomingWindowWord a e) s = .next (s.commit (w.modArr a fun x => { x.access false 4 [] with
          inHold := tput x.inHold e rest, inBuf := tmod [] x.inBuf e (· ++ [tok y]), inWin := tput x.inWin e (i + 1), moved := true }))) ∧
      (tget [] x.inHold e = [] → w.hasBadWord row (8 * k) = false →
        exec (.incomingWindowWord a e) s = .next (s.commit (w.modArr a fun x =>
          { x.access false 4 ((List.range k).map (pBase v + i + ·)) with
            inHold := tput x.inHold e read.tail, inBuf := tmod [] x.inBuf e (· ++ [tok (read.headD 0)])
            inWin := tput x.inWin e (i + 1), moved := true })))) ∧
    (∀ t, x.portOut e = some t → x.st = .run ∨ x.st = .drain → x.faulted = false → pOutKind v = 1 → t.kind ≠ 3 → o < pWords v →
      exec (.outgoingWindowWrite a e) s = .next (s.commit
        (if (pBase v + o) % 32 = 31 ∨ o + 1 = pWords v ∨ x.st = .drain then (gone t).flushWindow a e else gone t))) ∧
    (∀ t rest, tget [] x.inBuf e = t :: rest → x.moving = true → x.hasRoom (portCell e).1 (portCell e).2 = true →
      exec (.incomingTokenDelivery a e) s = .next (s.commit ((w.modArr a fun x =>
        { x.enqueue (portCell e).1 (portCell e).2 t with inBuf := tput x.inBuf e rest, moved := true }).oweCredit a e)))

/-- An OPEN is answered by an array that can answer and held by one that cannot; it is repeated every 10 µs until an answer; GRANT
gives the sender its initial credit and its first sequence number, 0; REJECT and a millisecond without a grant hold the array
with 0x0B and 0x0A; while the fabric is stopped no such timer runs. Gathered tokens go as one DATA packet with the next
sequence number once the packet is complete, FlushTimer has run out or the array drains, and credit covers them; they use up
their credit, and take BULK-A only where the channel and the panel allow it and the route is clear; DATA enters the incoming
buffer in sequence order, and is discarded and counted on a closed channel; CREDIT adds to the sender's credit; CLOSE is
answered with CLOSED once no DATA of the channel is in flight toward the closer, and CLOSED ends the channel. A packet of DATA
in order gives its tokens at once: the sequence number moves on by one and nothing is left waiting. Rules: R153, R154, R156,
R157, R158, R159. -/
def Obligations.ChannelsOpenAndCarry : Prop :=
  (∀ (s : State) (p : Packet),
     let w := s.work.take p
     let a := w.dstArr p
     let x := w.arr a
     (s.work.inTurn p = true → exec (.openChan p) s = .next (s.commit
       (if x.st.answers then w.answerOpen a p
        else w.modArr a fun x => { x with
         heldOpens := x.heldOpens.filter (fun q => !(q.index == p.index && q.srcC == p.srcC && q.srcR == p.srcR &&
           q.srcUnit == p.srcUnit)) ++ [p] }))) ∧
     (∀ b c, (s.array b).st = .opening → thas (s.array b).chans c = true → chDir ((s.array b).chan c).record = false →
       ((s.array b).chan c).granted = false → ((s.array b).chan c).closed = false → s.fmgr.st < 2 →
       exec (.openRepeat b c) s = .next (s.commit ((s.work.reachOn (b / 16) (((s.array b).chan c).openAt + 10000)).sendOpen b c))) ∧
     (∀ c, s.work.inTurn p = true → w.chanOf a p [false] = some c → (x.chan c).granted = false →
       exec (.grant p) s = .next (s.commit (w.modArr a fun x =>
         (x.modChan c (fun e => { e with granted := true, credit := field p.typeData 0 16, seq := 0 })).settleOpen))) ∧
     (∀ c, s.work.inTurn p = true → w.chanOf a p [false] = some c → x.st = .opening → (x.chan c).granted = false →
       exec (.reject p) s = .next (s.commit (w.hold a 0x0B))) ∧
     (∀ b, (s.array b).st = .opening → s.fmgr.st < 2 →
       exec (.openTimeout b) s = .next (s.commit ((s.work.reachOn (b / 16) ((s.array b).commitAt + 1000001)).hold b 0x0A))) ∧
     (∀ b c, 2 ≤ s.fmgr.st → exec (.openTimeout b) s = .next s ∧ exec (.openRepeat b c) s = .next s)) ∧
  (∀ (s : State) (p : Packet),
     let w := s.work.take p
     let a := w.dstArr p
     let x := w.arr a
     (∀ b port c, (s.array b).outChan port = some c →
       let e := (s.array b).chan c
       let m := s.work.chanMsg b c 0x04 4 0
       let bulk := chAdaptive e.record && s.work.eff 0x4000 7 == 1 && m.dstPanel == s.work.panelId &&
         bit (s.work.route (b / 16) (s.work.dstDie m)) 10
       e.granted = true → e.closed = false → e.gather ≠ [] → e.gather.length ≤ e.credit →
       e.complete = true ∨ chFlush e.record ≤ e.age ∨ (s.array b).st = .drain →
       exec (.dataLaunch b port) s = .next (s.commit ((s.work.send { m with
         vc := if bulk then 3 else 4, adaptive := bulk, payload := dataPayload e.seq e.gather }).modArr b (·.modChan c fun e =>
           { e with seq := (e.seq + 1) % 65536, credit := e.credit - e.gather.length, gather := [], age := 0 })))) ∧
     (∀ c, s.work.inTurn p = true → w.chanOf a p [true] = some c →
       let e := x.chan c
       let ts := dataTokens p.payload
       let n := leAt p.payload 0 2
       let d := ({ e with early := e.early.filter (fun y => y.1 != n) ++ [(n, ts)] } : ChanEnd).drainEarly 64 []
       (e.closed = false → e.closing = false → exec (.data p) s = .next (s.commit (w.modArr a fun x =>
         { x.modChan c (fun _ => d.1) with inBuf := tmod [] x.inBuf p.dstSub (· ++ d.2), moved := true }))) ∧
       (e.closed = true ∨ e.closing = true → exec (.data p) s = .next (s.commit (w.modArr a fun x =>
         { x with stale := satAdd 16 x.stale ts.length })))) ∧
     (∀ c, s.work.inTurn p = true → w.chanOf a p [false] = some c → exec (.credit p) s = .next (s.commit (w.modArr a (·.modChan c fun e =>
       { e with credit := e.credit + field p.typeData 0 7 })))) ∧
     (∀ c, s.work.inTurn p = true → w.chanOf a p [true, false] = some c →
       let v := (w.send (w.chanMsg a c 0x07 2 0)).modArr a (·.modChan c (fun e => { e with closed := true }))
       exec (.closed p) s = .next (s.commit
         ((w.modArr a (·.modChan c (fun e => { e with closing := false, closed := true }))).afterClosed a)) ∧
       (s.work.dataFlying p = false → bit p.typeData 0 = false → (x.chan c).gather = [] →
         exec (.closeChan p) s = .next (s.commit (v.afterClosed a))) ∧
       (s.work.dataFlying p = false → bit p.typeData 0 = true → (v.arr a).st = .run →
         exec (.closeChan p) s = .next (s.commit ((v.taskFault a { status := 0x0E }).closeAll a true))))) ∧
  (∀ (e : ChanEnd) (ts : List Token), e.early = [] → e.seq < 65536 →
     ({ e with early := [(e.seq, ts)] } : ChanEnd).drainEarly 64 [] = ({ e with early := [], seq := (e.seq + 1) % 65536 }, ts))

/-- Each token that leaves a port's incoming buffer for its cell owes its channel one credit; with 8 credits owed, or with the
buffer empty, packets held early among it, one CREDIT message carries them all, and otherwise none is sent. Rules: R158. -/
def Obligations.CreditsGoBack : Prop :=
  ∀ (s : State) (a e c : Nat) (t : Token) (rest : List Token),
    let x := s.array a
    let owed := (x.chan c).owed + 1
    tget [] x.inBuf e = t :: rest → x.moving = true → x.hasRoom (portCell e).1 (portCell e).2 = true → x.inChan e = some c →
    (x.chan c).closed = false →
    ∃ u, exec (.incomingTokenDelivery a e) s = .next u ∧ tget [] (u.array a).inBuf e = rest ∧
      (if 8 ≤ owed ∨ rest = [] ∧ (x.chan c).early = [] then
        ((u.array a).chan c).owed = 0 ∧ u.net = s.net ++ [s.work.stamped (s.work.chanMsg a c 0x05 2 owed)]
       else ((u.array a).chan c).owed = owed ∧ u.net = s.net)

/-- A scratchpad access ends when it leaves the front of the pipeline; words corrected on the way are counted for the site, and a
word that could not be corrected aborts the task that read it with 0x20, at its address, an engine's read with the engine, its
template and its tile; a patrol of a powered Hutch counts corrected words and poisons, or drops from its cache, the lines that
it could not correct. A check-value unit that nothing feeds takes a state record and a reset through the dictionary; one that
is fed refuses both with 0x7D. Rules: R166, R189, R194, R223, R225. -/
def Obligations.StoresAndCheckUnits : Prop :=
  (∀ (s : State) (a b corrected : Nat) (bad : List Nat),
     (∀ i rest, (s.array a).pipe = i :: rest →
       let gone := s.work.modArr a (fun x => { x with pipe := rest })
       exec (.scratchpadAccessComplete ⟨a, 0, []⟩) s = .next (s.commit gone) ∧
       (∀ n, n ≠ 0 → exec (.scratchpadAccessComplete ⟨a, n, []⟩) s = .next (s.commit (gone.wordsCorrected (a / 16) n))) ∧
       (∀ x, aSpace x = 3 → s.work.addrArr x = a → i.write = false → aByte x / 8 ∈ i.words → (s.array a).task.isSome = true →
         exec (.scratchpadAccessComplete ⟨a, 0, [x]⟩) s = .next (s.commit
           ({ gone with badWords := x / 8 * 8 :: gone.badWords.filter (· != x / 8 * 8) }.taskFault a
             (if i.who < 4 ∧ (gone.engine a i.who).started = true
              then { status := 0x20, address := x / 8 * 8, engine := (gone.engine a i.who).where_ i.who, tile := (gone.engine a i.who).tileOf (x / 8 * 8) }
              else { status := 0x20, address := x / 8 * 8 }))))) ∧
     ((s.work.domain (16 + b)).st = .on →
       exec (.sramPatrol b corrected bad) s = .next (s.commit
         ((bad.filter (fun x => aHutch x == b && decide (aSpace x ≤ 1))).foldl (sramError b)
           (s.work.corrected (0x5000 + b) 0x0B corrected 4 b)))) ∧
     ((s.work.domain (16 + b)).st = .on → (s.work.hutch b).ecc = true →
       exec (.dramPatrolScrub b corrected bad) s = .next (s.commit
         ((bad.filter (fun x => aHutch x == b && aSpace x == 0)).foldl
           (fun w x => (w.addReg (0x5000 + b) 0x0E 1).poisonLine b (lineOf x)) (s.work.corrected (0x5000 + b) 0x0D corrected 4 b))))) ∧
  (∀ (s : State) (data : List Byte) (u : Nat),
     let w := s.work
     (data.length = 34 → leAt data 0 2 < 417 → leAt data 2 1 ≤ 3 →
       exec (.checkUnitLoad data) s = .next (s.commit
         (if w.feeding (leAt data 0 2) then w.refuse 0x7D (feederName (leAt data 0 2))
          else (w.loadCheck (leAt data 0 2) (data.drop 2)).accept))) ∧
     (u < 417 → exec (.checkUnitReset u) s = .next (s.commit
       (if w.feeding u then w.refuse 0x7D (feederName u)
        else (w.modCheck u (fun c => { c with running := crcInit c.poly, bytes := 0 })).accept))))

/-- A host access within one 64 B unit of readable panel DRAM: a read answers the bytes at its address without poison, and a write
stores exactly the enabled bytes, with every other byte of memory as before. Rules: R344. -/
def Obligations.HostReadsAndWritesDram : Prop :=
  ∀ (s : State) (dpa : Nat),
    let w := s.work
    s.memOk = true → s.cxl.st = 2 → dpa < 2 ^ 42 → w.invalid dpa = false → w.hostReaches (aHutch dpa) = true →
    (∀ n, 0 < n → dpa % 64 + n ≤ 64 → w.isProtected dpa n = false → (w.hutch (aHutch dpa)).stuck = false → w.hasPoison dpa n = false →
      ∃ t, exec (.hostCxlRead dpa n) s = .next t ∧ t.cxl.readData = w.read dpa n ∧ t.cxl.readPoison = false ∧ t.mem = s.mem) ∧
    (∀ data en, 0 < data.length → dpa % 64 + data.length ≤ 64 → w.isProtected dpa data.length = false →
      ∃ t, exec (.hostCxlWrite dpa data en) s = .next t ∧
        ∀ x, t.work.readByte x = if dpa ≤ x ∧ x < dpa + data.length ∧ bit en (x - dpa) = true then data.getD (x - dpa) 0
          else w.readByte x)

/-- FILL writes its word over its range, COPY the bytes of its source, and neither changes any other byte of memory. Rules: R171. -/
def Obligations.FillAndCopyWriteTheirRange : Prop :=
  ∀ (s : State) (a e : Nat),
    let w := s.work
    let d := (w.engine a e).desc
    s.memOk = true → (w.engine a e).issued = 0 →
    (w.runs a e 1 = true → d.lineBytes % 8 = 0 → ∃ t, exec (.fill a e) s = .next t ∧
      ∀ x, t.work.readByte x = if d.dst ≤ x ∧ x < d.dst + d.lineBytes then (toBytes d.src 8).getD ((x - d.dst) % 8) 0
        else w.readByte x) ∧
    (w.runs a e 2 = true → w.sourceWindow a d = false → w.hasBadWord d.src d.lineBytes = false → ∃ t, exec (.copy a e) s = .next t ∧
      ∀ x, t.work.readByte x = if d.dst ≤ x ∧ x < d.dst + d.lineBytes then w.readByte (d.src + (x - d.dst)) else w.readByte x)

/-- An engine with no descriptor under way takes its next template where the task runs: the setup checks pass, and the engine
starts it from its beginning, with the instance's addresses in it. A descriptor that has done everything completes: its engine
is free and holds the template chained to it, and its check-value unit is released; a barrier's arrival is posted to the lead
Sideboard once the engine is quiet. Rules: R205, R215. -/
def Obligations.EnginesStartAndComplete : Prop :=
  (∀ (w : Work) (a e op i : Nat) (t : Active),
     let d := w.rewriteDesc a t.inst (descOf ((w.arr a).templates.getD i []))
     (w.arr a).task = some t → (w.engine a e).tmpl = some i → (w.arr a).st = .run → t.running = true → (w.arr a).faulted = false →
     (w.engine a e).started = false → d.op = op → w.setupStatus a e d = none →
     ((w.startDesc a e op).engine a e).started = true ∧ ((w.startDesc a e op).engine a e).desc = d ∧
       ((w.startDesc a e op).engine a e).issued = 0 ∧ (w.startDesc a e op).runs a e op = true ∧
       (w.startDesc a e op).mem = w.mem ∧ (w.startDesc a e op).stores = w.stores ∧
       ∀ b, b ≠ a → (w.startDesc a e op).arr b = w.arr b) ∧
  (∀ (s : State) (a e : Nat),
     let w := s.work
     let en := w.engine a e
     let d := en.desc
     (w.descDone a e = true → (s.array a).faulted = false → dCheck d = false →
       exec (.descriptorComplete a e) s = .next (s.commit (w.modEngine a e fun en =>
         { tmpl := if dChain d then some d.next else none, nextTag := en.nextTag }))) ∧
     (w.descDone a e = true → (s.array a).faulted = false → dCheck d = true → d.op ≠ 0 ∨ w.isOwn a d.src = true →
       exec (.descriptorComplete a e) s = .next (s.commit
         ((w.modCheck (a / 16) (fun c => { c with active := false })).modEngine a e fun en =>
           { tmpl := if dChain d then some d.next else none, nextTag := en.nextTag }))) ∧
     (en.started = true → en.arrival = true → (s.array a).quietEngine e = true → (s.array a).faulted = false →
       exec (.barrierArrivalPost a e) s = .next (s.commit
         ((w.send { w.packet 0x34 (a / 16) 0x20 0 w.sideboardA w.boardUnit 0 with
           vc := 1, typeData := d.barrierId + a % 16 * 2 ^ 12 + e * 2 ^ 16 }).modEngine a e (fun en => { en with arrival := false })))))

/-- Engines at work: a MOVE within the own scratchpad copies its lines and any other sends what its credits allow; TCOPY writes
the transpose in blocks of 32 × 32 words, in order, and COPY and TCOPY with a receive window for a source move its units as
they land; INVALIDATE drops die-store lines; FEED and COLLECT move tokens; REDUCE sends contributions; OPENRX opens a window
and CLOSERX closes it; CKSAVE and CKLOAD save and load the check-value unit. Rules: R171, R180, R203, R204, R210, R226, R251. -/
def Obligations.EnginesDoTheirOperation : Prop :=
  ∀ (s : State) (a e : Nat),
    let w := s.work
    let d := (w.engine a e).desc
    let fresh := (w.engine a e).issued = 0
    let done := fun (v : Work) => s.commit (v.modEngine a e (fun en => { en with issued := max en.desc.total 1 }))
    let n := d.lineBytes / 8
    let blocks := fun (v : Work) (i : Nat) => (List.range ((n + 31) / 32)).foldl (fun v j =>
      tcopyBlock a e d w v (32 * i) (min 32 (d.lines - 32 * i)) (32 * j) (min 32 (n - 32 * j))) v
    (w.runs a e 0 = true → exec (.move a e) s = .next (s.commit
      (if w.isOwn a d.src && w.isOwn a d.dst && d.mcMode == 0 && !w.sourceWindow a d then w.moveOwn a e else w.pump a e))) ∧
    (w.runs a e 3 = true → fresh → w.sourceWindow a d = false → (∀ r ∈ d.blockRows, w.hasBadWord r.1 r.2 = false) →
      exec (.tcopy a e) s = .next (done ((List.range ((d.lines + 31) / 32)).foldl blocks w))) ∧
    (w.runs a e 2 = true → w.sourceWindow a d = true → exec (.copy a e) s = .next (s.commit (w.moveUnits a e 1536))) ∧
    (w.runs a e 3 = true → w.sourceWindow a d = true → exec (.tcopy a e) s = .next (s.commit (w.moveUnits a e 1536))) ∧
    (w.runs a e 4 = true → fresh → exec (.invalidate a e) s = .next (done (w.invalidateDie (a / 16) d.src d.lineBytes))) ∧
    (w.runs a e 5 = true → exec (.feed a e) s = .next (s.commit (((w.pump a e).feedTokens a e 4097).feedBarrier a e))) ∧
    (w.runs a e 6 = true → exec (.collect a e) s = .next (s.commit ((w.pump a e).collectAll a e 256))) ∧
    (w.runs a e 7 = true → exec (.reduce a e) s = .next (s.commit (w.pump a e))) ∧
    (w.runs a e 8 = true → fresh → exec (.openrx a e) s = .next (done (w.modArr a (·.modWindow (d.window % 8)
      (fun _ => { isOpen := true, base := aByte d.dst, units := d.lineBytes / 256 }))))) ∧
    (w.runs a e 9 = true → fresh → exec (.closerx a e) s = .next (done ((w.modArr a
      (·.modWindow (d.window % 8) (fun x => { x with closing := true }))).settleWindow a (d.window % 8)))) ∧
    (w.runs a e 10 = true → fresh →
      exec (.cksave a e) s = .next (done ((w.write d.dst (w.checkRecord (a / 16) true)).enginePipe a e true d.dst 4))) ∧
    (w.runs a e 11 = true → fresh → w.hasBadWord d.src 32 = false →
      exec (.ckload a e) s = .next (done ((w.loadCheck (a / 16) (w.read d.src 32)).enginePipe a e false d.src 4)))


/-! ### Credits, packets and the fabric -/

/-- The credit manager: a request within an open window's size waits, one beyond it is rejected with reason 2; the first request
that fits is granted units, once all of them are free, and the window's next offset; a grant to a stream engine is kept until
all its targets have granted, up to the deadline tick on its die's counter; a rejection, a grant or a rejection after the
deadline and 100 µs without a grant abort the task with 0x33 and 0x31, but not while the fabric is stopped; CCAN removes the
requests that it names and frees the units not yet written, while packets already launched still land. Rules: R211, R212,
R213, R214. -/
def Obligations.CreditsAreGranted : Prop :=
  ∀ (s : State) (p : Packet) (a e : Nat),
    let w := s.work.take p
    let b := w.dstArr p
    let q : Crq := { req := p, window := p.dstSub % 8, tag := field p.typeData 0 16, units := field p.typeData 16 7 }
    let y := (s.array a).window e
    let n := p.dstSub % 4
    let en := w.engine b n
    let key := tKey p.srcPanel p.srcC p.srcR p.srcUnit
    let cs := en.credits.map (fun c => if c.tag = q.tag ∧ c.target = key then { c with granted := true } else c)
    let late := decide (w.fmgr.st < 2) && en.credits.any (fun c => c.tag == q.tag && decide (c.sentAt + 100000 < w.dieNow (b / 16)))
    let mine := fun (r : Crq) => r.isFrom p && (bit p.typeData 16 || r.tag == q.tag)
    let turn := s.work.inTurn p = true
    (turn → (((s.work.arr b).crqs.filter (fun r => r.offset.isNone)).length < 64) → ((s.work.arr b).window q.window).closing = false →
      exec (.crq p) s = .next (s.commit (if ((s.work.arr b).window q.window).isOpen && decide (((s.work.arr b).window q.window).units < q.units)
        then w.rejectCrq q 2 else w.modArr b (fun x => { x with crqs := x.crqs ++ [q] })))) ∧
    (∀ i r, findAt (fun (r : Crq) => r.window == e && r.offset.isNone) (s.array a).crqs 0 = some i →
      (s.array a).crqs[i]? = some r → y.isOpen = true → y.closing = false → r.units ≤ y.units → y.used + r.units ≤ y.units →
      (∀ j, j < r.units → (s.array a).unitFree e ((y.wr + j) % max y.units 1) = true) →
      exec (.creditGrant a e) s = .next (s.commit ((s.work.send { r.req.answer 0x11 with
          vc := 2, typeData := r.tag + r.units * 2 ^ 16 + y.wr * 2 ^ 23 }).modArr a fun x =>
        { x.modWindow e (fun z => { z with used := z.used + r.units, wr := (z.wr + r.units) % max z.units 1 }) with
          crqs := lmod x.crqs i (fun r => { r with offset := some y.wr }) }))) ∧
    (turn → p.dstUnit / 16 ≠ 4 → en.started = true →
      (en.credits.any fun c => c.tag == q.tag && c.target == key && !c.granted) = true →
      (late = true → exec (.cgr p) s = .next (s.commit (w.engineFault b n 0x31 en.desc.dst))) ∧
      (late = false → cs.all (·.granted) = false → exec (.cgr p) s = .next (s.commit (w.modEngine b n fun en => { en with credits := cs }))) ∧
      (late = false → cs.all (·.granted) = true → exec (.cgr p) s = .next (s.commit ((w.modEngine b n fun en => { en with
        credits := []
        grants := en.grants ++ [{ tag := q.tag, units := q.units, id := q.tag + 65536 * n, start := 256 * (en.asked - q.units) }]
      }).pump b n)))) ∧
    (turn → p.dstUnit / 16 ≠ 4 → en.started = true → (en.credits.any fun c => c.tag == q.tag) = true →
      exec (.crj p) s = .next (s.commit (w.engineFault b n (if late = true then 0x31 else 0x33) en.desc.dst))) ∧
    (∀ c, (s.work.engine a e).started = true → (s.work.engine a e).credits.find? (fun c => !c.granted) = some c →
      s.fmgr.st < 2 →
      exec (.crqTimeout a e) s =
        .next (s.commit ((s.work.reachOn (a / 16) (c.sentAt + 100001)).engineFault a e 0x31 (s.work.engine a e).desc.dst))) ∧
    (turn → exec (.ccan p) s = .next (s.commit ((List.range 8).foldl (fun w i => w.settleWindow b i)
      (((w.arr b).crqs.filter (fun q => mine q && q.offset.isSome && !q.cancelled)).foldl (fun w q => w.cancelGrant b q)
        (w.modArr b (fun x => { x with crqs := (x.crqs.filter (fun r => !mine r || r.offset.isSome)).map (fun r =>
          if mine r then { r with cancelled := true } else r) }))))))

/-- Memory packets: an AWR to a good range stores its bytes and counts toward its transfer's DONE; a RDREQ is answered with RDDATA
of at most 256 B each, poisoned where the memory is; a clean RDDATA lands in the scratchpad of the engine that asked, and a
poisoned one aborts its task with what is wrong at the address it read, 0x22 where that is poison or not of this panel; each
access of a scratchpad enters its main port. Rules: R234, R248. -/
def Obligations.MemoryPacketsCarryBytes : Prop :=
  ∀ (s : State) (p : Packet),
    let w := s.work.take p
    let x := w.localAddr p.address
    let n := field p.typeData 0 9
    let stored := w.storeBytes x (p.payload.take n)
    let seen := if p.srcPanel == stored.panelId && aSpace x == 0 then stored.dieUpdate (stored.srcDie p) x (p.payload.take n) else stored
    let tell := fun (v : Work) (o : Option Bool) => match o with
      | some f => v.send { p.answer 0x15 with vc := 2, typeData := p.total + ofBool f * 2 ^ 32 }
      | none => v
    let rxDie := countRx (seen.die (seen.dstDie p)).rx p false
    let rxHutch := countRx (seen.hutch (p.dstUnit % 16)).rx p false
    let count := field p.typeData 0 15
    let entered := if aSpace x = 3 ∧ !w.readPoison p x count
      then w.accesses (w.addrArr x) false 6 (by32 (wordAt x) (count / 8)) else w
    let turn := s.work.inTurn p = true
    let adaptive := bit p.typeData 16 && w.eff 0x4000 7 == 1 && p.srcPanel == w.panelId && bit (w.route (w.dstDie p) (w.srcDie p)) 10
    let piece := fun (v : Work) (i : Nat) =>
      let m := min 256 (count - 256 * i)
      let bad := v.readPoison p (x + 256 * i) m
      let got := if bad then (List.replicate m 0, v)
        else if p.dstUnit / 16 = 1 ∧ aSpace x = 0 then v.readDie (w.dstDie p) (x + 256 * i) m (bit p.typeData 15)
        else v.loadBytes (x + 256 * i) m (bit p.typeData 15)
      got.2.send { p.answer 0x19 with
        vc := if adaptive then 3 else 4, adaptive := adaptive, total := (count + 255) / 256, index := i
        last := i + 1 == (count + 255) / 256, poison := bad, payload := flits got.1 }
    let a := w.dstArr p
    let e := p.dstSub % 4
    let en := w.engine a e
    (turn → w.writeStatus x n = none → aSpace x ≤ 2 →
      (p.dstUnit / 16 = 1 → exec (.awr p) s =
        .next (s.commit (tell (seen.modDie (seen.dstDie p) (fun d => { d with rx := rxDie.1 })) rxDie.2))) ∧
      (p.dstUnit / 16 ≠ 1 → exec (.awr p) s =
        .next (s.commit (tell (seen.modHutch (p.dstUnit % 16) (fun h => { h with rx := rxHutch.1 })) rxHutch.2)))) ∧
    (turn → exec (.rdreq p) s = .next (s.commit ((List.range ((count + 255) / 256)).foldl piece entered))) ∧
    (∀ t k us, turn → en.transfers.find? (fun t => t.id == p.transfer && t.read.isSome) = some t → t.read = some (k, us) →
      (w.arr a).faulted = false → us.contains p.index = false → p.poison = false →
      let place := fun (j : Nat) => if en.desc.op = 5 then en.desc.feedAt (t.start + 256 * p.index + 8 * j)
        else en.desc.dstAt (t.start + 256 * p.index + 8 * j)
      let m := min 256 (k - 256 * p.index)
      let landed := (List.range (m / 8)).foldl (fun w j => w.write (place j) (slice p.payload (8 * j) 8)) w
      exec (.rddata p) s = .next (s.commit
        ((((landed.accesses a true e (by32s ((List.range (m / 8)).map (fun j => wordAt (place j))))).feedLanded a e
          (t.start + 256 * p.index) (p.payload.take m)).modEngine a e (fun en => { en with
            transfers := if (k + 255) / 256 ≤ us.length + 1 then en.transfers.filter (fun x => x.id != t.id)
              else en.transfers.map (fun x => if x.id = t.id then { x with read := some (k, us ++ [p.index]) } else x) })).pump a e))) ∧
    (∀ t k us, turn → en.transfers.find? (fun t => t.id == p.transfer && t.read.isSome) = some t → t.read = some (k, us) →
      (w.arr a).faulted = false → us.contains p.index = false → p.poison = true →
      let at_ := t.address + 256 * p.index
      let why := if w.isRemote at_ then none else w.readStatus at_ (min 256 (k - 256 * p.index))
      exec (.rddata p) s = .next (s.commit (w.faultAt a e (why.getD 0x22) at_ (t.start + 256 * p.index))))

/-- A contribution to a reduction takes its place in its group's context from the head of its lane, or waits there where no
context or place is free, a local one in a local slot if one is free; the head sends on its own packet, any other member the
packets of one unit from both inputs combined; the last member of the chain places the unit at the root, and any other sends
it to the next member, once a MCAST slot is free there and it has the output's turn. A unit lands in its receive window, with
DONE to its source once the count is complete; a multicast copy is delivered at each die of its walk from the head of its
buffer and goes on to the next one in the same step, once a MCAST slot is free there and it has the output's turn, or is
discarded whole with UNREACH where the next link has failed; DONE counts for the engine, stream, twin or barrier that it
names; a multicast without DONE for 200 µs, and a reduction without it, abort the task with 0x32. Rules: R212, R215, R217,
R250, R252, R255. -/
def Obligations.ReductionsAndWritesComplete : Prop :=
  (∀ (s : State) (d n : Nat) (p : Packet),
     let w := s.work
     (w.inTurn p = true → w.atHead d p = false → exec (.red d p) s = .next s) ∧
     (w.inTurn p = true → (w.redDies p).contains d = true → w.atHead d p = true →
       let place := ((w.pull d p).die d).router.enter p (w.srcDie p == d && p.contribs == 1)
       (∀ r, place = some r →
         exec (.red d p) s = .next (s.commit ((w.pull d p).modRouter d (fun x => { x with reds := r.reds })))) ∧
       (place = none → exec (.red d p) s = .next (s.commit (if w.srcDie p = d then w.waitLocal d p else w)))) ∧
     (∀ c : RedCtx, ∀ up ups loc locs, c.local_ = loc :: locs →
       (c.upstream = [] → (w.redDies loc).headD 0 = d → w.redNext d c = some (loc, { c with local_ := locs }, w)) ∧
       (c.upstream = up :: ups → up.index = loc.index →
         w.redNext d c = some ((w.combine d up loc).1, { c with upstream := ups, local_ := locs }, (w.combine d up loc).2)) ∧
       (c.upstream = up :: ups → up.index ≠ loc.index → w.redNext d c = none)) ∧
     (∀ c q c' v, (w.die d).router.reds[n]? = some c → w.redNext d c = some (q, c', v) →
       let sent := v.modRouter d (fun x => { x with
         reds := if q.index + 1 == q.total && c'.upstream.isEmpty && c'.local_.isEmpty then ldrop x.reds n
           else lmod x.reds n (fun _ => c') })
       let k := (findAt (· == d) (w.redDies q) 0).getD 0
       let next := (w.redDies q).getD (k + 1) d
       let dir := w.dimOut d (w.colOf next) (w.rowOf next)
       let before := (w.redDies q).getD (k - 1) d
       let from_ := if k = 0 then 4 else w.dimOut d (w.colOf before) (w.rowOf before)
       (k + 1 = (w.redDies q).length → exec (.redCombine d n) s = .next (s.commit (sent.placeRed q))) ∧
       (k + 1 ≠ (w.redDies q).length → w.outUsable d dir = true → (w.die d).router.freeSlots dir 5 0 ≠ 0 →
         w.mcastTurn d dir from_ = true →
         exec (.redCombine d n) s = .next (s.commit ((sent.mcastServed d dir from_).sendOut d dir { q with vc := 5, lane := 0 }))) ∧
       (k + 1 ≠ (w.redDies q).length → w.outUsable d dir = true →
         (w.die d).router.freeSlots dir 5 0 = 0 ∨ w.mcastTurn d dir from_ = false →
         exec (.redCombine d n) s = .next s) ∧
       (k + 1 ≠ (w.redDies q).length → w.outUsable d dir = false →
         exec (.redCombine d n) s = .next (s.commit (sent.sayUnreach d q))))) ∧
  (∀ (s : State) (p : Packet) (a e d : Nat),
     let w := s.work.take p
     let landed := (s.work.pull d p).landWr (arrOf d p.dstUnit) p
     let here := if p.mcMode = 1 then p.dstC else p.dstR
     let turn := s.work.inTurn p = true
     let dir := if p.mcMode = 1 then (if p.dstC < p.mcEnd then 2 else 3) else (if p.dstR < p.mcEnd then 1 else 0)
     let o := s.work.beyond d dir
     let q := { p with dstC := s.work.colOf o, dstR := s.work.rowOf o, vc := 5, lane := 0 }
     let en := s.work.engine a e
     (turn → exec (.wr p) s = .next (s.commit (w.landWr (w.dstArr p) p))) ∧
     let from_ := s.work.inputOf d p
     (turn → s.work.dstDie p = d → s.work.atHead d p = true →
       (here = p.mcEnd → exec (.mwrStep d p) s = .next (s.commit landed)) ∧
       (here ≠ p.mcEnd → s.work.outUsable d dir = true →
         ((s.work.die d).router.freeSlots dir 5 0 ≠ 0 → s.work.mcastTurn d dir from_ = true →
           exec (.mwrStep d p) s = .next (s.commit ((landed.mcastServed d dir from_).sendOut d dir q))) ∧
         ((s.work.die d).router.freeSlots dir 5 0 = 0 ∨ s.work.mcastTurn d dir from_ = false →
           exec (.mwrStep d p) s = .next s)) ∧
       (here ≠ p.mcEnd → s.work.outUsable d dir = false →
         exec (.mwrStep d p) s = .next (s.commit ((s.work.pull d p).sayUnreach d p)))) ∧
     (turn → s.work.atHead d p = false → exec (.mwrStep d p) s = .next s) ∧
     (turn → p.dstUnit / 16 = 4 → exec (.done p) s = .next (s.commit
       (if p.dstSub = 1 then w.confirm (p.dstUnit % 16) p.transfer (4096 + p.srcPanel) (bit p.typeData 32)
        else if p.dstSub = 2 then
          if bit p.typeData 32 then w.setReg 0x7800 0x0F (0x25 + p.transfer % 256 * 256) else { w with hinge := { w.hinge with copyLeft := w.hinge.copyLeft - 1 } }
        else w.streamDone (p.dstUnit % 16) p))) ∧
     (turn → p.dstUnit / 16 = 0 → exec (.done p) s = .next (s.commit (w.engineDone (w.dstArr p) p))) ∧
     (∀ t, en.started = true → en.desc.mcMode ≠ 0 → en.transfers.find? (fun t => !t.targets.isEmpty) = some t → s.fmgr.st < 2 →
       exec (.multicastTimeout a e) s = .next (s.commit (((s.work.reachOn (a / 16) (t.launched + 200001)).modArr a (fun x =>
         { x with task := x.task.map (fun y => { y with delivery := t.bitmap }) })).engineFault a e 0x32 en.desc.dst))) ∧
     (∀ t, en.transfers.find? (·.red) = some t → s.fmgr.st < 2 →
       exec (.reduceDoneTimeout a e) s = .next (s.commit (((s.work.reachOn (a / 16) (t.launched + 200001)).modArr a (fun x =>
         { x with task := x.task.map (fun y => { y with delivery := 0 }) })).engineFault a e 0x32 en.desc.dst))))

/-- A link takes a good frame in sequence: its acknowledgement and its Nak reach the sender, the packets that its flits complete
wait in the router, or at the external die where the link ends at one, and its credit comes back; a frame with a bad CRC asks
for a replay, those after it are dropped until the replay, and the eighth replay that fails makes the direction fail. A replay
sends the kept frames again and is counted, in all and within a second; a direction that fails takes both directions of its
link with it, discards what they carried, and new tables begin. A frame sent has the next sequence number and the CRC of its
contents, and is kept. A header that came over a link takes the output that its table and its position give, or is lost, or
waits; one that a unit injects, in its turn, enters a free slot, unless the router is stopped and the packet is no CTRL
packet, and takes the stamp of its source; one of an external die is put on its XH or XV link; an output takes the slot that
its arbitration chooses: onto its mesh, XH or XV link as a frame, or to the units of the die; UNREACH tells a source of a lost
packet; a congestion sample adds the occupancies to their bins, in the window of 10 µs that the time counter is in. A packet
has its effect in its turn alone: while one sent before it in its flow is still in a router, on a link or not yet taken, its
arrival changes nothing (which packets count as not yet arrived is the model's choice, assumption 85). Rules: R228, R229,
R230, R232, R235, R236, R237, R238, R246, R247, R254, R257. -/
def Obligations.LinksAndRoutersCarryPackets : Prop :=
  (∀ (s : State) (l : Nat) (f : LinkFrame) (d port : Nat) (far : Option (Nat × Nat)),
     let w := s.work
     let x := w.link l
     let back := if f.creditCount = 0 then 8 else f.creditCount
     let got := assemble x.part (frameFlits f)
     let good := (w.modLink l (fun x => { x with
       lastGood := f.seq, waits := false, tries := 0, part := got.1
       resend := match x.resend with
         | g :: rest => if g.seq = f.seq then rest else x.resend
         | [] => [] })).modLink (opposite l) (fun x =>
         let y := if f.ackValid then x.acked f.ack else x
         { y with asked := y.asked || f.nak })
     let fresh := decide (x.secondAt + 1000000000 ≤ w.now)
     let n := if fresh then 1 else x.inSecond + 1
     let counted := w.modLink l (fun x => { x with
       asked := false, waits := false, resend := x.sent, tries := x.tries + 1
       replays := satAdd 32 x.replays 1, inSecond := n, secondAt := if fresh then w.now else x.secondAt })
     let r : Defect := { kind := 2, source := 6, site := l / 16, sub := l / 2 % 8, pattern := 11, time := w.now }
     (w.linkEnds l = some far → x.failed = false → w.root.lost = false →
       (f.crc = frameCrc f → f.seq = (x.lastGood + 1) % 64 →
         exec (.linkFrameReceive l f) s = .next (s.commit (good.landPackets l f got.2 far))) ∧
       (far = some (d, port) → good.landPackets l f got.2 far = good.modRouter d (fun r => { r with
           slots := r.slots ++ got.2.map (fun p => ({ inPort := port, pkt := p, vc := p.vc, lane := p.lane,
                                                      link := if isAttach l then some (l / 2) else none } : Slot))
           spent := if f.creditValid && !isAttach l then tmod 0 r.spent (port * 12 + f.creditVc * 2 + f.creditLane) (· - back)
             else r.spent })) ∧
       (far = none → f.creditValid = false → (∀ p ∈ got.2, p.dstPanel = good.panelId) →
         good.landPackets l f got.2 far = { good with arrived := good.arrived ++ got.2 }) ∧
       (f.crc = frameCrc f → f.seq ≠ (x.lastGood + 1) % 64 → exec (.linkFrameReceive l f) s = .next s) ∧
       (f.crc ≠ frameCrc f → x.tries < 8 → exec (.linkFrameReceive l f) s =
         .next (s.commit (if x.waits then w else w.modLink l (fun x => { x with waits := true, nak := true })))) ∧
       (f.crc ≠ frameCrc f → 8 ≤ x.tries → exec (.linkFrameReceive l f) s = exec (.linkDirectionFails l) s)) ∧
     (x.failed = false → x.asked = true → exec (.linkReplay l) s = .next (s.commit
       (if n = w.reg 0x4000 0x0A + 1 then counted.event 2 0 3 (l / 2) n else counted))) ∧
     (x.failed = false → linkExists (l / 16) (l / 2 % 8) = true → w.isOut r = false →
       exec (.linkDirectionFails l) s = .next (s.commit
         (((((((w.linkStops (2 * (l / 16 * 8 + l / 2 % 8))).recordDefect r).refitPorts).startTables).addReg 0x4000 9 1).event
           1 0 3 (l / 2) 0)))) ∧
     (∀ fs, ∃ g, ((w.sendFrame l fs).link l).sent = (x.sent ++ [g]).drop (x.sent.length + 1 - 32) ∧ g.seq = x.sendSeq ∧
       ((w.sendFrame l fs).link l).sendSeq = (x.sendSeq + 1) % 64 ∧ g.slots = fs.zipIdx.map (fun e => (e.2, e.1)) ∧
       g.ack = (w.link (opposite l)).lastGood ∧ g.nak = (w.link (opposite l)).nak ∧ g.crc = frameCrc g)) ∧
  (∀ (s : State) (d : Nat) (p : Packet),
     let w := s.work
     let r := (w.die d).router
     let taken := w.take p
     w.diePresent d = true →
     (∀ port x, port < 4 → r.slots.find? (fun s => s.inPort == port && s.out.isNone && s.vc == p.vc && s.lane == p.lane) = some x →
       x.pkt = p → w.forContext d p = false → knownType p.type = true →
       (∀ out q, w.routeHeader d false p = .take out q → exec (.routerHeaderArrival d port p) s = .next (s.commit
         (w.modRouter d (fun r => { r with
           slots := r.slots.map (fun y => if y = x then { x with pkt := q, out := some out } else y) })))) ∧
       (w.routeHeader d false p = .lost →
         exec (.routerHeaderArrival d port p) s = .next (s.commit ((w.freeSlot d x).sayUnreach d p))) ∧
       (w.routeHeader d false p = .wait → exec (.routerHeaderArrival d port p) s = .next s)) ∧
     (∀ port x, 4 ≤ port → r.slots.find? (fun s => s.inPort == port && s.out.isNone && s.vc == p.vc && s.lane == p.lane) = some x →
       x.pkt = p → w.forContext d p = false → knownType p.type = true →
       (∀ out q, w.routeHeader d true p = .take out q → p.dstPanel = w.panelId →
         exec (.routerHeaderArrival d port p) s = .next (s.commit (w.modRouter d (fun r => { r with
           slots := r.slots.map (fun y => if y = x then { x with pkt := q, out := some out } else y) })))) ∧
       (w.routeHeader d true p = .lost →
         exec (.routerHeaderArrival d port p) s = .next (s.commit ((w.freeSlot d x).sayUnreach d p)))) ∧
     (∀ port link, 4 ≤ port →
       r.slots.find? (fun s => s.inPort == port && s.out.isNone && s.vc == p.vc && s.lane == p.lane) = none →
       w.mayEnter d port p = some link → knownType p.type = true →
       (r.stopped = true → p.vc ≠ 0 → exec (.routerHeaderArrival d port p) s = .next s) ∧
       (∀ m, r.stopped = false → link = some m →
         tget 0 (w.link (2 * m + 1)).spent (p.vc * 2 + (if p.vc = 3 ∨ p.vc = 5 then 0 else 1)) < vcSlots p.vc →
         exec (.routerHeaderArrival d port p) s = .next (s.commit (taken.sendIn m p))) ∧
       (r.stopped = false → link = none → w.forContext d p = true →
         exec (.routerHeaderArrival d port p) s = .next (s.commit (w.waitLocal d p))) ∧
       (∀ out q, r.stopped = false → link = none → w.forContext d p = false → w.routeHeader d true p = .take out q →
         (r.inBuffer port q.vc q.lane).length < vcSlots q.vc → p.dstPanel = w.panelId →
         exec (.routerHeaderArrival d port p) s = .next (s.commit
           (taken.modRouter d (fun r => { r with slots := r.slots ++ [⟨port, w.stamped q, q.vc, q.lane, some out, none⟩] })))) ∧
       (r.stopped = false → link = none → w.forContext d p = false → w.routeHeader d true p = .lost →
         exec (.routerHeaderArrival d port p) s = .next (s.commit (taken.sayUnreach d p)))) ∧
     (∀ port, 4 ≤ port → r.slots.find? (fun s => s.inPort == port && s.out.isNone && s.vc == p.vc && s.lane == p.lane) = none →
       w.mayEnter d port p = none → exec (.routerHeaderArrival d port p) s = .next s) ∧
     (∀ out vc lane i x, w.nextSlot d out = some (vc, lane, i, x) →
       let left := (w.freeSlot d x).modRouter d (fun r => { r with
         rrVc := if vc = 0 then r.rrVc else tput r.rrVc out vc, rrIn := tput r.rrIn (out * 12 + vc * 2 + lane) i })
       (out < 4 → left.outUsable d out = true → exec (.outputArbitration d out) s = .next (s.commit (left.sendOut d out x.pkt))) ∧
       (out < 4 → left.outUsable d out = false →
         exec (.outputArbitration d out) s = .next (s.commit (left.sayUnreach d x.pkt))) ∧
       (∀ m, out = 5 → (left.exitUnit x.pkt).bind (left.attachLink d) = some m →
         exec (.outputArbitration d out) s = .next (s.commit (left.sendFrame (2 * m) (flitsOf (packetBytes x.pkt))))) ∧
       (out = 5 → (left.exitUnit x.pkt).bind (left.attachLink d) = none →
         exec (.outputArbitration d out) s = .next (s.commit (left.sayUnreach d x.pkt))) ∧
       (out = 4 → exec (.outputArbitration d out) s = .next (s.commit { left with arrived := left.arrived ++ [x.pkt] }))) ∧
     (w.inTurn p = true → p.dstUnit / 16 ≠ 2 → exec (.unreach p) s = .next (s.commit (recvUnreach p w))) ∧
     (w.inTurn p = true → p.dstUnit / 16 = 2 → exec (.unreach p) s = .next (s.commit
       (if field p.typeData 0 8 = 0x30 then taken.stealLost p
        else if field p.typeData 0 8 = 0x32 then taken.pushLost p else taken))) ∧
     exec (.congestionSample d) s = .next (s.commit (w.modRouter d (fun r =>
       let r := if r.window = w.now / 10000 then r else { r with window := w.now / 10000, closedBins := r.bins, bins := [] }
       { r with bins := (List.range 36).foldl (fun b i =>
           tmod 0 b (i * 4 + occBin (r.slots.filter (fun s => s.inPort == i / 6 && s.vc == i % 6)).length) (· + 1)) r.bins })))) ∧
  (∀ (s : State) (p : Packet) (d : Nat), s.work.inTurn p = false →
     ∀ c ∈ [Instr.openChan p, .grant p, .reject p, .data p, .credit p, .closeChan p, .closed p, .crq p, .cgr p, .crj p, .wr p,
         .mwrStep d p, .done p, .ccan p, .awr p, .rdreq p, .rddata p, .red d p, .unreach p, .dict p] ++
       [Instr.steal p, .give p, .tpush p, .pushack p, .tdone p, .barrive p, .bdone p, .tstep p, .tack p, .wstream p, .wdone p,
         .update p, .udone p, .chunk p, .chunkdone p] ++
       [Instr.ecrq p, .ecgr p, .ecret p, .xbarrive p, .xbdone p, .xsuspect p, .hattach p, .hack p, .hbeat p, .mranges p, .mrack p,
         .mcommit p, .mack p],
       exec c s = .next s)

/-- The table change goes through its steps for each die: a filled inactive table, its acknowledgement, a stop, which waits while
tasks of a bay that goes off are still to end, an empty router seen twice 1 µs apart before the deadline, a swap of the
tables. With every router swapped the fabric resumes: no router is stopped, the change is counted and its time told in µs, and
the host is told; no timer counts the time that it stood; a drain past its 1 ms discards what the routers, their reduction
contexts and the links still carry, VC0 apart. A map request is answered with the die's bins of the last whole window in two
packets, and the map data of the window in hand, or of a later one, set the die's part of the map. A DICT read of a die unit
is answered with data that the spec does not give (the model's choice: a free value). Rules: R234, R257, R259, R260. -/
def Obligations.TablesSwapAndFabricResumes : Prop :=
  (∀ (s : State) (d : Nat),
     let w := s.work
     let r := (w.die d).router
     let ack : Work := { w with fmgr := { w.fmgr with acked := w.fmgr.acked ++ [d] } }
     let quiet : Work := { w with fmgr := { w.fmgr with quiesced := w.fmgr.quiesced ++ [d] } }
     (w.fmgr.st = 1 → w.diePresent d = true → exec (.fmgrTable d) s =
       .next (s.commit (w.modRouter d (fun r => { r with inactive := w.routeList w.gaps d, filled := true })))) ∧
     (w.fmgr.st = 1 → r.filled = true → w.fmgr.acked.contains d = false → exec (.fmgrTableAck d) s = .next (s.commit
       (if ack.routers.all ack.fmgr.acked.contains = true ∧ ack.domains.any (fun e => e.2.st == .switchingOff && e.2.step == 2) = false
        then ({ ack with fmgr := { ack.fmgr with stopAt := ack.now } } : Work).fabricTo 2 else ack))) ∧
     (w.fmgr.st = 2 → w.diePresent d = true →
       exec (.fmgrStop d) s = .next (s.commit (w.modRouter d (fun r => { r with stopped := true })))) ∧
     (w.fmgr.st = 2 → r.stopped = true → w.fmgr.stopped.contains d = false → exec (.fmgrStopped d) s =
       .next (s.commit { w with fmgr := { w.fmgr with stopped := w.fmgr.stopped ++ [d] } })) ∧
     (w.fmgr.st = 2 → r.stopped = true → w.now ≤ w.fmgr.stopAt + 1000000 → w.routerEmpty d = true → r.checkedAt = none → exec (.routerQuiesceCheck d) s =
       .next (s.commit (w.modRouter d (fun r => { r with checkedAt := some w.now })))) ∧
     (∀ t, w.fmgr.st = 2 → r.stopped = true → w.now ≤ w.fmgr.stopAt + 1000000 → w.routerEmpty d = true → r.checkedAt = some t →
       t + 1000 ≤ w.fmgr.stopAt + 1000000 → exec (.routerQuiesceCheck d) s =
       .next (s.commit ((w.reach (t + 1000)).modRouter d (fun r => { r with quiesced := true })))) ∧
     (w.fmgr.st = 2 → r.quiesced = true → w.fmgr.quiesced.contains d = false → exec (.fmgrQuiesced d) s = .next (s.commit
       (if quiet.routers.all (fun e => quiet.fmgr.stopped.contains e && quiet.fmgr.quiesced.contains e)
        then quiet.fabricTo 3 else quiet))) ∧
     (w.fmgr.st = 3 → w.diePresent d = true → r.swapped = false → exec (.fmgrSwap d) s = .next (s.commit
       (w.modRouter d (fun r => { r with active := r.inactive, inactive := r.active, swapped := true })))) ∧
     (w.fmgr.st = 3 → r.swapped = true → w.fmgr.swapped.contains d = false → exec (.fmgrSwapped d) s =
       .next (s.commit { w with fmgr := { w.fmgr with swapped := w.fmgr.swapped ++ [d] } }))) ∧
  (∀ (s : State) (d window : Nat) (data : List Byte) (p : Packet),
     let w := s.work
     let stop := w.fmgr.stopAt
     let running : Work := { w.skipStop stop with
       fmgr := { steer := w.fmgr.next, next := w.fmgr.next }
       dies := w.dies.map (fun e => (e.1, { e.2 with router := { e.2.router with stopped := false, swapped := false } })) }
     let counted := (running.fabricTo 0).addReg 0x4000 1 1
     let resumed := (counted.setReg 0x4000 5 ((counted.now - stop) / 1000 % 2 ^ 32)).interrupt 15
     let late := w.reach (stop + 1000001)
     let other := fun (p : Packet) => p.vc != 0
     let held := fun (r : Router) => r.slots.map (·.pkt) ++ r.reds.flatMap (fun c => c.upstream ++ c.local_)
     let lost := late.dies.flatMap (fun e => ((held e.2.router).filter other).map (fun p => (e.1, p))) ++
       late.links.flatMap (fun e => match late.linkDie e.1 with
         | some d => (e.2.kept.filter other).map (fun p => (d, p))
         | none => [])
     let freed := late.dies.foldl (fun w e => (e.2.router.slots.filter (fun s => other s.pkt)).foldl (fun w s => w.freeSlot e.1 s) w) late
     let cut : Work := { freed with
       dies := freed.dies.map (fun e => (e.1, { e.2 with router := { e.2.router with reds := [] } }))
       links := freed.links.map (fun e => (e.1, { e.2 with part := [], sent := e.2.sent.map (fun f =>
         if ((assemble [] (frameFlits f)).2).any other then { f with slots := [] } else f) })) }
     let told := ((lost.foldl (fun w e => w.sayUnreach e.1 e.2) cut).addReg 0x4000 6 1).event 1 0 0 0 lost.length
     let m := if window = w.reg 0x4100 3 then padTo (288 * w.numDies) (w.blob 0x4100 4) else List.replicate (288 * w.numDies) 0
     let m' := m.take (288 * d) ++ padTo 288 data ++ m.drop (288 * d + 288)
     (w.fmgr.st = 3 → w.routers.all w.fmgr.swapped.contains = true →
       exec .fmgrResume s = .next (s.commit (if w.fmgr.again then resumed.startTables else resumed))) ∧
     (w.fmgr.st = 2 → exec .tableDrainTimeout s =
       .next (s.commit (({ told with dies := told.dies.map (fun e =>
         (e.1, { e.2 with router := { e.2.router with stopped := true, quiesced := true } })) } : Work).fabricTo 3))) ∧
     (w.diePresent d = true → exec (.fmgrMapreq d) s = .next (s.commit ((List.range 2).foldl (fun w i =>
       w.send { w.packet 0x21 d 0x30 0 w.sideboardA w.boardUnit 0 with
         vc := 0, typeData := 9, total := 2, index := i
         payload := flits (slice ((s.work.die d).router.mapBytes s.work.now) (256 * i) 256) }) w))) ∧
     (d < w.numDies → window % 10000 = 0 → w.reg 0x4100 3 ≤ window → exec (.fmgrMapdata d window data) s =
       .next (s.commit (((w.setBlob 0x4100 4 m').setBlob 0x4100 5 (hotPorts m')).setReg 0x4100 3 window))) ∧
     (w.inTurn p = true → exec (.dict p) s = .next (s.commit ((w.take p).draw.2.send { p.answer 0x22 with
       vc := 0, typeData := (w.take p).draw.1 % 2 ^ 64 }))))


/-! ### Weights and streams -/

/-- Weight sets and their keys: Define reads a layer table, reserves the decryption staging of its Hutches and makes a FREE set
DEFINED; Mode moves a set that no generation pins between serving and training; a wrapped key is unwrapped into the set, or
its failure told with 0x45; Undefine forgets the key and zeroes the set's ranges, an Ingest that runs or not, and the set is
FREE once they are zero. A command's outcome stands in CommandStatus. A generation is made BUILDING in a free slot under the
next number, published LIVE, made current, with the generation that was current left RETIRING or FREE, discarded, pinned and
unpinned; the last unpin of a RETIRING one frees it. A set in TRAINING takes no new one (the status 0x41 is the model's
choice, assumption 106). Rules: R262, R263, R265, R268, R270, R271. -/
def Obligations.WeightSetsAndGenerations : Prop :=
  (∀ (s : State) (n : Nat) (data : List Byte),
     let w := s.work
     let x := w.wset n
     let table := leAt data 8 8
     let count := leAt data 4 2
     let got := w.loadBytes table (64 * count) false
     let rs := (List.range count).map (fun i => slice got.1 (64 * i) 64)
     (∀ v, n < 64 → data.length = 16 → leAt data 6 2 = 0 → x.st = .free → aSpace table = 0 → w.readStatus table (64 * count) = none →
       got.2.badLayer rs = none → got.2.reserveStaging (owners (rs.map layerOf)) = .inr v →
       exec (.define n data) s = .next (s.commit ((v.modSet n (fun x => { x with
         st := .defined, setId := leAt data 0 4, layers := rs.map layerOf })).tellSet n 0))) ∧
     (∀ mode, n < 64 → mode < 2 → w.jobRuns = false → x.usable = true → x.st ≠ .defined → ((x.st == .training) == (mode == 1)) = false →
       (∀ e ∈ x.held, e.2.pins = 0) → (mode = 1 → ∀ e ∈ x.held, e.2.st = .current) →
       exec (.setMode n mode) s = .next (s.commit
         (((w.modSet n (fun x => { x with st := if mode = 0 then .ready else .training })).setReg (0x7001 + n) 5 mode).tellSet n 0))) ∧
     (n < 64 → data.length = 1624 → x.usable = true → exec (.wrappedKey n data) s = .next (s.commit
       ((w.modSet n (fun x => { x with key := w.unwrapRecord (w.wset n) data })).tellSet n
         (if (w.unwrapRecord x data).isSome then 0 else 0x45)))) ∧
     (n < 64 → w.jobRuns = false → x.zeroing = false → x.st ≠ .free → (∀ e ∈ x.held, e.2.pins = 0) →
       exec (.undefine n) s = .next (s.commit ((w.modSet n (fun x => { x with key := none, zeroing := true })).tellSet n 0xFF))) ∧
     (x.zeroing = true → exec (.undefineZeroComplete n) s = .next (s.commit
       ((x.protectedRanges.foldl (fun w r => w.clearRange r.1 r.2) w).freeSet n)))) ∧
  (∀ (s : State) (n g i : Nat),
     let w := s.work
     let x := w.wset n
     let y := x.gen i
     let num := x.nextFree 5 x.nextNumber
     (n < 64 → x.usable = true → x.st = .training → exec (.newGeneration n) s = .next (s.commit (w.tellSet n 0x41))) ∧
     (n < 64 → x.usable = true → x.st ≠ .training → (List.range 4).find? (fun i => (x.gen i).st == .free) = some i →
       exec (.newGeneration n) s = .next (s.commit (((w.modSet n (fun z => { z with
         gens := tput z.gens i { number := num, st := .building, created := w.now }
         begun := z.begun.filter (fun r => !(x.layers.flatMap (fun l => l.slotRange i)).any (meets r))
         nextNumber := if num = 65535 then 1 else num + 1 })).setReg (0x7001 + n) 9 num).tellSet n 0))) ∧
     (n < 64 → x.usable = true → x.slotOf g = some i →
       (y.st = .building → y.ingesting = false → y.chunkFailed = false →
         exec (.publish n g) s = .next (s.commit ((w.modSet n (·.modGen i (fun z => { z with st := .live }))).tellSet n 0))) ∧
       (y.st = .live → x.st ≠ .training ∨ x.current = none →
         exec (.switchCurrent n g) s = .next (s.commit (((w.modSet n (fun z =>
           { (match x.current with | some j => z.modGen j Gen.leave | none => z).modGen i (fun u => { u with st := .current }) with
             st := if z.st = .defined then .ready else z.st })).setReg (0x7001 + n) 6 g).tellSet n 0))) ∧
       (y.st = .building ∨ y.st = .live → y.ingesting = false →
         exec (.discard n g) s = .next (s.commit ((w.modSet n (·.modGen i (fun _ => {}))).tellSet n 0))) ∧
       (y.st = .current ∨ y.st = .retiring → y.pins ≠ 0 →
         exec (.unpin n g) s = .next (s.commit ((w.modSet n (·.modGen i Gen.unpin)).tellSet n 0)))) ∧
     (n < 64 → x.current = some i → x.st = .ready → x.zeroing = false → y.pins ≠ 0xFFFFFFFF →
       let v := w.modSet n (·.modGen i (fun z => { z with pins := z.pins + 1 }))
       exec (.pin n) s = .next (s.commit ((v.setReg (0x7001 + n) 0x0E ((v.wset n).gen i).number).tellSet n 0))))

/-- Ingest takes a manifest's good chunks to their Hutches, with 0x23 for each bad one; a chunk is decrypted where no peer waits
for it and sent to its peers first where one does; the last outcome ends the ingest; CHUNK enters a peer's Hutch and is
answered with CHUNKDONE, which confirms it; 200 µs without that fail the chunk with 0x46. Rules: R266, R267, R269. -/
def Obligations.ChunksAreIngested : Prop :=
  ∀ (s : State) (n b k : Nat) (data : List Byte) (p : Packet),
    let w := s.work
    let x := w.wset n
    let got := w.loadBytes (leAt data 0 8) (32 * leAt data 8 4) false
    let t := w.take p
    let m := leAt p.payload 0 1
    let peers := let l := t.blob (0x7001 + m) 0x13; (List.range (l.length / 2)).map (fun i => leAt l (2 * i) 2)
    let ok := decide (m < 64) && (t.wset m).usable
    let chunk : Chunk := { chunkOf m (leAt p.payload 2 2) (leAt p.payload 4 4) 0 (slice p.payload 8 32) with
      remote := true, peers := peers.flatMap (fun p => [p, 4096 + p]) }
    (∀ key, n < 64 → data.length = 16 → leAt data 0xE 2 = 0 → x.usable = true → x.ingestRuns = false → leAt data 0xC 2 = 0 →
      x.key = some key → aSpace (leAt data 0 8) = 0 → w.readStatus (leAt data 0 8) (32 * leAt data 8 4) = none →
      let cs := (List.range (leAt data 8 4)).map (fun i => chunkOf n 0 key.1 i (slice got.1 (32 * i) 32))
      let good := cs.filter x.chunkOk
      let begun := got.2.modSet n (fun x => { x with
        ingest := some { generation := 0, entries := leAt data 8 4, waiting := good.map (fun c => (c.dest, c.length)) } })
      let placed := match x.slotOf 0 with
        | some i => begun.modSet n (·.modGen i (fun y => { y with ingesting := true }))
        | none => begun
      exec (.ingest n data) s = .next (s.commit (((cs.filter (fun c => !x.chunkOk c)).foldl
        (fun w c => w.chunkFails (aHutch c.dest) c 0x23) (good.foldl (fun w c =>
          w.modHutch (aHutch c.dest) (fun h => { h with chunks := h.chunks ++ [{ c with peers := [] }] })) placed)).tellSet n 0xFF))) ∧
    (∀ c, k < 2 → (w.hutch b).chunks.find? (fun c => c.peers.isEmpty || !c.sent) = some c →
      let v := w.modSet c.set (fun x => { x with begun := (c.dest, c.length) :: x.begun, ingest := x.ingest.map (fun g =>
        if c.remote then g else { g with waiting := g.waiting.filter (fun r => r.1 != c.dest) }) })
      exec (.decryptChunk b k) s = .next (s.commit (if c.peers.isEmpty then v.decrypt b k c else v.sendChunk b c))) ∧
    (∀ g, x.ingest = some g → g.running = true → g.entries ≤ g.done →
      let ended := w.modSet n (fun x => { x with ingest := some { g with running := false } })
      let v := if ended.reg (0x7001 + n) 0x15 % 256 = 0xFF ∧ (ended.wset n).zeroing = false then ended.setStatus n g.status else ended
      exec (.ingestComplete n) s = .next (s.commit (match (v.wset n).slotOf g.generation with
        | some i => v.modSet n (·.modGen i (fun y => { y with ingesting := false }))
        | none => v))) ∧
    (w.inTurn p = true → exec (.chunk p) s = .next (s.commit ((if ok then t.modHutch (p.dstUnit % 16) (fun h => { h with chunks := h.chunks ++ [chunk] })
      else t).send { p.answer 0x45 with vc := 2, typeData := chunk.chunk + ofBool (!ok) * 2 ^ 32 }))) ∧
    (w.inTurn p = true → exec (.chunkdone p) s =
      .next (s.commit (t.confirm (p.dstUnit % 16) (field p.typeData 0 32) p.srcPanel (bit p.typeData 32)))) ∧
    (∀ c, (w.hutch b).chunks.find? (fun c => c.chunk == k && c.sent && !c.peers.isEmpty) = some c →
      exec (.chunkConfirmTimeout b k) s =
        .next (s.commit (((w.reachOn (1000 + b) (c.sentAt + 200001)).dropChunk b c).chunkFails b c 0x46)))

/-- A weight stream runs in one of eight places of its Hutch or waits in one of 32; its run, once the updates before it on its
range are done, asks for credit, sends, and ends with a status; WDONE and UDONE tell the array that asked, whose task a status
other than 0 aborts; an update that its checks refuse is answered with the status, one that must wait for a stream or an
update before it is noted and stays in its lane, one that clears is answered with 0, and one that finds its set ready runs and
reports its non-finite gradients. Rules: R273, R276, R286. -/
def Obligations.HutchStreamsAndUpdates : Prop :=
  ∀ (s : State) (p : Packet) (b i : Nat),
    let w := s.work
    let t := w.take p
    let h := w.hutch (p.dstUnit % 16)
    let a := t.answered p
    let told := t.modArr a (fun x => { x with task := x.task.map (fun y => { y with delivery := field p.typeData 8 48 }) })
    let counted := t.modArr a (fun x => { x with
      task := x.task.map (fun y => { y with nonFinite := satAdd 32 y.nonFinite (field p.typeData 32 32) }) })
    let u := w.updIn p
    let asked := { streamOf p h.updWait with address := w.localAddr p.address }
    let reply := fun (v : Work) (st bad : Nat) =>
      ((v.take p).modHutch (p.dstUnit % 16) (fun h => { h with updWait := h.updWait.filter (· != p) })).send
        { p.answer 0x43 with vc := 2, typeData := st + bad % 2 ^ 32 * 2 ^ 32 }
    let turn := w.inTurn p = true
    let waits := w.updateWaits (p.dstUnit % 16) p
    let clear := fun (v : Work) => if bit u.flags 0 || bit u.flags 1 then v.clearRange u.grad (4 * u.count) else v
    (turn → h.wrun.length < 8 → exec (.wstream p) s = .next (s.commit
      (t.modHutch (p.dstUnit % 16) (fun h => { h with wrun := h.wrun ++ [asked] })))) ∧
    (turn → 8 ≤ h.wrun.length → h.wqueue.length < 32 → exec (.wstream p) s = .next (s.commit
      (t.modHutch (p.dstUnit % 16) (fun h => { h with wqueue := h.wqueue ++ [asked] })))) ∧
    (∀ x, (w.hutch b).wrun[i]? = some x →
      (x.units = 0 → w.behindUpdate b x = true → exec (.wstreamRun b i) s = .next s) ∧
      (x.units = 0 → w.behindUpdate b x = false → exec (.wstreamRun b i) s = .next (s.commit (match w.streamStatus b x with
        | some st => w.endStreamOf b x st 0
        | none => w.askStreamOf b x))) ∧
      (x.units ≠ 0 → w.fmgr.st < 2 → x.launched = true → w.past (1000 + b) (x.launchedAt + 200000) = true →
        exec (.wstreamRun b i) s = .next (s.commit (w.endStreamOf b x 0x32 (w.bitmapOf b x x.done)))) ∧
      (x.units ≠ 0 → w.fmgr.st < 2 → x.launched = false → w.past (1000 + b) (x.askedAt + 100000) = true →
        exec (.wstreamRun b i) s = .next (s.commit ((w.cancelStreamOf b x).endStreamOf b x 0x31 0)))) ∧
    (turn → exec (.wdone p) s = .next (s.commit
      (if field p.typeData 0 8 = 0 then told else told.taskFault a { status := field p.typeData 0 8 }))) ∧
    (turn → exec (.udone p) s = .next (s.commit
      (if field p.typeData 0 8 = 0 then counted else counted.taskFault a { status := field p.typeData 0 8 }))) ∧
    (∀ st, turn → w.updStatus (p.dstUnit % 16) u (w.updCfg p) = some st → exec (.update p) s = .next (s.commit (reply w st 0))) ∧
    (turn → w.updStatus (p.dstUnit % 16) u (w.updCfg p) = none →
      (waits = true → h.updWait.contains p = false → exec (.update p) s = .next (s.commit
        (w.modHutch (p.dstUnit % 16) (fun h => { h with updWait := h.updWait ++ [p] })))) ∧
      (waits = false → bit u.flags 1 = true → exec (.update p) s = .next (s.commit (reply (clear w) 0 0))) ∧
      (∀ l j, waits = false → bit u.flags 1 = false → (w.wset u.set).layers[u.layer]? = some l → (w.wset u.set).current = some j →
        let r := w.updRun (p.dstUnit % 16) u (w.updCfg p) l j
        exec (.update p) s = .next (s.commit (reply (clear r.2) 0 r.1))))

/-- Load reserves scratch for every entry of a good adapter table, with LoadStatus at 0xFF until the data stand there; Release
gives an unpinned READY slot's scratch back. Streams and batches: enabling the tracker reserves its table; an entry that is
admitted pins its generation and settles READY; END and RETIRE end and free it; a batch takes READY streams of one generation,
RUNNING from then on, stores its record and its descriptor, and is counted; TSTEP is acknowledged with TACK and applies the
batch's results. Rules: R279, R280, R281, R282, R283, R285. -/
def Obligations.AdaptersStreamsAndBatches : Prop :=
  (∀ (s : State) (i : Nat) (data : List Byte),
     let w := s.work
     let r := data.drop 2
     let x := w.wset (leAt r 1 1)
     let k := leAt data 0 2
     let es := (List.range (leAt r 6 2)).map (w.aEntry (leAt r 0x10 8))
     let fits := fun (e : AEntry) => ∃ l, x.layers[e.layer]? = some l ∧ l.adaptable = true ∧ (e.format = 1 ∨ e.format = 5 ∨ e.format = 6) ∧
       aSpace e.source = 0 ∧ aHutch e.source = l.hutch ∧ w.invalid e.source = false ∧ w.invalid (e.source + e.bytes - 1) = false
     (∀ v, data.length = 66 → w.reg 0x7100 6 % 256 ≠ 0xFF → leAt r 0 1 = 0 → leAt r 8 4 = 0 → allZero (slice r 0x20 32) = true →
       (w.adapter k).st = 0 → leAt r 1 1 < 64 → x.usable = true → leAt r 2 2 ≠ 0 → leAt r 2 2 ≤ 256 → aSpace (leAt r 0x10 8) = 0 →
       w.readStatus (leAt r 0x10 8) (32 * leAt r 6 2) = none → (∀ e ∈ es, fits e) → w.slotTable ≠ 0 →
       w.reserveAdapter k x.layers es = .inr v →
       exec (.adapterLoad data) s = .next (s.commit ((v.putAdapter k
         { st := 1, set := leAt r 1 1, rank := leAt r 2 2, baseGen := leAt r 4 2, layerCount := leAt r 6 2, scale := leAt r 0xC 4
           table := leAt r 0x10 8, scratch := (es.map (fun e => (e.bytes + 255) / 256 * 256)).sum }).tellAdapter 0xFF))) ∧
     ((w.adapter i).st = 1 → ((List.range (w.adapter i).layerCount).map (w.aEntry (w.adapter i).table)).findSome?
         (fun e => w.readStatus e.source e.bytes) = none →
       ∃ t, exec (.adapterLoadComplete i) s = .next t ∧ t.work.adapter i = { w.adapter i with st := 2 } ∧ t.work.reg 0x7100 6 = 0) ∧
     ((w.adapter i).st = 2 → (w.adapter i).pins = 0 →
       exec (.release i) s = .next (s.commit ((w.dropAdapter i).tellAdapter 0)))) ∧
  (∀ (s : State) (i n : Nat) (data : List Byte) (p : Packet),
     let w := s.work
     let x := w.stream i
     let y := streamEntry data
     let t := w.take p
     let ack := t.send { p.answer 0x49 with vc := 2, typeData := field p.typeData 0 32 }
     (∀ v off, w.job.st.mayBind = true → w.reg 0x7200 1 ≠ 1 → w.slotTable ≠ 0 → w.reserve 0 1 0 (16 * 2 ^ 20) = some (off, v) →
       exec (.trackerEnable true) s = .next (s.commit ({ v.setReg 0x7200 1 1 with nextBatch := 1, batches := [] } : Work).accept)) ∧
     (∀ slot v, w.tracking = true → i < 262144 → data.length = 64 → leAt data 0 1 = 1 → x.st = .free → w.admitStatus y = none →
       w.pinCurrent y.set = .inr (slot, v) → bit y.flags 0 = false →
       exec (.admitEntry i data) s = .next (s.commit (({ v with nextOrder := v.nextOrder + 1 } : Work).putStream i { y with
         st := .waiting, generation := ((v.wset y.set).gen slot).number, admitted := v.now, genSlot := slot, pinned := true
         order := v.nextOrder }))) ∧
     (w.tracking = true → x.st = .waiting →
       exec (.streamEntrySettled i) s = .next (s.commit (w.putStream i { x with st := .ready }))) ∧
     (w.tracking = true → x.st = .ready ∨ x.st = .waiting →
       exec (.endStream i) s = .next (s.commit (w.putStream i { x with flags := x.flags ||| 4, st := .done }))) ∧
     (w.tracking = true → x.st = .running →
       exec (.endStream i) s = .next (s.commit (w.putStream i { x with flags := x.flags ||| 4 })) ∧
       exec (.retire i) s = .next (s.commit (w.putStream i { x with retiring := true }))) ∧
     (w.tracking = true → x.st = .done ∨ x.st = .error ∨ x.st = .ready →
       exec (.retire i) s = .next (s.commit (w.freeStream i))) ∧
     (∀ g k ls l, w.batchGen n = some g →
       let size := 32 + 32 * w.reg 0x7200 6
       let slots := w.reg 0x7200 0x0A / size
       let es := takeStreams (w.reg 0x7200 6) (w.reg 0x7200 7)
         (sortBy (fun a b => a.2.before b.2) (w.streams.filter (fun e => e.2.set == n && e.2.st == .ready && e.2.generation == g)))
       (List.range slots).find? (fun i => !w.batches.any (fun b => b.slot == (w.nextBatch - 1 + i) % slots)) = some k →
       w.lists.find? (fun e => e.1 == w.reg 0x7200 5) = some (ls, l) → w.tracking = true →
       (w.batches.filter (fun b => b.set == n)).length < w.reg 0x7200 8 → es ≠ [] → w.nextDescriptor l ≤ l.taken + l.slots →
       ∃ u, exec (.batchForm n) s = .next u ∧ u.work.nextBatch = w.nextBatch % (2 ^ 32 - 1) + 1 ∧
         ∃ res, u.work.batches = w.batches ++ [⟨w.nextBatch, n, (w.nextBatch - 1 + k) % slots, g, res, es.map (·.1)⟩]) ∧
     (∀ b, w.inTurn p = true → t.batches.find? (fun b => b.id == field p.typeData 0 32) = some b →
       (field p.typeData 32 8 ≠ 0 → exec (.tstep p) s = .next (s.commit (ack.abortBatch b (field p.typeData 32 8)))) ∧
       (field p.typeData 32 8 = 0 → ack.readStatus b.results (8 * b.streams.length) = none →
         let got := ack.loadBytes b.results (8 * b.streams.length) false
         let v := b.streams.zipIdx.foldl (fun w e => w.applyResult e.1 (leAt got.1 (8 * e.2) 8)) got.2
         exec (.tstep p) s = .next (s.commit { v with batches := v.batches.filter (fun x => x.id != b.id) }))) ∧
     (w.inTurn p = true → exec (.tack p) s =
       .next (s.commit { t with tsteps := t.tsteps.filter (fun q => field q.typeData 0 32 != field p.typeData 0 32) })))


/-! ### Tasks and jobs -/

/-- A good list is created with its slots numbered for the lap before the first and its status line at 0, and deleted again; a
poll, in its list's turn, takes the valid slots of the next line while the queue has a free entry, and tells the holder's
count; a task unit takes its oldest descriptor: RUN one instance, BATCH its instances, FENCE a wait for every earlier one of
its list, kept at its holder or pushed to the die that it names. A fence ends once nothing earlier of its list is left (a
pushed one by what its origin counts, assumption 127); a waiting instance is placed on an array, or ended with the status that
forbids it. Rules: R287, R288, R290, R293, R295. -/
def Obligations.ListsFencesAndPlacement : Prop :=
  (∀ (s : State) (n d : Nat) (data : List Byte),
     let w := s.work
     let k := leAt data 0 2
     let slots := leAt data 4 4
     let ring := leAt data 8 8
     let line := leAt data 16 8
     let free := k < 1024 ∧ leAt data 2 2 < w.numDies ∧ ringSlots slots = true ∧ aSpace ring = 0 ∧ ring % 256 = 0 ∧ aSpace line = 0 ∧
       line % 64 = 0 ∧ leAt data 24 8 = 0 ∧ (w.lists.any fun e => e.1 == k) = false ∧
       (w.lists.filter (fun e => e.2.holder == leAt data 2 2)).length < 4
     let numbered := (List.range slots).foldl
       (fun w j => w.storeBytes (ring + 64 * j) (toBytes ((j + 1 + 2 ^ 32 - slots) % 2 ^ 32) 4)) w
     let zeroed := numbered.storeBytes line (List.replicate 64 0)
     (w.job.st.mayBind = true → data.length = 32 → free → w.writeStatus ring (64 * slots) = none → w.writeStatus line 64 = none →
       exec (.listCreate data) s = .next (s.commit ((({ zeroed with
         lists := zeroed.lists ++ [(k, { holder := leAt data 2 2, slots := slots, ring := ring, status := line })] } : Work).listStatus
           0 k).accept))) ∧
     (w.job.st.mayBind = true → (w.lists.any fun e => e.1 == n) = true → exec (.listDelete n) s = .next (s.commit
       (({ w with lists := w.lists.filter (fun e => e.1 != n) } : Work).listStatus 0 n).accept)) ∧
     (∀ m l, w.lists.find? (fun e => e.1 == n) = some (m, l) →
       let row := l.ring + 64 * (l.taken % max l.slots 1) / 256 * 256
       let served := w.modTu l.holder (fun t => { t with lastList := some n })
       let got := served.loadBytes row 256 false
       let taken := takeSlots l got.1 (256 - (w.die l.holder).tu.used) 4
       let count := l.taken + taken.length
       let listed : Work := { got.2 with
         lists := got.2.lists.map (fun e => if e.1 = n then (e.1, { e.2 with taken := count }) else e) }
       let queued := listed.modTu l.holder (fun t => { t with taken := t.taken ++ taken.map (fun b => ⟨n, b, listed.dieNow l.holder⟩) })
       w.job.st = .running → (w.die l.holder).tu.quiet = false → w.diePresent l.holder = true → w.nextList l.holder = some n →
       served.readStatus row 256 = none →
       taken ≠ [] → queued.writeStatus l.status 64 = none →
       exec (.listPoll n) s = .next (s.commit (queued.storeBytes l.status (toBytes (count % 2 ^ 32) 4 ++ List.replicate 60 0)))) ∧
     (∀ m t, w.headOf d 0 = some (m, t) → exec (.run d) s = .next (s.commit
       (if t.valid then (w.dropHead d).beginTask d m.list m.at_ t none else (w.dropHead d).endInvalid d t))) ∧
     (∀ m t, w.headOf d 1 = some (m, t) → exec (.batch d) s = .next (s.commit
       (if t.valid then (w.dropHead d).beginTask d m.list m.at_ t (some (t.base0, 0)) else (w.dropHead d).endInvalid d t))) ∧
     (∀ m t, w.headOf d 2 = some (m, t) → exec (.fence d) s = .next (s.commit
       (if t.valid = false then (w.dropHead d).endInvalid d t
        else if t.die = 0xFFFF then (w.dropHead d).modTu d (fun u => { u with fences := u.fences ++ [⟨m.list, t, none⟩] })
        else (w.dropHead d).beginTask d m.list m.at_ t none)))) ∧
  (∀ (s : State) (d n : Nat),
     let w := s.work
     let tu := (w.die d).tu
     (∀ f, findAt (fun (f : Fence) => match f.pushedFrom with
         | none => tu.counts.all (fun c => c.list != f.list || !seqBefore c.seq f.desc.seq) &&
             tu.fences.all (fun g => g.list != f.list || !seqBefore g.desc.seq f.desc.seq)
         | some _ => w.fenceMet d f) tu.fences 0 = some n → tu.fences[n]? = some f →
       exec (.fenceComplete d) s = .next (s.commit ((w.modTu d (fun u => { u with fences := ldrop u.fences n })).endFence d f 0))) ∧
     (∀ i, w.job.st = .running → tu.quiet = false → findAt (fun i => (w.decide' d i).isSome) tu.queue 0 = some n → tu.queue[n]? = some i →
       (∀ a c, w.decide' d i = some (.inr (a, c)) → exec (.taskPlacement d) s = .next (s.commit (w.placeInst d n i a c))) ∧
       (∀ st, w.decide' d i = some (.inl st) → exec (.taskPlacement d) s = .next (s.commit
         ((w.modTu d (fun u => { u with queue := ldrop u.queue n })).endUnstarted d i st)))))

/-- Work moves between task units: an idle unit asks a victim, which gives up to half of what may be stolen, or up to four when
hot; what is given enters the thief's queue, and an empty answer sends a thief that is still idle, and not hot, to the next
victim; a die is hot when its reading stands RotateThresholdC above the median of its bay; a pushed descriptor is taken while
the queue has a free entry, and acknowledged; its end is told back and counted. A barrier's arrivals are counted to its
expected number and then complete it, or go to its master across panels; its completion is known to every task unit. An
arrival for a barrier that no one expects is an event. Rules: R294, R295, R296, R297, R300. -/
def Obligations.WorkMovesAndBarriersComplete : Prop :=
  (∀ (s : State) (d : Nat) (p : Packet),
     let w := s.work
     let t := w.take p
     let e := t.dstDie p
     let tu := (t.die e).tu
     let may := tu.queue.zipIdx.filter (fun x => tu.stealable x.1)
     let n := if tu.hot then min 4 may.length else min (min 4 (field p.typeData 0 3)) ((may.length + 1) / 2)
     let out := may.drop (may.length - n)
     let kept := t.modTu e (fun u => { u with
       queue := (u.queue.zipIdx.filter (fun x => !out.any (fun o => o.2 == x.2))).map (·.1) })
     let late := if (w.die d).tu.hotAt = 0 then w else w.reachOn d ((w.die d).tu.hotAt + 50000000)
     ((w.die d).tu.steal = .idle → w.idleUnit d = true → exec (.stealRetry d) s = .next (s.commit (w.askVictim d 0))) ∧
     (∀ since wait, (w.die d).tu.steal = .waiting since wait → w.idleUnit d = true →
       exec (.stealRetry d) s = .next (s.commit ((w.reachOn d (since + wait)).askVictim d 0))) ∧
     (w.inTurn p = true → t.job.st ≠ .killing → exec (.steal p) s = .next (s.commit (kept.send { kept.packet 0x31 e 0x20 0 (kept.srcDie p) 0x20 0 with
       vc := 2, typeData := (out.zipIdx.map (fun x => giveField x.1.1 * 2 ^ (16 * x.2))).sum
       payload := out.flatMap (fun x => x.1.desc.bytes) }))) ∧
     (w.inTurn p = true → t.job.st = .running → t.givenBy p ≠ [] → (t.die e).tu.quiet = true →
       exec (.give p) s = .next (s.commit ((t.givenBy p).foldl (fun w i => w.sendAway e i) t))) ∧
     (w.inTurn p = true → t.job.st = .running → t.givenBy p ≠ [] → (t.die e).tu.quiet = false → exec (.give p) s = .next (s.commit
       (t.modTu e (fun u => { u with queue := u.queue ++ t.givenBy p, steal := .idle, wait := 2000 })))) ∧
     (∀ r, w.inTurn p = true → t.job.st = .running → t.givenBy p = [] → (t.die e).tu.steal = .asking (t.srcDie p) r →
       exec (.give p) s = .next (s.commit
         (if t.idleUnit e then t.askVictim e (r + 1) else t.modTu e (fun u => { u with steal := .idle })))) ∧
     (let tops := sortBy (fun a b => decide (a ≤ b)) (((List.range late.numDies).filter
         (fun e => late.diePresent e && late.bayOf e == late.bayOf d)).filterMap (fun e => (late.dieRange e).map (·.1)))
       let median2 := tops.getD ((tops.length - 1) / 2) 0 + tops.getD (tops.length / 2) 0
       exec (.hotCheck d) s = .next (s.commit (late.modTu d (fun u => { u with
         hot := match late.dieRange d with
           | some (h, _) => decide (median2 + 2 * 16 * (late.reg 0x2400 0x0C : Int) ≤ 2 * h)
           | none => false
         hotAt := late.dieNow d })))) ∧
     (w.inTurn p = true → w.job.st = .running → (w.die (w.dstDie p)).tu.used < 256 →
       let took := t.send { p.answer 0x36 with vc := 2, typeData := (taskOf p.payload).seq }
       exec (.tpush p) s = .next (s.commit
         (if (took.die (w.dstDie p)).tu.quiet = true then (w.pushedBy p).foldl (fun w i => w.endUnstarted (s.work.dstDie p) i 0x92) took
          else if (taskOf p.payload).kind = 2 then took.modTu (w.dstDie p) (fun u => { u with
            fences := u.fences ++ [⟨1024, taskOf p.payload, some (field p.typeData 0 16)⟩] })
          else took.modTu (w.dstDie p) (fun u => { u.fresh with queue := u.queue ++ w.pushedBy p })))) ∧
     (w.inTurn p = true → w.job.st = .running → 256 ≤ (w.die (w.dstDie p)).tu.used → exec (.tpush p) s = .next s) ∧
     (w.inTurn p = true → exec (.pushack p) s = .next (s.commit (t.modTu e (fun u => { u with
       pushed := dropFirst (fun i => i.desc.seq == field p.typeData 0 32) u.pushed })))) ∧
     (w.inTurn p = true → exec (.tdone p) s = .next (s.commit (t.countDone e none (field p.typeData 0 32) (field p.typeData 40 8))))) ∧
  (∀ (s : State) (p : Packet),
     let w := s.work.take p
     let id := field p.typeData 0 12
     let n := tget 0 w.job.arrivals id + 1
     let full := w.modJob (fun j => { j with arrivals := tput j.arrivals id 0 })
     let turn := s.work.inTurn p = true
     (turn → w.barrierExpected id = 0 → exec (.barrive p) s = .next (s.commit (w.event 2 0 9 0 id))) ∧
     (turn → n < w.barrierExpected id →
       exec (.barrive p) s = .next (s.commit (w.modJob (fun j => { j with arrivals := tput j.arrivals id n })))) ∧
     (turn → 0 < w.barrierExpected id → w.barrierExpected id ≤ n → full.globalRec id = none →
       exec (.barrive p) s = .next (s.commit (full.completeBarrier id))) ∧
     (turn → exec (.bdone p) s = .next (s.commit (w.modTu (w.dstDie p) (fun t => { t with
       barriers := tput t.barriers (field p.typeData 0 12) (field p.typeData 32 32) })))))

/-- A task that has done everything ends with status 0 and its array is READY; a task with a fault aborts with the first cause;
its time limit gives it status 0x55, waiting or running, on the counter of the die that holds it, and a completion after the
deadline tick is none. Rules: R291, R298. -/
def Obligations.TasksEnd : Prop :=
  ∀ (s : State) (a d k : Nat) (t : Active),
    let w := s.work
    let x := s.array a
    let quiet := (List.range 4).foldl (fun w e => w.cancelEngine a e) w
    let closed := quiet.closeAll a true
    let late := t.inst.desc.timeLimit ≠ 0 ∧ (if t.inst.desc.waits = true then t.inst.takenAt else t.startAt) + 1000 * t.inst.desc.timeLimit < w.dieNow (a / 16)
    (x.task = some t → t.running = true → t.fault = none → x.st = .run → x.taskDone = true → t.inst.copy = false → t.twin = none →
      (¬ late → exec (.taskComplete a) s = .next (s.commit (w.endTask a t { status := 0 } .ready).stopDrains)) ∧
      (late → exec (.taskComplete a) s = .next (s.commit (w.taskFault a { status := 0x55 })))) ∧
    (∀ c, x.task = some t → t.fault = some c → t.inst.copy = false → t.twin = none →
      exec (.taskAbort a) s = .next (s.commit (closed.endTask a t c (if x.st = .run then .ready else x.st)).stopDrains)) ∧
    (∀ i, (w.die d).tu.queue[k]? = some i → i.desc.waits = true → (w.die d).tu.released i.desc = false → i.desc.timeLimit ≠ 0 →
      exec (.timeLimit d k true) s = .next (s.commit (((w.reachOn d (i.takenAt + 1000 * i.desc.timeLimit + 1)).modTu d
        (fun u => { u with queue := ldrop u.queue k })).endUnstarted d i 0x55))) ∧
    ((s.array (arrOf d k)).task = some t → t.running = true → t.inst.desc.timeLimit ≠ 0 →
      exec (.timeLimit d k false) s = .next (s.commit
        ((w.reachOn d ((if t.inst.desc.waits = true then t.inst.takenAt else t.startAt) + 1000 * t.inst.desc.timeLimit + 1)).taskFault (arrOf d k) { status := 0x55 })))

/-- The job: Configure checks its lists, images, placements and splits and moves it to CONFIGURED; Start launches it, after the
scrub of a retained job or a map recomputation; Stop clears the queues and lets what runs end; its timeout and Kill abort
every task; the end comes once everything has settled; the scrub leaves IDLE, or goes on to the command that waits for it. A
command out of its state is told with 0x57. A job command that the present state does not allow changes nothing but
CommandStatus, which tells 0x57 with the state in [15:8]. Rules: R37, R301, R302, R303, R304, R305. -/
def Obligations.JobRuns : Prop :=
  (∀ (s : State),
     let w := s.work
     let asked := w.modJob (fun j => { j with startWaits := true })
     let stopping := (w.modJob (fun j => { j with stopAt := w.now, drains := false })).jobTo .stopping
     let cleared := stopping.dies.foldl (fun w e => w.clearQueue e.1) stopping
     let unplaced := cleared.arrays.foldl (fun w e => w.unplace e.1) cleared
     let clean := w.scrub.modJob (fun j => { j with retained := false })
     (w.configBusy = false → w.boot.st ≠ 2 → w.job.st.mayBind = true → w.badList = none → w.badImage = none →
       w.badPlacement = none → w.badSplit = none →
       w.reg 0x7800 7 = 0 ∨ w.hinge.st ≠ 2 →
       exec .configure s = .next (s.commit ((w.jobTo .configured).jobStatus 0 0 0).accept)) ∧
     (∀ st n d, w.configBusy = false → w.boot.st ≠ 2 → w.job.st.mayBind = true →
       w.badList.or (w.badImage.or w.badPlacement) = some (st, n, d) →
       exec .configure s = .next (s.commit (w.jobStatus st n d).accept)) ∧
     (w.job.startWaits = false → w.job.st = .configured → w.siteMap.computed = false ∨ (w.activeSite hostSites).isSome = true →
       (w.job.retained = false → (w.reg 0x2100 0x0D = 0 ∨ w.reg 0x2100 0x0E ≠ 1) → exec .start s = .next (s.commit w.launch.accept)) ∧
       (w.job.retained = false → w.reg 0x2100 0x0D ≠ 0 → w.reg 0x2100 0x0E = 1 →
         exec .start s = .next (s.commit (asked.jobStatus 0xFF 0 0).beginRecompute.accept)) ∧
       (w.job.retained = true → exec .start s = .next (s.commit ((asked.jobTo .scrubbing).jobStatus 0xFF 0 0).accept))) ∧
     (w.siteMap.recomputing = true → w.fmgr.st = 0 → let v := w.mapDone.joinTree
       exec .mapRecomputeComplete s = .next (s.commit (if v.job.startWaits = true ∧ v.job.st = .configured then v.launch else v))) ∧
     (w.job.st = .running →
       exec .stop s = .next (s.commit (unplaced.stopDrains.jobStatus 0 0 0).accept)) ∧
     (w.job.st = .running ∨ w.job.st = .stopping → exec .kill s = .next (s.commit (w.killSteps.jobStatus 0 0 0).accept)) ∧
     (w.job.st = .retained → exec .kill s = .next (s.commit ((w.jobTo .scrubbing).jobStatus 0 0 0).accept)) ∧
     (w.job.st = .stopping → exec .stopTimeout s =
       .next (s.commit (w.reach (w.job.stopAt + 1000000 * w.reg 0x2400 0x0A)).killSteps)) ∧
     (w.job.st = .stopping → w.settled = true → exec .jobEnd s = .next (s.commit w.endJob)) ∧
     (w.job.st = .stopping → w.settled = false → exec .jobEnd s = .next (s.commit w.stopDrains)) ∧
     (w.job.st = .killing → exec .jobEnd s =
       .next (s.commit (if w.fabricDrained then (w.reach (w.now + 1000)).endJob else w.drainOver.endJob))) ∧
     (w.job.st = .scrubbing → clean.job.startWaits = false → clean.job.configWaits = false →
       exec .scrubComplete s = .next (s.commit (clean.jobTo .idle)))) ∧
  (∀ (s : State),
     let w := s.work
     let no := Host.Outcome.next (φ := Fault) (ρ := Refusal) (s.commit ((w.setReg 0x2400 9 (0x57 + w.job.st.code % 256 * 2 ^ 8)).accept))
     (w.job.startWaits = false → w.job.st ≠ .configured → exec .start s = no) ∧
     (w.job.st ≠ .running → exec .stop s = no) ∧
     (w.job.st = .idle ∨ w.job.st = .configured ∨ w.job.st = .killing ∨ w.job.st = .scrubbing → exec .kill s = no) ∧
     (w.configBusy = false → w.boot.st ≠ 2 → w.job.st = .running ∨ w.job.st = .stopping ∨ w.job.st = .killing → exec .configure s = no))


/-! ### Edge ports, panels and the twin -/

/-- A port that is up takes a frame of its peer whose CRC, computed over its 2,048 bytes, and codewords are good: in sequence it
delivers the packets its flits complete, into ingress slots of their class; idle, or in sequence, its control slot is applied;
one out of sequence or in error is discarded, with a Nak owed at the first and again where a frame fails its checks; one of
another peer makes the port miswired. Replays asked for are sent and counted, and the eighth in a row fails the port, which
trains again. A pattern test takes the port out of service and gives it back, with the ready map's source told. Egress credit:
a request waits at its port and is served as slots free up; a grant adds to the holder's credits, at most 64; a return frees
slots; credits unused for 10 µs on the holder's clock go back. A grant lets a heartbeat that waits for it go. Rules: R311,
R313, R317, R333. -/
def Obligations.EdgePortsAndEgress : Prop :=
  (∀ (s : State) (k ms cause : Nat) (f : EdgeFrame) (test : PortTest),
     let w := s.work
     let x := w.port k
     let seen := if f.corrected = 0 then w else w.corrected (0x4800 + k) 8 f.corrected 5 k
     let checked := if f.fecGood then seen else seen.addReg (0x4800 + k) 9 1
     let thrown := fun bad => checked.modPort k (fun x => if x.waits = true ∧ bad = false then x else { x with waits := true, nak := true })
     let got := assemble (checked.port k).part (edgeFlits f)
     let fromPeer := f.senderPanel = checked.peerPanel k ∧ f.senderPort = checked.peerPort k ∧ f.role = checked.peerRole k
     let taken := (checked.modPort k (fun x => { x with lastGood := f.seq, nak := false, waits := false, part := got.1 })).feedPort k 2 f
     let handed : Work :=
       { taken with entering := taken.entering ++ got.2.map (fun p => ⟨k, some (taken.ingressClass k p.srcPanel), p⟩) }
     let again := (w.modPort k (fun x => { x with
       asked := false, resend := x.sent, last := x.sent.getLast?, badReplays := x.badReplays + 1 })).corrected
         (0x4800 + k) 0x0A x.sent.length 5 k
     let told := if w.portUp k then w.readyChanged else w
     let back := (w.reachOn (1016 + k) x.testUntil).modPort k (fun x => { x with st := x.before })
     (w.portUp k = true →
       (f.crc ≠ edgeCrc f ∨ f.fecGood = false → exec (.edgeFrameReceive k f) s = .next (s.commit (thrown true))) ∧
       (f.crc = edgeCrc f → f.fecGood = true → ¬fromPeer →
         exec (.edgeFrameReceive k f) s = .next (s.commit (checked.miswired k))) ∧
       (f.crc = edgeCrc f → f.fecGood = true → fromPeer → f.idle = true →
         exec (.edgeFrameReceive k f) s = .next (s.commit (checked.controlSlot k f))) ∧
       (f.crc = edgeCrc f → f.fecGood = true → fromPeer → f.idle = false →
         (f.seq = ((checked.port k).lastGood + 1) % 65536 →
           exec (.edgeFrameReceive k f) s = .next (s.commit (handed.controlSlot k f))) ∧
         (f.seq ≠ ((checked.port k).lastGood + 1) % 65536 →
           exec (.edgeFrameReceive k f) s = .next (s.commit (thrown false))))) ∧
     (w.portUp k = true → x.asked = true → x.sent ≠ [] → exec (.edgeReplay k) s =
       .next (s.commit (if 8 ≤ x.badReplays + 1 then again.portFails k 1 else again))) ∧
     exec (.portFailure k cause) s = .next (s.commit (w.portFails k cause)) ∧
     (x.st = .failed ∨ x.st = .training → exec (.portRetrain k test) s =
       .next (s.commit ((w.reachOn (1016 + k) x.retryAt).bringUpPort k test))) ∧
     (k < 16 → x.st ≠ .testing → (w.peerRole k = 2 → w.hinge.st ≠ 2) → (w.peerRole k = 1 → w.jobRuns = false) → x.st ≠ .fused →
       x.st ≠ .defective → exec (.patternTest k ms) s = .next (s.commit
         (told.modPort k (fun x => { x with st := .testing, before := x.st, testUntil := told.dieNow (1016 + k) + 1000000 * ms })).accept)) ∧
     (x.st = .testing → exec (.patternTestComplete k) s =
       .next (s.commit ((if back.portUp k then back.readyChanged else back).portSend k 64)))) ∧
  (∀ (s : State) (p : Packet) (n : Nat),
     let w := s.work.take p
     let k := p.dstUnit % 16
     let vc := field p.typeData 0 3
     let m := field p.typeData 3 5
     let holder := if p.dstUnit / 16 = 5 then 1000 + p.dstUnit % 16 else w.dstDie p
     let clock := if 1000 ≤ holder then holder + 16 else holder
     let mine := fun (e : Egress) => e.holder == holder && e.port == p.srcUnit % 16 && e.vc == vc
     (s.work.inTurn p = true → exec (.ecrq p) s = .next (s.commit
       ((w.modPort k (fun x => { x with waiting := x.waiting ++ [(w.holderOf p, vc, m)] })).serveWaiting k 16))) ∧
     (s.work.inTurn p = true → w.egress.any mine = true → exec (.ecgr p) s = .next (s.commit ({ w with egress := w.egress.map (fun e =>
       if mine e then { e with credits := min 64 (e.credits + m), usedAt := w.dieNow clock } else e) } : Work).sendBeats)) ∧
     (s.work.inTurn p = true → w.egress.any mine = false → exec (.ecgr p) s =
       .next (s.commit ({ w with egress := w.egress ++ [⟨holder, p.srcUnit % 16, vc, m, w.dieNow clock⟩] } : Work).sendBeats)) ∧
     (s.work.inTurn p = true → exec (.ecret p) s = .next (s.commit ((w.modPort k (fun x => { x with
       egGranted := tmod 0 x.egGranted (w.holderOf p * 8 + vc) (· - m) })).serveWaiting k 16))) ∧
     (∀ e, s.work.egress[n]? = some e → e.credits ≠ 0 →
       let v := s.work.reachOn (if 1000 ≤ e.holder then e.holder + 16 else e.holder) (e.usedAt + 10000)
       let d := v.holderDie e.holder
       let dest_ := (v.portDie e.port d false).getD ((v.portDies e.port).headD 0)
       exec (.egressCreditIdle n) s = .next (s.commit (({ v with egress := ldrop v.egress n } : Work).returnCredits d
         (if 1000 ≤ e.holder then 0x50 + (e.holder - 1000) else 0x30) dest_ e.port e.vc 4 e.credits))))

/-- Barriers across panels: the master counts arrivals and with the last one numbers the completion and tells every panel, judging
lateness while PPS is locked; the others complete; a suspect panel is told and cleared, with source 13. Rules: R338, R339. -/
def Obligations.PanelsMeetAtBarriers : Prop :=
  ∀ (s : State) (p : Packet) (panel : Nat),
    let w := s.work.take p
    let id := field p.typeData 0 12
    let g := (w.globals.find? (fun g => g.id == id)).getD { id := id }
    let came := g.arrivals ++ [(p.srcPanel, p.address, bit p.typeData 16)]
    let rest := w.globals.filter (fun g => g.id != id)
    let n := (g.completions + 1) % 2 ^ 32
    let told : Work := { w with globals := rest ++ [{ id := id, arrivals := [], completions := n }] }
    let times := sortBy (fun a b => decide (a ≤ b)) (came.map (fun x => x.2.1))
    let limit := times.getD ((times.length - 1) / 2) 0 + 1000 * told.reg 0x7800 2
    let judged := if told.ppsLocked then
        (came.filter (fun x => x.2.2)).foldl (fun w x => w.judge x.1 (decide (limit < x.2.1))) told
      else told
    let cleared : Work := { s.work with
      suspects := s.work.suspects.filter (· != panel), lates := s.work.lates.filter (fun l => l.panel != panel) }
    (∀ count, s.work.inTurn p = true → w.globalRec id = some (w.panelId, count) →
      (came.length < count →
        exec (.xbarrive p) s = .next (s.commit { w with globals := rest ++ [{ g with arrivals := came }] })) ∧
      (count ≤ came.length → exec (.xbarrive p) s = .next (s.commit
        (came.foldl (fun w x => w.send { w.boardPkt 0x54 0 x.1 with typeData := id + n * 2 ^ 32 }) judged)))) ∧
    (s.work.inTurn p = true → exec (.xbdone p) s = .next (s.commit (w.completeBarrier id))) ∧
    (s.work.inTurn p = true → exec (.xsuspect p) s = .next (s.commit
      (if bit p.typeData 0 then ((w.setReg 0x7800 3 1).event 2 0 0 0 p.srcPanel).interrupt 13
       else if w.reg 0x7800 3 = 0 then w else (w.setReg 0x7800 3 0).interrupt 13))) ∧
    (s.work.suspects.contains panel = true → exec (.clearSuspect panel) s =
      .next (s.commit ((cleared.send { cleared.boardPkt 0x55 0 panel with typeData := 0 }).interrupt 13).accept))

/-- The twin: Attach asks where two Hinge ports lead to it, with AttachStatus at 0xFF until the answer, and answers 0x61 where
they do not; Detach parts; HATTACH and HACK pair the two panels or tell why not. A heartbeat goes out each
HeartbeatMicroseconds on every port that is up and cabled to the twin, as its egress credit lets it, the twin's heartbeats are
noted, and without one for the loss time the twin is lost. The mirror: ranges that the twin accepts let the waiting Configure
through, and the first refused one fails it with 0x64; a Configure that waited while its job was started ends with 0x57 (the
model's choice, log entry 107); a copied step is committed and acknowledged, and releases the step that waited. Rules: R331,
R332, R334, R335, R336. -/
def Obligations.TwinsPairAndMirror : Prop :=
  (∀ (s : State) (p : Packet),
     let w := s.work
     let t := w.take p
     let cabled := (List.range 16).filter (fun k => w.peerRole k == 2 && w.peerPanel k == w.reg 0x4900 2)
     let moved := (({ w with hinge := { w.hinge with twin := w.reg 0x4900 2, attachWritten := true, st := 1 } } : Work).setReg
       0x4900 1 1)
     let asked := if w.hinge.st = 1 then moved else moved.interrupt 12
     let sent := ((asked.hingeStatus 0xFF 0).sendAttach true).accept
     let met : Work := { t with hinge := { t.hinge with
       twin := p.srcPanel, twinTags := (List.range 4).map (fun i => leAt p.payload (4 * i) 4), attachSeen := true } }
     let status := field p.typeData 0 8
     let due := if w.hinge.beatAt = 0 then w else w.reach (w.hinge.beatAt + 1000 * w.reg 0x4900 7)
     let beat := (due.hinge.beats + 1) % 2 ^ 32
     let ports := (List.range 16).filter (fun k => due.peerRole k == 2 && due.peerPanel k == due.hinge.twin && due.portUp k)
     let packet := { due.boardPkt 0x56 0 due.hinge.twin with typeData := beat + due.hinge.st * 2 ^ 32 }
     let lost := (w.reach (w.hinge.lastBeat + 1000 * w.reg 0x4900 8)).event 1 0x61 0 0
       (w.reach (w.hinge.lastBeat + 1000 * w.reg 0x4900 8)).hinge.twin
     (w.jobRuns = false → w.reg 0x4900 9 % 256 ≠ 0xFF → w.hinge.st ≠ 2 →
       (2 ≤ cabled.length → exec .attach s = .next (s.commit (if sent.hinge.attachSeen then sent.answerAttach else sent))) ∧
       (cabled.length < 2 → exec .attach s = .next (s.commit (w.hingeStatus 0x61 0).accept))) ∧
     (w.jobRuns = false → exec .detach s = .next (s.commit
       (((if w.hinge.st = 0 then w else w.sendAttach false).unpair 0).hingeStatus 0 0).accept)) ∧
     (w.inTurn p = true → bit p.typeData 0 = true → p.srcPanel = t.reg 0x4900 2 →
       exec (.hattach p) s = .next (s.commit (if met.hinge.attachWritten then met.answerAttach else met))) ∧
     (w.inTurn p = true → t.hinge.st = 1 → p.srcPanel = t.hinge.twin →
       (status ≠ 0 → exec (.hack p) s = .next (s.commit ((t.hingeTo 0).hingeStatus status (field p.typeData 8 8)))) ∧
       (status = 0 → exec (.hack p) s = .next (s.commit
         ((({ t with hinge := { t.hinge with lastBeat := t.now, beats := 0, beatAt := 0, beatWaits := [] } } : Work).hingeTo
           2).hingeStatus 0 0)))) ∧
     (w.hinge.st = 2 → exec .hbeatSend s = .next (s.commit
       ({ due with hinge := { due.hinge with
         beats := beat, beatAt := due.now, beatWaits := due.hinge.beatWaits ++ ports.map (fun k => (k, packet)) } } : Work).sendBeats)) ∧
     (∀ k q v x, w.hinge.beatWaits = [(k, q)] →
       ({ w with hinge := { w.hinge with beatWaits := [] } } : Work).spendEgress w.sideboardA k 0 = (x, v) →
       w.sendBeats = match x with
         | some u => u.toEgress k (({ w with hinge := { w.hinge with beatWaits := [] } } : Work).stamped q)
         | none => { v with hinge := { v.hinge with beatWaits := v.hinge.beatWaits ++ [(k, q)] } }) ∧
     (w.inTurn p = true → t.hinge.st = 2 → p.srcPanel = t.hinge.twin →
       exec (.hbeat p) s = .next (s.commit { t with hinge := { t.hinge with lastBeat := t.now } })) ∧
     (w.hinge.st = 2 → lost.job.mirrorWaits = false → exec .twinLoss s = .next (s.commit (lost.unpair 3)))) ∧
  (∀ (s : State) (p : Packet),
     let w := s.work
     let t := w.take p
     let bad := (List.range (p.payload.length / 16)).find?
       (fun i => !t.accepts (leAt p.payload (16 * i) 8) (leAt p.payload (16 * i + 8) 8))
     let first := (if p.index = 0 then none else t.hinge.badRegion).or (bad.map (fun i => (16 * p.index + i) / 2))
     let noted : Work := { t with hinge := { t.hinge with badRegion := first } }
     let heard : Work := { noted with hinge := { noted.hinge with badRegion := none } }
     let gone := t.modJob (fun j => { j with mirrorWaits := false })
     let status := field p.typeData 0 8
     let good := t.hinge.st == 2 && p.srcPanel == t.hinge.twin
     let step := field p.typeData 0 32
     let kept : Work := if good then { t with hinge := { t.hinge with twinCopy := some (step, field p.typeData 32 1) } } else t
     (w.inTurn p = true → p.index + 1 < p.total → exec (.mranges p) s = .next (s.commit noted)) ∧
     (w.inTurn p = true → p.total ≤ p.index + 1 → exec (.mranges p) s = .next (s.commit (heard.send { heard.boardPkt 0x5A 2 p.srcPanel with
       typeData := match first with | some i => 0x64 + i * 2 ^ 8 | none => 0 }))) ∧
     (w.inTurn p = true → t.job.mirrorWaits = true → p.srcPanel = t.hinge.twin → exec (.mrack p) s = .next (s.commit
       (if status = 0 ∧ gone.job.st.runs = true then gone.setReg 0x2400 9 0x57
        else if status = 0 then (gone.jobTo .configured).setReg 0x2400 9 0
        else gone.setReg 0x2400 9 (status + field p.typeData 8 8 * 2 ^ 8)))) ∧
     (∀ n half, w.hinge.copying = some (n, half) → w.hinge.copyLeft = 0 → w.hinge.committed = false →
       let v := ({ w with hinge := { w.hinge with committed := true } } : Work).setReg 0x7800 0x0E ((w.now - w.hinge.copyAt) / 1000 % 2 ^ 32)
       exec .mirrorCopyComplete s = .next (s.commit (v.send { v.boardPkt 0x5B 1 v.hinge.twin with typeData := n + half * 2 ^ 32 }))) ∧
     (w.inTurn p = true → exec (.mcommit p) s = .next (s.commit (kept.send { kept.boardPkt 0x5C 2 p.srcPanel with
       typeData := step + ofBool (!good) * 2 ^ 32 }))) ∧
     (∀ half, w.inTurn p = true → t.hinge.copying = some (step, half) → t.hinge.committed = true →
       exec (.mack p) s = .next (s.commit (if bit p.typeData 32 then t else t.setReg 0x7800 0x0C step).releaseStep)))


/-! ### The host and the dictionary -/

/-- The attach and the pins: PERST_N low takes the endpoint back to its state after a reset of it, and high lets it go, its
configuration space answering within 20 ms; a function level reset keeps the link; the link of a host die that is ready
trains; a decoder commits a span; a mailbox command that the endpoint does not know gets return code 0x15 (the model's choice,
assumption 12); a pending vector's message goes out once the spacing since its last one has passed. Rules: R340, R341, R342,
R343, R350. -/
def Obligations.CxlEndpoint : Prop :=
  ∀ (s : State),
    let w := s.work
    let x := w.cxl
    (x.perst = false → exec .perstNAssert s = .next (s.commit ({ w with cxl := { perst := true } } : Work).readyChanged)) ∧
    (x.perst = true → exec .perstNAssert s = .next (s.commit w)) ∧
    exec .perstNDeassert s = .next (s.commit { w.draw.2 with
      cxl := { w.draw.2.cxl with perst := false, configAt := w.draw.2.now + w.draw.1 % 20000001 } }) ∧
    exec .functionLevelReset s = .next (s.commit
      { w with cxl := { perst := x.perst, st := x.st, width := x.width, rate := x.rate, configAt := x.configAt } }) ∧
    (∀ width rate, w.boot.hostReady = true →
      exec (.cxlLinkUp width rate) s = .next (s.commit (w.cxlTrain width rate))) ∧
    (∀ i dpa size, x.st = 2 → i < 4 → exec (.hdmDecoderCommit i dpa size) s =
      .next (s.commit { w.reach x.configAt with cxl := { x with decoders := tput x.decoders i (dpa, size, spanOk dpa size) } })) ∧
    (∀ op data, x.st ≠ 0 → exec (.mailboxCommand op data) s = .next (s.commit
      (if op = 0x4000 then { w with cxl := { x with mailCode := 0, mailbox := identifyBytes data } }
       else if op = 0x0400 ∨ op = 0x0401 ∨ op = 0x4200 then
        { w with cxl := { x with mailCode := 0, mailbox := Config.cxlAnswer op data } }
       else { w with cxl := { x with mailCode := 0x15, mailbox := [] } }))) ∧
    (∀ v, x.st ≠ 0 → tget false x.pending v = true →
      let t := match x.sentAt.find? (fun e => e.1 == v) with
        | some e => w.reach (e.2 + w.reg 0x1200 0x14 * 1000)
        | none => w
      exec (.msixMessage v) s = .next (s.commit { t with cxl := { t.cxl with
        pending := tput t.cxl.pending v false, sentAt := tput t.cxl.sentAt v t.now, msix := (v, t.now) :: t.cxl.msix } }))

/-- Requests from outside: a window channel with no request under way takes one when Go is written, answers it with header and
code in its page, data in its buffer and Done equal to Go, and raises its vector; a good datagram is answered and counted, a
malformed one dropped and counted, and a multicast read of identity or communication objects waits for its delay, of at most
50 ms. While the dictionary server is not in service, a datagram is not answered and a channel's request stands. Rules: R358,
R362, R363. -/
def Obligations.RequestsAreServed : Prop :=
  ∀ (s : State) (chan tag source : Nat) (q : Request),
    let w := s.work
    let c : Channel := tget {} w.cxl.channels chan
    let page : Channel := { c with
      go := tag, request := some q, header := requestHeader q, data := patch c.data 0 q.data
      code := if q.code.isEmpty then c.code else q.code }
    let held : Work := { w with cxl := { w.cxl with channels := tput w.cxl.channels chan page } }
    let done := held.channelRequest { cxl := true, chan := chan, session := q.session } q
    let answer : Channel := { page with
      done := tag, header := headerBytes q done.reply, data := patch page.data 0 done.reply.data
      code := if done.reply.code.isEmpty then page.code else done.reply.code }
    (w.cxl.st = 2 → chan < 4 → c.go = c.done → w.served = true → exec (.windowGo chan tag q) s = .next (s.burned
      (Work.interrupt { done with cxl := { done.cxl with channels := tput done.cxl.channels chan answer } } chan))) ∧
    (w.cxl.st = 2 → chan < 4 → c.go = c.done → w.served = false → exec (.windowGo chan tag q) s = .next (s.burned held)) ∧
    (w.served = false → ∀ m b, exec (.sacorDatagram source m b q) s = .next (s.burned w)) ∧
    (w.served = true → wellFormedRequest q = true → (q.session = 0 → q.mac = false ∧ q.counter = 0) →
      exec (.sacorDatagram source false false q) s = .next (s.burned
        (if q.session = 0 then ((w.perform { cxl := false, chan := source, session := 0 } q).countAnswer).framed q
         else w.sessionDatagram { cxl := false, chan := source, session := q.session } q))) ∧
    (w.served = true → wellFormedRequest q = true → q.session = 0 → q.mac = false → q.counter = 0 → q.op = 1 →
      q.index = 0x1000 ∨ q.index = 0x1200 → exec (.sacorDatagram source true false q) s = .next (s.burned
        { w with discovery := w.discovery ++ [(source, q)] })) ∧
    (∀ m, w.served = true → exec (.sacorDatagram source m true q) s = .next (s.burned w.dropDatagram)) ∧
    (∀ rest, w.discovery = (source, q) :: rest → exec .discoveryReply s = .next (s.commit
      (Work.framed (({ w.draw.2 with clock := w.draw.2.clock + w.draw.1 % 50000001 * 2 ^ 32, discovery := rest } : Work).perform
        { cxl := false, chan := source, session := 0 } q).countAnswer q)))

/-- Dictionary reads and descriptions: an object that is there and readable is described, a scalar answered whole at offset 0, a
STR or BLOB from the value at the read, a DOMAIN from an authorised path alone. While the path does not reach the dictionary
server nothing answers. Rules: R353, R355. -/
def Obligations.DictionaryIsRead : Prop :=
  ∀ (s : State) (p : Path) (i sub off len : Nat) (cont : Bool) (o : Obj),
    let w := s.work.touch p
    let n := if len = 0 then pathMost p else len
    (s.work.serves p = false → exec (.dictRead p i sub off len cont) s = .next s) ∧
    (s.work.serves p = true → s.work.pathOpen p = true → objOf i sub = some o →
    exec (.dictDescribe p i sub) s = .next (s.commit (w.accept (w.description o i sub))) ∧
    (o.access ≠ 4 → (o.access = 5 → o.readable = true) → n ≤ pathMost p →
      (o.type ≠ 10 → typeSize o.type ≠ 0 → off = 0 → len = 0 ∨ len = typeSize o.type →
        exec (.dictRead p i sub off len cont) s = .next (s.commit (w.accept (w.objectBytes o i sub)))) ∧
      (o.type ≠ 10 → typeSize o.type = 0 →
        exec (.dictRead p i sub off len cont) s = .next (s.commit (w.readBlob p o i sub off n cont))) ∧
      (o.type = 10 → p.cxl = true ∨ p.session ≠ 0 →
        exec (.dictRead p i sub off len cont) s = .next (s.commit (w.readDomain off n)))) ∧
    (o.access = 4 → exec (.dictRead p i sub off len cont) s = .next (s.commit (w.refuse 0x71))) ∧
    (o.type = 10 → o.access ≠ 4 → o.access ≠ 5 → p.cxl = false → p.session = 0 →
      exec (.dictRead p i sub off len cont) s = .next (s.commit (w.refuse 0x74))))

/-- Dictionary writes: an authorised write of a scalar in its range takes effect whole, a segment of a BLOB is staged or applies
the whole, and the firmware object takes its own path; a read-only object is refused with 0x71, an unauthorised path with
0x74, and an object that forbids it while a job runs with the job's status. The host's own register write has no session to
check. Rules: R352, R354. -/
def Obligations.DictionaryIsWritten : Prop :=
  ∀ (s : State) (p : Path) (i sub off : Nat) (bs : List Byte) (more : Bool) (o : Obj),
    let w := s.work.touch p
    let authorised := p.session ≠ 0 ∨ p.cxl = true ∧ bit o.attr 0 = false
    objOf i sub = some o →
    (s.work.serves p = true → s.work.pathOpen p = true →
      (o.access ≠ 1 → authorised → w.jobForbids o i sub = false → bs.length ≤ pathMost p → ¬(i = 0x8000 ∧ sub = 5) →
        (typeSize o.type ≠ 0 → off = 0 → more = false → bs.length = typeSize o.type → o.inRange (ofBytes bs) = true →
          exec (.dictWrite p i sub off bs more) s = .next (s.burned (w.writeScalar p o i sub (ofBytes bs)))) ∧
        (typeSize o.type = 0 → exec (.dictWrite p i sub off bs more) s = .next (s.burned (w.writeSegment p o i sub off bs more)))) ∧
      (o.access = 1 → exec (.dictWrite p i sub off bs more) s = .next (s.burned (w.refuse 0x71))) ∧
      (o.access ≠ 1 → ¬authorised → exec (.dictWrite p i sub off bs more) s = .next (s.burned (w.refuse 0x74))) ∧
      (o.access ≠ 1 → authorised → w.jobForbids o i sub = true →
        exec (.dictWrite p i sub off bs more) s = .next (s.burned w.refuseJob))) ∧
    (o.access ≠ 1 → s.work.jobForbids o i sub = false → ¬(i = 0x8000 ∧ sub = 5) →
      exec (.registerWrite i sub bs) s = .next (s.burned (s.work.writeWhole hostPath o i sub bs)))

/-- Sessions: a HELLO that names a key slot with a key opens, where its encapsulation is good, one of eight sessions under the
next number, and its answer names the session and carries counter 0 and a code under the new key; 1,024 bytes of it alone wait
for the rest; a close, and 30 s or what is set without a message, end a session with what it held; a snapshot and a staged
write expire after a second. Rules: R355, R364, R365. -/
def Obligations.SessionsOpenAndEnd : Prop :=
  ∀ (s : State) (p : Path) (data : List Byte),
    let w := s.work
    (∀ key, w.serves p = true → data.length = 1604 → leAt data 0 1 < 8 → allZero (slice data 1 3) = true → w.sessions.length < 8 →
      w.keyOf (leAt data 0 1) = some key →
      ∃ t, exec (.hello p data) s = .next t ∧
        if (Config.kemDecaps (2 * w.boot.starts) (slice data 36 1568)).isSome then
          t.reply.status = 0 ∧ t.nextSession = (if w.nextSession + 1 < 2 ^ 32 then w.nextSession + 1 else 1) ∧
            ∃ x, t.sessions = s.sessions ++ [x] ∧ x.id = w.nextSession ∧ x.path = { p with session := 0 } ∧
              x.keySlot = leAt data 0 1 ∧ x.lastAt = w.now ∧ t.reply.counter = 0 ∧
              t.reply.session = x.id ∧ t.reply.code = (x.signs (if p.cxl then helloRequest data else { helloRequest data with offset := 1024 })
                { t.reply with data := if p.cxl then t.reply.data else t.reply.data.drop 1024 } 0).code
        else t = s.commit ((w.refuse 0x73).answers p (helloRequest data))) ∧
    (w.serves p = true → data.length = 1024 → exec (.hello p data) s = .next (s.commit
      (({ w with hellos := holdFor w.hellos ⟨p, 0, 0, data, w.now⟩ } : Work).accept.answers p (helloRequest data)))) ∧
    (∀ (v : Work) q, v.answers p q = if p.cxl = true then v else { v with reply := { v.reply with messages := messagesOf q v.reply } }) ∧
    (w.serves p = true → p.session ≠ 0 → w.pathOpen p = true → exec (.dictClose p) s = .next (s.commit (w.closeSession p.session).accept)) ∧
    (∀ x, w.sessions.find? (fun y => y.id == p.session) = some x → exec (.sessionIdleTimeout p.session) s =
      .next (s.commit ((w.reach (x.lastAt + w.idleNs)).closeSession p.session))) ∧
    (∀ h, w.snapshots.find? (fun h => decide (h.path = p)) = some h →
      let t := w.reach (h.at_ + 1000000000)
      exec (.snapshotExpiry p) s = .next (s.commit { t with snapshots := t.snapshots.filter (fun x => !decide (x.path = p)) })) ∧
    (∀ h, (w.staging ++ w.hellos).find? (fun h => decide (h.path = p)) = some h →
      let t := w.reach (h.at_ + 1000000000)
      exec (.stagingExpiry p) s = .next (s.commit { t with
        staging := t.staging.filter (fun x => !decide (x.path = p)), hellos := t.hellos.filter (fun x => !decide (x.path = p)) }))

/-- As Sideboard B takes the lead, every session and every half-open one closes, staged writes and snapshots are discarded, and
what is in flight is answered 0x7C. Rules: R360. -/
def Obligations.TakeoverEndsRequests : Prop :=
  ∀ (s : State) (cause : Nat), s.boot.lead = 0 → s.work.standsBy = true →
    ∃ u, exec (.sideboardTakeover cause) s = .next u ∧ u.boot.lead = 1 ∧ u.boot.standby = false ∧ u.sessions = [] ∧ u.hellos = [] ∧
      u.snapshots = [] ∧ u.staging = [] ∧ u.reply.status = 0x7C


/-! ### Clocks, power and heat -/

/-- A clock region: each window's cycles are taken into the mean, with guard steps added above the limit, and below 500 MHz for
more than 1 ms is an event; a margin code at or under the warning raises the region's guard, code 0 by two steps with its
array suspect, with an event counted over the hour, and ten good seconds lower it; a region whose array has run no task for 1
s regains 25 MHz each 10 s (what the 10 s count from is the model's choice, log entry 38). Rules: R369, R371, R437. -/
def Obligations.ClockRegions : Prop :=
  ∀ (s : State) (r cycles code : Nat),
    let w := s.work
    let x := w.region r
    let exceeds := min 1050 (w.capOf r) < cycles
    let drawn := if exceeds then w.draw else (0, w)
    let full := drawn.2.reg 0x9000 0x13 * 1000
    let now := drawn.2.now
    let noted := w.modRegion r (fun x => { x with
      margin := min 15 code, goodSince := if 8 ≤ min 15 code then some (x.goodSince.getD w.now) else none })
    let idle := match w.regionArray r with | some a => (w.arr a).idleAt | none => 0
    (w.regionRuns r = true → exec (.frequencyLimitWindow r cycles) s = .next (s.commit (drawn.2.modRegion r fun x =>
      let y : Region := { x with
        mhz := cycles, extra := if exceeds then drawn.1 + 1 else 0, sum := x.sum + cycles, count := x.count + 1 }
      let z : Region := if full ≤ y.count then { y with mean := y.sum / y.count, sum := 0, count := 0 } else y
      if cycles < 500 then { z with slowSince := some (z.slowSince.getD now) } else { z with slowSince := none, slowTold := false }))) ∧
    (∀ t, x.slowSince = some t → x.slowTold = false → w.regionRuns r = true → exec (.regionSlowClock r) s = .next (s.commit
      (((w.reach (t + 1000001)).modRegion r (fun x => { x with slowTold := true })).event 1 0 8 r x.mhz))) ∧
    (w.regionRuns r = true →
      (code = 0 → exec (.marginResponse r code) s =
        .next (s.commit (((((noted.raiseGuard r 2).marginCheck r).event 1 0 8 r 0).hourly 1 8 r).marginSuspect r))) ∧
      (code ≠ 0 → min 15 code ≤ w.reg 0x9000 0x12 → exec (.marginResponse r code) s = .next (s.commit
        (if noted.guard r = 15 then (noted.marginCheck r).event 1 0 8 r (min 15 code)
         else ((noted.raiseGuard r 1).event 2 0 8 r (min 15 code)).hourly 1 8 r))) ∧
      (w.reg 0x9000 0x12 < min 15 code → code ≠ 0 → min 15 code < 8 ∨ w.now < x.goodSince.getD w.now + 10000000000 →
        exec (.marginResponse r code) s = .next (s.commit noted)) ∧
      (w.reg 0x9000 0x12 < min 15 code → 8 ≤ code → x.goodSince.getD w.now + 10000000000 ≤ w.now → exec (.marginResponse r code) s =
        .next (s.commit ((noted.lowerGuard r).modRegion r (fun x => { x with goodSince := some w.now }))))) ∧
    ((∀ a, w.regionArray r = some a → (w.arr a).task = none) → x.capMHz < 1050 →
      let t := w.reach (max (x.restoredAt + 10000000000) (idle + 1000000000))
      exec (.marginCapRestore r) s = .next (s.commit (t.modRegion r (fun x => { x with
        capMHz := min 1050 (x.capMHz + 25), restoredAt := t.now }))))

/-- The time wave leaves the root each period and moves down the tree, with the rate that takes effect at RateAt: a die answers
its parent with TECHO, corrects its counter and sends on; a rate applies at its time on the counter that it is a rate of; the
clock's tree is re-formed level by level, a die that has moved ending its holdover with its first TSYNC. A die here is an
array die or, from 1,000 on, a leaf (the numbers are the model's, log entry 111). Rules: R380, R381, R386. -/
def Obligations.TimeMovesDownTheTree : Prop :=
  ∀ (s : State) (d depth : Nat) (sync : TimeSync),
    let w := s.work
    let period := w.reg 0x9000 0x0A * 1000
    let late := w.reach ((w.root.lastWave / period + 1) * period)
    let waved : Work := { late with root := { late.root with lastWave := late.now } }
    let echoed := w.takeFmgr 11 (fun q => (w.srcDie q, q.srcUnit) == w.syncPlace d)
    let leaf := 1000 ≤ d ∧ d < 1035
    let c := (w.die d).clock
    let t := w.takeFmgr 10 (fun q => (w.dstDie q, q.dstUnit) == w.syncPlace d)
    let k := (t.die d).clock
    let t2 := t.dieCounter d
    let moving := k.holdover && !t.root.lost
    let set := t.modDieClock d (fun c => { c.settled t.root.rate t.now with
      t1 := sync.t1, t2 := t2, t3 := t2
      delays := if k.t1 = 0 ∨ sync.prevT4 = 0 then k.delays else (((sync.prevT4 - k.t1) - (k.t3 - k.t2)) / 2 :: k.delays).take 16
      rateNew := sync.rate, rateAt := sync.rateAt
      rate := if sync.rateAt = 0 then sync.rate else c.rate, stepAt := sync.stepAt, stepBy := sync.stepBy
      holdover := k.holdover && !moving })
    let here := set.syncPlace d
    let above := set.syncPlace k.parent
    let sent := set.send { set.packet 0x21 here.1 here.2 0 above.1 above.2 0 with
      typeData := 11, total := 1, payload := padTo 16 (timeBytes t2) ++ padTo 48 (timeBytes t2) }
    let fixed := sent.correct d (sync.t1 + (sent.die d).clock.delay - t2)
    let placed := (w.wholeTree.filter (fun e => e.depth == depth)).foldl Work.takePlace w
    (w.root.running = true → w.root.lost = false → exec .timeWave s = .next (s.commit
      (if (waved.die waved.rootDie).clock.running then waved.sendSync 0xFFFE waved.rootDie else waved))) ∧
    (∀ v : Work, d < 1000 → v.sendSync 0xFFFE d =
      v.send { v.packet 0x21 v.rootDie (if v.root.who = 1 then 0x60 else 0x70) 0 d 0x30 0 with
        typeData := 10, total := 1, payload := TimeSync.bytes ⟨v.rootCounter, 0, if v.root.rateAt = 0 then v.root.rate else v.root.rateNew,
          (v.die d).clock.prevT4, v.root.rateAt, v.root.stepAt, v.root.stepBy⟩ }) ∧
    (k.running = true → exec (.tsync d sync) s =
      .next (s.commit (if moving then fixed.treeSettles else fixed.syncChildren d))) ∧
    ((echoed.die d).clock.running = true → exec (.techo d) s =
      .next (s.commit (echoed.modDieClock d (fun c => { c with prevT4 := echoed.parentCounter d })))) ∧
    (d < w.numDies ∨ leaf → c.rateAt ≠ 0 → let v := w.reachOn d c.rateAt
      exec (.rateChange d) s = .next (s.commit
        (v.modDieClock d (fun c => { c.settled v.root.rate v.now with rate := c.rateNew, rateAt := 0 })))) ∧
    (w.numDies ≤ d → ¬leaf → w.root.rateAt ≠ 0 → let v := (w.reach w.root.rateAt).settleAll
      exec (.rateChange d) s = .next (s.commit { v with root := { w.root with rate := w.root.rateNew, rateAt := 0 } })) ∧
    (w.wholeTree.any (fun e => decide (e.depth < depth) && w.misplaced e) = false →
      (placed.wholeTree.any placed.misplaced = true → exec (.reparent depth) s = .next (s.commit placed)) ∧
      (placed.wholeTree.any placed.misplaced = false → let shown := placed.showTree placed.wholeTree
        exec (.reparent depth) s = .next (s.commit (if shown.fmgr.st = 0 then (List.range 16).foldl Work.bayJoins shown else shown))))

/-- A time step moves the panel's time at its instant, and every die's counter with it; SetSeconds announces one to a later
second, with its status 0xFF until then, and refuses an earlier second with 0x73 (the status is the choice of log entry 39). A
pulse's offset is told, and the state follows it; a second and a half without one is holdover. The loss of the clock root is
every link's. Rules: R377, R384, R385. -/
def Obligations.TimeIsSetAndKept : Prop :=
  ∀ (s : State) (sec : Nat),
    let w := s.work
    let t := (w.dies.filter (fun e => e.2.clock.stepAt == w.root.stepAt)).foldl (fun w e => w.reachOn e.1 s.work.root.stepAt)
      (w.reach w.root.stepAt)
    let moved : Work := { t with
      clock := t.clock + w.root.stepBy * 2 ^ 32
      root := { t.root with stepAt := 0, stepBy := 0 }
      dies := t.dies.map (fun e => (e.1, { e.2 with clock :=
        if e.2.clock.stepAt = w.root.stepAt then { e.2.clock with stepAt := 0, stepBy := 0 }
        else { e.2.clock with offset := e.2.clock.offset - Int.ofNat w.root.stepBy * 256 } })) }
    let shifted := moved.shiftIntervals w.root.stepBy
    let off := if w.now % 1000000000 ≤ 500000000 then Int.ofNat (w.now % 1000000000) else Int.ofNat (w.now % 1000000000) - 1000000000
    let seen := ({ w with root := { w.root with lastEdge := w.now } } : Work).setReg 0x9000 5 (unsigned 32 off)
    (w.root.stepAt ≠ 0 → w.jobRuns = false → exec .timeStep s = .next (s.commit
      (if shifted.reg 0x9000 9 % 256 = 0xFF then shifted.setReg 0x9000 9 0 else shifted))) ∧
    (w.reg 0x9000 9 % 256 ≠ 0xFF → w.jobRuns = false →
      (w.now / 1000000000 < sec → exec (.setSeconds sec) s = .next (s.commit
        ((w.announceStep ((sec - w.now / 1000000000) * 1000000000)).setReg 0x9000 9 0xFF).accept)) ∧
      (sec ≤ w.now / 1000000000 → exec (.setSeconds sec) s = .next (s.commit ((w.setReg 0x9000 9 0x73).refuse 0x73)))) ∧
    (w.reg 0x9000 7 ≠ 0 → w.root.running = true → 2 ≤ w.boot.done →
      (w.root.pps = 0 ∨ w.root.pps = 4 → exec .ppsEdge s = .next (s.commit (seen.acquire off))) ∧
      (w.root.pps = 2 → off.natAbs ≤ 100 → exec .ppsEdge s = .next (s.commit
        (({ seen with root := { seen.root with
          badEdges := 0, goodEdges := if off.natAbs ≤ 20 then seen.root.goodEdges + 1 else 0 } } : Work).steer 0 200)))) ∧
    (1 ≤ w.root.pps → w.root.pps ≤ 3 → exec .ppsHoldover s =
      .next (s.commit (((w.reach (w.root.lastEdge + 1500000000)).ppsTo 4).event 2 0 0 0 0))) ∧
    exec .clockRootLoss s = .next (s.commit w.loseRoot.keepRegs)

/-- A power domain: Enable is refused in the trip, without domain 37 and without a path (0x94), too early (0x90) and after three
enables within the window (0x91), and otherwise raises PWR_EN with its status 0xFF; PG turns it on, and 25 ms without PG is a
supply fault; PG falling with PWR_EN high is one too, and takes with it what the domain fed; Disable lowers a domain at once,
the host die as the clock root's loss, and a bay through its steps. Rules: R390, R409, R411, R441. -/
def Obligations.DomainsSwitch : Prop :=
  ∀ (s : State) (d : Nat) (test : BayTest),
    let w := s.work
    let x := w.domain d
    let ready := w.modDomain d (fun x => { x with
      bringUp := some test, faultEnables := if x.faulted then x.faultEnables ++ [w.now] else x.faultEnables })
    let tells := fun (st : Nat) => exec (.domainEnable d test) s = .next (s.commit (w.tellDomain d st).accept)
    let test0 : BayTest := ⟨true, false, [], [], [], 0⟩
    let idle := d < 37 ∧ x.st ≠ .switchingOff ∧ x.st ≠ .ramping ∧ x.enableWaits = false
    let up := (w.domainOn d).tellDomain d 0
    let fell := w.setReg (0x6000 + d) 0x0F w.now
    let killed := if d = 0 then fell.killJob else fell
    let lost := (killed.loseDomain d 0x54).supplyFault d (if d < 32 then fell.regionsIn (d % 16) else 0)
    (idle → x.st = .on → tells 0) ∧
    (idle → x.st ≠ .on → x.st = .trip ∨ w.thermTrip = true → tells 0x94) ∧
    (idle → x.st ≠ .on → (w.domain 37).pg = false → tells 0x94) ∧
    (idle → x.st ≠ .on → x.st ≠ .trip → w.thermTrip = false → (w.domain 37).pg = true → (d < 16 → w.hasPath d = true) →
      (w.now < x.mayEnableAt → tells 0x90) ∧
      (x.mayEnableAt ≤ w.now → x.faulted = true → 3 ≤ (w.recentEnables d).length → tells 0x91) ∧
      (x.mayEnableAt ≤ w.now → x.faulted = false ∨ (w.recentEnables d).length < 3 →
        exec (.domainEnable d test) s = .next (s.commit (((if d < 16 ∧ ready.rampsNow = true
          then ready.modDomain d (fun x => { x with enableWaits := true }) else ready.releaseEn d).tellDomain d 0xFF).accept)))) ∧
    (x.st = .ramping →
      (domainKind d = 0 → exec (.pgAssert d) s = .next (s.commit
        ((up.bayReturns d (x.bringUp.getD test0)).nextEnable))) ∧
      (domainKind d = 2 → exec (.pgAssert d) s = .next (s.commit ((edgePorts d).foldl (fun w k =>
        if w.portSt k = .down then w.modPort k (fun p => { p with st := .training }) else w) up).joinLeaves)) ∧
      (domainKind d = 1 → exec (.pgAssert d) s = .next (s.commit ({ up with boot := { up.boot with
        failedHutches := up.boot.failedHutches.filter (· != d - 16)
        trained := up.boot.trained.filter (· != d - 16) ++ [d - 16] } } : Work).joinLeaves.readyChanged)) ∧
      (3 ≤ domainKind d → exec (.pgAssert d) s =
        .next (s.commit ({ up with boot := { up.boot with hostReady := true } } : Work).joinLeaves.readyChanged)) ∧
      exec (.pgTimeout d) s = .next (s.commit ((w.reach (x.rampAt + 25000000)).supplyFault d 0).nextEnable)) ∧
    (d < 37 → x.pg = true → x.enabled = true →
      (domainKind d = 1 ∨ domainKind d = 2 → exec (.pgFall d) s = .next (s.commit lost.keepRegs)) ∧
      (domainKind d = 3 → exec (.pgFall d) s = .next (s.commit (if lost.root.who = 1 then lost.loseRoot else lost).keepRegs)) ∧
      (domainKind d = 0 → exec (.pgFall d) s = .next (s.commit
        (if d = lost.startTables.rootBay then lost.startTables.loseRoot else lost.startTables).nextEnable.keepRegs))) ∧
    (36 < d → exec (.pgFall d) s = .next s) ∧
    (16 ≤ d → d < 36 → x.st = .on → exec (.domainDisable d) s = .next (s.commit
      (((w.loseDomain d 0x24).pullLow d .off).tellDomain d 0).accept)) ∧
    (d = 36 → w.jobRuns = false → x.st = .on →
      let off := ((w.loseDomain d 0x24).pullLow d .off).tellDomain d 0
      exec (.domainDisable d) s = .next (s.commit (if off.root.who = 1 then off.loseRoot.keepRegs else off).accept)) ∧
    (d < 16 → d ≠ w.rootBay → x.st = .on → exec (.domainDisable d) s = .next (s.commit
      (Work.goOff d 5 (w.beginOff d false)).accept))

/-- A compute bay goes off in its steps, and its grace time's end aborts what still runs in it with 0x92; rails are polled, and an
alert tells their status; a current over its guard, whose cap a CapW that software has written may lower but not raise, gates
the cells and is counted (to what it lowers it, and which cells, are free values, log entry 43); every millisecond the caps
follow the measured power by 25 MHz. Rules: R394, R396, R398, R409. -/
def Obligations.PowerIsWatched : Prop :=
  ∀ (s : State) (d segment ma : Nat) (rs : List RailReading),
    let w := s.work
    let late := w.reach ((w.domain d).stepAt + w.reg 0x6500 0x0A * 1000000)
    let cap := if thas w.regs (key (0x6000 + d) 6) = true then min (guardCap d) (Config.loweredCap d (w.reg (0x6000 + d) 6))
      else guardCap d
    let counted : Work := { w with free := w.free + 1 }
    let sample := counted.modDomain d (fun x => { x with current := ma, gated := decide (cap < ma), sample := w.free + 1 })
    (d < 16 → d ≠ w.rootBay → exec (.baySwitchOff d) s = .next (s.commit
      (if (w.domain d).st = .on then Work.goOff d 5 (w.beginOff d true) else Work.goOff d 5 w))) ∧
    ((w.domain d).st = .switchingOff → (w.domain d).step = 2 → exec (.drainGraceExpiry d) s = .next (s.commit
      ((late.arrays.filter (fun e => (late.bayDies d).contains (e.1 / 16))).foldl (fun w e => w.stopArray e.1 0x92 0x92) late))) ∧
    exec (.pmbusPoll rs) s = .next (s.commit ((List.range 38).foldl (fun w d =>
      if (w.domain d).pg then
        let v := if d < 16 then w.moveCore d else w
        v.modDomain d (fun x => { x with powers := (v.railPower d :: x.powers).take 100 })
      else w) (rs.foldl Work.railAnswer w))) ∧
    exec (.pmbusAlert segment rs) s = .next (s.commit
      ((rs.filter (fun r => r.answered && segmentOf r.dom == segment && decide (r.rail < (railRatings r.dom).length))).foldl
        (fun w r => w.modDomain r.dom (fun x => { x with
          rails := tmod {} x.rails r.rail (fun (v : Rail) => { v with status := r.status }) })) w)) ∧
    (guardCap d ≠ 0 → (w.domain d).pg = true → exec (.currentGuardSample d ma) s = .next (s.commit
      (if cap < ma ∧ d < 16 then sample.addReg (0x6000 + d) 0x10 (sample.gatedCycles d) else sample))) ∧
    exec .powerCapLoop s = .next (s.commit ((List.range 32).foldl (fun w d =>
      let x := w.domain d
      let cap := w.capInForce d
      let p := Int.ofNat x.power10
      if x.st ≠ .on then w
      else if d < 16 then
        (if cap < p then w.modDomain d (fun x => { x with capMHz := max 500 (x.capMHz - 25) })
         else if p * 100 ≤ cap * 95 then w.modDomain d (fun x => { x with capMHz := min 1050 (x.capMHz + 25) }) else w)
      else if cap < p then w.modHutch (d - 16) (fun h => { h with powerLimited := true })
      else if p * 100 ≤ cap * 95 then w.modHutch (d - 16) (fun h => { h with powerLimited := false })
      else w) w))

/-- A reading is kept, its group judged and its limits applied, and the slope of a group's readings over the last second decides
on a sudden stop (that a reading comes some ns after the command before it is its operand); the throttles are passed each
millisecond and a new hot one is counted and told; a trip takes every domain down and drives THERM_TRIP_N; the airflow
estimate moves the cooling state; COOL_FAIL_N stops the panel suddenly once it runs, and its end begins the calm from which
cooling recovers, 640 W each 10 s. Rules: R401, R403, R404, R406, R407. -/
def Obligations.HeatIsHeld : Prop :=
  ∀ (s : State) (stack : Bool) (n after : Nat) (reading : Int),
    let w := s.work
    let read := (w.reach (w.now + after)).modSensor stack n (fun x => { x with reading := some reading })
    let failed : Work := { w with coolFailPin := true }
    let later := w.reach (w.cooling.raisedAt + 10000000000)
    let cap := min later.airAllows (later.cooling.capW + 640)
    let raised : Work := { later with cooling := { later.cooling with capW := cap, raisedAt := later.now, goodSince := none } }
    let est : Work := { w with cooling := { w.cooling with
      rest := match w.airEstimate with | some x => (x :: w.cooling.rest).take 60 | none => w.cooling.rest
      trend := match w.trendReading with | some r => ((r, w.panelPower) :: w.cooling.trend).take 301 | none => [] } }
    let slow := decide (est.airWarn < est.cooling.mean) || memoryTrend est.cooling.trend
    let warned := (est.coolingTo 1).event 2 0 0 0 (unsigned 64 (est.coolingTo 1).cooling.mean)
    let calm := w.reach (w.cooling.calmSince + 30000000000)
    let told := (w.alert 3).setReg 0x6400 0x0D n
    let dark := (List.range 37).foldl (fun w d =>
      if (w.domain d).enabled then w.pullLow d .trip else w.modDomain d (fun x => { x with st := .trip, enableWaits := false })) told.loseAll
    let rootless := if dark.root.who = 1 then dark.loseRoot else dark
    let l := leaderOf stack n
    let judged := (read.judgeGroup stack l).groupLimits stack l
    (n < (if stack then 1024 else 1846) → judged.groupReading stack l = none →
      exec (.sensorRead stack n reading after) s = .next (s.commit judged.keepRegs)) ∧
    (∀ g, n < (if stack then 1024 else 1846) → judged.groupReading stack l = some g →
      let seen := judged.modSensor stack l (fun x => x.taken judged.now (if stack then 16 * g else g))
      let slope := (seen.sensor stack l).slope
      let busy : Work := if 8 ≤ slope then { seen with cooling := { seen.cooling with calmSince := seen.now } } else seen
      exec (.sensorRead stack n reading after) s = .next (s.commit
        (if 32 < slope ∧ (stack = true ∨ l < 1808) then busy.suddenStop 7 (sensorNumber stack l) else busy).keepRegs)) ∧
    exec .junctionThrottle s = .next (s.commit ((List.range 480).foldl (fun w k =>
      let x : Throttle := tget {} w.throttles k
      let y := Throttle.pass s.work.now (decide (k < 416)) (w.throttleReading k) x
      if y = x then w
      else if y.hot && !x.hot then (({ w with throttles := tput w.throttles k y } : Work).addReg 0x6400 0x0A 1).interrupt 11
      else { w with throttles := tput w.throttles k y }) { w with cooling := w.cooling.lift w.now })) ∧
    (n < 1808 ∨ 1812 ≤ n ∧ n < 1846 → exec (.thermalTrip n) s = .next (s.commit
      ((({ rootless with thermTrip := true } : Work).event 0 0 7 n 0).interrupt 11).keepRegs)) ∧
    (w.cooling.st = 2 ∨ w.cooling.st = 0 ∧ slow = false → exec .airflowEstimate s = .next (s.commit est)) ∧
    (w.cooling.st = 0 → slow = true → exec .airflowEstimate s = .next (s.commit
      ({ warned with cooling := { warned.cooling with raisedAt := warned.now, goodSince := none } } : Work).slowLoss)) ∧
    (w.cooling.st = 1 → exec .airflowEstimate s = .next (s.commit est.slowLoss)) ∧
    (w.cooling.st = 3 → exec .airflowEstimate s = .next (s.commit
      { est with cooling := { est.cooling with capW := min est.cooling.capW est.airAllows } })) ∧
    (exec .coolFailNAssert s = .next (s.commit (if w.boot.done < 2 then failed else failed.suddenStop 0 0))) ∧
    (w.coolFailPin = true → exec .coolFailNDeassert s = .next (s.commit
      { w with coolFailPin := false, cooling := { w.cooling with calmSince := w.now } })) ∧
    (w.cooling.st = 2 → w.calm = true → exec .coolingRecovery s = .next (s.commit
      (({ calm with cooling := { calm.cooling with capW := 2560, raisedAt := calm.now } } : Work).coolingTo 3))) ∧
    (w.cooling.st = 3 → exec .coolingRecovery s = .next (s.commit (if cap = later.airAllows
      then raised.coolingTo (if raised.airWarn < raised.cooling.mean then 1 else 0) else raised)))


/-! ### Start-up, security and faults -/

/-- Start-up: PANEL_RST_N low for 10 µs, or PG of the always-on rail falling, resets the panel; the ROM takes the first good slot
of the leading Sideboard, else the other Sideboard leads, else no one (the record then has the status of the slot tried last,
the model's choice, log entry 115); the root is board A's clock, else the host die's, else none; the host die comes up or its
step fails and the panel goes on, and a mark of 2 skips a step. Rules: R376, R412, R417. -/
def Obligations.StartUpBegins : Prop :=
  ∀ (s : State) (lowNs straps refclk width rate : Nat) (aOk bOk hostLock ok fell : Bool),
    let w := s.work
    let drawn := w.drawMs 900
    let b := w.boot
    let fresh : Work := { w with boot := { b with
      marks := b.newMarks b.lastRoot, clearMark := [], service := b.serviceLeft, starts := (b.starts + 1) % 2 ^ 32, boardB := bOk
      runs := ([⟨0, 0, 0, (b.starts + 1) % 2 ^ 32, 0, 0⟩] :: b.runs).take 9
      nodeId := straps % 32, activeSlot := b.nextSlot, st := 0, lead := 2 } }
    let rom := (fresh.loadFlash.startupDefects.domainOn 37).drawMs 200
    let alt := rom.2.boot.markOf 0x100 == 1
    let order := if alt then [1, 0] else [rom.2.boot.activeSlot, 1 - rom.2.boot.activeSlot]
    let slotA := if aOk then rom.2.bootSlot 0 order else none
    let slotB := if bOk then rom.2.bootSlot 1 order else none
    (fell = true ∨ 10000 ≤ lowNs → exec (.panelRstNAssert lowNs fell) s = .next (s.commit w.afterReset)) ∧
    (fell = false → lowNs < 9400 → exec (.panelRstNAssert lowNs fell) s = .next (s.commit w)) ∧
    (w.due 0x100 = true →
      (∀ n, slotA = some n → let v := (rom.2.runSlot n).checkTable
        exec (.startupRomSelfTest aOk bOk straps) s = .next (s.commit
          ((({ v with boot := { v.boot with lead := 0, standby := bOk } } : Work).journal 0x100 (ofBool alt) 1 rom.1 0).readyChanged.stepEnds
            rom.1))) ∧
      (∀ n, slotA = none → slotB = some n → exec (.startupRomSelfTest aOk bOk straps) s = .next (s.commit
        ((((rom.2.runSlot n).checkTable.takeLead (if aOk then 1 else 0)).journal 0x100 1 1 rom.1 0).stepEnds rom.1))) ∧
      (slotA = none → slotB = none → exec (.startupRomSelfTest aOk bOk straps) s = .next (s.commit
        ((rom.2.journal 0x100 (ofBool alt) 2 rom.1 (if bOk = true then rom.2.slotRefusal (2 + order.getD 1 0)
          else if aOk = true then rom.2.slotRefusal (order.getD 1 0) else 0)).stepEnds rom.1)))) ∧
    (w.due 0x200 = true → s.coolFailPin = false →
      let byA := aOk && (w.attachGood 25 || w.attachGood 24)
      let who := if byA then 0 else if bit refclk 1 && !bit refclk 2 && !(w.domain 36).faulted && hostLock then 1 else 0xFF
      ∃ t, exec (.startupClockRoot aOk hostLock refclk) s = .next t ∧ t.root.who = who ∧ t.root.running = decide (who ≠ 0xFF) ∧
        t.root.refclk = refclk % 8) ∧
    (w.due 0x300 = true →
      (w.boot.markOf 0x300 = 2 → exec (.startupHostDie ok width rate) s = .next (s.commit ((w.journal 0x300 2 3 0 0).stepEnds 0))) ∧
      (w.boot.markOf 0x300 ≠ 2 → (w.domain 36).faulted = true →
        exec (.startupHostDie ok width rate) s = .next (s.commit ((w.journal 0x300 0 2 0 0x93).stepEnds 0))) ∧
      (w.boot.markOf 0x300 ≠ 2 → (w.domain 36).faulted = false → (w.domain 36).st = .on →
        (ok = true → exec (.startupHostDie ok width rate) s = .next (s.commit
          (((({ drawn.2 with boot := { drawn.2.boot with hostReady := true } } : Work).readyChanged.cxlTrain width rate).journal
            0x300 0 1 drawn.1 0).stepEnds drawn.1))) ∧
        (ok = false → exec (.startupHostDie ok width rate) s = .next (s.commit
          (((if drawn.2.root.who = 1 then drawn.2 else drawn.2.pullLow 36 .off).journal 0x300 0 2 drawn.1 0).stepEnds drawn.1)))))

/-- Start-up of the rest: the two Hutches of a pair together; a bay by its tests while no other ramps, its failure journalled and
the panel going on, or in the service state when the root bay fails again; the ports of the edges, whose step begins with the
first of the four. What has had a supply fault stays off. Rules: R417, R418. -/
def Obligations.StartUpGoesOn : Prop :=
  ∀ (s : State) (k b e : Nat) (west east : MemTest) (test : BayTest) (tests : List PortTest),
    let w := s.work
    let step := 0x500 + b
    let on := w.startDomain b
    let found := (on.bayResults b test).installMap
    let edge := 0x600 + e
    let ms := tests.foldl (fun n t => max n t.ms) 0
    let ks := edgePorts (32 + e)
    let up := (tests.filter (fun t => ks.contains t.port)).foldl (fun v t =>
      v.bringUpPort t.port (if w.boot.markOf edge = 1 then halvedTest t else t)) (w.startDomain (32 + e))
    let down := ks.filter (fun k => up.peerRole k != 0 && !up.portUp k)
    let fail := fun (v : Work) (l : List Nat) => ({ v with boot := { v.boot with
      failedPorts := v.boot.failedPorts ++ l.filter (fun k => !v.boot.failedPorts.contains k) } } : Work).readyChanged
    let ends := fun (v : Work) outcome ms status => ({ v with boot := { v.boot.record (v.bootNow - v.boot.edgeMs) edge
      (w.boot.markOf edge) outcome ms status with edgeMs := max v.boot.edgeMs ms } } : Work).stepEnds (ms - v.boot.edgeMs)
    (k < 8 → w.due (0x400 + k) = true → exec (.startupMemoryDomain k west east) s = .next (s.commit
      (((w.startMemory k west).startMemory (8 + k) east).stepEnds (max west.ms east.ms)))) ∧
    (b < 16 → w.due step = true → w.rampsNow = false → ¬(b = w.rootBay ∧ w.serviceStays) →
      (w.boot.markOf step = 2 → exec (.startupComputeBay b test) s =
        .next (s.commit (((w.unitsFailed b).journal step 2 3 0 0).stepEnds 0))) ∧
      (w.boot.markOf step ≠ 2 → w.hasPath b = true → w.root.lost = false → w.root.running = true → (w.domain b).faulted = true →
        exec (.startupComputeBay b test) s = .next (s.commit (w.bayFails b 0 0x93))) ∧
      (w.boot.markOf step ≠ 2 → w.hasPath b = true → w.root.lost = false → w.root.running = true → (w.domain b).faulted = false →
        (test.pgOk = false → (w.domain b).st ≠ .on →
          exec (.startupComputeBay b test) s = .next (s.commit ((w.startFault b).bayFails b test.ms 0x93))) ∧
        (test.pgOk = true ∨ (w.domain b).st = .on → test.timedOut = true ∨ 10000 < test.ms → exec (.startupComputeBay b test) s =
          .next (s.commit ((on.pullLow b .off).bayFails b test.ms 0))) ∧
        (test.pgOk = true ∨ (w.domain b).st = .on → test.timedOut = false → test.ms ≤ 10000 → exec (.startupComputeBay b test) s =
          .next (s.commit (if b = 8 ∧ found.root.who = 0 ∧ (found.activeSite boardASites).isNone
            then (found.loseRoot.keepRegs.pullLow b .off).bayFails b test.ms 0
            else ((found.joinTree.bayReady b).journal step (w.boot.markOf step) 1 test.ms 0).stepEnds test.ms)))) ∧
      (w.boot.markOf step ≠ 2 → w.hasPath b = false ∨ w.root.lost = true ∨ w.root.running = false →
        exec (.startupComputeBay b test) s = .next (s.commit (w.bayFails b 0 0)))) ∧
    (b < 16 → w.due step = true → w.rampsNow = false → b = w.rootBay → w.serviceStays = true → exec (.startupComputeBay b test) s =
      .next (s.commit ((w.unitsFailed b).journal step 1 2 0 0).toService)) ∧
    (e < 4 → w.due edge = true →
      (w.boot.markOf edge = 2 → exec (.startupPortEdge e tests) s =
        .next (s.commit (ends (fail w ks) 3 0 0))) ∧
      (w.boot.markOf edge ≠ 2 → (w.domain (32 + e)).faulted = true → exec (.startupPortEdge e tests) s =
        .next (s.commit (ends (fail w ks) 2 0 0x93))) ∧
      (w.boot.markOf edge ≠ 2 → (w.domain (32 + e)).faulted = false → exec (.startupPortEdge e tests) s = .next (s.commit
        (ends (fail up down).joinLeaves (if down = [] ∧ ms ≤ 30000 then 1 else 2) ms 0))))

/-- The leading Sideboard sends a heartbeat each 10 ms, and the standby takes over 100 ms after the last; a mark that the operator
clears is noted for the next start-up. Rules: R414, R415, R421. -/
def Obligations.SideboardsKeepWatch : Prop :=
  ∀ (s : State) (cause step : Nat),
    let w := s.work
    let beat := w.reach (w.boot.beatAt + 10000000)
    (w.boot.lead = 0 → 0 < w.boot.done → exec .sideboardHeartbeatSend s =
      .next (s.commit { beat with boot := { beat.boot with beatAt := beat.now } })) ∧
    (w.boot.lead = 0 → w.standsBy = true →
      let v := if cause = 2 then w.reach (w.boot.beatAt + 100000000) else w
      exec (.sideboardTakeover cause) s = .next (s.commit (v.takeLead cause))) ∧
    exec (.clearMark step) s = .next (s.commit
      ({ w with boot := { w.boot with clearMark := w.boot.clearMark.filter (· != step) ++ [step] } } : Work).accept)

/-- Firmware goes segment by segment into the inactive slot of both flash dies, and the last segment verifies it; one out of order
is refused with 0x7B and one left for a second is abandoned; Activate names the slot of the next start-up, and CommitVersion
burns the anti-rollback count where the version may be committed, and is refused with 0x81 elsewhere. Rules: R430. -/
def Obligations.FirmwareIsUpdated : Prop :=
  ∀ (s : State) (offset slot version : Nat) (data : List Byte) (more : Bool),
    let w := s.work
    let next := match w.boot.writing with
      | some (n, t) => if w.now ≤ t + 1000000000 then n else 0
      | none => 0
    let put := w.modSpare (fun x => if offset = 0 then { image := data } else { x with image := x.image ++ data })
    (offset = 0 ∨ offset = next → exec (.firmwareWrite offset data more) s = .next (s.commit
      (if more then ({ put with boot := { put.boot with writing := some (offset + data.length, w.now) } } : Work).accept
       else ({ put with boot := { put.boot with writing := none } } : Work).verifySpare.accept))) ∧
    (offset ≠ 0 → offset ≠ next → exec (.firmwareWrite offset data more) s = .next (s.commit (w.refuse 0x7B))) ∧
    (∀ n t, w.boot.writing = some (n, t) →
      let gone := (w.reach (t + 1000000000)).modSpare (fun _ => {})
      exec .firmwareWriteAbandon s = .next (s.commit { gone with boot := { gone.boot with writing := none } })) ∧
    (slot < 2 → exec (.activate slot) s = .next (s.commit
      (({ w with boot := { w.boot with nextSlot := slot } } : Work).tellSecurity 0).accept)) ∧
    (w.boot.burn = none → ∃ t, exec (.commitVersion version) s = .next t ∧
      t.fuses.securityVersion = (if w.mayCommit version then max s.fuses.securityVersion version else s.fuses.securityVersion) ∧
      t.work.reg 0x8000 0x0D = if w.mayCommit version then 0 else 0x81)

/-- Operator keys are written and cleared where the path may, and refused with 0x82 elsewhere; an attestation report holds the
nonce's body with its signature, and another while one is made is refused with 0x84, which leaves the first as it stands.
Rules: R432, R433. -/
def Obligations.KeysAndAttestation : Prop :=
  ∀ (s : State) (p : Path) (data : List Byte) (slot : Nat),
    let w := s.work
    let k := leAt data 0 1
    let a := w.draw
    let b := a.2.draw
    let body := b.2.reportBody data
    let sig := (Config.falconSign (Config.shake256 body 64) a.1).take 1280
    (data.length = 1572 → k < 8 → allZero (slice data 1 3) = true →
      exec (.keySlotWrite p data) s = .next (s.commit (if w.mayWriteKey p k
        then (({ w with boot := { w.boot with keys := tput w.boot.keys k (data.drop 4) } } : Work).tellSecurity 0).accept
        else (w.tellSecurity 0x82).accept))) ∧
    (slot < 8 → exec (.keySlotClear p slot) s = .next (s.commit
      (if w.ownerSession p = true ∧ (slot = 0 → w.boot.keys.any (fun e => e.1 != 0) = false)
       then (({ w with boot := { w.boot with keys := tdel w.boot.keys slot } } : Work).tellSecurity 0).accept
       else (w.tellSecurity 0x82).accept))) ∧
    (data.length = 32 →
      (w.now < w.boot.attestUntil → exec (.attest data) s = .next (s.commit (w.refuse 0x84))) ∧
      (w.boot.attestUntil ≤ w.now → exec (.attest data) s = .next (s.commit
        (({ b.2 with boot := { b.2.boot with
          report := b.2.lastReport, attested := body ++ toBytes sig.length 2 ++ padTo 1280 sig, attestUntil := b.2.now + b.1 % 50000001 } } : Work).tellSecurity
            0).accept)))

/-- Marks and records: an operator clears a site's suspect marks, clears a record of the defect table and adds one that its checks
allow, which what uses the unit follows at once; the known-answer set runs on an idle array and a failure is counted against
it; an incident ends 10 s after its last event of an error or worse; the first-failure record is cleared, and an ended alert
acknowledged, ALERT_N with the last one. Rules: R39, R438, R440, R446, R447, R448. -/
def Obligations.FaultsAreRecorded : Prop :=
  ∀ (s : State) (n a site : Nat) (data : List Byte),
    let w := s.work
    let x := s.array a
    let tested := (w.addReg 0xB000 0x14 1).modArr a Arr.afterKat
    let t := w.reach (w.log.lastBad + 10000000000)
    let left := w.log.alerts ^^^ (w.log.alerts &&& (n &&& w.endedAlerts))
    (site < 416 → exec (.clearArraySuspect site) s = .next (s.commit
      ({ w with marks := w.marks.map (fun e => if e.1 / 20 = site then (e.1, { e.2 with suspect := false }) else e) } : Work).accept)) ∧
    (n < w.defects.length → exec (.clearRecord n) s = .next (s.commit
      ({ w with defectMarks := w.defectMarks.filter (· != n) ++ [n] } : Work).accept)) ∧
    (data.length = 16 → (defectOf data).operatorOk = true →
      exec (.addRecord data) s = .next (s.commit (w.unitFails (defectOf data)).accept)) ∧
    (∀ f p, w.physical (a / 16) (a % 16) = some f → w.arrPresent a = true → x.task = none → x.free = true → x.st = .empty →
      exec (.katRun a none) s = .next (s.commit tested) ∧
      exec (.katRun a (some p)) s = .next (s.commit ((tested.addReg 0xB000 0x15 1).arrayFails f 4 p))) ∧
    (w.log.incident = true → exec .incidentClose s = .next (s.commit { t with log := t.log.close })) ∧
    exec .clearFirstFailure s = .next (s.commit
      ({ w with log := { w.log with firstFailure := [], firstFailed := false, firstRegs := [] } } : Work).accept) ∧
    exec (.alertAck n) s = .next (s.commit
      ((({ w with log := { w.log with alerts := left }, alertPin := left != 0 } : Work).setReg 0xA000 9 left).accept))
end

