-- ==== Sys2Proof/Laws/Tables.lean ====
section
/-! SUPPORT. Reading a table after an entry of it has been written, and the arrays, cells and engines held so. -/

namespace Sys2Proof.Machine

@[simp] theorem tget_tput_same {V : Type} (d v : V) (t : List (Nat × V)) (k : Nat) : tget d (tput t k v) k = v := by
  induction t with
  | nil => simp [tput, tget]
  | cons e t ih => unfold tput; split <;> simp_all [tget]

theorem tget_tput_ne {V : Type} (d v : V) (t : List (Nat × V)) {j k : Nat} (h : j ≠ k) : tget d (tput t k v) j = tget d t j := by
  induction t with
  | nil => simp [tput, tget, Ne.symm h]
  | cons e t ih => unfold tput; split <;> simp_all [tget, Ne.symm h]

theorem tput_tput {V : Type} (v w : V) (t : List (Nat × V)) (k : Nat) : tput (tput t k v) k w = tput t k w := by
  induction t with
  | nil => simp [tput]
  | cons e t ih => rcases e with ⟨j, u⟩; by_cases h : j = k <;> simp [tput, h, ih]

theorem find_tput {V : Type} (t : List (Nat × V)) (k : Nat) (v : V) : (tput t k v).find? (fun e => e.1 == k) = some (k, v) := by
  induction t with
  | nil => simp [tput]
  | cons e t ih => rcases e with ⟨j, u⟩; by_cases h : j = k <;> simp [tput, h, ih]

/-- An object reads as the value written to it. -/
@[simp] theorem reg_setReg (w : Work) (i j v : Nat) : (w.setReg i j v).reg i j = v := by
  unfold Work.reg Work.setReg; dsimp only; rw [find_tput]

@[simp] theorem arr_modArr (w : Work) (a : Nat) (f : Arr → Arr) : (w.modArr a f).arr a = f (w.arr a) := tget_tput_same _ _ _ _

theorem arr_modArr_ne (w : Work) {a b : Nat} (f : Arr → Arr) (h : b ≠ a) : (w.modArr a f).arr b = w.arr b := tget_tput_ne _ _ _ h

theorem modArr_modArr (w : Work) (a : Nat) (f g : Arr → Arr) : (w.modArr a f).modArr a g = w.modArr a (fun x => g (f x)) := by
  simp [Work.modArr, tmod, tput_tput]

@[simp] theorem array_commit_modArr (s : State) (w : Work) (a : Nat) (f : Arr → Arr) :
    (s.commit (w.modArr a f)).array a = f (w.arr a) := tget_tput_same _ _ _ _

theorem array_commit_modArr_ne (s : State) (w : Work) {a b : Nat} (f : Arr → Arr) (h : b ≠ a) :
    (s.commit (w.modArr a f)).array b = w.arr b := tget_tput_ne _ _ _ h

@[simp] theorem cell_modCell (x : Arr) (p : Nat) (f : Cell → Cell) : (x.modCell p f).cell p = f (x.cell p) := tget_tput_same _ _ _ _

theorem cell_modCell_ne (x : Arr) {p q : Nat} (f : Cell → Cell) (h : q ≠ p) : (x.modCell p f).cell q = x.cell q :=
  tget_tput_ne _ _ _ h

/-- The cell that a table of cells with one entry replaced holds there. -/
theorem cellAt {y : Arr} {t : List (Nat × Cell)} {p : Nat} {c : Cell} (h : y.cells = tput t p c) : y.cell p = c := by
  unfold Arr.cell; rw [h]; exact tget_tput_same _ _ _ _

/-- The channel that a table of channels with one entry replaced holds there. -/
theorem chanAt {y : Arr} {t : List (Nat × ChanEnd)} {p : Nat} {c : ChanEnd} (h : y.chans = tput t p c) : y.chan p = c := by
  unfold Arr.chan; rw [h]; exact tget_tput_same _ _ _ _

/-- A table written out by a function has its value at each of its keys. -/
theorem tget_map {V : Type} (d : V) (f : Nat → V) : ∀ (l : List Nat) (p : Nat), p ∈ l → tget d (l.map (fun q => (q, f q))) p = f p
  | [], _, h => nomatch h
  | x :: l, p, h => by
    simp only [List.map_cons, tget]
    split
    · rename_i hx; rw [hx]
    · rename_i hx
      rcases List.mem_cons.mp h with h | h
      · exact absurd h.symm hx
      · exact tget_map d f l p h

end Sys2Proof.Machine
end

