-- ==== Sys2Proof/Laws/Cells.lean ====
section
/-! SUPPORT. What the firing of a cell instruction can do: one lemma for every instruction that fires by the common rule. -/

namespace Sys2Proof.Machine

/-- Where the firing rule holds, the common firing leaves the state with the fired cell in place. -/
theorem fire_next (s : State) (a p lo hi : Nat) (op : Env → Cell → Nat → Eff)
    (h : s.mayFire a p lo hi (op (s.env a) (s.cell a p) (s.instr a p)) = true) :
    run (fire a p (ops lo hi) op) s = .next (s.fired a p (op (s.env a) (s.cell a p) (s.instr a p))) := by
  simp only [State.mayFire, Bool.and_eq_true, decide_eq_true_eq, Bool.not_eq_true'] at h
  obtain ⟨⟨⟨⟨⟨⟨⟨h1, h2⟩, h3⟩, h4⟩, h5⟩, h6⟩, h7⟩, h8⟩ := h
  have hrow : ops lo hi (iOp (s.instr a p)) = true := by simp [ops, h3, h4]
  have hgo : (Work.arr s.work a).issues = true ∧ (Arr.cell (Work.arr s.work a) p).parked = false ∧
      ops lo hi (iOp (Arr.cell (Work.arr s.work a) p).instr) = true := ⟨h1, h2, hrow⟩
  obtain ⟨g1, g2, g3⟩ := hgo
  have hf : (Arr.cell (Work.arr s.work a) p).fired (Work.arr s.work a).env (Arr.cell (Work.arr s.work a) p).instr
      (op (Work.arr s.work a).env (Arr.cell (Work.arr s.work a) p) (Arr.cell (Work.arr s.work a) p).instr) =
      some ((s.cell a p).afterFiring (op (s.env a) (s.cell a p) (s.instr a p))) := by
    have hc : ((op (s.env a) (s.cell a p) (s.instr a p)).ready && (s.cell a p).outsFree (op (s.env a) (s.cell a p) (s.instr a p)).outs &&
        (s.cell a p).noBarrier (s.env a).epoch (s.instr a p) &&
        (op (s.env a) (s.cell a p) (s.instr a p)).need.all (fun d => ((s.cell a p).head (s.env a).epoch d).isSome)) = true := by
      simp only [Bool.and_eq_true]; exact ⟨⟨⟨h5, h6⟩, h7⟩, h8⟩
    exact if_pos hc
  unfold run fire
  simp only [g1, g2, g3, hf]
  rfl

/-- A firing keeps memory, fuses, the queue and everything of the panel but its arrays. -/
theorem fire_frame (s : State) (a p : Nat) (row : Nat → Bool) (op : Env → Cell → Nat → Eff) :
    ∃ l, run (fire a p row op) s = .next { s with arrays := l } := by
  unfold run fire
  simp only []
  split
  · split
    · exact ⟨_, rfl⟩
    · exact ⟨s.arrays, rfl⟩
  · exact ⟨s.arrays, rfl⟩

/-- All that a firing can do: nothing, or one cell of the array that is not parked takes a new value. -/
theorem fire_cases (s : State) (a p : Nat) (row : Nat → Bool) (op : Env → Cell → Nat → Eff) :
    fire a p row op s.work = s.work ∨ ((s.cell a p).parked = false ∧ ∃ c', fire a p row op s.work =
      s.work.modArr a (fun x => { x.modCell p (fun _ => c') with fired := true, moved := true, firedSince := true })) := by
  unfold fire; simp only []
  split
  · split
    · right; refine ⟨?_, _, rfl⟩
      rename_i h _ _ _
      simp only [Bool.and_eq_true, Bool.not_eq_true'] at h
      exact h.1.2
    · left; rfl
  · left; rfl

/-- Going to the next instruction changes neither paths nor queues. -/
theorem sequence_keeps (c : Cell) (w : Nat) (l : Bool) :
    (c.sequence w l).parked = c.parked ∧ (c.sequence w l).paths = c.paths ∧ ∀ d, (c.sequence w l).queue d = c.queue d := by
  unfold Cell.sequence; simp only []
  repeat (first | exact ⟨rfl, rfl, fun _ => rfl⟩ | split)

/-- Taking heads from the queues named changes no other queue. -/
theorem dequeue_keeps (l : List Nat) : ∀ c : Cell, (c.dequeue l).parked = c.parked ∧ (c.dequeue l).paths = c.paths ∧
    ∀ d, d ∉ l → (c.dequeue l).queue d = c.queue d := by
  induction l with
  | nil => intro c; exact ⟨rfl, rfl, fun _ _ => rfl⟩
  | cons x l ih =>
    intro c
    obtain ⟨h1, h2, h3⟩ := ih (c.setQueue x (c.queue x).tail)
    refine ⟨h1, h2, fun d hd => ?_⟩
    simp only [List.mem_cons, not_or] at hd
    rw [Cell.dequeue, h3 d hd.2]
    exact tget_tput_ne _ _ _ hd.1

/-- A cell after a firing: parked and paths as its effect says, and every queue that it did not consume as its effect says. -/
theorem afterFiring_keeps (c : Cell) (e : Eff) : (c.afterFiring e).parked = e.cell.parked ∧
    (c.afterFiring e).paths = e.cell.paths ∧ ∀ d, d ∉ e.deq → (c.afterFiring e).queue d = e.cell.queue d := by
  obtain ⟨h1, h2, h3⟩ := dequeue_keeps e.deq (e.cell.flag e.flags e.flushes)
  unfold Cell.afterFiring; simp only []
  split
  · exact ⟨h1, h2, h3⟩
  · split
    · obtain ⟨g1, g2, g3⟩ := sequence_keeps ({ ({ ((e.cell.flag e.flags e.flushes).dequeue e.deq) with
          flight := ((e.cell.flag e.flags e.flushes).dequeue e.deq).flight ++ e.flights } : Cell) with run := 0 }) c.instr (c.anyLast e.deq)
      exact ⟨g1.trans h1, g2.trans h2, fun d hd => (g3 d).trans (h3 d hd)⟩
    · exact ⟨h1, h2, h3⟩

theorem sequence_flight (c : Cell) (w : Nat) (l : Bool) : (c.sequence w l).flight = c.flight := by
  unfold Cell.sequence; simp only []; repeat (first | rfl | split)

theorem dequeue_flight (l : List Nat) : ∀ c : Cell, (c.dequeue l).flight = c.flight := by
  induction l with
  | nil => exact fun _ => rfl
  | cons d l ih => exact fun c => (ih _).trans rfl

/-- A firing adds what its effect puts in flight to what was. -/
theorem afterFiring_flight (c : Cell) (e : Eff) : (c.afterFiring e).flight = e.cell.flight ++ e.flights := by
  have h : ((e.cell.flag e.flags e.flushes).dequeue e.deq).flight = e.cell.flight := dequeue_flight _ _
  unfold Cell.afterFiring; simp only []
  split
  · exact congrArg (· ++ e.flights) h
  · split
    · exact (sequence_flight _ _ _).trans (congrArg (· ++ e.flights) h)
    · exact congrArg (· ++ e.flights) h

/-- The cell that has fired. -/
theorem fired_cell (s : State) (a p : Nat) (e : Eff) : (s.fired a p e).cell a p = (s.cell a p).afterFiring e := by
  show Arr.cell (State.array _ a) p = _
  have h : (s.fired a p e).array a = _ := tget_tput_same _ _ _ _
  rw [h]
  exact cellAt rfl

/-- The effect of a scalar operation is the token that it yields. -/
theorem opScalar_yields (s : State) (a p kind : Nat) (f : Nat → Nat → Nat → Nat × Nat) :
    opScalar kind f (s.env a) (s.cell a p) (s.instr a p) =
      s.yields a p kind 0 (low32 (f (s.srcA a p) (s.srcB a p) (s.srcC a p)).1) (f (s.srcA a p) (s.srcB a p) (s.srcC a p)).2 := by
  simp only [opScalar, Eff.emit, State.yields, Cell.base, Cell.lastOf, Nat.zero_or, List.nil_append]; rfl

end Sys2Proof.Machine
end

