-- ==== Sys2Proof/Laws/Memory.lean ====
section
/-! SUPPORT. The laws of memory: what a write leaves at every address, and that every operation keeps the canonical form. -/

namespace Sys2Proof.Machine

theorem memWfFrom_mono (m : List Host.Cell) : ∀ lo lo', lo' ≤ lo → memWfFrom lo m = true → memWfFrom lo' m = true := by
  intro lo lo' h hw
  cases m with
  | nil => rfl
  | cons c t =>
    obtain ⟨a, v⟩ := c
    simp only [memWfFrom, Bool.and_eq_true, decide_eq_true_eq] at hw ⊢
    exact ⟨⟨by omega, hw.1.2⟩, hw.2⟩

/-- A byte put at an address keeps the form, from any bound at or below the address. -/
theorem memPut_wfFrom (m : List Host.Cell) :
    ∀ lo a v, lo ≤ a → memWfFrom lo m = true → memWfFrom lo (memPut m a v) = true := by
  induction m with
  | nil =>
    intro lo a v h _
    unfold memPut
    by_cases hv : v = 0
    · rw [if_pos hv]; rfl
    · rw [if_neg hv]; simp only [memWfFrom, Bool.and_eq_true, decide_eq_true_eq, bne_iff_ne, ne_eq]; exact ⟨⟨h, hv⟩, trivial⟩
  | cons c t ih =>
    obtain ⟨b, x⟩ := c
    intro lo a v h hw
    simp only [memWfFrom, Bool.and_eq_true, decide_eq_true_eq] at hw
    obtain ⟨⟨h1, h2⟩, h3⟩ := hw
    unfold memPut
    split
    · split
      · simp only [memWfFrom, Bool.and_eq_true, decide_eq_true_eq]; exact ⟨⟨h1, h2⟩, h3⟩
      · rename_i hlt hv
        simp only [memWfFrom, Bool.and_eq_true, decide_eq_true_eq, bne_iff_ne, ne_eq]
        exact ⟨⟨h, hv⟩, ⟨by omega, by simpa using h2⟩, h3⟩
    · split
      · subst_vars
        split
        · exact memWfFrom_mono t _ _ (by omega) h3
        · rename_i hv
          simp only [memWfFrom, Bool.and_eq_true, decide_eq_true_eq, bne_iff_ne, ne_eq]
          exact ⟨⟨h, hv⟩, h3⟩
      · simp only [memWfFrom, Bool.and_eq_true, decide_eq_true_eq]
        exact ⟨⟨h1, h2⟩, ih _ _ _ (by omega) h3⟩

/-- A byte put anywhere keeps the form. -/
theorem memPut_wf (m : List Host.Cell) (a : Nat) (v : Byte) (h : Memory.wf m = true) : Memory.wf (memPut m a v) = true :=
  memPut_wfFrom m 0 a v (Nat.zero_le _) h

/-- Bytes put at consecutive addresses keep the form. -/
theorem memPuts_wf (bs : List Byte) : ∀ (m : List Host.Cell) (a : Nat), Memory.wf m = true → Memory.wf (memPuts m a bs) = true := by
  induction bs with
  | nil => intro m a h; exact h
  | cons v vs ih => intro m a h; exact ih _ _ (memPut_wf m a v h)

theorem filter_wfFrom (p : Host.Cell → Bool) (m : List Host.Cell) : ∀ lo, memWfFrom lo m = true → memWfFrom lo (m.filter p) = true := by
  induction m with
  | nil => intro lo _; rfl
  | cons c t ih =>
    obtain ⟨b, x⟩ := c
    intro lo hw
    simp only [memWfFrom, Bool.and_eq_true, decide_eq_true_eq] at hw
    rw [List.filter_cons]
    split
    · simp only [memWfFrom, Bool.and_eq_true, decide_eq_true_eq]; exact ⟨hw.1, ih _ hw.2⟩
    · exact memWfFrom_mono _ _ _ (by omega) (ih _ hw.2)

/-- A range zeroed keeps the form. -/
theorem memZero_wf (m : List Host.Cell) (a n : Nat) (h : Memory.wf m = true) : Memory.wf (memZero m a n) = true :=
  filter_wfFrom _ m 0 h

/-- Any changes a command has made keep the form. -/
theorem applyStores_wf (m : List Host.Cell) (h : Memory.wf m = true) : ∀ l : List Store, Memory.wf (applyStores m l) = true
  | [] => h
  | .bytes a bs :: l => memPuts_wf bs _ a (applyStores_wf m h l)
  | .zero a n :: l => memZero_wf _ a n (applyStores_wf m h l)

/-- Below the bound of the form nothing is listed. -/
theorem memGet_below (m : List Host.Cell) : ∀ lo a, a < lo → memWfFrom lo m = true → memGet m a = 0 := by
  induction m with
  | nil => intro _ _ _ _; rfl
  | cons c t ih =>
    obtain ⟨b, x⟩ := c
    intro lo a h hw
    simp only [memWfFrom, Bool.and_eq_true, decide_eq_true_eq] at hw
    unfold memGet
    rw [if_neg (by omega)]
    exact ih (b + 1) a (by omega) hw.2

/-- In the canonical form, a byte put at an address is what is read there, and every other address reads as before. -/
theorem memGet_memPut (m : List Host.Cell) :
    ∀ lo a v x, memWfFrom lo m = true → memGet (memPut m a v) x = (if x = a then v else memGet m x) := by
  induction m with
  | nil =>
    intro lo a v x _
    unfold memPut
    by_cases hv : v = 0
    · rw [if_pos hv]; by_cases hx : x = a
      · rw [if_pos hx, hv]; rfl
      · rw [if_neg hx]
    · rw [if_neg hv]; by_cases hx : x = a
      · subst hx; rw [if_pos rfl]; exact if_pos rfl
      · rw [if_neg hx]; exact if_neg (Ne.symm hx)
  | cons c t ih =>
    obtain ⟨b, y⟩ := c
    intro lo a v x hw
    simp only [memWfFrom, Bool.and_eq_true, decide_eq_true_eq] at hw
    unfold memPut
    split
    · rename_i hlt
      by_cases hx : x = a
      · subst hx
        have h0 : memGet ((b, y) :: t) x = 0 := by
          unfold memGet; rw [if_neg (by omega)]; exact memGet_below t (b + 1) x (by omega) hw.2
        rw [if_pos rfl]
        by_cases hv : v = 0
        · rw [if_pos hv, h0, hv]
        · rw [if_neg hv]; exact if_pos rfl
      · rw [if_neg hx]
        by_cases hv : v = 0
        · rw [if_pos hv]
        · rw [if_neg hv]; exact if_neg (Ne.symm hx)
    · split
      · rename_i hab
        subst hab
        by_cases hx : x = a
        · subst hx
          rw [if_pos rfl]
          by_cases hv : v = 0
          · rw [if_pos hv, hv]; exact memGet_below t (x + 1) x (by omega) hw.2
          · rw [if_neg hv]; exact if_pos rfl
        · rw [if_neg hx]
          by_cases hv : v = 0
          · rw [if_pos hv]; exact (if_neg (Ne.symm hx)).symm
          · rw [if_neg hv]; exact (if_neg (Ne.symm hx)).trans (if_neg (Ne.symm hx)).symm
      · rename_i h1 h2
        by_cases hb : b = x
        · subst hb; rw [if_neg (Ne.symm h2)]; exact (if_pos rfl).trans (if_pos rfl).symm
        · simp only [memGet, if_neg hb]; exact ih (b + 1) a v x hw.2

/-- Bytes put at consecutive addresses, as every address then reads. -/
theorem memGet_memPuts (bs : List Byte) : ∀ (m : List Host.Cell) (a x : Nat), Memory.wf m = true →
    memGet (memPuts m a bs) x = (if a ≤ x ∧ x < a + bs.length then bs.getD (x - a) 0 else memGet m x) := by
  induction bs with
  | nil =>
    intro m a x _
    simp only [memPuts, List.length_nil, Nat.add_zero]
    rw [if_neg (by omega)]
  | cons v vs ih =>
    intro m a x h
    have hp := memGet_memPut m 0 a v x h
    simp only [memPuts, ih _ _ _ (memPut_wf m a v h), hp, List.length_cons]
    by_cases hx : x = a
    · subst hx
      have h1 : ¬ (x + 1 ≤ x ∧ x < x + 1 + vs.length) := by omega
      have h2 : x ≤ x ∧ x < x + (vs.length + 1) := by omega
      rw [if_neg h1, if_pos rfl, if_pos h2, Nat.sub_self]; rfl
    · by_cases hr : a + 1 ≤ x ∧ x < a + 1 + vs.length
      · rw [if_pos hr, if_pos (by omega)]
        obtain ⟨k, rfl⟩ : ∃ k, x = a + 1 + k := ⟨x - (a + 1), by omega⟩
        have e1 : a + 1 + k - (a + 1) = k := by omega
        have e2 : a + 1 + k - a = k + 1 := by omega
        rw [e1, e2]; rfl
      · rw [if_neg hr, if_neg hx, if_neg (by omega)]

/-- A range zeroed, as every address then reads. -/
theorem memGet_memZero (m : List Host.Cell) (a n x : Nat) : memGet (memZero m a n) x = (if a ≤ x ∧ x < a + n then 0 else memGet m x) := by
  induction m with
  | nil => simp [memZero, memGet]
  | cons c t ih =>
    obtain ⟨b, y⟩ := c
    unfold memZero at ih ⊢
    rw [List.filter_cons]
    by_cases hk : (decide (b < a) || decide (a + n ≤ b)) = true
    · rw [if_pos (by simpa using hk)]
      simp only [Bool.or_eq_true, decide_eq_true_eq] at hk
      by_cases hb : b = x
      · subst hb
        have h2 : ¬ (a ≤ b ∧ b < a + n) := by omega
        rw [if_neg h2]; exact (if_pos rfl).trans (if_pos rfl).symm
      · simp only [memGet, if_neg hb]; exact ih
    · rw [if_neg (by simpa using hk)]
      simp only [Bool.or_eq_true, decide_eq_true_eq, not_or] at hk
      by_cases hb : b = x
      · subst hb; rw [ih, if_pos (by omega), if_pos (by omega)]
      · simp only [memGet, if_neg hb]; exact ih

/-- What the newest change to an address left there is what memory holds once the changes are made. -/
theorem memGet_applyStores (m : List Host.Cell) (h : Memory.wf m = true) (x : Nat) : ∀ l : List Store,
    memGet (applyStores m l) x = (match storeAt l x with | some b => b | none => memGet m x)
  | [] => rfl
  | .bytes a bs :: l => by
    rw [applyStores, applyStore, memGet_memPuts _ _ _ _ (applyStores_wf m h l), storeAt]
    split
    · rfl
    · exact memGet_applyStores m h x l
  | .zero a n :: l => by
    rw [applyStores, applyStore, memGet_memZero, storeAt]
    split
    · rfl
    · exact memGet_applyStores m h x l

/-- Of a lost range without `n` bytes from `b`, what covers address `x`. -/
theorem find_ends (b n x : Nat) (e : Nat × Nat × Nat) :
    ((ends b n e).find? (fun e => decide (e.1 ≤ x) && decide (x < e.1 + e.2.1))).map (·.2.2) =
      if b ≤ x ∧ x < b + n then none else if e.1 ≤ x ∧ x < e.1 + e.2.1 then some e.2.2 else none := by
  obtain ⟨i, l, k⟩ := e
  simp only [ends]
  by_cases h1 : min l (b - i) = 0 <;> by_cases h2 : i + l - max i (b + n) = 0 <;>
    simp only [List.filter_cons, List.filter_nil, h1, h2, bne_self_eq_false, bne_iff_ne, ne_eq, not_false_eq_true, if_true,
      List.find?_cons, List.find?_nil, Bool.false_eq_true, if_false]
  all_goals repeat' split
  all_goals first
    | rfl
    | exfalso
      try simp only [Bool.and_eq_true, decide_eq_true_eq, Bool.and_eq_false_iff, decide_eq_false_iff_not] at *
      omega

/-- A byte written is lost no more, and every other byte is as it was (R182, R185, R220). -/
theorem lostAt_carve (l : List (Nat × Nat × Nat)) (b n x : Nat) :
    lostAt (carve l b n) x = if b ≤ x ∧ x < b + n then none else lostAt l x := by
  induction l with
  | nil => simp [carve, lostAt]
  | cons e l ih =>
    have h := find_ends b n x e
    unfold lostAt carve at ih ⊢
    rw [List.flatMap_cons, List.find?_append, Option.map_or, h, ih, List.find?_cons]
    by_cases h1 : b ≤ x ∧ x < b + n
    · simp [h1]
    · by_cases h2 : e.1 ≤ x ∧ x < e.1 + e.2.1
      · simp [h1, h2]
      · have h3 : (decide (e.1 ≤ x) && decide (x < e.1 + e.2.1)) = false := by
          rw [← Bool.decide_and]; exact decide_eq_false h2
        simp [h1, h2, h3]

/-- Work committed leaves memory in form. -/
theorem commit_memOk (s : State) (w : Work) (h : s.memOk = true) : (s.commit w).memOk = true := applyStores_wf s.mem h w.stores

end Sys2Proof.Machine
end

