-- ==== Sys2Proof/Laws/Exec.lean ====
section
/-! SUPPORT. What any command can do to the parts of the state that its work does not hold: the queue, memory, the fuses. -/

namespace Sys2Proof.Machine

/-- The outcome is a next state: the work of some function, committed, and of the fuses at most the anti-rollback count
changed, upwards. -/
def Ran (s : State) (o : Host.Outcome State Fault Refusal) : Prop :=
  ∃ (t : State) (w : Work), o = .next t ∧ t.pending = s.pending ∧ t.mem = applyStores s.mem w.stores ∧ s.fuses.grows t.fuses

/-- The outcome is a next state, and the fuses are as before. -/
def Kept (s : State) (o : Host.Outcome State Fault Refusal) : Prop :=
  ∃ (w : Work), o = .next (s.commit w)

theorem kept_of_run (f : Work → Work) (s : State) : Kept s (run f s) := ⟨f s.work, rfl⟩

theorem ran_of_kept {s : State} {o : Host.Outcome State Fault Refusal} (h : Kept s o) : Ran s o := by
  obtain ⟨w, rfl⟩ := h
  exact ⟨_, w, rfl, rfl, rfl, rfl, rfl, rfl, rfl, rfl, Nat.le_refl _⟩

theorem ran_burning (f : Work → Work) (s : State) : Ran s (runBurning f s) := by
  unfold runBurning
  simp only []
  split
  · exact ⟨_, f s.work, rfl, rfl, rfl, rfl, rfl, rfl, rfl, rfl, Nat.le_refl _⟩
  · exact ⟨_, f s.work, rfl, rfl, rfl, rfl, rfl, rfl, rfl, rfl, Nat.le_max_left _ _⟩

theorem kept_panelRstNAssert (s : State) (lowNs : Nat) (pgFall : Bool) : Kept s (exec (.panelRstNAssert lowNs pgFall) s) := kept_of_run _ s
theorem kept_startupRomSelfTest (s : State) (aOk bOk : Bool) (straps : Nat) : Kept s (exec (.startupRomSelfTest aOk bOk straps) s) := kept_of_run _ s
theorem kept_startupClockRoot (s : State) (aLock hostLock : Bool) (refclk : Nat) : Kept s (exec (.startupClockRoot aLock hostLock refclk) s) := kept_of_run _ s
theorem kept_startupHostDie (s : State) (ok : Bool) (width rate : Nat) : Kept s (exec (.startupHostDie ok width rate) s) := kept_of_run _ s
theorem kept_startupMemoryDomain (s : State) (k : Nat) (west east : MemTest) : Kept s (exec (.startupMemoryDomain k west east) s) := kept_of_run _ s
theorem kept_startupComputeBay (s : State) (b : Nat) (test : BayTest) : Kept s (exec (.startupComputeBay b test) s) := kept_of_run _ s
theorem kept_startupPortEdge (s : State) (edge : Nat) (tests : List PortTest) : Kept s (exec (.startupPortEdge edge tests) s) := kept_of_run _ s
theorem kept_sideboardHeartbeatSend (s : State) : Kept s (exec (.sideboardHeartbeatSend) s) := kept_of_run _ s
theorem kept_sideboardTakeover (s : State) (cause : Nat) : Kept s (exec (.sideboardTakeover cause) s) := kept_of_run _ s
theorem kept_clearRecord (s : State) (record : Nat) : Kept s (exec (.clearRecord record) s) := kept_of_run _ s
theorem kept_addRecord (s : State) (data : List Byte) : Kept s (exec (.addRecord data) s) := kept_of_run _ s
theorem kept_mapRecomputeComplete (s : State) : Kept s (exec (.mapRecomputeComplete) s) := kept_of_run _ s
theorem ran_registerWrite (s : State) (index sub : Nat) (data : List Byte) : Ran s (exec (.registerWrite index sub data) s) := ran_burning _ s
theorem kept_nop (s : State) (a p : Nat) : Kept s (exec (.nop a p) s) := kept_of_run _ s
theorem kept_bar (s : State) (a p : Nat) : Kept s (exec (.bar a p) s) := kept_of_run _ s
theorem kept_ptcfg (s : State) (a p : Nat) : Kept s (exec (.ptcfg a p) s) := kept_of_run _ s
theorem kept_park (s : State) (a p : Nat) : Kept s (exec (.park a p) s) := kept_of_run _ s
theorem kept_scla (s : State) (a p : Nat) : Kept s (exec (.scla a p) s) := kept_of_run _ s
theorem kept_sclb (s : State) (a p : Nat) : Kept s (exec (.sclb a p) s) := kept_of_run _ s
theorem kept_doth (s : State) (a p : Nat) : Kept s (exec (.doth a p) s) := kept_of_run _ s
theorem kept_dotf8 (s : State) (a p : Nat) : Kept s (exec (.dotf8 a p) s) := kept_of_run _ s
theorem kept_doti8 (s : State) (a p : Nat) : Kept s (exec (.doti8 a p) s) := kept_of_run _ s
theorem kept_doti4 (s : State) (a p : Nat) : Kept s (exec (.doti4 a p) s) := kept_of_run _ s
theorem kept_dotmx4 (s : State) (a p : Nat) : Kept s (exec (.dotmx4 a p) s) := kept_of_run _ s
theorem kept_dotmx8 (s : State) (a p : Nat) : Kept s (exec (.dotmx8 a p) s) := kept_of_run _ s
theorem kept_sdoth (s : State) (a p : Nat) : Kept s (exec (.sdoth a p) s) := kept_of_run _ s
theorem kept_sdotf8 (s : State) (a p : Nat) : Kept s (exec (.sdotf8 a p) s) := kept_of_run _ s
theorem kept_sdoti8 (s : State) (a p : Nat) : Kept s (exec (.sdoti8 a p) s) := kept_of_run _ s
theorem kept_sdoti4 (s : State) (a p : Nat) : Kept s (exec (.sdoti4 a p) s) := kept_of_run _ s
theorem kept_sdotmx4 (s : State) (a p : Nat) : Kept s (exec (.sdotmx4 a p) s) := kept_of_run _ s
theorem kept_sdotmx8 (s : State) (a p : Nat) : Kept s (exec (.sdotmx8 a p) s) := kept_of_run _ s
theorem kept_drain (s : State) (a p : Nat) : Kept s (exec (.drain a p) s) := kept_of_run _ s
theorem kept_draincv (s : State) (a p : Nat) : Kept s (exec (.draincv a p) s) := kept_of_run _ s
theorem kept_accld (s : State) (a p : Nat) : Kept s (exec (.accld a p) s) := kept_of_run _ s
theorem kept_accadd (s : State) (a p : Nat) : Kept s (exec (.accadd a p) s) := kept_of_run _ s
theorem kept_fadd (s : State) (a p : Nat) : Kept s (exec (.fadd a p) s) := kept_of_run _ s
theorem kept_fsub (s : State) (a p : Nat) : Kept s (exec (.fsub a p) s) := kept_of_run _ s
theorem kept_fmul (s : State) (a p : Nat) : Kept s (exec (.fmul a p) s) := kept_of_run _ s
theorem kept_ffma (s : State) (a p : Nat) : Kept s (exec (.ffma a p) s) := kept_of_run _ s
theorem kept_fmin (s : State) (a p : Nat) : Kept s (exec (.fmin a p) s) := kept_of_run _ s
theorem kept_fmax (s : State) (a p : Nat) : Kept s (exec (.fmax a p) s) := kept_of_run _ s
theorem kept_iadd (s : State) (a p : Nat) : Kept s (exec (.iadd a p) s) := kept_of_run _ s
theorem kept_isub (s : State) (a p : Nat) : Kept s (exec (.isub a p) s) := kept_of_run _ s
theorem kept_imul (s : State) (a p : Nat) : Kept s (exec (.imul a p) s) := kept_of_run _ s
theorem kept_imin (s : State) (a p : Nat) : Kept s (exec (.imin a p) s) := kept_of_run _ s
theorem kept_imax (s : State) (a p : Nat) : Kept s (exec (.imax a p) s) := kept_of_run _ s
theorem kept_and (s : State) (a p : Nat) : Kept s (exec (.and a p) s) := kept_of_run _ s
theorem kept_or (s : State) (a p : Nat) : Kept s (exec (.or a p) s) := kept_of_run _ s
theorem kept_xor (s : State) (a p : Nat) : Kept s (exec (.xor a p) s) := kept_of_run _ s
theorem kept_shl (s : State) (a p : Nat) : Kept s (exec (.shl a p) s) := kept_of_run _ s
theorem kept_shr (s : State) (a p : Nat) : Kept s (exec (.shr a p) s) := kept_of_run _ s
theorem kept_sar (s : State) (a p : Nat) : Kept s (exec (.sar a p) s) := kept_of_run _ s
theorem kept_fcmp (s : State) (a p : Nat) : Kept s (exec (.fcmp a p) s) := kept_of_run _ s
theorem kept_icmp (s : State) (a p : Nat) : Kept s (exec (.icmp a p) s) := kept_of_run _ s
theorem kept_sel (s : State) (a p : Nat) : Kept s (exec (.sel a p) s) := kept_of_run _ s
theorem kept_steer (s : State) (a p : Nat) : Kept s (exec (.steer a p) s) := kept_of_run _ s
theorem kept_gate (s : State) (a p : Nat) : Kept s (exec (.gate a p) s) := kept_of_run _ s
theorem kept_merge (s : State) (a p : Nat) : Kept s (exec (.merge a p) s) := kept_of_run _ s
theorem kept_cmerge (s : State) (a p : Nat) : Kept s (exec (.cmerge a p) s) := kept_of_run _ s
theorem kept_repl (s : State) (a p : Nat) : Kept s (exec (.repl a p) s) := kept_of_run _ s
theorem kept_rfwd (s : State) (a p : Nat) : Kept s (exec (.rfwd a p) s) := kept_of_run _ s
theorem kept_cvt (s : State) (a p : Nat) : Kept s (exec (.cvt a p) s) := kept_of_run _ s
theorem kept_mxpack (s : State) (a p : Nat) : Kept s (exec (.mxpack a p) s) := kept_of_run _ s
theorem kept_mxunpk (s : State) (a p : Nat) : Kept s (exec (.mxunpk a p) s) := kept_of_run _ s
theorem kept_mov (s : State) (a p : Nat) : Kept s (exec (.mov a p) s) := kept_of_run _ s
theorem kept_obst (s : State) (a p : Nat) : Kept s (exec (.obst a p) s) := kept_of_run _ s
theorem kept_sfu (s : State) (a p : Nat) : Kept s (exec (.sfu a p) s) := kept_of_run _ s
theorem kept_sfuService (s : State) (a col : Nat) : Kept s (exec (.sfuService a col) s) := kept_of_run _ s
theorem kept_resultWriteback (s : State) (a p n : Nat) : Kept s (exec (.resultWriteback a p n) s) := kept_of_run _ s
theorem kept_tokenAccept (s : State) (a p dir : Nat) : Kept s (exec (.tokenAccept a p dir) s) := kept_of_run _ s
theorem kept_passThroughMove (s : State) (a p dir : Nat) : Kept s (exec (.passThroughMove a p dir) s) := kept_of_run _ s
theorem kept_staleTokenRemoval (s : State) (a p dir : Nat) : Kept s (exec (.staleTokenRemoval a p dir) s) := kept_of_run _ s
theorem kept_cellFault (s : State) (a p : Nat) (word : CellWord) : Kept s (exec (.cellFault a p word) s) := kept_of_run _ s
theorem kept_register (s : State) : Kept s (exec (.register) s) := kept_of_run _ s
theorem kept_unregister (s : State) (imageId : Nat) : Kept s (exec (.unregister imageId) s) := kept_of_run _ s
theorem kept_loadArray (s : State) (imageId d k : Nat) (force : Bool) : Kept s (exec (.loadArray imageId d k force) s) := kept_of_run _ s
theorem kept_arrayLoad (s : State) (a : Nat) : Kept s (exec (.arrayLoad a) s) := kept_of_run _ s
theorem kept_closeWaitTimeout (s : State) (a : Nat) : Kept s (exec (.closeWaitTimeout a) s) := kept_of_run _ s
theorem kept_loadWriteComplete (s : State) (a : Nat) : Kept s (exec (.loadWriteComplete a) s) := kept_of_run _ s
theorem kept_arrayRunStart (s : State) (a : Nat) : Kept s (exec (.arrayRunStart a) s) := kept_of_run _ s
theorem kept_drainSuccess (s : State) (a : Nat) : Kept s (exec (.drainSuccess a) s) := kept_of_run _ s
theorem kept_drainDeadline (s : State) (a : Nat) : Kept s (exec (.drainDeadline a) s) := kept_of_run _ s
theorem kept_drainNoProgress (s : State) (a : Nat) : Kept s (exec (.drainNoProgress a) s) := kept_of_run _ s
theorem kept_progressSuspicion (s : State) (a : Nat) : Kept s (exec (.progressSuspicion a) s) := kept_of_run _ s
theorem kept_spillRefill (s : State) (a p dir : Nat) : Kept s (exec (.spillRefill a p dir) s) := kept_of_run _ s
theorem kept_incomingWindowWord (s : State) (a port : Nat) : Kept s (exec (.incomingWindowWord a port) s) := kept_of_run _ s
theorem kept_outgoingWindowWrite (s : State) (a port : Nat) : Kept s (exec (.outgoingWindowWrite a port) s) := by simp only [exec, execOutgoingWindowWrite]; exact kept_of_run _ s
theorem kept_incomingTokenDelivery (s : State) (a port : Nat) : Kept s (exec (.incomingTokenDelivery a port) s) := kept_of_run _ s
theorem kept_openChan (s : State) (pkt : Packet) : Kept s (exec (.openChan pkt) s) := kept_of_run _ s
theorem kept_openRepeat (s : State) (a c : Nat) : Kept s (exec (.openRepeat a c) s) := kept_of_run _ s
theorem kept_grant (s : State) (pkt : Packet) : Kept s (exec (.grant pkt) s) := kept_of_run _ s
theorem kept_reject (s : State) (pkt : Packet) : Kept s (exec (.reject pkt) s) := kept_of_run _ s
theorem kept_openTimeout (s : State) (a : Nat) : Kept s (exec (.openTimeout a) s) := kept_of_run _ s
theorem kept_dataLaunch (s : State) (a port : Nat) : Kept s (exec (.dataLaunch a port) s) := kept_of_run _ s
theorem kept_data (s : State) (pkt : Packet) : Kept s (exec (.data pkt) s) := kept_of_run _ s
theorem kept_credit (s : State) (pkt : Packet) : Kept s (exec (.credit pkt) s) := kept_of_run _ s
theorem kept_closeChan (s : State) (pkt : Packet) : Kept s (exec (.closeChan pkt) s) := kept_of_run _ s
theorem kept_closed (s : State) (pkt : Packet) : Kept s (exec (.closed pkt) s) := kept_of_run _ s
theorem kept_scratchpadAccessComplete (s : State) (access : PadAccess) : Kept s (exec (.scratchpadAccessComplete access) s) := kept_of_run _ s
theorem kept_sramPatrol (s : State) (b corrected : Nat) (bad : List Nat) : Kept s (exec (.sramPatrol b corrected bad) s) := kept_of_run _ s
theorem kept_dramPatrolScrub (s : State) (b corrected : Nat) (bad : List Nat) : Kept s (exec (.dramPatrolScrub b corrected bad) s) := kept_of_run _ s
theorem kept_hostCxlRead (s : State) (dpa bytes : Nat) : Kept s (exec (.hostCxlRead dpa bytes) s) := kept_of_run _ s
theorem kept_move (s : State) (a e : Nat) : Kept s (exec (.move a e) s) := kept_of_run _ s
theorem kept_fill (s : State) (a e : Nat) : Kept s (exec (.fill a e) s) := kept_of_run _ s
theorem kept_copy (s : State) (a e : Nat) : Kept s (exec (.copy a e) s) := kept_of_run _ s
theorem kept_tcopy (s : State) (a e : Nat) : Kept s (exec (.tcopy a e) s) := kept_of_run _ s
theorem kept_invalidate (s : State) (a e : Nat) : Kept s (exec (.invalidate a e) s) := kept_of_run _ s
theorem kept_feed (s : State) (a e : Nat) : Kept s (exec (.feed a e) s) := kept_of_run _ s
theorem kept_collect (s : State) (a e : Nat) : Kept s (exec (.collect a e) s) := kept_of_run _ s
theorem kept_reduce (s : State) (a e : Nat) : Kept s (exec (.reduce a e) s) := kept_of_run _ s
theorem kept_openrx (s : State) (a e : Nat) : Kept s (exec (.openrx a e) s) := kept_of_run _ s
theorem kept_closerx (s : State) (a e : Nat) : Kept s (exec (.closerx a e) s) := kept_of_run _ s
theorem kept_cksave (s : State) (a e : Nat) : Kept s (exec (.cksave a e) s) := kept_of_run _ s
theorem kept_ckload (s : State) (a e : Nat) : Kept s (exec (.ckload a e) s) := kept_of_run _ s
theorem kept_descriptorComplete (s : State) (a e : Nat) : Kept s (exec (.descriptorComplete a e) s) := kept_of_run _ s
theorem kept_barrierArrivalPost (s : State) (a e : Nat) : Kept s (exec (.barrierArrivalPost a e) s) := kept_of_run _ s
theorem kept_crq (s : State) (pkt : Packet) : Kept s (exec (.crq pkt) s) := kept_of_run _ s
theorem kept_creditGrant (s : State) (a w : Nat) : Kept s (exec (.creditGrant a w) s) := kept_of_run _ s
theorem kept_cgr (s : State) (pkt : Packet) : Kept s (exec (.cgr pkt) s) := kept_of_run _ s
theorem kept_crj (s : State) (pkt : Packet) : Kept s (exec (.crj pkt) s) := kept_of_run _ s
theorem kept_crqTimeout (s : State) (a e : Nat) : Kept s (exec (.crqTimeout a e) s) := kept_of_run _ s
theorem kept_wr (s : State) (pkt : Packet) : Kept s (exec (.wr pkt) s) := kept_of_run _ s
theorem kept_mwrStep (s : State) (d : Nat) (pkt : Packet) : Kept s (exec (.mwrStep d pkt) s) := kept_of_run _ s
theorem kept_done (s : State) (pkt : Packet) : Kept s (exec (.done pkt) s) := kept_of_run _ s
theorem kept_ccan (s : State) (pkt : Packet) : Kept s (exec (.ccan pkt) s) := kept_of_run _ s
theorem kept_multicastTimeout (s : State) (a e : Nat) : Kept s (exec (.multicastTimeout a e) s) := kept_of_run _ s
theorem kept_awr (s : State) (pkt : Packet) : Kept s (exec (.awr pkt) s) := kept_of_run _ s
theorem kept_rdreq (s : State) (pkt : Packet) : Kept s (exec (.rdreq pkt) s) := kept_of_run _ s
theorem kept_rddata (s : State) (pkt : Packet) : Kept s (exec (.rddata pkt) s) := kept_of_run _ s
theorem kept_checkUnitLoad (s : State) (data : List Byte) : Kept s (exec (.checkUnitLoad data) s) := kept_of_run _ s
theorem kept_checkUnitReset (s : State) (unit : Nat) : Kept s (exec (.checkUnitReset unit) s) := kept_of_run _ s
theorem kept_linkFrameReceive (s : State) (l : Nat) (frame : LinkFrame) : Kept s (exec (.linkFrameReceive l frame) s) := kept_of_run _ s
theorem kept_linkReplay (s : State) (l : Nat) : Kept s (exec (.linkReplay l) s) := kept_of_run _ s
theorem kept_linkDirectionFails (s : State) (l : Nat) : Kept s (exec (.linkDirectionFails l) s) := kept_of_run _ s
theorem kept_routerHeaderArrival (s : State) (d inPort : Nat) (pkt : Packet) : Kept s (exec (.routerHeaderArrival d inPort pkt) s) := kept_of_run _ s
theorem kept_outputArbitration (s : State) (d out : Nat) : Kept s (exec (.outputArbitration d out) s) := kept_of_run _ s
theorem kept_unreach (s : State) (pkt : Packet) : Kept s (exec (.unreach pkt) s) := kept_of_run _ s
theorem kept_red (s : State) (d : Nat) (pkt : Packet) : Kept s (exec (.red d pkt) s) := kept_of_run _ s
theorem kept_redCombine (s : State) (d n : Nat) : Kept s (exec (.redCombine d n) s) := kept_of_run _ s
theorem kept_reduceDoneTimeout (s : State) (a e : Nat) : Kept s (exec (.reduceDoneTimeout a e) s) := kept_of_run _ s
theorem kept_fmgrTable (s : State) (d : Nat) : Kept s (exec (.fmgrTable d) s) := kept_of_run _ s
theorem kept_fmgrStop (s : State) (d : Nat) : Kept s (exec (.fmgrStop d) s) := kept_of_run _ s
theorem kept_fmgrStopped (s : State) (d : Nat) : Kept s (exec (.fmgrStopped d) s) := kept_of_run _ s
theorem kept_fmgrQuiesced (s : State) (d : Nat) : Kept s (exec (.fmgrQuiesced d) s) := kept_of_run _ s
theorem kept_fmgrSwap (s : State) (d : Nat) : Kept s (exec (.fmgrSwap d) s) := kept_of_run _ s
theorem kept_fmgrSwapped (s : State) (d : Nat) : Kept s (exec (.fmgrSwapped d) s) := kept_of_run _ s
theorem kept_fmgrResume (s : State) : Kept s (exec (.fmgrResume) s) := kept_of_run _ s
theorem kept_tableDrainTimeout (s : State) : Kept s (exec (.tableDrainTimeout) s) := kept_of_run _ s
theorem kept_congestionSample (s : State) (d : Nat) : Kept s (exec (.congestionSample d) s) := kept_of_run _ s
theorem kept_fmgrMapreq (s : State) (d : Nat) : Kept s (exec (.fmgrMapreq d) s) := kept_of_run _ s
theorem kept_fmgrMapdata (s : State) (d window : Nat) (data : List Byte) : Kept s (exec (.fmgrMapdata d window data) s) := kept_of_run _ s
theorem kept_dict (s : State) (pkt : Packet) : Kept s (exec (.dict pkt) s) := kept_of_run _ s
theorem kept_define (s : State) (set : Nat) (data : List Byte) : Kept s (exec (.define set data) s) := kept_of_run _ s
theorem kept_setMode (s : State) (set mode : Nat) : Kept s (exec (.setMode set mode) s) := kept_of_run _ s
theorem kept_newGeneration (s : State) (set : Nat) : Kept s (exec (.newGeneration set) s) := kept_of_run _ s
theorem kept_publish (s : State) (set gen : Nat) : Kept s (exec (.publish set gen) s) := kept_of_run _ s
theorem kept_switchCurrent (s : State) (set gen : Nat) : Kept s (exec (.switchCurrent set gen) s) := kept_of_run _ s
theorem kept_discard (s : State) (set gen : Nat) : Kept s (exec (.discard set gen) s) := kept_of_run _ s
theorem kept_pin (s : State) (set : Nat) : Kept s (exec (.pin set) s) := kept_of_run _ s
theorem kept_unpin (s : State) (set gen : Nat) : Kept s (exec (.unpin set gen) s) := kept_of_run _ s
theorem kept_wrappedKey (s : State) (set : Nat) (data : List Byte) : Kept s (exec (.wrappedKey set data) s) := kept_of_run _ s
theorem kept_ingest (s : State) (set : Nat) (data : List Byte) : Kept s (exec (.ingest set data) s) := kept_of_run _ s
theorem kept_decryptChunk (s : State) (b n : Nat) : Kept s (exec (.decryptChunk b n) s) := kept_of_run _ s
theorem kept_ingestComplete (s : State) (set : Nat) : Kept s (exec (.ingestComplete set) s) := kept_of_run _ s
theorem kept_chunk (s : State) (pkt : Packet) : Kept s (exec (.chunk pkt) s) := kept_of_run _ s
theorem kept_chunkdone (s : State) (pkt : Packet) : Kept s (exec (.chunkdone pkt) s) := kept_of_run _ s
theorem kept_chunkConfirmTimeout (s : State) (b chunk : Nat) : Kept s (exec (.chunkConfirmTimeout b chunk) s) := kept_of_run _ s
theorem kept_undefine (s : State) (set : Nat) : Kept s (exec (.undefine set) s) := kept_of_run _ s
theorem kept_undefineZeroComplete (s : State) (set : Nat) : Kept s (exec (.undefineZeroComplete set) s) := kept_of_run _ s
theorem kept_wstream (s : State) (pkt : Packet) : Kept s (exec (.wstream pkt) s) := kept_of_run _ s
theorem kept_wstreamRun (s : State) (b n : Nat) : Kept s (exec (.wstreamRun b n) s) := kept_of_run _ s
theorem kept_wdone (s : State) (pkt : Packet) : Kept s (exec (.wdone pkt) s) := kept_of_run _ s
theorem kept_update (s : State) (pkt : Packet) : Kept s (exec (.update pkt) s) := kept_of_run _ s
theorem kept_udone (s : State) (pkt : Packet) : Kept s (exec (.udone pkt) s) := kept_of_run _ s
theorem kept_adapterLoad (s : State) (data : List Byte) : Kept s (exec (.adapterLoad data) s) := kept_of_run _ s
theorem kept_release (s : State) (slot : Nat) : Kept s (exec (.release slot) s) := kept_of_run _ s
theorem kept_trackerEnable (s : State) (on : Bool) : Kept s (exec (.trackerEnable on) s) := kept_of_run _ s
theorem kept_admit (s : State) (i : Nat) (data : List Byte) : Kept s (exec (.admitEntry i data) s) := kept_of_run _ s
theorem kept_endStream (s : State) (i : Nat) : Kept s (exec (.endStream i) s) := kept_of_run _ s
theorem kept_retire (s : State) (i : Nat) : Kept s (exec (.retire i) s) := kept_of_run _ s
theorem kept_batchForm (s : State) (set : Nat) : Kept s (exec (.batchForm set) s) := kept_of_run _ s
theorem kept_tstep (s : State) (pkt : Packet) : Kept s (exec (.tstep pkt) s) := kept_of_run _ s
theorem kept_tack (s : State) (pkt : Packet) : Kept s (exec (.tack pkt) s) := kept_of_run _ s
theorem kept_listCreate (s : State) (data : List Byte) : Kept s (exec (.listCreate data) s) := kept_of_run _ s
theorem kept_listDelete (s : State) (list : Nat) : Kept s (exec (.listDelete list) s) := kept_of_run _ s
theorem kept_listPoll (s : State) (list : Nat) : Kept s (exec (.listPoll list) s) := kept_of_run _ s
theorem kept_run (s : State) (d : Nat) : Kept s (exec (.run d) s) := kept_of_run _ s
theorem kept_batch (s : State) (d : Nat) : Kept s (exec (.batch d) s) := kept_of_run _ s
theorem kept_fence (s : State) (d : Nat) : Kept s (exec (.fence d) s) := kept_of_run _ s
theorem kept_fenceComplete (s : State) (d : Nat) : Kept s (exec (.fenceComplete d) s) := kept_of_run _ s
theorem kept_taskPlacement (s : State) (d : Nat) : Kept s (exec (.taskPlacement d) s) := kept_of_run _ s
theorem kept_steal (s : State) (pkt : Packet) : Kept s (exec (.steal pkt) s) := kept_of_run _ s
theorem kept_give (s : State) (pkt : Packet) : Kept s (exec (.give pkt) s) := kept_of_run _ s
theorem kept_stealRetry (s : State) (d : Nat) : Kept s (exec (.stealRetry d) s) := kept_of_run _ s
theorem kept_hotCheck (s : State) (d : Nat) : Kept s (exec (.hotCheck d) s) := kept_of_run _ s
theorem kept_tpush (s : State) (pkt : Packet) : Kept s (exec (.tpush pkt) s) := kept_of_run _ s
theorem kept_pushack (s : State) (pkt : Packet) : Kept s (exec (.pushack pkt) s) := kept_of_run _ s
theorem kept_tdone (s : State) (pkt : Packet) : Kept s (exec (.tdone pkt) s) := kept_of_run _ s
theorem kept_barrive (s : State) (pkt : Packet) : Kept s (exec (.barrive pkt) s) := kept_of_run _ s
theorem kept_bdone (s : State) (pkt : Packet) : Kept s (exec (.bdone pkt) s) := kept_of_run _ s
theorem kept_taskComplete (s : State) (a : Nat) : Kept s (exec (.taskComplete a) s) := kept_of_run _ s
theorem kept_taskAbort (s : State) (a : Nat) : Kept s (exec (.taskAbort a) s) := kept_of_run _ s
theorem kept_timeLimit (s : State) (d k : Nat) (waiting : Bool) : Kept s (exec (.timeLimit d k waiting) s) := kept_of_run _ s
theorem kept_configure (s : State) : Kept s (exec (.configure) s) := kept_of_run _ s
theorem kept_start (s : State) : Kept s (exec (.start) s) := kept_of_run _ s
theorem kept_stop (s : State) : Kept s (exec (.stop) s) := kept_of_run _ s
theorem kept_stopTimeout (s : State) : Kept s (exec (.stopTimeout) s) := kept_of_run _ s
theorem kept_kill (s : State) : Kept s (exec (.kill) s) := kept_of_run _ s
theorem kept_jobEnd (s : State) : Kept s (exec (.jobEnd) s) := kept_of_run _ s
theorem kept_scrubComplete (s : State) : Kept s (exec (.scrubComplete) s) := kept_of_run _ s
theorem kept_edgeFrameReceive (s : State) (k : Nat) (frame : EdgeFrame) : Kept s (exec (.edgeFrameReceive k frame) s) := kept_of_run _ s
theorem kept_edgeReplay (s : State) (k : Nat) : Kept s (exec (.edgeReplay k) s) := kept_of_run _ s
theorem kept_portFailure (s : State) (k cause : Nat) : Kept s (exec (.portFailure k cause) s) := by simp only [exec, execPortFailure]; exact kept_of_run _ s
theorem kept_portRetrain (s : State) (k : Nat) (test : PortTest) : Kept s (exec (.portRetrain k test) s) := kept_of_run _ s
theorem kept_ecrq (s : State) (pkt : Packet) : Kept s (exec (.ecrq pkt) s) := kept_of_run _ s
theorem kept_ecgr (s : State) (pkt : Packet) : Kept s (exec (.ecgr pkt) s) := kept_of_run _ s
theorem kept_ecret (s : State) (pkt : Packet) : Kept s (exec (.ecret pkt) s) := kept_of_run _ s
theorem kept_egressCreditIdle (s : State) (n : Nat) : Kept s (exec (.egressCreditIdle n) s) := kept_of_run _ s
theorem kept_xbarrive (s : State) (pkt : Packet) : Kept s (exec (.xbarrive pkt) s) := kept_of_run _ s
theorem kept_xbdone (s : State) (pkt : Packet) : Kept s (exec (.xbdone pkt) s) := kept_of_run _ s
theorem kept_xsuspect (s : State) (pkt : Packet) : Kept s (exec (.xsuspect pkt) s) := kept_of_run _ s
theorem kept_hbeatSend (s : State) : Kept s (exec (.hbeatSend) s) := kept_of_run _ s
theorem kept_hbeat (s : State) (pkt : Packet) : Kept s (exec (.hbeat pkt) s) := kept_of_run _ s
theorem kept_twinLoss (s : State) : Kept s (exec (.twinLoss) s) := kept_of_run _ s
theorem kept_attach (s : State) : Kept s (exec (.attach) s) := kept_of_run _ s
theorem kept_detach (s : State) : Kept s (exec (.detach) s) := kept_of_run _ s
theorem kept_hattach (s : State) (pkt : Packet) : Kept s (exec (.hattach pkt) s) := kept_of_run _ s
theorem kept_hack (s : State) (pkt : Packet) : Kept s (exec (.hack pkt) s) := kept_of_run _ s
theorem kept_mranges (s : State) (pkt : Packet) : Kept s (exec (.mranges pkt) s) := kept_of_run _ s
theorem kept_mrack (s : State) (pkt : Packet) : Kept s (exec (.mrack pkt) s) := kept_of_run _ s
theorem kept_mirrorCopyComplete (s : State) : Kept s (exec (.mirrorCopyComplete) s) := kept_of_run _ s
theorem kept_mcommit (s : State) (pkt : Packet) : Kept s (exec (.mcommit pkt) s) := kept_of_run _ s
theorem kept_mack (s : State) (pkt : Packet) : Kept s (exec (.mack pkt) s) := kept_of_run _ s
theorem kept_patternTest (s : State) (k ms : Nat) : Kept s (exec (.patternTest k ms) s) := kept_of_run _ s
theorem kept_clearSuspect (s : State) (panel : Nat) : Kept s (exec (.clearSuspect panel) s) := kept_of_run _ s
theorem kept_perstNAssert (s : State) : Kept s (exec (.perstNAssert) s) := kept_of_run _ s
theorem kept_perstNDeassert (s : State) : Kept s (exec (.perstNDeassert) s) := kept_of_run _ s
theorem kept_functionLevelReset (s : State) : Kept s (exec (.functionLevelReset) s) := kept_of_run _ s
theorem kept_cxlLinkUp (s : State) (width rate : Nat) : Kept s (exec (.cxlLinkUp width rate) s) := kept_of_run _ s
theorem ran_hostCxlWrite (s : State) (dpa : Nat) (data : List Byte) (enables : Nat) : Ran s (exec (.hostCxlWrite dpa data enables) s) := ran_burning _ s
theorem ran_windowGo (s : State) (chan tag : Nat) (req : Request) : Ran s (exec (.windowGo chan tag req) s) := ran_burning _ s
theorem ran_sacorDatagram (s : State) (source : Nat) (multicast malformed : Bool) (req : Request) : Ran s (exec (.sacorDatagram source multicast malformed req) s) := ran_burning _ s
theorem kept_dictRead (s : State) (path : Path) (index sub offset length : Nat) (cont : Bool) : Kept s (exec (.dictRead path index sub offset length cont) s) := kept_of_run _ s
theorem ran_dictWrite (s : State) (path : Path) (index sub offset : Nat) (data : List Byte) (more : Bool) : Ran s (exec (.dictWrite path index sub offset data more) s) := ran_burning _ s
theorem kept_dictDescribe (s : State) (path : Path) (index sub : Nat) : Kept s (exec (.dictDescribe path index sub) s) := kept_of_run _ s
theorem kept_hello (s : State) (path : Path) (data : List Byte) : Kept s (exec (.hello path data) s) := by simp only [exec, execHello]; exact kept_of_run _ s
theorem kept_dictClose (s : State) (path : Path) : Kept s (exec (.dictClose path) s) := kept_of_run _ s
theorem kept_sessionIdleTimeout (s : State) (session : Nat) : Kept s (exec (.sessionIdleTimeout session) s) := kept_of_run _ s
theorem kept_snapshotExpiry (s : State) (path : Path) : Kept s (exec (.snapshotExpiry path) s) := kept_of_run _ s
theorem kept_stagingExpiry (s : State) (path : Path) : Kept s (exec (.stagingExpiry path) s) := kept_of_run _ s
theorem kept_discoveryReply (s : State) : Kept s (exec (.discoveryReply) s) := kept_of_run _ s
theorem kept_msixMessage (s : State) (vector : Nat) : Kept s (exec (.msixMessage vector) s) := kept_of_run _ s
theorem kept_frequencyLimitWindow (s : State) (region cycles : Nat) : Kept s (exec (.frequencyLimitWindow region cycles) s) := kept_of_run _ s
theorem kept_regionSlowClock (s : State) (region : Nat) : Kept s (exec (.regionSlowClock region) s) := kept_of_run _ s
theorem kept_marginResponse (s : State) (region code : Nat) : Kept s (exec (.marginResponse region code) s) := kept_of_run _ s
theorem kept_marginCapRestore (s : State) (region : Nat) : Kept s (exec (.marginCapRestore region) s) := kept_of_run _ s
theorem kept_timeWave (s : State) : Kept s (exec (.timeWave) s) := kept_of_run _ s
theorem kept_tsync (s : State) (d : Nat) (sync : TimeSync) : Kept s (exec (.tsync d sync) s) := kept_of_run _ s
theorem kept_techo (s : State) (d : Nat) : Kept s (exec (.techo d) s) := kept_of_run _ s
theorem kept_timeStep (s : State) : Kept s (exec (.timeStep) s) := kept_of_run _ s
theorem kept_rateChange (s : State) (d : Nat) : Kept s (exec (.rateChange d) s) := kept_of_run _ s
theorem kept_setSeconds (s : State) (seconds : Nat) : Kept s (exec (.setSeconds seconds) s) := kept_of_run _ s
theorem kept_ppsEdge (s : State) : Kept s (exec (.ppsEdge) s) := kept_of_run _ s
theorem kept_ppsHoldover (s : State) : Kept s (exec (.ppsHoldover) s) := kept_of_run _ s
theorem kept_clockRootLoss (s : State) : Kept s (exec (.clockRootLoss) s) := by simp only [exec, execClockRootLoss]; exact kept_of_run _ s
theorem kept_reparent (s : State) (depth : Nat) : Kept s (exec (.reparent depth) s) := kept_of_run _ s
theorem kept_domainEnable (s : State) (dom : Nat) (test : BayTest) : Kept s (exec (.domainEnable dom test) s) := kept_of_run _ s
theorem kept_domainDisable (s : State) (dom : Nat) : Kept s (exec (.domainDisable dom) s) := kept_of_run _ s
theorem kept_pgAssert (s : State) (dom : Nat) : Kept s (exec (.pgAssert dom) s) := kept_of_run _ s
theorem kept_pgTimeout (s : State) (dom : Nat) : Kept s (exec (.pgTimeout dom) s) := kept_of_run _ s
theorem kept_pgFall (s : State) (dom : Nat) : Kept s (exec (.pgFall dom) s) := kept_of_run _ s
theorem kept_pmbusPoll (s : State) (readings : List RailReading) : Kept s (exec (.pmbusPoll readings) s) := kept_of_run _ s
theorem kept_pmbusAlert (s : State) (segment : Nat) (readings : List RailReading) : Kept s (exec (.pmbusAlert segment readings) s) := kept_of_run _ s
theorem kept_currentGuardSample (s : State) (dom milliamps : Nat) : Kept s (exec (.currentGuardSample dom milliamps) s) := kept_of_run _ s
theorem kept_powerCapLoop (s : State) : Kept s (exec (.powerCapLoop) s) := kept_of_run _ s
theorem kept_sensorRead (s : State) (stack : Bool) (n : Nat) (reading : Int) (after : Nat) : Kept s (exec (.sensorRead stack n reading after) s) := kept_of_run _ s
theorem kept_junctionThrottle (s : State) : Kept s (exec (.junctionThrottle) s) := kept_of_run _ s
theorem kept_thermalTrip (s : State) (n : Nat) : Kept s (exec (.thermalTrip n) s) := kept_of_run _ s
theorem kept_airflowEstimate (s : State) : Kept s (exec (.airflowEstimate) s) := kept_of_run _ s
theorem kept_coolFailNAssert (s : State) : Kept s (exec (.coolFailNAssert) s) := kept_of_run _ s
theorem kept_coolingRecovery (s : State) : Kept s (exec (.coolingRecovery) s) := kept_of_run _ s
theorem kept_baySwitchOff (s : State) (b : Nat) : Kept s (exec (.baySwitchOff b) s) := kept_of_run _ s
theorem kept_drainGraceExpiry (s : State) (b : Nat) : Kept s (exec (.drainGraceExpiry b) s) := kept_of_run _ s
theorem kept_clearMark (s : State) (step : Nat) : Kept s (exec (.clearMark step) s) := kept_of_run _ s
theorem kept_firmwareWrite (s : State) (offset : Nat) (data : List Byte) (more : Bool) : Kept s (exec (.firmwareWrite offset data more) s) := kept_of_run _ s
theorem kept_firmwareWriteAbandon (s : State) : Kept s (exec (.firmwareWriteAbandon) s) := kept_of_run _ s
theorem kept_activate (s : State) (slot : Nat) : Kept s (exec (.activate slot) s) := kept_of_run _ s
theorem ran_commitVersion (s : State) (version : Nat) : Ran s (exec (.commitVersion version) s) := ran_burning _ s
theorem kept_keySlotWrite (s : State) (path : Path) (data : List Byte) : Kept s (exec (.keySlotWrite path data) s) := kept_of_run _ s
theorem kept_keySlotClear (s : State) (path : Path) (slot : Nat) : Kept s (exec (.keySlotClear path slot) s) := kept_of_run _ s
theorem kept_attest (s : State) (data : List Byte) : Kept s (exec (.attest data) s) := kept_of_run _ s
theorem kept_katRun (s : State) (a : Nat) (failed : Option Nat) : Kept s (exec (.katRun a failed) s) := kept_of_run _ s
theorem kept_clearArraySuspect (s : State) (site : Nat) : Kept s (exec (.clearArraySuspect site) s) := kept_of_run _ s
theorem kept_incidentClose (s : State) : Kept s (exec (.incidentClose) s) := kept_of_run _ s
theorem kept_clearFirstFailure (s : State) : Kept s (exec (.clearFirstFailure) s) := kept_of_run _ s
theorem kept_alertAck (s : State) (bits : Nat) : Kept s (exec (.alertAck bits) s) := kept_of_run _ s
theorem kept_mailboxCommand (s : State) (op : Nat) (data : List Byte) : Kept s (exec (.mailboxCommand op data) s) := kept_of_run _ s
theorem kept_hdmDecoderCommit (s : State) (i dpa size : Nat) : Kept s (exec (.hdmDecoderCommit i dpa size) s) := kept_of_run _ s
theorem kept_coolFailNDeassert (s : State) : Kept s (exec (.coolFailNDeassert) s) := kept_of_run _ s
theorem kept_patternTestComplete (s : State) (k : Nat) : Kept s (exec (.patternTestComplete k) s) := kept_of_run _ s
theorem kept_adapterLoadComplete (s : State) (slot : Nat) : Kept s (exec (.adapterLoadComplete slot) s) := kept_of_run _ s
theorem kept_streamEntrySettled (s : State) (i : Nat) : Kept s (exec (.streamEntrySettled i) s) := kept_of_run _ s
theorem kept_routerQuiesceCheck (s : State) (d : Nat) : Kept s (exec (.routerQuiesceCheck d) s) := kept_of_run _ s
theorem kept_fmgrTableAck (s : State) (d : Nat) : Kept s (exec (.fmgrTableAck d) s) := kept_of_run _ s

/-- Every command. -/
theorem exec_ran (c : Instr) (s : State) : Ran s (exec c s) := by
  cases c with
  | panelRstNAssert lowNs pgFall => exact ran_of_kept (kept_panelRstNAssert s lowNs pgFall)
  | startupRomSelfTest aOk bOk straps => exact ran_of_kept (kept_startupRomSelfTest s aOk bOk straps)
  | startupClockRoot aLock hostLock refclk => exact ran_of_kept (kept_startupClockRoot s aLock hostLock refclk)
  | startupHostDie ok width rate => exact ran_of_kept (kept_startupHostDie s ok width rate)
  | startupMemoryDomain k west east => exact ran_of_kept (kept_startupMemoryDomain s k west east)
  | startupComputeBay b test => exact ran_of_kept (kept_startupComputeBay s b test)
  | startupPortEdge edge tests => exact ran_of_kept (kept_startupPortEdge s edge tests)
  | sideboardHeartbeatSend => exact ran_of_kept (kept_sideboardHeartbeatSend s)
  | sideboardTakeover cause => exact ran_of_kept (kept_sideboardTakeover s cause)
  | clearRecord record => exact ran_of_kept (kept_clearRecord s record)
  | addRecord data => exact ran_of_kept (kept_addRecord s data)
  | mapRecomputeComplete => exact ran_of_kept (kept_mapRecomputeComplete s)
  | registerWrite index sub data => exact ran_registerWrite s index sub data
  | nop a p => exact ran_of_kept (kept_nop s a p)
  | bar a p => exact ran_of_kept (kept_bar s a p)
  | ptcfg a p => exact ran_of_kept (kept_ptcfg s a p)
  | park a p => exact ran_of_kept (kept_park s a p)
  | scla a p => exact ran_of_kept (kept_scla s a p)
  | sclb a p => exact ran_of_kept (kept_sclb s a p)
  | doth a p => exact ran_of_kept (kept_doth s a p)
  | dotf8 a p => exact ran_of_kept (kept_dotf8 s a p)
  | doti8 a p => exact ran_of_kept (kept_doti8 s a p)
  | doti4 a p => exact ran_of_kept (kept_doti4 s a p)
  | dotmx4 a p => exact ran_of_kept (kept_dotmx4 s a p)
  | dotmx8 a p => exact ran_of_kept (kept_dotmx8 s a p)
  | sdoth a p => exact ran_of_kept (kept_sdoth s a p)
  | sdotf8 a p => exact ran_of_kept (kept_sdotf8 s a p)
  | sdoti8 a p => exact ran_of_kept (kept_sdoti8 s a p)
  | sdoti4 a p => exact ran_of_kept (kept_sdoti4 s a p)
  | sdotmx4 a p => exact ran_of_kept (kept_sdotmx4 s a p)
  | sdotmx8 a p => exact ran_of_kept (kept_sdotmx8 s a p)
  | drain a p => exact ran_of_kept (kept_drain s a p)
  | draincv a p => exact ran_of_kept (kept_draincv s a p)
  | accld a p => exact ran_of_kept (kept_accld s a p)
  | accadd a p => exact ran_of_kept (kept_accadd s a p)
  | fadd a p => exact ran_of_kept (kept_fadd s a p)
  | fsub a p => exact ran_of_kept (kept_fsub s a p)
  | fmul a p => exact ran_of_kept (kept_fmul s a p)
  | ffma a p => exact ran_of_kept (kept_ffma s a p)
  | fmin a p => exact ran_of_kept (kept_fmin s a p)
  | fmax a p => exact ran_of_kept (kept_fmax s a p)
  | iadd a p => exact ran_of_kept (kept_iadd s a p)
  | isub a p => exact ran_of_kept (kept_isub s a p)
  | imul a p => exact ran_of_kept (kept_imul s a p)
  | imin a p => exact ran_of_kept (kept_imin s a p)
  | imax a p => exact ran_of_kept (kept_imax s a p)
  | and a p => exact ran_of_kept (kept_and s a p)
  | or a p => exact ran_of_kept (kept_or s a p)
  | xor a p => exact ran_of_kept (kept_xor s a p)
  | shl a p => exact ran_of_kept (kept_shl s a p)
  | shr a p => exact ran_of_kept (kept_shr s a p)
  | sar a p => exact ran_of_kept (kept_sar s a p)
  | fcmp a p => exact ran_of_kept (kept_fcmp s a p)
  | icmp a p => exact ran_of_kept (kept_icmp s a p)
  | sel a p => exact ran_of_kept (kept_sel s a p)
  | steer a p => exact ran_of_kept (kept_steer s a p)
  | gate a p => exact ran_of_kept (kept_gate s a p)
  | merge a p => exact ran_of_kept (kept_merge s a p)
  | cmerge a p => exact ran_of_kept (kept_cmerge s a p)
  | repl a p => exact ran_of_kept (kept_repl s a p)
  | rfwd a p => exact ran_of_kept (kept_rfwd s a p)
  | cvt a p => exact ran_of_kept (kept_cvt s a p)
  | mxpack a p => exact ran_of_kept (kept_mxpack s a p)
  | mxunpk a p => exact ran_of_kept (kept_mxunpk s a p)
  | mov a p => exact ran_of_kept (kept_mov s a p)
  | obst a p => exact ran_of_kept (kept_obst s a p)
  | sfu a p => exact ran_of_kept (kept_sfu s a p)
  | sfuService a col => exact ran_of_kept (kept_sfuService s a col)
  | resultWriteback a p n => exact ran_of_kept (kept_resultWriteback s a p n)
  | tokenAccept a p dir => exact ran_of_kept (kept_tokenAccept s a p dir)
  | passThroughMove a p dir => exact ran_of_kept (kept_passThroughMove s a p dir)
  | staleTokenRemoval a p dir => exact ran_of_kept (kept_staleTokenRemoval s a p dir)
  | cellFault a p word => exact ran_of_kept (kept_cellFault s a p word)
  | register => exact ran_of_kept (kept_register s)
  | unregister imageId => exact ran_of_kept (kept_unregister s imageId)
  | loadArray imageId d k force => exact ran_of_kept (kept_loadArray s imageId d k force)
  | arrayLoad a => exact ran_of_kept (kept_arrayLoad s a)
  | closeWaitTimeout a => exact ran_of_kept (kept_closeWaitTimeout s a)
  | loadWriteComplete a => exact ran_of_kept (kept_loadWriteComplete s a)
  | arrayRunStart a => exact ran_of_kept (kept_arrayRunStart s a)
  | drainSuccess a => exact ran_of_kept (kept_drainSuccess s a)
  | drainDeadline a => exact ran_of_kept (kept_drainDeadline s a)
  | drainNoProgress a => exact ran_of_kept (kept_drainNoProgress s a)
  | progressSuspicion a => exact ran_of_kept (kept_progressSuspicion s a)
  | spillRefill a p dir => exact ran_of_kept (kept_spillRefill s a p dir)
  | incomingWindowWord a port => exact ran_of_kept (kept_incomingWindowWord s a port)
  | outgoingWindowWrite a port => exact ran_of_kept (kept_outgoingWindowWrite s a port)
  | incomingTokenDelivery a port => exact ran_of_kept (kept_incomingTokenDelivery s a port)
  | openChan pkt => exact ran_of_kept (kept_openChan s pkt)
  | openRepeat a c => exact ran_of_kept (kept_openRepeat s a c)
  | grant pkt => exact ran_of_kept (kept_grant s pkt)
  | reject pkt => exact ran_of_kept (kept_reject s pkt)
  | openTimeout a => exact ran_of_kept (kept_openTimeout s a)
  | dataLaunch a port => exact ran_of_kept (kept_dataLaunch s a port)
  | data pkt => exact ran_of_kept (kept_data s pkt)
  | credit pkt => exact ran_of_kept (kept_credit s pkt)
  | closeChan pkt => exact ran_of_kept (kept_closeChan s pkt)
  | closed pkt => exact ran_of_kept (kept_closed s pkt)
  | scratchpadAccessComplete access => exact ran_of_kept (kept_scratchpadAccessComplete s access)
  | sramPatrol b corrected bad => exact ran_of_kept (kept_sramPatrol s b corrected bad)
  | dramPatrolScrub b corrected bad => exact ran_of_kept (kept_dramPatrolScrub s b corrected bad)
  | hostCxlRead dpa bytes => exact ran_of_kept (kept_hostCxlRead s dpa bytes)
  | hostCxlWrite dpa data enables => exact ran_hostCxlWrite s dpa data enables
  | move a e => exact ran_of_kept (kept_move s a e)
  | fill a e => exact ran_of_kept (kept_fill s a e)
  | copy a e => exact ran_of_kept (kept_copy s a e)
  | tcopy a e => exact ran_of_kept (kept_tcopy s a e)
  | invalidate a e => exact ran_of_kept (kept_invalidate s a e)
  | feed a e => exact ran_of_kept (kept_feed s a e)
  | collect a e => exact ran_of_kept (kept_collect s a e)
  | reduce a e => exact ran_of_kept (kept_reduce s a e)
  | openrx a e => exact ran_of_kept (kept_openrx s a e)
  | closerx a e => exact ran_of_kept (kept_closerx s a e)
  | cksave a e => exact ran_of_kept (kept_cksave s a e)
  | ckload a e => exact ran_of_kept (kept_ckload s a e)
  | descriptorComplete a e => exact ran_of_kept (kept_descriptorComplete s a e)
  | barrierArrivalPost a e => exact ran_of_kept (kept_barrierArrivalPost s a e)
  | crq pkt => exact ran_of_kept (kept_crq s pkt)
  | creditGrant a w => exact ran_of_kept (kept_creditGrant s a w)
  | cgr pkt => exact ran_of_kept (kept_cgr s pkt)
  | crj pkt => exact ran_of_kept (kept_crj s pkt)
  | crqTimeout a e => exact ran_of_kept (kept_crqTimeout s a e)
  | wr pkt => exact ran_of_kept (kept_wr s pkt)
  | mwrStep d pkt => exact ran_of_kept (kept_mwrStep s d pkt)
  | done pkt => exact ran_of_kept (kept_done s pkt)
  | ccan pkt => exact ran_of_kept (kept_ccan s pkt)
  | multicastTimeout a e => exact ran_of_kept (kept_multicastTimeout s a e)
  | awr pkt => exact ran_of_kept (kept_awr s pkt)
  | rdreq pkt => exact ran_of_kept (kept_rdreq s pkt)
  | rddata pkt => exact ran_of_kept (kept_rddata s pkt)
  | checkUnitLoad data => exact ran_of_kept (kept_checkUnitLoad s data)
  | checkUnitReset unit => exact ran_of_kept (kept_checkUnitReset s unit)
  | linkFrameReceive l frame => exact ran_of_kept (kept_linkFrameReceive s l frame)
  | linkReplay l => exact ran_of_kept (kept_linkReplay s l)
  | linkDirectionFails l => exact ran_of_kept (kept_linkDirectionFails s l)
  | routerHeaderArrival d inPort pkt => exact ran_of_kept (kept_routerHeaderArrival s d inPort pkt)
  | outputArbitration d out => exact ran_of_kept (kept_outputArbitration s d out)
  | unreach pkt => exact ran_of_kept (kept_unreach s pkt)
  | red d pkt => exact ran_of_kept (kept_red s d pkt)
  | redCombine d n => exact ran_of_kept (kept_redCombine s d n)
  | reduceDoneTimeout a e => exact ran_of_kept (kept_reduceDoneTimeout s a e)
  | fmgrTable d => exact ran_of_kept (kept_fmgrTable s d)
  | fmgrStop d => exact ran_of_kept (kept_fmgrStop s d)
  | fmgrStopped d => exact ran_of_kept (kept_fmgrStopped s d)
  | fmgrQuiesced d => exact ran_of_kept (kept_fmgrQuiesced s d)
  | fmgrSwap d => exact ran_of_kept (kept_fmgrSwap s d)
  | fmgrSwapped d => exact ran_of_kept (kept_fmgrSwapped s d)
  | fmgrResume => exact ran_of_kept (kept_fmgrResume s)
  | tableDrainTimeout => exact ran_of_kept (kept_tableDrainTimeout s)
  | congestionSample d => exact ran_of_kept (kept_congestionSample s d)
  | fmgrMapreq d => exact ran_of_kept (kept_fmgrMapreq s d)
  | fmgrMapdata d window data => exact ran_of_kept (kept_fmgrMapdata s d window data)
  | dict pkt => exact ran_of_kept (kept_dict s pkt)
  | define set data => exact ran_of_kept (kept_define s set data)
  | setMode set mode => exact ran_of_kept (kept_setMode s set mode)
  | newGeneration set => exact ran_of_kept (kept_newGeneration s set)
  | publish set gen => exact ran_of_kept (kept_publish s set gen)
  | switchCurrent set gen => exact ran_of_kept (kept_switchCurrent s set gen)
  | discard set gen => exact ran_of_kept (kept_discard s set gen)
  | pin set => exact ran_of_kept (kept_pin s set)
  | unpin set gen => exact ran_of_kept (kept_unpin s set gen)
  | wrappedKey set data => exact ran_of_kept (kept_wrappedKey s set data)
  | ingest set data => exact ran_of_kept (kept_ingest s set data)
  | decryptChunk b n => exact ran_of_kept (kept_decryptChunk s b n)
  | ingestComplete set => exact ran_of_kept (kept_ingestComplete s set)
  | chunk pkt => exact ran_of_kept (kept_chunk s pkt)
  | chunkdone pkt => exact ran_of_kept (kept_chunkdone s pkt)
  | chunkConfirmTimeout b chunk => exact ran_of_kept (kept_chunkConfirmTimeout s b chunk)
  | undefine set => exact ran_of_kept (kept_undefine s set)
  | undefineZeroComplete set => exact ran_of_kept (kept_undefineZeroComplete s set)
  | wstream pkt => exact ran_of_kept (kept_wstream s pkt)
  | wstreamRun b n => exact ran_of_kept (kept_wstreamRun s b n)
  | wdone pkt => exact ran_of_kept (kept_wdone s pkt)
  | update pkt => exact ran_of_kept (kept_update s pkt)
  | udone pkt => exact ran_of_kept (kept_udone s pkt)
  | adapterLoad data => exact ran_of_kept (kept_adapterLoad s data)
  | release slot => exact ran_of_kept (kept_release s slot)
  | trackerEnable on => exact ran_of_kept (kept_trackerEnable s on)
  | admitEntry i data => exact ran_of_kept (kept_admit s i data)
  | endStream i => exact ran_of_kept (kept_endStream s i)
  | retire i => exact ran_of_kept (kept_retire s i)
  | batchForm set => exact ran_of_kept (kept_batchForm s set)
  | tstep pkt => exact ran_of_kept (kept_tstep s pkt)
  | tack pkt => exact ran_of_kept (kept_tack s pkt)
  | listCreate data => exact ran_of_kept (kept_listCreate s data)
  | listDelete list => exact ran_of_kept (kept_listDelete s list)
  | listPoll list => exact ran_of_kept (kept_listPoll s list)
  | run d => exact ran_of_kept (kept_run s d)
  | batch d => exact ran_of_kept (kept_batch s d)
  | fence d => exact ran_of_kept (kept_fence s d)
  | fenceComplete d => exact ran_of_kept (kept_fenceComplete s d)
  | taskPlacement d => exact ran_of_kept (kept_taskPlacement s d)
  | steal pkt => exact ran_of_kept (kept_steal s pkt)
  | give pkt => exact ran_of_kept (kept_give s pkt)
  | stealRetry d => exact ran_of_kept (kept_stealRetry s d)
  | hotCheck d => exact ran_of_kept (kept_hotCheck s d)
  | tpush pkt => exact ran_of_kept (kept_tpush s pkt)
  | pushack pkt => exact ran_of_kept (kept_pushack s pkt)
  | tdone pkt => exact ran_of_kept (kept_tdone s pkt)
  | barrive pkt => exact ran_of_kept (kept_barrive s pkt)
  | bdone pkt => exact ran_of_kept (kept_bdone s pkt)
  | taskComplete a => exact ran_of_kept (kept_taskComplete s a)
  | taskAbort a => exact ran_of_kept (kept_taskAbort s a)
  | timeLimit d k waiting => exact ran_of_kept (kept_timeLimit s d k waiting)
  | configure => exact ran_of_kept (kept_configure s)
  | start => exact ran_of_kept (kept_start s)
  | stop => exact ran_of_kept (kept_stop s)
  | stopTimeout => exact ran_of_kept (kept_stopTimeout s)
  | kill => exact ran_of_kept (kept_kill s)
  | jobEnd => exact ran_of_kept (kept_jobEnd s)
  | scrubComplete => exact ran_of_kept (kept_scrubComplete s)
  | edgeFrameReceive k frame => exact ran_of_kept (kept_edgeFrameReceive s k frame)
  | edgeReplay k => exact ran_of_kept (kept_edgeReplay s k)
  | portFailure k cause => exact ran_of_kept (kept_portFailure s k cause)
  | portRetrain k test => exact ran_of_kept (kept_portRetrain s k test)
  | ecrq pkt => exact ran_of_kept (kept_ecrq s pkt)
  | ecgr pkt => exact ran_of_kept (kept_ecgr s pkt)
  | ecret pkt => exact ran_of_kept (kept_ecret s pkt)
  | egressCreditIdle n => exact ran_of_kept (kept_egressCreditIdle s n)
  | xbarrive pkt => exact ran_of_kept (kept_xbarrive s pkt)
  | xbdone pkt => exact ran_of_kept (kept_xbdone s pkt)
  | xsuspect pkt => exact ran_of_kept (kept_xsuspect s pkt)
  | hbeatSend => exact ran_of_kept (kept_hbeatSend s)
  | hbeat pkt => exact ran_of_kept (kept_hbeat s pkt)
  | twinLoss => exact ran_of_kept (kept_twinLoss s)
  | attach => exact ran_of_kept (kept_attach s)
  | detach => exact ran_of_kept (kept_detach s)
  | hattach pkt => exact ran_of_kept (kept_hattach s pkt)
  | hack pkt => exact ran_of_kept (kept_hack s pkt)
  | mranges pkt => exact ran_of_kept (kept_mranges s pkt)
  | mrack pkt => exact ran_of_kept (kept_mrack s pkt)
  | mirrorCopyComplete => exact ran_of_kept (kept_mirrorCopyComplete s)
  | mcommit pkt => exact ran_of_kept (kept_mcommit s pkt)
  | mack pkt => exact ran_of_kept (kept_mack s pkt)
  | patternTest k ms => exact ran_of_kept (kept_patternTest s k ms)
  | clearSuspect panel => exact ran_of_kept (kept_clearSuspect s panel)
  | perstNAssert => exact ran_of_kept (kept_perstNAssert s)
  | perstNDeassert => exact ran_of_kept (kept_perstNDeassert s)
  | functionLevelReset => exact ran_of_kept (kept_functionLevelReset s)
  | cxlLinkUp width rate => exact ran_of_kept (kept_cxlLinkUp s width rate)
  | windowGo chan tag req => exact ran_windowGo s chan tag req
  | sacorDatagram source multicast malformed req => exact ran_sacorDatagram s source multicast malformed req
  | dictRead path index sub offset length cont => exact ran_of_kept (kept_dictRead s path index sub offset length cont)
  | dictWrite path index sub offset data more => exact ran_dictWrite s path index sub offset data more
  | dictDescribe path index sub => exact ran_of_kept (kept_dictDescribe s path index sub)
  | hello path data => exact ran_of_kept (kept_hello s path data)
  | dictClose path => exact ran_of_kept (kept_dictClose s path)
  | sessionIdleTimeout session => exact ran_of_kept (kept_sessionIdleTimeout s session)
  | snapshotExpiry path => exact ran_of_kept (kept_snapshotExpiry s path)
  | stagingExpiry path => exact ran_of_kept (kept_stagingExpiry s path)
  | discoveryReply => exact ran_of_kept (kept_discoveryReply s)
  | msixMessage vector => exact ran_of_kept (kept_msixMessage s vector)
  | frequencyLimitWindow region cycles => exact ran_of_kept (kept_frequencyLimitWindow s region cycles)
  | regionSlowClock region => exact ran_of_kept (kept_regionSlowClock s region)
  | marginResponse region code => exact ran_of_kept (kept_marginResponse s region code)
  | marginCapRestore region => exact ran_of_kept (kept_marginCapRestore s region)
  | timeWave => exact ran_of_kept (kept_timeWave s)
  | tsync d sync => exact ran_of_kept (kept_tsync s d sync)
  | techo d => exact ran_of_kept (kept_techo s d)
  | timeStep => exact ran_of_kept (kept_timeStep s)
  | rateChange d => exact ran_of_kept (kept_rateChange s d)
  | setSeconds seconds => exact ran_of_kept (kept_setSeconds s seconds)
  | ppsEdge => exact ran_of_kept (kept_ppsEdge s)
  | ppsHoldover => exact ran_of_kept (kept_ppsHoldover s)
  | clockRootLoss => exact ran_of_kept (kept_clockRootLoss s)
  | reparent depth => exact ran_of_kept (kept_reparent s depth)
  | domainEnable dom test => exact ran_of_kept (kept_domainEnable s dom test)
  | domainDisable dom => exact ran_of_kept (kept_domainDisable s dom)
  | pgAssert dom => exact ran_of_kept (kept_pgAssert s dom)
  | pgTimeout dom => exact ran_of_kept (kept_pgTimeout s dom)
  | pgFall dom => exact ran_of_kept (kept_pgFall s dom)
  | pmbusPoll readings => exact ran_of_kept (kept_pmbusPoll s readings)
  | pmbusAlert segment readings => exact ran_of_kept (kept_pmbusAlert s segment readings)
  | currentGuardSample dom milliamps => exact ran_of_kept (kept_currentGuardSample s dom milliamps)
  | powerCapLoop => exact ran_of_kept (kept_powerCapLoop s)
  | sensorRead stack n reading after => exact ran_of_kept (kept_sensorRead s stack n reading after)
  | junctionThrottle => exact ran_of_kept (kept_junctionThrottle s)
  | thermalTrip n => exact ran_of_kept (kept_thermalTrip s n)
  | airflowEstimate => exact ran_of_kept (kept_airflowEstimate s)
  | coolFailNAssert => exact ran_of_kept (kept_coolFailNAssert s)
  | coolingRecovery => exact ran_of_kept (kept_coolingRecovery s)
  | baySwitchOff b => exact ran_of_kept (kept_baySwitchOff s b)
  | drainGraceExpiry b => exact ran_of_kept (kept_drainGraceExpiry s b)
  | clearMark step => exact ran_of_kept (kept_clearMark s step)
  | firmwareWrite offset data more => exact ran_of_kept (kept_firmwareWrite s offset data more)
  | firmwareWriteAbandon => exact ran_of_kept (kept_firmwareWriteAbandon s)
  | activate slot => exact ran_of_kept (kept_activate s slot)
  | commitVersion version => exact ran_commitVersion s version
  | keySlotWrite path data => exact ran_of_kept (kept_keySlotWrite s path data)
  | keySlotClear path slot => exact ran_of_kept (kept_keySlotClear s path slot)
  | attest data => exact ran_of_kept (kept_attest s data)
  | katRun a failed => exact ran_of_kept (kept_katRun s a failed)
  | clearArraySuspect site => exact ran_of_kept (kept_clearArraySuspect s site)
  | incidentClose => exact ran_of_kept (kept_incidentClose s)
  | clearFirstFailure => exact ran_of_kept (kept_clearFirstFailure s)
  | alertAck bits => exact ran_of_kept (kept_alertAck s bits)
  | mailboxCommand op data => exact ran_of_kept (kept_mailboxCommand s op data)
  | hdmDecoderCommit i dpa size => exact ran_of_kept (kept_hdmDecoderCommit s i dpa size)
  | coolFailNDeassert => exact ran_of_kept (kept_coolFailNDeassert s)
  | patternTestComplete k => exact ran_of_kept (kept_patternTestComplete s k)
  | adapterLoadComplete slot => exact ran_of_kept (kept_adapterLoadComplete s slot)
  | streamEntrySettled i => exact ran_of_kept (kept_streamEntrySettled s i)
  | routerQuiesceCheck d => exact ran_of_kept (kept_routerQuiesceCheck s d)
  | fmgrTableAck d => exact ran_of_kept (kept_fmgrTableAck s d)

end Sys2Proof.Machine
end

