-- ==== Sys2Proof/Laws/Log.lean ====
section
/-! SUPPORT. What raising an interrupt, an alert or an event leaves as it was. -/

namespace Sys2Proof.Machine

/-- The parts of a panel that no event touches. -/
def Work.apart (w : Work) :=
  (w.boot, w.sessions, w.hellos, w.snapshots, w.staging, w.arrays, w.dies, w.net, w.job, w.lists, w.registry, w.hutches, w.sets,
    w.fuses, w.mem, w.stores, w.clock, w.reply)

theorem log_apart (w : Work) (l : Log) : ({ w with log := l } : Work).apart = w.apart := rfl

theorem interrupt_apart (w : Work) (k : Nat) : (w.interrupt k).apart = w.apart := by
  unfold Work.interrupt; simp only []; repeat (first | rfl | split)

theorem alert_apart (w : Work) (bits : Nat) : (w.alert bits).apart = w.apart := rfl

theorem firstFailure_apart (w : Work) (e : Event) : (w.firstFailure e).apart = w.apart := by
  unfold Work.firstFailure; split
  · rfl
  · exact log_apart _ _

theorem event_apart (w : Work) (cls code kind number detail : Nat) : (w.event cls code kind number detail).apart = w.apart := by
  have hf : ∀ (v : Work) (l : Log) (n : Nat), (Work.event.fresh cls code kind number detail v l n).apart = v.apart := by
    intro v l n
    unfold Work.event.fresh
    simp only []
    repeat (first | rfl | rw [interrupt_apart] | rw [firstFailure_apart] | split)
  have ha : ∀ v : Work, (if cls = 0 then v.alert 1 else v).apart = v.apart := by
    intro v; split <;> rfl
  unfold Work.event
  simp only []
  generalize hv : (if cls = 0 then w.alert 1 else w) = v
  have hw : v.apart = w.apart := hv ▸ ha w
  rw [← hw]
  clear hv hw ha
  repeat (first | rw [firstFailure_apart] | exact log_apart _ _ | exact (interrupt_apart _ _).trans (log_apart _ _) | exact hf _ _ _ | split)

end Sys2Proof.Machine
end

