-- ==== Sys2Proof/Laws/State.lean ====
section
/-! SUPPORT. What each update of a command's work, and its commit, leaves in each field: one lemma for each, by rfl. -/

namespace Sys2Proof.Machine

/-! ### The commit of a command's work -/

@[simp] theorem commit_free (s : State) (w : Work) : (s.commit w).free = w.free := rfl
@[simp] theorem commit_clock (s : State) (w : Work) : (s.commit w).clock = w.clock := rfl
@[simp] theorem commit_regs (s : State) (w : Work) : (s.commit w).regs = w.regs := rfl
@[simp] theorem commit_flash (s : State) (w : Work) : (s.commit w).flash = w.flash := rfl
@[simp] theorem commit_inForce (s : State) (w : Work) : (s.commit w).inForce = w.inForce := rfl
@[simp] theorem commit_blobs (s : State) (w : Work) : (s.commit w).blobs = w.blobs := rfl
@[simp] theorem commit_flashBlobs (s : State) (w : Work) : (s.commit w).flashBlobs = w.flashBlobs := rfl
@[simp] theorem commit_reply (s : State) (w : Work) : (s.commit w).reply = w.reply := rfl
@[simp] theorem commit_sessions (s : State) (w : Work) : (s.commit w).sessions = w.sessions := rfl
@[simp] theorem commit_nextSession (s : State) (w : Work) : (s.commit w).nextSession = w.nextSession := rfl
@[simp] theorem commit_hellos (s : State) (w : Work) : (s.commit w).hellos = w.hellos := rfl
@[simp] theorem commit_snapshots (s : State) (w : Work) : (s.commit w).snapshots = w.snapshots := rfl
@[simp] theorem commit_staging (s : State) (w : Work) : (s.commit w).staging = w.staging := rfl
@[simp] theorem commit_discovery (s : State) (w : Work) : (s.commit w).discovery = w.discovery := rfl
@[simp] theorem commit_badWords (s : State) (w : Work) : (s.commit w).badWords = w.badWords := rfl
@[simp] theorem commit_lost (s : State) (w : Work) : (s.commit w).lost = w.lost := rfl
@[simp] theorem commit_siteMap (s : State) (w : Work) : (s.commit w).siteMap = w.siteMap := rfl
@[simp] theorem commit_defects (s : State) (w : Work) : (s.commit w).defects = w.defects := rfl
@[simp] theorem commit_defectMarks (s : State) (w : Work) : (s.commit w).defectMarks = w.defectMarks := rfl
@[simp] theorem commit_heldDefects (s : State) (w : Work) : (s.commit w).heldDefects = w.heldDefects := rfl
@[simp] theorem commit_linkResults (s : State) (w : Work) : (s.commit w).linkResults = w.linkResults := rfl
@[simp] theorem commit_marks (s : State) (w : Work) : (s.commit w).marks = w.marks := rfl
@[simp] theorem commit_arrays (s : State) (w : Work) : (s.commit w).arrays = w.arrays := rfl
@[simp] theorem commit_dies (s : State) (w : Work) : (s.commit w).dies = w.dies := rfl
@[simp] theorem commit_links (s : State) (w : Work) : (s.commit w).links = w.links := rfl
@[simp] theorem commit_fmgr (s : State) (w : Work) : (s.commit w).fmgr = w.fmgr := rfl
@[simp] theorem commit_net (s : State) (w : Work) : (s.commit w).net = w.net := rfl
@[simp] theorem commit_entering (s : State) (w : Work) : (s.commit w).entering = w.entering := rfl
@[simp] theorem commit_arrived (s : State) (w : Work) : (s.commit w).arrived = w.arrived := rfl
@[simp] theorem commit_hutches (s : State) (w : Work) : (s.commit w).hutches = w.hutches := rfl
@[simp] theorem commit_checks (s : State) (w : Work) : (s.commit w).checks = w.checks := rfl
@[simp] theorem commit_sets (s : State) (w : Work) : (s.commit w).sets = w.sets := rfl
@[simp] theorem commit_adapters (s : State) (w : Work) : (s.commit w).adapters = w.adapters := rfl
@[simp] theorem commit_streams (s : State) (w : Work) : (s.commit w).streams = w.streams := rfl
@[simp] theorem commit_batches (s : State) (w : Work) : (s.commit w).batches = w.batches := rfl
@[simp] theorem commit_nextBatch (s : State) (w : Work) : (s.commit w).nextBatch = w.nextBatch := rfl
@[simp] theorem commit_nextOrder (s : State) (w : Work) : (s.commit w).nextOrder = w.nextOrder := rfl
@[simp] theorem commit_tsteps (s : State) (w : Work) : (s.commit w).tsteps = w.tsteps := rfl
@[simp] theorem commit_registry (s : State) (w : Work) : (s.commit w).registry = w.registry := rfl
@[simp] theorem commit_lists (s : State) (w : Work) : (s.commit w).lists = w.lists := rfl
@[simp] theorem commit_job (s : State) (w : Work) : (s.commit w).job = w.job := rfl
@[simp] theorem commit_ports (s : State) (w : Work) : (s.commit w).ports = w.ports := rfl
@[simp] theorem commit_egress (s : State) (w : Work) : (s.commit w).egress = w.egress := rfl
@[simp] theorem commit_hinge (s : State) (w : Work) : (s.commit w).hinge = w.hinge := rfl
@[simp] theorem commit_globals (s : State) (w : Work) : (s.commit w).globals = w.globals := rfl
@[simp] theorem commit_lates (s : State) (w : Work) : (s.commit w).lates = w.lates := rfl
@[simp] theorem commit_suspects (s : State) (w : Work) : (s.commit w).suspects = w.suspects := rfl
@[simp] theorem commit_domains (s : State) (w : Work) : (s.commit w).domains = w.domains := rfl
@[simp] theorem commit_regions (s : State) (w : Work) : (s.commit w).regions = w.regions := rfl
@[simp] theorem commit_sensors (s : State) (w : Work) : (s.commit w).sensors = w.sensors := rfl
@[simp] theorem commit_stackSensors (s : State) (w : Work) : (s.commit w).stackSensors = w.stackSensors := rfl
@[simp] theorem commit_throttles (s : State) (w : Work) : (s.commit w).throttles = w.throttles := rfl
@[simp] theorem commit_cooling (s : State) (w : Work) : (s.commit w).cooling = w.cooling := rfl
@[simp] theorem commit_boot (s : State) (w : Work) : (s.commit w).boot = w.boot := rfl
@[simp] theorem commit_root (s : State) (w : Work) : (s.commit w).root = w.root := rfl
@[simp] theorem commit_cxl (s : State) (w : Work) : (s.commit w).cxl = w.cxl := rfl
@[simp] theorem commit_log (s : State) (w : Work) : (s.commit w).log = w.log := rfl
@[simp] theorem commit_thermTrip (s : State) (w : Work) : (s.commit w).thermTrip = w.thermTrip := rfl
@[simp] theorem commit_alertPin (s : State) (w : Work) : (s.commit w).alertPin = w.alertPin := rfl
@[simp] theorem commit_coolFailPin (s : State) (w : Work) : (s.commit w).coolFailPin = w.coolFailPin := rfl
@[simp] theorem commit_pending (s : State) (w : Work) : (s.commit w).pending = s.pending := rfl
@[simp] theorem commit_fuses (s : State) (w : Work) : (s.commit w).fuses = s.fuses := rfl
@[simp] theorem commit_mem (s : State) (w : Work) : (s.commit w).mem = applyStores s.mem w.stores := rfl
@[simp] theorem commit_work (s : State) : s.commit s.work = s := rfl
@[simp] theorem work_free (s : State) : s.work.free = s.free := rfl
@[simp] theorem work_clock (s : State) : s.work.clock = s.clock := rfl
@[simp] theorem work_regs (s : State) : s.work.regs = s.regs := rfl
@[simp] theorem work_flash (s : State) : s.work.flash = s.flash := rfl
@[simp] theorem work_inForce (s : State) : s.work.inForce = s.inForce := rfl
@[simp] theorem work_blobs (s : State) : s.work.blobs = s.blobs := rfl
@[simp] theorem work_flashBlobs (s : State) : s.work.flashBlobs = s.flashBlobs := rfl
@[simp] theorem work_reply (s : State) : s.work.reply = s.reply := rfl
@[simp] theorem work_sessions (s : State) : s.work.sessions = s.sessions := rfl
@[simp] theorem work_nextSession (s : State) : s.work.nextSession = s.nextSession := rfl
@[simp] theorem work_hellos (s : State) : s.work.hellos = s.hellos := rfl
@[simp] theorem work_snapshots (s : State) : s.work.snapshots = s.snapshots := rfl
@[simp] theorem work_staging (s : State) : s.work.staging = s.staging := rfl
@[simp] theorem work_discovery (s : State) : s.work.discovery = s.discovery := rfl
@[simp] theorem work_badWords (s : State) : s.work.badWords = s.badWords := rfl
@[simp] theorem work_lost (s : State) : s.work.lost = s.lost := rfl
@[simp] theorem work_siteMap (s : State) : s.work.siteMap = s.siteMap := rfl
@[simp] theorem work_defects (s : State) : s.work.defects = s.defects := rfl
@[simp] theorem work_defectMarks (s : State) : s.work.defectMarks = s.defectMarks := rfl
@[simp] theorem work_heldDefects (s : State) : s.work.heldDefects = s.heldDefects := rfl
@[simp] theorem work_linkResults (s : State) : s.work.linkResults = s.linkResults := rfl
@[simp] theorem work_marks (s : State) : s.work.marks = s.marks := rfl
@[simp] theorem work_arrays (s : State) : s.work.arrays = s.arrays := rfl
@[simp] theorem work_dies (s : State) : s.work.dies = s.dies := rfl
@[simp] theorem work_links (s : State) : s.work.links = s.links := rfl
@[simp] theorem work_fmgr (s : State) : s.work.fmgr = s.fmgr := rfl
@[simp] theorem work_net (s : State) : s.work.net = s.net := rfl
@[simp] theorem work_entering (s : State) : s.work.entering = s.entering := rfl
@[simp] theorem work_arrived (s : State) : s.work.arrived = s.arrived := rfl
@[simp] theorem work_hutches (s : State) : s.work.hutches = s.hutches := rfl
@[simp] theorem work_checks (s : State) : s.work.checks = s.checks := rfl
@[simp] theorem work_sets (s : State) : s.work.sets = s.sets := rfl
@[simp] theorem work_adapters (s : State) : s.work.adapters = s.adapters := rfl
@[simp] theorem work_streams (s : State) : s.work.streams = s.streams := rfl
@[simp] theorem work_batches (s : State) : s.work.batches = s.batches := rfl
@[simp] theorem work_nextBatch (s : State) : s.work.nextBatch = s.nextBatch := rfl
@[simp] theorem work_nextOrder (s : State) : s.work.nextOrder = s.nextOrder := rfl
@[simp] theorem work_tsteps (s : State) : s.work.tsteps = s.tsteps := rfl
@[simp] theorem work_registry (s : State) : s.work.registry = s.registry := rfl
@[simp] theorem work_lists (s : State) : s.work.lists = s.lists := rfl
@[simp] theorem work_job (s : State) : s.work.job = s.job := rfl
@[simp] theorem work_ports (s : State) : s.work.ports = s.ports := rfl
@[simp] theorem work_egress (s : State) : s.work.egress = s.egress := rfl
@[simp] theorem work_hinge (s : State) : s.work.hinge = s.hinge := rfl
@[simp] theorem work_globals (s : State) : s.work.globals = s.globals := rfl
@[simp] theorem work_lates (s : State) : s.work.lates = s.lates := rfl
@[simp] theorem work_suspects (s : State) : s.work.suspects = s.suspects := rfl
@[simp] theorem work_domains (s : State) : s.work.domains = s.domains := rfl
@[simp] theorem work_regions (s : State) : s.work.regions = s.regions := rfl
@[simp] theorem work_sensors (s : State) : s.work.sensors = s.sensors := rfl
@[simp] theorem work_stackSensors (s : State) : s.work.stackSensors = s.stackSensors := rfl
@[simp] theorem work_throttles (s : State) : s.work.throttles = s.throttles := rfl
@[simp] theorem work_cooling (s : State) : s.work.cooling = s.cooling := rfl
@[simp] theorem work_boot (s : State) : s.work.boot = s.boot := rfl
@[simp] theorem work_root (s : State) : s.work.root = s.root := rfl
@[simp] theorem work_cxl (s : State) : s.work.cxl = s.cxl := rfl
@[simp] theorem work_log (s : State) : s.work.log = s.log := rfl
@[simp] theorem work_thermTrip (s : State) : s.work.thermTrip = s.thermTrip := rfl
@[simp] theorem work_alertPin (s : State) : s.work.alertPin = s.alertPin := rfl
@[simp] theorem work_coolFailPin (s : State) : s.work.coolFailPin = s.coolFailPin := rfl
@[simp] theorem work_fuses (s : State) : s.work.fuses = s.fuses := rfl
@[simp] theorem work_mem (s : State) : s.work.mem = s.mem := rfl
@[simp] theorem work_stores (s : State) : s.work.stores = [] := rfl

/-! ### modArr -/

@[simp] theorem modArr_free (w : Work) (a : Nat) (f : Arr → Arr) : (w.modArr a f).free = w.free := rfl
@[simp] theorem modArr_clock (w : Work) (a : Nat) (f : Arr → Arr) : (w.modArr a f).clock = w.clock := rfl
@[simp] theorem modArr_regs (w : Work) (a : Nat) (f : Arr → Arr) : (w.modArr a f).regs = w.regs := rfl
@[simp] theorem modArr_reply (w : Work) (a : Nat) (f : Arr → Arr) : (w.modArr a f).reply = w.reply := rfl
@[simp] theorem modArr_sessions (w : Work) (a : Nat) (f : Arr → Arr) : (w.modArr a f).sessions = w.sessions := rfl
@[simp] theorem modArr_badWords (w : Work) (a : Nat) (f : Arr → Arr) : (w.modArr a f).badWords = w.badWords := rfl
@[simp] theorem modArr_lost (w : Work) (a : Nat) (f : Arr → Arr) : (w.modArr a f).lost = w.lost := rfl
@[simp] theorem modArr_entering (w : Work) (a : Nat) (f : Arr → Arr) : (w.modArr a f).entering = w.entering := rfl
@[simp] theorem modArr_arrived (w : Work) (a : Nat) (f : Arr → Arr) : (w.modArr a f).arrived = w.arrived := rfl
@[simp] theorem modArr_dies (w : Work) (a : Nat) (f : Arr → Arr) : (w.modArr a f).dies = w.dies := rfl
@[simp] theorem modArr_links (w : Work) (a : Nat) (f : Arr → Arr) : (w.modArr a f).links = w.links := rfl
@[simp] theorem modArr_net (w : Work) (a : Nat) (f : Arr → Arr) : (w.modArr a f).net = w.net := rfl
@[simp] theorem modArr_hutches (w : Work) (a : Nat) (f : Arr → Arr) : (w.modArr a f).hutches = w.hutches := rfl
@[simp] theorem modArr_checks (w : Work) (a : Nat) (f : Arr → Arr) : (w.modArr a f).checks = w.checks := rfl
@[simp] theorem modArr_sets (w : Work) (a : Nat) (f : Arr → Arr) : (w.modArr a f).sets = w.sets := rfl
@[simp] theorem modArr_streams (w : Work) (a : Nat) (f : Arr → Arr) : (w.modArr a f).streams = w.streams := rfl
@[simp] theorem modArr_registry (w : Work) (a : Nat) (f : Arr → Arr) : (w.modArr a f).registry = w.registry := rfl
@[simp] theorem modArr_lists (w : Work) (a : Nat) (f : Arr → Arr) : (w.modArr a f).lists = w.lists := rfl
@[simp] theorem modArr_job (w : Work) (a : Nat) (f : Arr → Arr) : (w.modArr a f).job = w.job := rfl
@[simp] theorem modArr_ports (w : Work) (a : Nat) (f : Arr → Arr) : (w.modArr a f).ports = w.ports := rfl
@[simp] theorem modArr_domains (w : Work) (a : Nat) (f : Arr → Arr) : (w.modArr a f).domains = w.domains := rfl
@[simp] theorem modArr_regions (w : Work) (a : Nat) (f : Arr → Arr) : (w.modArr a f).regions = w.regions := rfl
@[simp] theorem modArr_boot (w : Work) (a : Nat) (f : Arr → Arr) : (w.modArr a f).boot = w.boot := rfl
@[simp] theorem modArr_log (w : Work) (a : Nat) (f : Arr → Arr) : (w.modArr a f).log = w.log := rfl
@[simp] theorem modArr_fuses (w : Work) (a : Nat) (f : Arr → Arr) : (w.modArr a f).fuses = w.fuses := rfl
@[simp] theorem modArr_mem (w : Work) (a : Nat) (f : Arr → Arr) : (w.modArr a f).mem = w.mem := rfl
@[simp] theorem modArr_stores (w : Work) (a : Nat) (f : Arr → Arr) : (w.modArr a f).stores = w.stores := rfl

/-! ### modDie -/

@[simp] theorem modDie_free (w : Work) (d : Nat) (f : Die → Die) : (w.modDie d f).free = w.free := rfl
@[simp] theorem modDie_clock (w : Work) (d : Nat) (f : Die → Die) : (w.modDie d f).clock = w.clock := rfl
@[simp] theorem modDie_regs (w : Work) (d : Nat) (f : Die → Die) : (w.modDie d f).regs = w.regs := rfl
@[simp] theorem modDie_reply (w : Work) (d : Nat) (f : Die → Die) : (w.modDie d f).reply = w.reply := rfl
@[simp] theorem modDie_sessions (w : Work) (d : Nat) (f : Die → Die) : (w.modDie d f).sessions = w.sessions := rfl
@[simp] theorem modDie_badWords (w : Work) (d : Nat) (f : Die → Die) : (w.modDie d f).badWords = w.badWords := rfl
@[simp] theorem modDie_lost (w : Work) (d : Nat) (f : Die → Die) : (w.modDie d f).lost = w.lost := rfl
@[simp] theorem modDie_entering (w : Work) (d : Nat) (f : Die → Die) : (w.modDie d f).entering = w.entering := rfl
@[simp] theorem modDie_arrived (w : Work) (d : Nat) (f : Die → Die) : (w.modDie d f).arrived = w.arrived := rfl
@[simp] theorem modDie_arrays (w : Work) (d : Nat) (f : Die → Die) : (w.modDie d f).arrays = w.arrays := rfl
@[simp] theorem modDie_links (w : Work) (d : Nat) (f : Die → Die) : (w.modDie d f).links = w.links := rfl
@[simp] theorem modDie_net (w : Work) (d : Nat) (f : Die → Die) : (w.modDie d f).net = w.net := rfl
@[simp] theorem modDie_hutches (w : Work) (d : Nat) (f : Die → Die) : (w.modDie d f).hutches = w.hutches := rfl
@[simp] theorem modDie_checks (w : Work) (d : Nat) (f : Die → Die) : (w.modDie d f).checks = w.checks := rfl
@[simp] theorem modDie_sets (w : Work) (d : Nat) (f : Die → Die) : (w.modDie d f).sets = w.sets := rfl
@[simp] theorem modDie_streams (w : Work) (d : Nat) (f : Die → Die) : (w.modDie d f).streams = w.streams := rfl
@[simp] theorem modDie_registry (w : Work) (d : Nat) (f : Die → Die) : (w.modDie d f).registry = w.registry := rfl
@[simp] theorem modDie_lists (w : Work) (d : Nat) (f : Die → Die) : (w.modDie d f).lists = w.lists := rfl
@[simp] theorem modDie_job (w : Work) (d : Nat) (f : Die → Die) : (w.modDie d f).job = w.job := rfl
@[simp] theorem modDie_ports (w : Work) (d : Nat) (f : Die → Die) : (w.modDie d f).ports = w.ports := rfl
@[simp] theorem modDie_domains (w : Work) (d : Nat) (f : Die → Die) : (w.modDie d f).domains = w.domains := rfl
@[simp] theorem modDie_regions (w : Work) (d : Nat) (f : Die → Die) : (w.modDie d f).regions = w.regions := rfl
@[simp] theorem modDie_boot (w : Work) (d : Nat) (f : Die → Die) : (w.modDie d f).boot = w.boot := rfl
@[simp] theorem modDie_log (w : Work) (d : Nat) (f : Die → Die) : (w.modDie d f).log = w.log := rfl
@[simp] theorem modDie_fuses (w : Work) (d : Nat) (f : Die → Die) : (w.modDie d f).fuses = w.fuses := rfl
@[simp] theorem modDie_mem (w : Work) (d : Nat) (f : Die → Die) : (w.modDie d f).mem = w.mem := rfl
@[simp] theorem modDie_stores (w : Work) (d : Nat) (f : Die → Die) : (w.modDie d f).stores = w.stores := rfl

/-! ### modHutch -/

@[simp] theorem modHutch_free (w : Work) (b : Nat) (f : Hutch → Hutch) : (w.modHutch b f).free = w.free := rfl
@[simp] theorem modHutch_clock (w : Work) (b : Nat) (f : Hutch → Hutch) : (w.modHutch b f).clock = w.clock := rfl
@[simp] theorem modHutch_regs (w : Work) (b : Nat) (f : Hutch → Hutch) : (w.modHutch b f).regs = w.regs := rfl
@[simp] theorem modHutch_reply (w : Work) (b : Nat) (f : Hutch → Hutch) : (w.modHutch b f).reply = w.reply := rfl
@[simp] theorem modHutch_sessions (w : Work) (b : Nat) (f : Hutch → Hutch) : (w.modHutch b f).sessions = w.sessions := rfl
@[simp] theorem modHutch_badWords (w : Work) (b : Nat) (f : Hutch → Hutch) : (w.modHutch b f).badWords = w.badWords := rfl
@[simp] theorem modHutch_lost (w : Work) (b : Nat) (f : Hutch → Hutch) : (w.modHutch b f).lost = w.lost := rfl
@[simp] theorem modHutch_entering (w : Work) (b : Nat) (f : Hutch → Hutch) : (w.modHutch b f).entering = w.entering := rfl
@[simp] theorem modHutch_arrived (w : Work) (b : Nat) (f : Hutch → Hutch) : (w.modHutch b f).arrived = w.arrived := rfl
@[simp] theorem modHutch_arrays (w : Work) (b : Nat) (f : Hutch → Hutch) : (w.modHutch b f).arrays = w.arrays := rfl
@[simp] theorem modHutch_dies (w : Work) (b : Nat) (f : Hutch → Hutch) : (w.modHutch b f).dies = w.dies := rfl
@[simp] theorem modHutch_links (w : Work) (b : Nat) (f : Hutch → Hutch) : (w.modHutch b f).links = w.links := rfl
@[simp] theorem modHutch_net (w : Work) (b : Nat) (f : Hutch → Hutch) : (w.modHutch b f).net = w.net := rfl
@[simp] theorem modHutch_checks (w : Work) (b : Nat) (f : Hutch → Hutch) : (w.modHutch b f).checks = w.checks := rfl
@[simp] theorem modHutch_sets (w : Work) (b : Nat) (f : Hutch → Hutch) : (w.modHutch b f).sets = w.sets := rfl
@[simp] theorem modHutch_streams (w : Work) (b : Nat) (f : Hutch → Hutch) : (w.modHutch b f).streams = w.streams := rfl
@[simp] theorem modHutch_registry (w : Work) (b : Nat) (f : Hutch → Hutch) : (w.modHutch b f).registry = w.registry := rfl
@[simp] theorem modHutch_lists (w : Work) (b : Nat) (f : Hutch → Hutch) : (w.modHutch b f).lists = w.lists := rfl
@[simp] theorem modHutch_job (w : Work) (b : Nat) (f : Hutch → Hutch) : (w.modHutch b f).job = w.job := rfl
@[simp] theorem modHutch_ports (w : Work) (b : Nat) (f : Hutch → Hutch) : (w.modHutch b f).ports = w.ports := rfl
@[simp] theorem modHutch_domains (w : Work) (b : Nat) (f : Hutch → Hutch) : (w.modHutch b f).domains = w.domains := rfl
@[simp] theorem modHutch_regions (w : Work) (b : Nat) (f : Hutch → Hutch) : (w.modHutch b f).regions = w.regions := rfl
@[simp] theorem modHutch_boot (w : Work) (b : Nat) (f : Hutch → Hutch) : (w.modHutch b f).boot = w.boot := rfl
@[simp] theorem modHutch_log (w : Work) (b : Nat) (f : Hutch → Hutch) : (w.modHutch b f).log = w.log := rfl
@[simp] theorem modHutch_fuses (w : Work) (b : Nat) (f : Hutch → Hutch) : (w.modHutch b f).fuses = w.fuses := rfl
@[simp] theorem modHutch_mem (w : Work) (b : Nat) (f : Hutch → Hutch) : (w.modHutch b f).mem = w.mem := rfl
@[simp] theorem modHutch_stores (w : Work) (b : Nat) (f : Hutch → Hutch) : (w.modHutch b f).stores = w.stores := rfl

/-! ### modLink -/

@[simp] theorem modLink_free (w : Work) (l : Nat) (f : Link → Link) : (w.modLink l f).free = w.free := rfl
@[simp] theorem modLink_clock (w : Work) (l : Nat) (f : Link → Link) : (w.modLink l f).clock = w.clock := rfl
@[simp] theorem modLink_regs (w : Work) (l : Nat) (f : Link → Link) : (w.modLink l f).regs = w.regs := rfl
@[simp] theorem modLink_reply (w : Work) (l : Nat) (f : Link → Link) : (w.modLink l f).reply = w.reply := rfl
@[simp] theorem modLink_sessions (w : Work) (l : Nat) (f : Link → Link) : (w.modLink l f).sessions = w.sessions := rfl
@[simp] theorem modLink_badWords (w : Work) (l : Nat) (f : Link → Link) : (w.modLink l f).badWords = w.badWords := rfl
@[simp] theorem modLink_lost (w : Work) (l : Nat) (f : Link → Link) : (w.modLink l f).lost = w.lost := rfl
@[simp] theorem modLink_entering (w : Work) (l : Nat) (f : Link → Link) : (w.modLink l f).entering = w.entering := rfl
@[simp] theorem modLink_arrived (w : Work) (l : Nat) (f : Link → Link) : (w.modLink l f).arrived = w.arrived := rfl
@[simp] theorem modLink_arrays (w : Work) (l : Nat) (f : Link → Link) : (w.modLink l f).arrays = w.arrays := rfl
@[simp] theorem modLink_dies (w : Work) (l : Nat) (f : Link → Link) : (w.modLink l f).dies = w.dies := rfl
@[simp] theorem modLink_net (w : Work) (l : Nat) (f : Link → Link) : (w.modLink l f).net = w.net := rfl
@[simp] theorem modLink_hutches (w : Work) (l : Nat) (f : Link → Link) : (w.modLink l f).hutches = w.hutches := rfl
@[simp] theorem modLink_checks (w : Work) (l : Nat) (f : Link → Link) : (w.modLink l f).checks = w.checks := rfl
@[simp] theorem modLink_sets (w : Work) (l : Nat) (f : Link → Link) : (w.modLink l f).sets = w.sets := rfl
@[simp] theorem modLink_streams (w : Work) (l : Nat) (f : Link → Link) : (w.modLink l f).streams = w.streams := rfl
@[simp] theorem modLink_registry (w : Work) (l : Nat) (f : Link → Link) : (w.modLink l f).registry = w.registry := rfl
@[simp] theorem modLink_lists (w : Work) (l : Nat) (f : Link → Link) : (w.modLink l f).lists = w.lists := rfl
@[simp] theorem modLink_job (w : Work) (l : Nat) (f : Link → Link) : (w.modLink l f).job = w.job := rfl
@[simp] theorem modLink_ports (w : Work) (l : Nat) (f : Link → Link) : (w.modLink l f).ports = w.ports := rfl
@[simp] theorem modLink_domains (w : Work) (l : Nat) (f : Link → Link) : (w.modLink l f).domains = w.domains := rfl
@[simp] theorem modLink_regions (w : Work) (l : Nat) (f : Link → Link) : (w.modLink l f).regions = w.regions := rfl
@[simp] theorem modLink_boot (w : Work) (l : Nat) (f : Link → Link) : (w.modLink l f).boot = w.boot := rfl
@[simp] theorem modLink_log (w : Work) (l : Nat) (f : Link → Link) : (w.modLink l f).log = w.log := rfl
@[simp] theorem modLink_fuses (w : Work) (l : Nat) (f : Link → Link) : (w.modLink l f).fuses = w.fuses := rfl
@[simp] theorem modLink_mem (w : Work) (l : Nat) (f : Link → Link) : (w.modLink l f).mem = w.mem := rfl
@[simp] theorem modLink_stores (w : Work) (l : Nat) (f : Link → Link) : (w.modLink l f).stores = w.stores := rfl

/-! ### modPort -/

@[simp] theorem modPort_free (w : Work) (k : Nat) (f : Port → Port) : (w.modPort k f).free = w.free := rfl
@[simp] theorem modPort_clock (w : Work) (k : Nat) (f : Port → Port) : (w.modPort k f).clock = w.clock := rfl
@[simp] theorem modPort_regs (w : Work) (k : Nat) (f : Port → Port) : (w.modPort k f).regs = w.regs := rfl
@[simp] theorem modPort_reply (w : Work) (k : Nat) (f : Port → Port) : (w.modPort k f).reply = w.reply := rfl
@[simp] theorem modPort_sessions (w : Work) (k : Nat) (f : Port → Port) : (w.modPort k f).sessions = w.sessions := rfl
@[simp] theorem modPort_badWords (w : Work) (k : Nat) (f : Port → Port) : (w.modPort k f).badWords = w.badWords := rfl
@[simp] theorem modPort_lost (w : Work) (k : Nat) (f : Port → Port) : (w.modPort k f).lost = w.lost := rfl
@[simp] theorem modPort_entering (w : Work) (k : Nat) (f : Port → Port) : (w.modPort k f).entering = w.entering := rfl
@[simp] theorem modPort_arrived (w : Work) (k : Nat) (f : Port → Port) : (w.modPort k f).arrived = w.arrived := rfl
@[simp] theorem modPort_arrays (w : Work) (k : Nat) (f : Port → Port) : (w.modPort k f).arrays = w.arrays := rfl
@[simp] theorem modPort_dies (w : Work) (k : Nat) (f : Port → Port) : (w.modPort k f).dies = w.dies := rfl
@[simp] theorem modPort_links (w : Work) (k : Nat) (f : Port → Port) : (w.modPort k f).links = w.links := rfl
@[simp] theorem modPort_net (w : Work) (k : Nat) (f : Port → Port) : (w.modPort k f).net = w.net := rfl
@[simp] theorem modPort_hutches (w : Work) (k : Nat) (f : Port → Port) : (w.modPort k f).hutches = w.hutches := rfl
@[simp] theorem modPort_checks (w : Work) (k : Nat) (f : Port → Port) : (w.modPort k f).checks = w.checks := rfl
@[simp] theorem modPort_sets (w : Work) (k : Nat) (f : Port → Port) : (w.modPort k f).sets = w.sets := rfl
@[simp] theorem modPort_streams (w : Work) (k : Nat) (f : Port → Port) : (w.modPort k f).streams = w.streams := rfl
@[simp] theorem modPort_registry (w : Work) (k : Nat) (f : Port → Port) : (w.modPort k f).registry = w.registry := rfl
@[simp] theorem modPort_lists (w : Work) (k : Nat) (f : Port → Port) : (w.modPort k f).lists = w.lists := rfl
@[simp] theorem modPort_job (w : Work) (k : Nat) (f : Port → Port) : (w.modPort k f).job = w.job := rfl
@[simp] theorem modPort_domains (w : Work) (k : Nat) (f : Port → Port) : (w.modPort k f).domains = w.domains := rfl
@[simp] theorem modPort_regions (w : Work) (k : Nat) (f : Port → Port) : (w.modPort k f).regions = w.regions := rfl
@[simp] theorem modPort_boot (w : Work) (k : Nat) (f : Port → Port) : (w.modPort k f).boot = w.boot := rfl
@[simp] theorem modPort_log (w : Work) (k : Nat) (f : Port → Port) : (w.modPort k f).log = w.log := rfl
@[simp] theorem modPort_fuses (w : Work) (k : Nat) (f : Port → Port) : (w.modPort k f).fuses = w.fuses := rfl
@[simp] theorem modPort_mem (w : Work) (k : Nat) (f : Port → Port) : (w.modPort k f).mem = w.mem := rfl
@[simp] theorem modPort_stores (w : Work) (k : Nat) (f : Port → Port) : (w.modPort k f).stores = w.stores := rfl

/-! ### modSet -/

@[simp] theorem modSet_free (w : Work) (n : Nat) (f : WSet → WSet) : (w.modSet n f).free = w.free := rfl
@[simp] theorem modSet_clock (w : Work) (n : Nat) (f : WSet → WSet) : (w.modSet n f).clock = w.clock := rfl
@[simp] theorem modSet_regs (w : Work) (n : Nat) (f : WSet → WSet) : (w.modSet n f).regs = w.regs := rfl
@[simp] theorem modSet_reply (w : Work) (n : Nat) (f : WSet → WSet) : (w.modSet n f).reply = w.reply := rfl
@[simp] theorem modSet_sessions (w : Work) (n : Nat) (f : WSet → WSet) : (w.modSet n f).sessions = w.sessions := rfl
@[simp] theorem modSet_badWords (w : Work) (n : Nat) (f : WSet → WSet) : (w.modSet n f).badWords = w.badWords := rfl
@[simp] theorem modSet_lost (w : Work) (n : Nat) (f : WSet → WSet) : (w.modSet n f).lost = w.lost := rfl
@[simp] theorem modSet_entering (w : Work) (n : Nat) (f : WSet → WSet) : (w.modSet n f).entering = w.entering := rfl
@[simp] theorem modSet_arrived (w : Work) (n : Nat) (f : WSet → WSet) : (w.modSet n f).arrived = w.arrived := rfl
@[simp] theorem modSet_arrays (w : Work) (n : Nat) (f : WSet → WSet) : (w.modSet n f).arrays = w.arrays := rfl
@[simp] theorem modSet_dies (w : Work) (n : Nat) (f : WSet → WSet) : (w.modSet n f).dies = w.dies := rfl
@[simp] theorem modSet_links (w : Work) (n : Nat) (f : WSet → WSet) : (w.modSet n f).links = w.links := rfl
@[simp] theorem modSet_net (w : Work) (n : Nat) (f : WSet → WSet) : (w.modSet n f).net = w.net := rfl
@[simp] theorem modSet_hutches (w : Work) (n : Nat) (f : WSet → WSet) : (w.modSet n f).hutches = w.hutches := rfl
@[simp] theorem modSet_checks (w : Work) (n : Nat) (f : WSet → WSet) : (w.modSet n f).checks = w.checks := rfl
@[simp] theorem modSet_streams (w : Work) (n : Nat) (f : WSet → WSet) : (w.modSet n f).streams = w.streams := rfl
@[simp] theorem modSet_registry (w : Work) (n : Nat) (f : WSet → WSet) : (w.modSet n f).registry = w.registry := rfl
@[simp] theorem modSet_lists (w : Work) (n : Nat) (f : WSet → WSet) : (w.modSet n f).lists = w.lists := rfl
@[simp] theorem modSet_job (w : Work) (n : Nat) (f : WSet → WSet) : (w.modSet n f).job = w.job := rfl
@[simp] theorem modSet_ports (w : Work) (n : Nat) (f : WSet → WSet) : (w.modSet n f).ports = w.ports := rfl
@[simp] theorem modSet_domains (w : Work) (n : Nat) (f : WSet → WSet) : (w.modSet n f).domains = w.domains := rfl
@[simp] theorem modSet_regions (w : Work) (n : Nat) (f : WSet → WSet) : (w.modSet n f).regions = w.regions := rfl
@[simp] theorem modSet_boot (w : Work) (n : Nat) (f : WSet → WSet) : (w.modSet n f).boot = w.boot := rfl
@[simp] theorem modSet_log (w : Work) (n : Nat) (f : WSet → WSet) : (w.modSet n f).log = w.log := rfl
@[simp] theorem modSet_fuses (w : Work) (n : Nat) (f : WSet → WSet) : (w.modSet n f).fuses = w.fuses := rfl
@[simp] theorem modSet_mem (w : Work) (n : Nat) (f : WSet → WSet) : (w.modSet n f).mem = w.mem := rfl
@[simp] theorem modSet_stores (w : Work) (n : Nat) (f : WSet → WSet) : (w.modSet n f).stores = w.stores := rfl

/-! ### modStream -/

@[simp] theorem modStream_free (w : Work) (n : Nat) (f : Stream → Stream) : (w.modStream n f).free = w.free := rfl
@[simp] theorem modStream_clock (w : Work) (n : Nat) (f : Stream → Stream) : (w.modStream n f).clock = w.clock := rfl
@[simp] theorem modStream_regs (w : Work) (n : Nat) (f : Stream → Stream) : (w.modStream n f).regs = w.regs := rfl
@[simp] theorem modStream_reply (w : Work) (n : Nat) (f : Stream → Stream) : (w.modStream n f).reply = w.reply := rfl
@[simp] theorem modStream_sessions (w : Work) (n : Nat) (f : Stream → Stream) : (w.modStream n f).sessions = w.sessions := rfl
@[simp] theorem modStream_badWords (w : Work) (n : Nat) (f : Stream → Stream) : (w.modStream n f).badWords = w.badWords := rfl
@[simp] theorem modStream_lost (w : Work) (n : Nat) (f : Stream → Stream) : (w.modStream n f).lost = w.lost := rfl
@[simp] theorem modStream_entering (w : Work) (n : Nat) (f : Stream → Stream) : (w.modStream n f).entering = w.entering := rfl
@[simp] theorem modStream_arrived (w : Work) (n : Nat) (f : Stream → Stream) : (w.modStream n f).arrived = w.arrived := rfl
@[simp] theorem modStream_arrays (w : Work) (n : Nat) (f : Stream → Stream) : (w.modStream n f).arrays = w.arrays := rfl
@[simp] theorem modStream_dies (w : Work) (n : Nat) (f : Stream → Stream) : (w.modStream n f).dies = w.dies := rfl
@[simp] theorem modStream_links (w : Work) (n : Nat) (f : Stream → Stream) : (w.modStream n f).links = w.links := rfl
@[simp] theorem modStream_net (w : Work) (n : Nat) (f : Stream → Stream) : (w.modStream n f).net = w.net := rfl
@[simp] theorem modStream_hutches (w : Work) (n : Nat) (f : Stream → Stream) : (w.modStream n f).hutches = w.hutches := rfl
@[simp] theorem modStream_checks (w : Work) (n : Nat) (f : Stream → Stream) : (w.modStream n f).checks = w.checks := rfl
@[simp] theorem modStream_sets (w : Work) (n : Nat) (f : Stream → Stream) : (w.modStream n f).sets = w.sets := rfl
@[simp] theorem modStream_registry (w : Work) (n : Nat) (f : Stream → Stream) : (w.modStream n f).registry = w.registry := rfl
@[simp] theorem modStream_lists (w : Work) (n : Nat) (f : Stream → Stream) : (w.modStream n f).lists = w.lists := rfl
@[simp] theorem modStream_job (w : Work) (n : Nat) (f : Stream → Stream) : (w.modStream n f).job = w.job := rfl
@[simp] theorem modStream_ports (w : Work) (n : Nat) (f : Stream → Stream) : (w.modStream n f).ports = w.ports := rfl
@[simp] theorem modStream_domains (w : Work) (n : Nat) (f : Stream → Stream) : (w.modStream n f).domains = w.domains := rfl
@[simp] theorem modStream_regions (w : Work) (n : Nat) (f : Stream → Stream) : (w.modStream n f).regions = w.regions := rfl
@[simp] theorem modStream_boot (w : Work) (n : Nat) (f : Stream → Stream) : (w.modStream n f).boot = w.boot := rfl
@[simp] theorem modStream_log (w : Work) (n : Nat) (f : Stream → Stream) : (w.modStream n f).log = w.log := rfl
@[simp] theorem modStream_fuses (w : Work) (n : Nat) (f : Stream → Stream) : (w.modStream n f).fuses = w.fuses := rfl
@[simp] theorem modStream_mem (w : Work) (n : Nat) (f : Stream → Stream) : (w.modStream n f).mem = w.mem := rfl
@[simp] theorem modStream_stores (w : Work) (n : Nat) (f : Stream → Stream) : (w.modStream n f).stores = w.stores := rfl

/-! ### modDomain -/

@[simp] theorem modDomain_free (w : Work) (d : Nat) (f : Domain → Domain) : (w.modDomain d f).free = w.free := rfl
@[simp] theorem modDomain_clock (w : Work) (d : Nat) (f : Domain → Domain) : (w.modDomain d f).clock = w.clock := rfl
@[simp] theorem modDomain_regs (w : Work) (d : Nat) (f : Domain → Domain) : (w.modDomain d f).regs = w.regs := rfl
@[simp] theorem modDomain_reply (w : Work) (d : Nat) (f : Domain → Domain) : (w.modDomain d f).reply = w.reply := rfl
@[simp] theorem modDomain_sessions (w : Work) (d : Nat) (f : Domain → Domain) : (w.modDomain d f).sessions = w.sessions := rfl
@[simp] theorem modDomain_badWords (w : Work) (d : Nat) (f : Domain → Domain) : (w.modDomain d f).badWords = w.badWords := rfl
@[simp] theorem modDomain_lost (w : Work) (d : Nat) (f : Domain → Domain) : (w.modDomain d f).lost = w.lost := rfl
@[simp] theorem modDomain_entering (w : Work) (d : Nat) (f : Domain → Domain) : (w.modDomain d f).entering = w.entering := rfl
@[simp] theorem modDomain_arrived (w : Work) (d : Nat) (f : Domain → Domain) : (w.modDomain d f).arrived = w.arrived := rfl
@[simp] theorem modDomain_arrays (w : Work) (d : Nat) (f : Domain → Domain) : (w.modDomain d f).arrays = w.arrays := rfl
@[simp] theorem modDomain_dies (w : Work) (d : Nat) (f : Domain → Domain) : (w.modDomain d f).dies = w.dies := rfl
@[simp] theorem modDomain_links (w : Work) (d : Nat) (f : Domain → Domain) : (w.modDomain d f).links = w.links := rfl
@[simp] theorem modDomain_net (w : Work) (d : Nat) (f : Domain → Domain) : (w.modDomain d f).net = w.net := rfl
@[simp] theorem modDomain_hutches (w : Work) (d : Nat) (f : Domain → Domain) : (w.modDomain d f).hutches = w.hutches := rfl
@[simp] theorem modDomain_checks (w : Work) (d : Nat) (f : Domain → Domain) : (w.modDomain d f).checks = w.checks := rfl
@[simp] theorem modDomain_sets (w : Work) (d : Nat) (f : Domain → Domain) : (w.modDomain d f).sets = w.sets := rfl
@[simp] theorem modDomain_streams (w : Work) (d : Nat) (f : Domain → Domain) : (w.modDomain d f).streams = w.streams := rfl
@[simp] theorem modDomain_registry (w : Work) (d : Nat) (f : Domain → Domain) : (w.modDomain d f).registry = w.registry := rfl
@[simp] theorem modDomain_lists (w : Work) (d : Nat) (f : Domain → Domain) : (w.modDomain d f).lists = w.lists := rfl
@[simp] theorem modDomain_job (w : Work) (d : Nat) (f : Domain → Domain) : (w.modDomain d f).job = w.job := rfl
@[simp] theorem modDomain_ports (w : Work) (d : Nat) (f : Domain → Domain) : (w.modDomain d f).ports = w.ports := rfl
@[simp] theorem modDomain_regions (w : Work) (d : Nat) (f : Domain → Domain) : (w.modDomain d f).regions = w.regions := rfl
@[simp] theorem modDomain_boot (w : Work) (d : Nat) (f : Domain → Domain) : (w.modDomain d f).boot = w.boot := rfl
@[simp] theorem modDomain_log (w : Work) (d : Nat) (f : Domain → Domain) : (w.modDomain d f).log = w.log := rfl
@[simp] theorem modDomain_fuses (w : Work) (d : Nat) (f : Domain → Domain) : (w.modDomain d f).fuses = w.fuses := rfl
@[simp] theorem modDomain_mem (w : Work) (d : Nat) (f : Domain → Domain) : (w.modDomain d f).mem = w.mem := rfl
@[simp] theorem modDomain_stores (w : Work) (d : Nat) (f : Domain → Domain) : (w.modDomain d f).stores = w.stores := rfl

/-! ### modRegion -/

@[simp] theorem modRegion_free (w : Work) (r : Nat) (f : Region → Region) : (w.modRegion r f).free = w.free := rfl
@[simp] theorem modRegion_clock (w : Work) (r : Nat) (f : Region → Region) : (w.modRegion r f).clock = w.clock := rfl
@[simp] theorem modRegion_regs (w : Work) (r : Nat) (f : Region → Region) : (w.modRegion r f).regs = w.regs := rfl
@[simp] theorem modRegion_reply (w : Work) (r : Nat) (f : Region → Region) : (w.modRegion r f).reply = w.reply := rfl
@[simp] theorem modRegion_sessions (w : Work) (r : Nat) (f : Region → Region) : (w.modRegion r f).sessions = w.sessions := rfl
@[simp] theorem modRegion_badWords (w : Work) (r : Nat) (f : Region → Region) : (w.modRegion r f).badWords = w.badWords := rfl
@[simp] theorem modRegion_lost (w : Work) (r : Nat) (f : Region → Region) : (w.modRegion r f).lost = w.lost := rfl
@[simp] theorem modRegion_entering (w : Work) (r : Nat) (f : Region → Region) : (w.modRegion r f).entering = w.entering := rfl
@[simp] theorem modRegion_arrived (w : Work) (r : Nat) (f : Region → Region) : (w.modRegion r f).arrived = w.arrived := rfl
@[simp] theorem modRegion_arrays (w : Work) (r : Nat) (f : Region → Region) : (w.modRegion r f).arrays = w.arrays := rfl
@[simp] theorem modRegion_dies (w : Work) (r : Nat) (f : Region → Region) : (w.modRegion r f).dies = w.dies := rfl
@[simp] theorem modRegion_links (w : Work) (r : Nat) (f : Region → Region) : (w.modRegion r f).links = w.links := rfl
@[simp] theorem modRegion_net (w : Work) (r : Nat) (f : Region → Region) : (w.modRegion r f).net = w.net := rfl
@[simp] theorem modRegion_hutches (w : Work) (r : Nat) (f : Region → Region) : (w.modRegion r f).hutches = w.hutches := rfl
@[simp] theorem modRegion_checks (w : Work) (r : Nat) (f : Region → Region) : (w.modRegion r f).checks = w.checks := rfl
@[simp] theorem modRegion_sets (w : Work) (r : Nat) (f : Region → Region) : (w.modRegion r f).sets = w.sets := rfl
@[simp] theorem modRegion_streams (w : Work) (r : Nat) (f : Region → Region) : (w.modRegion r f).streams = w.streams := rfl
@[simp] theorem modRegion_registry (w : Work) (r : Nat) (f : Region → Region) : (w.modRegion r f).registry = w.registry := rfl
@[simp] theorem modRegion_lists (w : Work) (r : Nat) (f : Region → Region) : (w.modRegion r f).lists = w.lists := rfl
@[simp] theorem modRegion_job (w : Work) (r : Nat) (f : Region → Region) : (w.modRegion r f).job = w.job := rfl
@[simp] theorem modRegion_ports (w : Work) (r : Nat) (f : Region → Region) : (w.modRegion r f).ports = w.ports := rfl
@[simp] theorem modRegion_domains (w : Work) (r : Nat) (f : Region → Region) : (w.modRegion r f).domains = w.domains := rfl
@[simp] theorem modRegion_boot (w : Work) (r : Nat) (f : Region → Region) : (w.modRegion r f).boot = w.boot := rfl
@[simp] theorem modRegion_log (w : Work) (r : Nat) (f : Region → Region) : (w.modRegion r f).log = w.log := rfl
@[simp] theorem modRegion_fuses (w : Work) (r : Nat) (f : Region → Region) : (w.modRegion r f).fuses = w.fuses := rfl
@[simp] theorem modRegion_mem (w : Work) (r : Nat) (f : Region → Region) : (w.modRegion r f).mem = w.mem := rfl
@[simp] theorem modRegion_stores (w : Work) (r : Nat) (f : Region → Region) : (w.modRegion r f).stores = w.stores := rfl

/-! ### modCheck -/

@[simp] theorem modCheck_free (w : Work) (u : Nat) (f : Check → Check) : (w.modCheck u f).free = w.free := rfl
@[simp] theorem modCheck_clock (w : Work) (u : Nat) (f : Check → Check) : (w.modCheck u f).clock = w.clock := rfl
@[simp] theorem modCheck_regs (w : Work) (u : Nat) (f : Check → Check) : (w.modCheck u f).regs = w.regs := rfl
@[simp] theorem modCheck_reply (w : Work) (u : Nat) (f : Check → Check) : (w.modCheck u f).reply = w.reply := rfl
@[simp] theorem modCheck_sessions (w : Work) (u : Nat) (f : Check → Check) : (w.modCheck u f).sessions = w.sessions := rfl
@[simp] theorem modCheck_badWords (w : Work) (u : Nat) (f : Check → Check) : (w.modCheck u f).badWords = w.badWords := rfl
@[simp] theorem modCheck_lost (w : Work) (u : Nat) (f : Check → Check) : (w.modCheck u f).lost = w.lost := rfl
@[simp] theorem modCheck_entering (w : Work) (u : Nat) (f : Check → Check) : (w.modCheck u f).entering = w.entering := rfl
@[simp] theorem modCheck_arrived (w : Work) (u : Nat) (f : Check → Check) : (w.modCheck u f).arrived = w.arrived := rfl
@[simp] theorem modCheck_arrays (w : Work) (u : Nat) (f : Check → Check) : (w.modCheck u f).arrays = w.arrays := rfl
@[simp] theorem modCheck_dies (w : Work) (u : Nat) (f : Check → Check) : (w.modCheck u f).dies = w.dies := rfl
@[simp] theorem modCheck_links (w : Work) (u : Nat) (f : Check → Check) : (w.modCheck u f).links = w.links := rfl
@[simp] theorem modCheck_net (w : Work) (u : Nat) (f : Check → Check) : (w.modCheck u f).net = w.net := rfl
@[simp] theorem modCheck_hutches (w : Work) (u : Nat) (f : Check → Check) : (w.modCheck u f).hutches = w.hutches := rfl
@[simp] theorem modCheck_sets (w : Work) (u : Nat) (f : Check → Check) : (w.modCheck u f).sets = w.sets := rfl
@[simp] theorem modCheck_streams (w : Work) (u : Nat) (f : Check → Check) : (w.modCheck u f).streams = w.streams := rfl
@[simp] theorem modCheck_registry (w : Work) (u : Nat) (f : Check → Check) : (w.modCheck u f).registry = w.registry := rfl
@[simp] theorem modCheck_lists (w : Work) (u : Nat) (f : Check → Check) : (w.modCheck u f).lists = w.lists := rfl
@[simp] theorem modCheck_job (w : Work) (u : Nat) (f : Check → Check) : (w.modCheck u f).job = w.job := rfl
@[simp] theorem modCheck_ports (w : Work) (u : Nat) (f : Check → Check) : (w.modCheck u f).ports = w.ports := rfl
@[simp] theorem modCheck_domains (w : Work) (u : Nat) (f : Check → Check) : (w.modCheck u f).domains = w.domains := rfl
@[simp] theorem modCheck_regions (w : Work) (u : Nat) (f : Check → Check) : (w.modCheck u f).regions = w.regions := rfl
@[simp] theorem modCheck_boot (w : Work) (u : Nat) (f : Check → Check) : (w.modCheck u f).boot = w.boot := rfl
@[simp] theorem modCheck_log (w : Work) (u : Nat) (f : Check → Check) : (w.modCheck u f).log = w.log := rfl
@[simp] theorem modCheck_fuses (w : Work) (u : Nat) (f : Check → Check) : (w.modCheck u f).fuses = w.fuses := rfl
@[simp] theorem modCheck_mem (w : Work) (u : Nat) (f : Check → Check) : (w.modCheck u f).mem = w.mem := rfl
@[simp] theorem modCheck_stores (w : Work) (u : Nat) (f : Check → Check) : (w.modCheck u f).stores = w.stores := rfl

/-! ### modJob -/

@[simp] theorem modJob_free (w : Work) (f : Job → Job) : (w.modJob f).free = w.free := rfl
@[simp] theorem modJob_clock (w : Work) (f : Job → Job) : (w.modJob f).clock = w.clock := rfl
@[simp] theorem modJob_regs (w : Work) (f : Job → Job) : (w.modJob f).regs = w.regs := rfl
@[simp] theorem modJob_reply (w : Work) (f : Job → Job) : (w.modJob f).reply = w.reply := rfl
@[simp] theorem modJob_sessions (w : Work) (f : Job → Job) : (w.modJob f).sessions = w.sessions := rfl
@[simp] theorem modJob_badWords (w : Work) (f : Job → Job) : (w.modJob f).badWords = w.badWords := rfl
@[simp] theorem modJob_lost (w : Work) (f : Job → Job) : (w.modJob f).lost = w.lost := rfl
@[simp] theorem modJob_entering (w : Work) (f : Job → Job) : (w.modJob f).entering = w.entering := rfl
@[simp] theorem modJob_arrived (w : Work) (f : Job → Job) : (w.modJob f).arrived = w.arrived := rfl
@[simp] theorem modJob_arrays (w : Work) (f : Job → Job) : (w.modJob f).arrays = w.arrays := rfl
@[simp] theorem modJob_dies (w : Work) (f : Job → Job) : (w.modJob f).dies = w.dies := rfl
@[simp] theorem modJob_links (w : Work) (f : Job → Job) : (w.modJob f).links = w.links := rfl
@[simp] theorem modJob_net (w : Work) (f : Job → Job) : (w.modJob f).net = w.net := rfl
@[simp] theorem modJob_hutches (w : Work) (f : Job → Job) : (w.modJob f).hutches = w.hutches := rfl
@[simp] theorem modJob_checks (w : Work) (f : Job → Job) : (w.modJob f).checks = w.checks := rfl
@[simp] theorem modJob_sets (w : Work) (f : Job → Job) : (w.modJob f).sets = w.sets := rfl
@[simp] theorem modJob_streams (w : Work) (f : Job → Job) : (w.modJob f).streams = w.streams := rfl
@[simp] theorem modJob_registry (w : Work) (f : Job → Job) : (w.modJob f).registry = w.registry := rfl
@[simp] theorem modJob_lists (w : Work) (f : Job → Job) : (w.modJob f).lists = w.lists := rfl
@[simp] theorem modJob_ports (w : Work) (f : Job → Job) : (w.modJob f).ports = w.ports := rfl
@[simp] theorem modJob_domains (w : Work) (f : Job → Job) : (w.modJob f).domains = w.domains := rfl
@[simp] theorem modJob_regions (w : Work) (f : Job → Job) : (w.modJob f).regions = w.regions := rfl
@[simp] theorem modJob_boot (w : Work) (f : Job → Job) : (w.modJob f).boot = w.boot := rfl
@[simp] theorem modJob_log (w : Work) (f : Job → Job) : (w.modJob f).log = w.log := rfl
@[simp] theorem modJob_fuses (w : Work) (f : Job → Job) : (w.modJob f).fuses = w.fuses := rfl
@[simp] theorem modJob_mem (w : Work) (f : Job → Job) : (w.modJob f).mem = w.mem := rfl
@[simp] theorem modJob_stores (w : Work) (f : Job → Job) : (w.modJob f).stores = w.stores := rfl

/-! ### reach -/

@[simp] theorem reach_free (w : Work) (t : Nat) : (w.reach t).free = w.free := rfl
@[simp] theorem reach_regs (w : Work) (t : Nat) : (w.reach t).regs = w.regs := rfl
@[simp] theorem reach_reply (w : Work) (t : Nat) : (w.reach t).reply = w.reply := rfl
@[simp] theorem reach_sessions (w : Work) (t : Nat) : (w.reach t).sessions = w.sessions := rfl
@[simp] theorem reach_badWords (w : Work) (t : Nat) : (w.reach t).badWords = w.badWords := rfl
@[simp] theorem reach_lost (w : Work) (t : Nat) : (w.reach t).lost = w.lost := rfl
@[simp] theorem reach_entering (w : Work) (t : Nat) : (w.reach t).entering = w.entering := rfl
@[simp] theorem reach_arrived (w : Work) (t : Nat) : (w.reach t).arrived = w.arrived := rfl
@[simp] theorem reach_arrays (w : Work) (t : Nat) : (w.reach t).arrays = w.arrays := rfl
@[simp] theorem reach_dies (w : Work) (t : Nat) : (w.reach t).dies = w.dies := rfl
@[simp] theorem reach_links (w : Work) (t : Nat) : (w.reach t).links = w.links := rfl
@[simp] theorem reach_net (w : Work) (t : Nat) : (w.reach t).net = w.net := rfl
@[simp] theorem reach_hutches (w : Work) (t : Nat) : (w.reach t).hutches = w.hutches := rfl
@[simp] theorem reach_checks (w : Work) (t : Nat) : (w.reach t).checks = w.checks := rfl
@[simp] theorem reach_sets (w : Work) (t : Nat) : (w.reach t).sets = w.sets := rfl
@[simp] theorem reach_streams (w : Work) (t : Nat) : (w.reach t).streams = w.streams := rfl
@[simp] theorem reach_registry (w : Work) (t : Nat) : (w.reach t).registry = w.registry := rfl
@[simp] theorem reach_lists (w : Work) (t : Nat) : (w.reach t).lists = w.lists := rfl
@[simp] theorem reach_job (w : Work) (t : Nat) : (w.reach t).job = w.job := rfl
@[simp] theorem reach_ports (w : Work) (t : Nat) : (w.reach t).ports = w.ports := rfl
@[simp] theorem reach_domains (w : Work) (t : Nat) : (w.reach t).domains = w.domains := rfl
@[simp] theorem reach_regions (w : Work) (t : Nat) : (w.reach t).regions = w.regions := rfl
@[simp] theorem reach_boot (w : Work) (t : Nat) : (w.reach t).boot = w.boot := rfl
@[simp] theorem reach_log (w : Work) (t : Nat) : (w.reach t).log = w.log := rfl
@[simp] theorem reach_fuses (w : Work) (t : Nat) : (w.reach t).fuses = w.fuses := rfl
@[simp] theorem reach_mem (w : Work) (t : Nat) : (w.reach t).mem = w.mem := rfl
@[simp] theorem reach_stores (w : Work) (t : Nat) : (w.reach t).stores = w.stores := rfl

/-! ### send -/

@[simp] theorem send_free (w : Work) (p : Packet) : (w.send p).free = w.free := rfl
@[simp] theorem send_clock (w : Work) (p : Packet) : (w.send p).clock = w.clock := rfl
@[simp] theorem send_regs (w : Work) (p : Packet) : (w.send p).regs = w.regs := rfl
@[simp] theorem send_reply (w : Work) (p : Packet) : (w.send p).reply = w.reply := rfl
@[simp] theorem send_sessions (w : Work) (p : Packet) : (w.send p).sessions = w.sessions := rfl
@[simp] theorem send_badWords (w : Work) (p : Packet) : (w.send p).badWords = w.badWords := rfl
@[simp] theorem send_lost (w : Work) (p : Packet) : (w.send p).lost = w.lost := rfl
@[simp] theorem send_entering (w : Work) (p : Packet) : (w.send p).entering = w.entering := rfl
@[simp] theorem send_arrived (w : Work) (p : Packet) : (w.send p).arrived = w.arrived := rfl
@[simp] theorem send_arrays (w : Work) (p : Packet) : (w.send p).arrays = w.arrays := rfl
@[simp] theorem send_dies (w : Work) (p : Packet) : (w.send p).dies = w.dies := rfl
@[simp] theorem send_links (w : Work) (p : Packet) : (w.send p).links = w.links := rfl
@[simp] theorem send_hutches (w : Work) (p : Packet) : (w.send p).hutches = w.hutches := rfl
@[simp] theorem send_checks (w : Work) (p : Packet) : (w.send p).checks = w.checks := rfl
@[simp] theorem send_sets (w : Work) (p : Packet) : (w.send p).sets = w.sets := rfl
@[simp] theorem send_streams (w : Work) (p : Packet) : (w.send p).streams = w.streams := rfl
@[simp] theorem send_registry (w : Work) (p : Packet) : (w.send p).registry = w.registry := rfl
@[simp] theorem send_lists (w : Work) (p : Packet) : (w.send p).lists = w.lists := rfl
@[simp] theorem send_job (w : Work) (p : Packet) : (w.send p).job = w.job := rfl
@[simp] theorem send_ports (w : Work) (p : Packet) : (w.send p).ports = w.ports := rfl
@[simp] theorem send_domains (w : Work) (p : Packet) : (w.send p).domains = w.domains := rfl
@[simp] theorem send_regions (w : Work) (p : Packet) : (w.send p).regions = w.regions := rfl
@[simp] theorem send_boot (w : Work) (p : Packet) : (w.send p).boot = w.boot := rfl
@[simp] theorem send_log (w : Work) (p : Packet) : (w.send p).log = w.log := rfl
@[simp] theorem send_fuses (w : Work) (p : Packet) : (w.send p).fuses = w.fuses := rfl
@[simp] theorem send_mem (w : Work) (p : Packet) : (w.send p).mem = w.mem := rfl
@[simp] theorem send_stores (w : Work) (p : Packet) : (w.send p).stores = w.stores := rfl

/-! ### setReg -/

@[simp] theorem setReg_free (w : Work) (i j v : Nat) : (w.setReg i j v).free = w.free := rfl
@[simp] theorem setReg_clock (w : Work) (i j v : Nat) : (w.setReg i j v).clock = w.clock := rfl
@[simp] theorem setReg_reply (w : Work) (i j v : Nat) : (w.setReg i j v).reply = w.reply := rfl
@[simp] theorem setReg_sessions (w : Work) (i j v : Nat) : (w.setReg i j v).sessions = w.sessions := rfl
@[simp] theorem setReg_badWords (w : Work) (i j v : Nat) : (w.setReg i j v).badWords = w.badWords := rfl
@[simp] theorem setReg_lost (w : Work) (i j v : Nat) : (w.setReg i j v).lost = w.lost := rfl
@[simp] theorem setReg_entering (w : Work) (i j v : Nat) : (w.setReg i j v).entering = w.entering := rfl
@[simp] theorem setReg_arrived (w : Work) (i j v : Nat) : (w.setReg i j v).arrived = w.arrived := rfl
@[simp] theorem setReg_arrays (w : Work) (i j v : Nat) : (w.setReg i j v).arrays = w.arrays := rfl
@[simp] theorem setReg_dies (w : Work) (i j v : Nat) : (w.setReg i j v).dies = w.dies := rfl
@[simp] theorem setReg_links (w : Work) (i j v : Nat) : (w.setReg i j v).links = w.links := rfl
@[simp] theorem setReg_net (w : Work) (i j v : Nat) : (w.setReg i j v).net = w.net := rfl
@[simp] theorem setReg_hutches (w : Work) (i j v : Nat) : (w.setReg i j v).hutches = w.hutches := rfl
@[simp] theorem setReg_checks (w : Work) (i j v : Nat) : (w.setReg i j v).checks = w.checks := rfl
@[simp] theorem setReg_sets (w : Work) (i j v : Nat) : (w.setReg i j v).sets = w.sets := rfl
@[simp] theorem setReg_streams (w : Work) (i j v : Nat) : (w.setReg i j v).streams = w.streams := rfl
@[simp] theorem setReg_registry (w : Work) (i j v : Nat) : (w.setReg i j v).registry = w.registry := rfl
@[simp] theorem setReg_lists (w : Work) (i j v : Nat) : (w.setReg i j v).lists = w.lists := rfl
@[simp] theorem setReg_job (w : Work) (i j v : Nat) : (w.setReg i j v).job = w.job := rfl
@[simp] theorem setReg_ports (w : Work) (i j v : Nat) : (w.setReg i j v).ports = w.ports := rfl
@[simp] theorem setReg_domains (w : Work) (i j v : Nat) : (w.setReg i j v).domains = w.domains := rfl
@[simp] theorem setReg_regions (w : Work) (i j v : Nat) : (w.setReg i j v).regions = w.regions := rfl
@[simp] theorem setReg_boot (w : Work) (i j v : Nat) : (w.setReg i j v).boot = w.boot := rfl
@[simp] theorem setReg_log (w : Work) (i j v : Nat) : (w.setReg i j v).log = w.log := rfl
@[simp] theorem setReg_fuses (w : Work) (i j v : Nat) : (w.setReg i j v).fuses = w.fuses := rfl
@[simp] theorem setReg_mem (w : Work) (i j v : Nat) : (w.setReg i j v).mem = w.mem := rfl
@[simp] theorem setReg_stores (w : Work) (i j v : Nat) : (w.setReg i j v).stores = w.stores := rfl

/-! ### refuse -/

@[simp] theorem refuse_free (w : Work) (c o : Nat) : (w.refuse c o).free = w.free := rfl
@[simp] theorem refuse_clock (w : Work) (c o : Nat) : (w.refuse c o).clock = w.clock := rfl
@[simp] theorem refuse_regs (w : Work) (c o : Nat) : (w.refuse c o).regs = w.regs := rfl
@[simp] theorem refuse_sessions (w : Work) (c o : Nat) : (w.refuse c o).sessions = w.sessions := rfl
@[simp] theorem refuse_badWords (w : Work) (c o : Nat) : (w.refuse c o).badWords = w.badWords := rfl
@[simp] theorem refuse_lost (w : Work) (c o : Nat) : (w.refuse c o).lost = w.lost := rfl
@[simp] theorem refuse_entering (w : Work) (c o : Nat) : (w.refuse c o).entering = w.entering := rfl
@[simp] theorem refuse_arrived (w : Work) (c o : Nat) : (w.refuse c o).arrived = w.arrived := rfl
@[simp] theorem refuse_arrays (w : Work) (c o : Nat) : (w.refuse c o).arrays = w.arrays := rfl
@[simp] theorem refuse_dies (w : Work) (c o : Nat) : (w.refuse c o).dies = w.dies := rfl
@[simp] theorem refuse_links (w : Work) (c o : Nat) : (w.refuse c o).links = w.links := rfl
@[simp] theorem refuse_net (w : Work) (c o : Nat) : (w.refuse c o).net = w.net := rfl
@[simp] theorem refuse_hutches (w : Work) (c o : Nat) : (w.refuse c o).hutches = w.hutches := rfl
@[simp] theorem refuse_checks (w : Work) (c o : Nat) : (w.refuse c o).checks = w.checks := rfl
@[simp] theorem refuse_sets (w : Work) (c o : Nat) : (w.refuse c o).sets = w.sets := rfl
@[simp] theorem refuse_streams (w : Work) (c o : Nat) : (w.refuse c o).streams = w.streams := rfl
@[simp] theorem refuse_registry (w : Work) (c o : Nat) : (w.refuse c o).registry = w.registry := rfl
@[simp] theorem refuse_lists (w : Work) (c o : Nat) : (w.refuse c o).lists = w.lists := rfl
@[simp] theorem refuse_job (w : Work) (c o : Nat) : (w.refuse c o).job = w.job := rfl
@[simp] theorem refuse_ports (w : Work) (c o : Nat) : (w.refuse c o).ports = w.ports := rfl
@[simp] theorem refuse_domains (w : Work) (c o : Nat) : (w.refuse c o).domains = w.domains := rfl
@[simp] theorem refuse_regions (w : Work) (c o : Nat) : (w.refuse c o).regions = w.regions := rfl
@[simp] theorem refuse_boot (w : Work) (c o : Nat) : (w.refuse c o).boot = w.boot := rfl
@[simp] theorem refuse_log (w : Work) (c o : Nat) : (w.refuse c o).log = w.log := rfl
@[simp] theorem refuse_fuses (w : Work) (c o : Nat) : (w.refuse c o).fuses = w.fuses := rfl
@[simp] theorem refuse_mem (w : Work) (c o : Nat) : (w.refuse c o).mem = w.mem := rfl
@[simp] theorem refuse_stores (w : Work) (c o : Nat) : (w.refuse c o).stores = w.stores := rfl

/-! ### accept -/

@[simp] theorem accept_free (w : Work) (l : List Byte) : (w.accept l).free = w.free := rfl
@[simp] theorem accept_clock (w : Work) (l : List Byte) : (w.accept l).clock = w.clock := rfl
@[simp] theorem accept_regs (w : Work) (l : List Byte) : (w.accept l).regs = w.regs := rfl
@[simp] theorem accept_sessions (w : Work) (l : List Byte) : (w.accept l).sessions = w.sessions := rfl
@[simp] theorem accept_badWords (w : Work) (l : List Byte) : (w.accept l).badWords = w.badWords := rfl
@[simp] theorem accept_lost (w : Work) (l : List Byte) : (w.accept l).lost = w.lost := rfl
@[simp] theorem accept_entering (w : Work) (l : List Byte) : (w.accept l).entering = w.entering := rfl
@[simp] theorem accept_arrived (w : Work) (l : List Byte) : (w.accept l).arrived = w.arrived := rfl
@[simp] theorem accept_arrays (w : Work) (l : List Byte) : (w.accept l).arrays = w.arrays := rfl
@[simp] theorem accept_dies (w : Work) (l : List Byte) : (w.accept l).dies = w.dies := rfl
@[simp] theorem accept_links (w : Work) (l : List Byte) : (w.accept l).links = w.links := rfl
@[simp] theorem accept_net (w : Work) (l : List Byte) : (w.accept l).net = w.net := rfl
@[simp] theorem accept_hutches (w : Work) (l : List Byte) : (w.accept l).hutches = w.hutches := rfl
@[simp] theorem accept_checks (w : Work) (l : List Byte) : (w.accept l).checks = w.checks := rfl
@[simp] theorem accept_sets (w : Work) (l : List Byte) : (w.accept l).sets = w.sets := rfl
@[simp] theorem accept_streams (w : Work) (l : List Byte) : (w.accept l).streams = w.streams := rfl
@[simp] theorem accept_registry (w : Work) (l : List Byte) : (w.accept l).registry = w.registry := rfl
@[simp] theorem accept_lists (w : Work) (l : List Byte) : (w.accept l).lists = w.lists := rfl
@[simp] theorem accept_job (w : Work) (l : List Byte) : (w.accept l).job = w.job := rfl
@[simp] theorem accept_ports (w : Work) (l : List Byte) : (w.accept l).ports = w.ports := rfl
@[simp] theorem accept_domains (w : Work) (l : List Byte) : (w.accept l).domains = w.domains := rfl
@[simp] theorem accept_regions (w : Work) (l : List Byte) : (w.accept l).regions = w.regions := rfl
@[simp] theorem accept_boot (w : Work) (l : List Byte) : (w.accept l).boot = w.boot := rfl
@[simp] theorem accept_log (w : Work) (l : List Byte) : (w.accept l).log = w.log := rfl
@[simp] theorem accept_fuses (w : Work) (l : List Byte) : (w.accept l).fuses = w.fuses := rfl
@[simp] theorem accept_mem (w : Work) (l : List Byte) : (w.accept l).mem = w.mem := rfl
@[simp] theorem accept_stores (w : Work) (l : List Byte) : (w.accept l).stores = w.stores := rfl

/-! ### leaveIngress and take -/

/-- Slots owed to the peers stand in the ports alone. -/
theorem leaveIngress_ports (es : List Arrival) : ∀ w : Work, w.leaveIngress es = { w with ports := (w.leaveIngress es).ports } := by
  unfold Work.leaveIngress
  induction es with
  | nil => intro w; rfl
  | cons e es ih =>
    intro w
    rw [List.foldl_cons, ih]
    cases e.cls <;> rfl

/-- Taking a packet changes the three places where packets wait, and the ports. -/
theorem take_cases (w : Work) (p : Packet) :
    ∃ a n e k, w.take p = { w with arrived := a, net := n, entering := e, ports := k } := by
  unfold Work.take
  split
  · exact ⟨_, _, _, _, rfl⟩
  · split
    · exact ⟨_, _, _, _, rfl⟩
    · rw [leaveIngress_ports]
      exact ⟨_, _, _, _, rfl⟩

@[simp] theorem take_free (w : Work) (p : Packet) : (w.take p).free = w.free := by obtain ⟨_, _, _, _, h⟩ := take_cases w p; rw [h]
@[simp] theorem take_clock (w : Work) (p : Packet) : (w.take p).clock = w.clock := by obtain ⟨_, _, _, _, h⟩ := take_cases w p; rw [h]
@[simp] theorem take_regs (w : Work) (p : Packet) : (w.take p).regs = w.regs := by obtain ⟨_, _, _, _, h⟩ := take_cases w p; rw [h]
@[simp] theorem take_reply (w : Work) (p : Packet) : (w.take p).reply = w.reply := by obtain ⟨_, _, _, _, h⟩ := take_cases w p; rw [h]
@[simp] theorem take_sessions (w : Work) (p : Packet) : (w.take p).sessions = w.sessions := by obtain ⟨_, _, _, _, h⟩ := take_cases w p; rw [h]
@[simp] theorem take_badWords (w : Work) (p : Packet) : (w.take p).badWords = w.badWords := by obtain ⟨_, _, _, _, h⟩ := take_cases w p; rw [h]
@[simp] theorem take_lost (w : Work) (p : Packet) : (w.take p).lost = w.lost := by obtain ⟨_, _, _, _, h⟩ := take_cases w p; rw [h]
@[simp] theorem take_arrays (w : Work) (p : Packet) : (w.take p).arrays = w.arrays := by obtain ⟨_, _, _, _, h⟩ := take_cases w p; rw [h]
@[simp] theorem take_dies (w : Work) (p : Packet) : (w.take p).dies = w.dies := by obtain ⟨_, _, _, _, h⟩ := take_cases w p; rw [h]
@[simp] theorem take_links (w : Work) (p : Packet) : (w.take p).links = w.links := by obtain ⟨_, _, _, _, h⟩ := take_cases w p; rw [h]
@[simp] theorem take_hutches (w : Work) (p : Packet) : (w.take p).hutches = w.hutches := by obtain ⟨_, _, _, _, h⟩ := take_cases w p; rw [h]
@[simp] theorem take_checks (w : Work) (p : Packet) : (w.take p).checks = w.checks := by obtain ⟨_, _, _, _, h⟩ := take_cases w p; rw [h]
@[simp] theorem take_sets (w : Work) (p : Packet) : (w.take p).sets = w.sets := by obtain ⟨_, _, _, _, h⟩ := take_cases w p; rw [h]
@[simp] theorem take_streams (w : Work) (p : Packet) : (w.take p).streams = w.streams := by obtain ⟨_, _, _, _, h⟩ := take_cases w p; rw [h]
@[simp] theorem take_registry (w : Work) (p : Packet) : (w.take p).registry = w.registry := by obtain ⟨_, _, _, _, h⟩ := take_cases w p; rw [h]
@[simp] theorem take_lists (w : Work) (p : Packet) : (w.take p).lists = w.lists := by obtain ⟨_, _, _, _, h⟩ := take_cases w p; rw [h]
@[simp] theorem take_job (w : Work) (p : Packet) : (w.take p).job = w.job := by obtain ⟨_, _, _, _, h⟩ := take_cases w p; rw [h]
@[simp] theorem take_domains (w : Work) (p : Packet) : (w.take p).domains = w.domains := by obtain ⟨_, _, _, _, h⟩ := take_cases w p; rw [h]
@[simp] theorem take_regions (w : Work) (p : Packet) : (w.take p).regions = w.regions := by obtain ⟨_, _, _, _, h⟩ := take_cases w p; rw [h]
@[simp] theorem take_boot (w : Work) (p : Packet) : (w.take p).boot = w.boot := by obtain ⟨_, _, _, _, h⟩ := take_cases w p; rw [h]
@[simp] theorem take_log (w : Work) (p : Packet) : (w.take p).log = w.log := by obtain ⟨_, _, _, _, h⟩ := take_cases w p; rw [h]
@[simp] theorem take_fuses (w : Work) (p : Packet) : (w.take p).fuses = w.fuses := by obtain ⟨_, _, _, _, h⟩ := take_cases w p; rw [h]
@[simp] theorem take_mem (w : Work) (p : Packet) : (w.take p).mem = w.mem := by obtain ⟨_, _, _, _, h⟩ := take_cases w p; rw [h]
@[simp] theorem take_stores (w : Work) (p : Packet) : (w.take p).stores = w.stores := by obtain ⟨_, _, _, _, h⟩ := take_cases w p; rw [h]

end Sys2Proof.Machine
end

