-- ==== Sys2Proof/Laws/Work.lean ====
section
/-! SUPPORT. What the shared operations of a command leave as it was. -/

namespace Sys2Proof.Machine

/-- A command whose work comes to `w` answers the state with that work in place. -/
theorem run_commit {f : Work → Work} {s : State} {w : Work} (h : f s.work = w) : run f s = .next (s.commit w) := by
  rw [← h]; rfl

/-- The stores of a fold are those it began with, where each step keeps them. -/
theorem foldl_keeps {A B : Type} (g : Work → B) (f : Work → A → Work) (h : ∀ w x, g (f w x) = g w) :
    ∀ (l : List A) (w : Work), g (l.foldl f w) = g w
  | [], _ => rfl
  | x :: l, w => by rw [List.foldl_cons, foldl_keeps g f h l, h]

/-- A cache access changes no byte. -/
theorem hutchAccess_stores (w : Work) (b o : Nat) (x y : Bool) :
    (w.hutchAccess b o x y).stores = w.stores ∧ (w.hutchAccess b o x y).mem = w.mem := by
  unfold Work.hutchAccess; simp only []
  repeat (first | exact ⟨rfl, rfl⟩ | split)

theorem hutchAccesses_stores (w : Work) (a n : Nat) (x y : Bool) : (w.hutchAccesses a n x y).stores = w.stores := by
  unfold Work.hutchAccesses; split
  · exact foldl_keeps Work.stores _ (fun w l => (hutchAccess_stores w _ _ _ _).1) _ _
  · rfl

theorem hutchAccesses_mem (w : Work) (a n : Nat) (x y : Bool) : (w.hutchAccesses a n x y).mem = w.mem := by
  unfold Work.hutchAccesses; split
  · exact foldl_keeps Work.mem _ (fun w l => (hutchAccess_stores w _ _ _ _).2) _ _
  · rfl

theorem hutchWrite_stores (w : Work) (a : Nat) (bs : List Byte) :
    (w.hutchWrite a bs).stores = .bytes a bs :: w.stores ∧ (w.hutchWrite a bs).mem = w.mem := by
  unfold Work.hutchWrite; simp only []; split <;> exact ⟨rfl, rfl⟩

/-- Bytes stored in a Hutch read back as any bytes written. -/
theorem hutchWrite_readByte (w : Work) (a : Nat) (bs : List Byte) (x : Nat) :
    (w.hutchWrite a bs).readByte x = (w.write a bs).readByte x := by
  unfold Work.hutchWrite; simp only []; split <;> rfl

theorem hutchAccesses_readByte (w : Work) (a n : Nat) (x y : Bool) (b : Nat) :
    (w.hutchAccesses a n x y).readByte b = w.readByte b := by
  unfold Work.hutchAccesses; split
  · refine foldl_keeps (fun v : Work => v.readByte b) _ (fun w l => ?_) _ _
    unfold Work.hutchAccess; simp only []
    repeat (first | rfl | split)
  · rfl

@[simp] theorem engine_modEngine (w : Work) (a e : Nat) (f : Engine → Engine) : (w.modEngine a e f).engine a e = f (w.engine a e) := by
  unfold Work.modEngine Work.engine; rw [arr_modArr]; exact tget_tput_same _ _ _ _

theorem hutchAccesses_arrays (w : Work) (a n : Nat) (x y : Bool) : (w.hutchAccesses a n x y).arrays = w.arrays := by
  unfold Work.hutchAccesses; split
  · refine foldl_keeps (fun v : Work => v.arrays) _ (fun w l => ?_) _ _
    unfold Work.hutchAccess; simp only []
    repeat (first | rfl | split)
  · rfl

end Sys2Proof.Machine
end

