-- ==== Sys2Proof/Tests/Slice0.lean ====
section
/-! SUPPORT. Tests: terms that the checks of well-formedness refuse, steps and values of the spec's own examples, and for
every statement with hypotheses a state and operands that meet them together. -/

set_option Elab.async false
set_option linter.unusedVariables false

namespace Sys2Proof.Tests
open Sys2Proof Sys2Proof.Machine

/-- A data token of epoch 0. -/
def tk (n : Nat) : Token := mkTok 0 false 0 0 n

/-- The state after reset with array 0 as given. -/
def arrS (x : Arr) : State := { arrays := [(0, x)] }

/-- Array 0 in RUN, with cell 0 as given at the instruction word given. -/
def cellW (w : Nat) (c : Cell := {}) : State :=
  arrS { st := .run, cells := [(0, { c with prog := [(0, BitVec.ofNat 64 w)], parked := false })] }

/-- A cell with one token at the head of each of its queues N, S and E. -/
def fed : Cell := { queues := [(0, [tk 5]), (1, [tk 3]), (2, [tk 1])] }

/-- An instruction on sources N, S and E to the output W, consuming all three. -/
def ins (op : Nat) : State := cellW (op * 2 ^ 56 + 0x012 * 2 ^ 44 + 2 ^ 28 + 7 * 2 ^ 22) fed

/-- An instruction on sources N and S to the output W, with no source C. -/
def ins2 (op : Nat) : State := cellW (op * 2 ^ 56 + 0x01F * 2 ^ 44 + 2 ^ 28 + 7 * 2 ^ 22) fed

/-- An instruction on no source to no output. -/
def ins0 (op : Nat) : State := cellW (op * 2 ^ 56 + 0xFFF * 2 ^ 44) fed

/-- A panel that runs a firmware image of security version 3. -/
def committed : State :=
  { boot := { lead := 0, activeSlot := 0, runningSlot := some 0, slots := [(0, { version := 1, security := 3, st := 1 })] } }

/-- A panel with logical die 0 on site 0 and its arrays, the compute and memory domains of bay 0 on, and the host die on. -/
def up : State :=
  { siteMap := { logical := [(0, 0)], logicalArray := (List.range 16).map (fun a => (a, a)), computed := true }
    domains := [(0, { st := .on, enabled := true, pg := true }), (16, { st := .on, enabled := true, pg := true }),
                (36, { st := .on, enabled := true, pg := true })]
    boot := { st := 1, standby := true, hostReady := true, readyBays := [0], trained := [0], done := 12 }
    cxl := { perst := false, st := 2, width := 8, rate := 64 } }

/-- That panel with array 0 as given. -/
def upA (x : Arr) : State := { up with arrays := [(0, x)] }

/-- An image in the registry, at address 0. -/
def img : Image := ⟨7, 9, 0, 0, 1, 0, 0, 0⟩

/-- A channel record at port 0, to port 0 of the same array: sending, or receiving with bit 0 set. -/
def chRec (receive : Bool) : Nat := ofBool receive + 5 * 2 ^ 80

/-- An array that runs a task, with one channel as given, whose record the port 0 names in both halves. -/
def chanA (st : ArraySt) (c : ChanEnd) : Arr :=
  { st := st, task := some { running := true }, chans := [(0, c)], ports := [(0, 3 + 3 * 16 + 8 * 2 ^ 24)] }

/-- A message from array 0 of die 0 to itself that names the channel's tag. -/
def chMsg (type td : Nat) : Packet := { type := type, vc := 2, index := 5, typeData := td }

/-- A byte of array 0's scratchpad. -/
def pad (n : Nat) : Nat := 3 * 2 ^ 60 + n

/-- Array 0 in RUN with engine 0 at a descriptor. -/
def engA (d : Desc) (e : Engine := {}) : State :=
  upA { st := .run, task := some { running := true }, engines := [(0, { e with started := true, desc := d })] }

/-- A descriptor of 64 B from address 0x100 to address 0x200 of the own scratchpad. -/
def dsc (op : Nat) : Desc := { src := pad 0x100, dst := pad 0x200, lineBytes := 64, lines := 1, tiles := 1, op := op }

/-- A packet of a type to array 0 of die 0 from itself. -/
def pk (type : Nat) : Packet := { type := type }

/-- Two dies side by side, on sites 0 and 1. -/
def two : State := { up with siteMap := { up.siteMap with logical := [(0, 0), (1, 1)] }, fmgr := { steer := [(0, 0), (1, 1)] } }

/-- A link frame with a sequence number and an empty flit, before its CRC. -/
def lf0 (seq : Nat) : LinkFrame := ⟨[(0, List.replicate 64 0)], seq, true, 0, false, false, 0, 0, 0, 0⟩

/-- The frame with its CRC right, and with a wrong one. -/
def lf (seq : Nat) : LinkFrame := { lf0 seq with crc := frameCrc (lf0 seq) }
def lfBad (seq : Nat) : LinkFrame := { lf0 seq with crc := frameCrc (lf0 seq) + 1 }

theorem frameCrc_crc (f : LinkFrame) (n : Nat) : frameCrc { f with crc := n } = frameCrc f := rfl

theorem frameCrc_self (f : LinkFrame) : ({ f with crc := frameCrc f } : LinkFrame).crc = frameCrc { f with crc := frameCrc f } :=
  (frameCrc_crc f _).symm

theorem lf_crc (seq : Nat) : (lf seq).crc = frameCrc (lf seq) := frameCrc_self (lf0 seq)

theorem lfBad_crc (seq : Nat) : (lfBad seq).crc ≠ frameCrc (lfBad seq) := by
  rw [show frameCrc (lfBad seq) = frameCrc (lf0 seq) from frameCrc_crc (lf0 seq) _]; exact Nat.succ_ne_self _

/-- Two dies, with a packet of VC 1 for output `out` in the router of die 0. -/
def routed (out : Nat) (p : Packet) : State :=
  { two with dies := [(0, { router := { slots := [⟨5, p, 1, 1, some out, none⟩] } })] }

/-- Panel 1 is the twin, over port 0. -/
def twinned (s : State) : State :=
  { s with regs := [(key 0x4900 2, 1)], inForce := [(key 0x4800 2, 2), (key 0x4800 3, 1)]
           ports := [(0, { st := .up, role := 2, peerPanel := 1 })] }

/-- The fabric manager at a step of a table change, with die 0's router as given. -/
def fab (st : Nat) (r : Router) (f : Fmgr := {}) : State := { up with fmgr := { f with st := st }, dies := [(0, { router := r })] }

/-- Weight set 0 as given. -/
def wset0 (x : WSet) : State := { up with sets := [(0, x)] }

/-- One layer of 64 FP32 elements in DRAM of Hutch 0, trainable, with its working copy in slot 0. -/
def lay : Layer :=
  { format := 0, hutch := 0, flags := 1, elements := 64, master := 0x1000, moment1 := 0x2000, moment2 := 0x3000, working := [0x4000] }

/-- A chunk on its way into Hutch 0. -/
def chk (peers : List Nat) (sent : Bool) : Chunk :=
  { set := 0, generation := 1, keyId := 0, dest := 0x1000, length := 256, chunk := 0, tag := [], entry := 0, peers := peers, sent := sent }

/-- A weight stream of Hutch 0. -/
def wst : WStream :=
  { req := pk 0x40, address := 0x1000, bytes := 256, shelfMask := 1, window := 0, k := 0, rangeEnd := 0x2000 }

/-- The tracker is on, with room for an adapter table. -/
def trk (s : State) : State := { s with regs := (key 0x7200 1, 1) :: s.regs, hutches := [(0, { reserves := [⟨2, 0, 0x100, 2 ^ 24⟩] })] }

/-- A serving set whose generation a stream has pinned. -/
def pinned : State := trk { up with sets := [(0, { st := .ready, gens := [(0, { number := 1, st := .current, pins := 1 })] })] }

/-- A running job on one die, whose task unit is as given. -/
def tus (t : TaskUnit) : State := { up with job := { st := .running }, dies := [(0, { tu := t })] }

/-- The job in a state. -/
def jobS (st : JobSt) : State := { up with job := { st := st } }

/-- A task list of die 0 with a ring of four slots. -/
def tl : TList := { holder := 0, slots := 4, ring := 0x1000, status := 0x2000 }

/-- The 64 bytes of a descriptor of a kind, number 1. -/
def tdb (kind : Nat) : List Byte := [1, 0, 0, 0, BitVec.ofNat 8 kind] ++ List.replicate 59 0

/-- Image 7 in the registry, for tasks that name it. -/
def inst7 : Inst := { desc := { imageId := 7 } }

/-- An edge frame from port 0 of a panel, with a sequence number, before its CRC. -/
def ef0 (seq : Nat) (idle : Bool) (panel : Nat) : EdgeFrame := ⟨[], seq, 0, false, false, idle, 2, panel, 0, [], 0, 0, 0, 0, true, 0⟩

/-- The frame with its CRC right. -/
def ef (seq : Nat) (idle : Bool) (panel : Nat := 1) : EdgeFrame := { ef0 seq idle panel with crc := edgeCrc (ef0 seq idle panel) }

theorem edgeCrc_crc (f : EdgeFrame) (n : Nat) : edgeCrc { f with crc := n } = edgeCrc f := rfl

theorem ef_crc (seq : Nat) (idle : Bool) (panel : Nat) : (ef seq idle panel).crc = edgeCrc (ef seq idle panel)  :=
  (edgeCrc_crc (ef0 seq idle panel) (edgeCrc (ef0 seq idle panel))).symm

/-- A test of port 0 that finds nothing. -/
def pt : PortTest := ⟨0, List.replicate 16 (some (0, 0)), 1, 0, 2, false, [], 100, 0, 0, false, []⟩

/-- The panel is paired with panel 1. -/
def paired (h : Hinge) : State := { twinned up with hinge := { h with st := 2, twin := 1 } }

/-- The CXL device up. -/
def cxlUp : State := { up with cxl := { perst := false, st := 2, width := 8, rate := 64, pending := [(1, true)] } }

/-- A path through window channel 0, and one from the Sacor network. -/
def pw : Path := ⟨true, 0, 0⟩
def pn : Path := ⟨false, 7, 0⟩

/-- A read of DeviceName outside any session. -/
def rq : Request := ⟨1, false, false, false, 5, 0, 0, 0x1000, 3, 0, 0, [], []⟩

/-- The object at an index and subindex. -/
def ob (i sub : Nat) : Obj := (objOf i sub).getD ⟨0, 0, 0, "", 0, 0, 0, 0, 0, 0, 0, false⟩

/-- The first message of a session with key slot 0. -/
def hel : List Byte := List.replicate 1604 0

/-- A session under number 3, from the network. -/
def open3 : State := { up with sessions := [⟨3, pn, 0, [], 0, 0, 0, []⟩] }

/-- Domain 1 as given. -/
def dom1 (x : Domain) : State := { up with domains := up.domains ++ [(1, x)] }

/-- A panel whose clock root is in a state. -/
def rootS (r : Root) : State := { up with root := r }

/-- Test results that find nothing. -/
def bt0 : BayTest := ⟨true, false, [], [], [], 0⟩

/-- A time wave's figures. -/
def ts0 : TimeSync := ⟨5, 0, 0, 0, 0, 0, 0⟩

/-- A panel whose airflow policy is in a state. -/
def coolS (n : Nat) : State := { up with cooling := { st := n } }

/-- A panel whose start-up has done so many steps, with time running and all it fed so far lost again. -/
def starting (n : Nat) (marks : List (Nat × Nat)) : State :=
  { up with boot := { done := n, marks := marks, runs := [[], [⟨0x508, 1, 2, 0, 0, 0⟩]] }, root := { running := true } }

/-- The same with two neighbouring dies whose counters run. -/
def near (n : Nat) : State :=
  { starting n [] with
    siteMap := { logical := [(0, 0), (1, 1)], computed := true }
    dies := [(0, { clock := { running := true } }), (1, { clock := { running := true } })] }

/-- What a memory domain's tests and an operator's record say where they find nothing. -/
def mt0 : MemTest := ⟨true, true, [], 5⟩
def opRec : List Byte := 0x50 :: List.replicate 15 0

/-- The header of an image that every check passes: no template, no channel, graph 9, identifier 7, CRC 0xFFFFFFFF. Its four
bytes at 0x2C bring the CRC's register to 0, where zero bytes leave it. -/
def goodHeader : List Byte :=
  ([86, 65, 87, 73, 1, 0, 0, 1, 0, 19, 3, 0, 255, 255, 255, 255, 9, 0, 0, 0, 7, 0, 0, 0] ++ List.replicate 20 0 ++
    [196, 191, 135, 57] ++ List.replicate 208 0)

/-- A cell record of that image: one PARK; eight bytes of its stores bring the CRC's register back to 0 before and after the program's length. -/
def goodCell : List Byte :=
  [0, 0, 0, 0, 0, 240, 255, 3] ++ List.replicate 248 0 ++ [216, 19, 161, 40] ++ List.replicate 504 0 ++ [241, 118, 236, 5, 1] ++
    List.replicate 15 0

/-- What follows the header: 256 cells and 64 unbound ports. -/
def goodBody : List Byte := (List.replicate 256 goodCell).flatten ++ List.replicate 512 0

/-- That image. -/
def goodImage : List Byte := goodHeader ++ goodBody

theorem goodHeader_length : goodHeader.length = 256 := by decide +kernel
theorem goodCell_length : goodCell.length = 784 := by decide +kernel
theorem goodBody_length : goodBody.length = 201216 := by
  simp only [goodBody, List.length_append, List.length_flatten, List.map_replicate, goodCell_length, List.length_replicate]
  decide +kernel
theorem goodImage_length : goodImage.length = 201472 := by
  rw [goodImage, List.length_append, goodHeader_length, goodBody_length]

/-- That panel with memory as given. -/
def upMem (m : List Host.Cell) : State := { up with mem := m }

theorem upMem_readByte (m : List Host.Cell) (a : Nat) : (upMem m).work.readByte a = memGet m a := rfl

/-- The panel with that image at address 0. -/
def upImg : State := upMem (memPuts [] 0 goodImage)

/-- Memory holds the image. -/
theorem upImg_read (n : Nat) (hn : n ≤ 201472) : upImg.work.read 0 n = goodImage.take n := by
  apply List.ext_getElem
  · simp only [Work.read, List.length_map, List.length_range, List.length_take, goodImage_length]; omega
  · intro i h1 h2
    have hi : i < n := by simpa [Work.read] using h1
    have hg : upImg.work.readByte (0 + i) = memGet (memPuts [] 0 goodImage) (0 + i) := upMem_readByte _ _
    simp only [Work.read, List.getElem_map, List.getElem_range, hg, List.getElem_take]
    rw [memGet_memPuts goodImage [] 0 (0 + i) rfl, if_pos (by rw [goodImage_length]; omega)]
    have hl : i < goodImage.length := by rw [goodImage_length]; omega
    simp [List.getD, hl]

theorem goodImage_head : goodImage.take 256 = goodHeader := by
  rw [goodImage, List.take_append_of_le_length (Nat.le_of_eq goodHeader_length.symm), ← goodHeader_length, List.take_length]

/-- Record p of the cells. -/
theorem cells_at (t : List Byte) : ∀ k p, p < k →
    (((List.replicate k goodCell).flatten ++ t).drop (784 * p)).take 784 = goodCell := by
  intro k
  induction k with
  | zero => intro p h; omega
  | succ k ih =>
    intro p h
    rw [List.replicate_succ, List.flatten_cons, List.append_assoc]
    cases p with
    | zero => rw [Nat.mul_zero, List.drop_zero, List.take_append_of_le_length (Nat.le_of_eq goodCell_length.symm), ← goodCell_length,
        List.take_length]
    | succ p =>
      have e : 784 * (p + 1) = goodCell.length + 784 * p := by rw [goodCell_length]; omega
      rw [e, List.drop_append, List.drop_eq_nil_of_le (by omega), List.nil_append, Nat.add_sub_cancel_left]
      exact ih p (by omega)

theorem goodImage_cell (p : Nat) (h : p < 256) : slice goodImage (imgCell p) 784 = goodCell := by
  have e : imgCell p = goodHeader.length + 784 * p := by rw [goodHeader_length]; simp only [imgCell]
  rw [slice, e, goodImage, List.drop_append, List.drop_eq_nil_of_le (by omega), List.nil_append, Nat.add_sub_cancel_left]
  exact cells_at _ 256 p h

theorem goodImage_ports : imagePorts goodImage = List.replicate 64 0 := by
  have hl : (goodHeader ++ (List.replicate 256 goodCell).flatten).length = 0x31100 := by
    simp only [List.length_append, List.length_flatten, List.map_replicate, goodCell_length, goodHeader_length]
    decide +kernel
  have e : slice goodImage 0x31100 512 = List.replicate 512 0 := by
    rw [slice, goodImage, goodBody, ← List.append_assoc, ← hl, List.drop_left]; decide +kernel
  rw [imagePorts, e]; decide +kernel

/-- The CRC's register over zero bytes from 0, over the records, and over the whole image. -/
theorem crcRun_append (c : Nat) (x y : List Byte) : crcRun 0 c (x ++ y) = crcRun 0 (crcRun 0 c x) y := List.foldl_append
theorem crcRun_zeros : ∀ k, crcRun 0 0 (List.replicate k 0) = 0
  | 0 => rfl
  | k + 1 => by
    rw [List.replicate_succ, show (0 : Byte) :: List.replicate k 0 = [0] ++ List.replicate k 0 from rfl, crcRun_append,
      show crcRun 0 0 [0] = 0 by decide +kernel]
    exact crcRun_zeros k

theorem crcRun_goodCell : crcRun 0 0 goodCell = 0 := by
  have e : List.replicate 248 (0 : Byte) = List.replicate 31 0 ++ (List.replicate 31 0 ++ (List.replicate 31 0 ++
      (List.replicate 31 0 ++ (List.replicate 31 0 ++ (List.replicate 31 0 ++ (List.replicate 31 0 ++
        List.replicate 31 0)))))) := by decide +kernel
  rw [goodCell, crcRun_append, crcRun_append, crcRun_append, crcRun_append, crcRun_append, e,
    show crcRun 0 0 [0, 0, 0, 0, 0, 240, 255, 3] = 0x6D17A673 by decide +kernel, crcRun_append, crcRun_append, crcRun_append,
    crcRun_append, crcRun_append, crcRun_append, crcRun_append,
    show crcRun 0 0x6D17A673 (List.replicate 31 0) = 0xFC9647F6 by decide +kernel,
    show crcRun 0 0xFC9647F6 (List.replicate 31 0) = 0xE9CED1E7 by decide +kernel,
    show crcRun 0 0xE9CED1E7 (List.replicate 31 0) = 0x38BE5AC1 by decide +kernel,
    show crcRun 0 0x38BE5AC1 (List.replicate 31 0) = 0x0C8ABE62 by decide +kernel,
    show crcRun 0 0x0C8ABE62 (List.replicate 31 0) = 0xC1961955 by decide +kernel,
    show crcRun 0 0xC1961955 (List.replicate 31 0) = 0x15DC8FF4 by decide +kernel,
    show crcRun 0 0x15DC8FF4 (List.replicate 31 0) = 0xC6FAF2AE by decide +kernel,
    show crcRun 0 0xC6FAF2AE (List.replicate 31 0) = 0x28A113D8 by decide +kernel,
    show crcRun 0 0x28A113D8 [216, 19, 161, 40] = 0 by decide +kernel, crcRun_zeros,
    show crcRun 0 0 [241, 118, 236, 5, 1] = 0 by decide +kernel, crcRun_zeros]

theorem crcRun_cells : ∀ k, crcRun 0 0 (List.replicate k goodCell).flatten = 0
  | 0 => rfl
  | k + 1 => by
    rw [List.replicate_succ, List.flatten_cons, crcRun_append, crcRun_goodCell]
    exact crcRun_cells k

theorem goodImage_crc : imageCrc goodImage = 0xFFFFFFFF := by
  have e1 : goodImage.take 0xC = goodHeader.take 0xC := by
    rw [goodImage, List.take_append_of_le_length (by rw [goodHeader_length]; omega)]
  have e2 : goodImage.drop 0x10 = goodHeader.drop 0x10 ++ goodBody := by
    rw [goodImage, List.drop_append_of_le_length (by rw [goodHeader_length]; omega)]
  have e4 : goodHeader.take 0xC ++ [0, 0, 0, 0] ++ goodHeader.drop 0x10 =
      [86, 65, 87, 73, 1, 0, 0, 1, 0, 19, 3, 0, 0, 0, 0, 0, 9, 0, 0, 0, 7, 0, 0, 0] ++
        (List.replicate 20 0 ++ [196, 191, 135, 57] ++ List.replicate 208 0) := by decide +kernel
  have e3 : crcRun 0 0xFFFFFFFF (goodHeader.take 0xC ++ [0, 0, 0, 0] ++ goodHeader.drop 0x10) = 0 := by
    rw [e4, crcRun_append, crcRun_append, crcRun_append,
      show crcRun 0 0xFFFFFFFF [86, 65, 87, 73, 1, 0, 0, 1, 0, 19, 3, 0, 0, 0, 0, 0, 9, 0, 0, 0, 7, 0, 0, 0] = 0x7168C975 by
        decide +kernel,
      show crcRun 0 0x7168C975 (List.replicate 20 0) = 0x3987BFC4 by decide +kernel,
      show crcRun 0 0x3987BFC4 [196, 191, 135, 57] = 0 by decide +kernel]
    exact crcRun_zeros 208
  rw [imageCrc, crc32c, e1, e2, ← List.append_assoc, crcRun_append, e3, goodBody, crcRun_append, crcRun_cells, crcRun_zeros]
  decide +kernel

theorem goodCell_ok (p : Nat) (ports : List Nat) : checkCell goodCell p ports = none := by
  have hw : (List.range 32).map (fun i => leAt goodCell (8 * i) 8) = 0x03FFF00000000000 :: List.replicate 31 0 := by decide +kernel
  have hn : leAt goodCell 0x300 1 = 1 := by decide +kernel
  have hp : (List.range 4).map (fun d => leAt goodCell (0x301 + d) 1) = [0, 0, 0, 0] := by decide +kernel
  have h11 : cond11 0x03FFF00000000000 p ports = false := by
    rw [cond11, show maskDirs (iDest 0x03FFF00000000000 ||| otherMask 0x03FFF00000000000) = [] by decide +kernel]; rfl
  have hc : instrCond 0x03FFF00000000000 p 1 [0, 0, 0, 0] ports = none := by rw [instrCond, h11]; decide +kernel
  have h1 : (List.range 1).findSome? (fun i => (instrCond
      (((0x03FFF00000000000 :: List.replicate 31 0 : List Nat)).getD i 0) p 1 [0, 0, 0, 0] ports).map (fun c => (i, c))) = none := by
    refine List.findSome?_eq_none_iff.mpr fun i hi => ?_
    obtain rfl : i = 0 := by simpa using hi
    rw [List.getD_cons_zero, hc]; rfl
  have h2 : (List.range 4).findSome? (fun d => (pathCond p d [0, 0, 0, 0] ports).map (fun c => (d, c))) = none := rfl
  simp only [checkCell, hw, hn, hp, h1, h2]
  rw [if_neg (by decide +kernel)]

/-- The checks of R466 on any image with no template and no channel. -/
theorem checkImage_plain (bs : List Byte) (ports : List Nat) (c g i : Nat)
    (hh : headerOf (bs.take 256) = ⟨201472, c, g, i, 0, false, 0, 0⟩) (hq : imagePorts bs = ports) (hcrc : imageCrc bs = c)
    (hc : ∀ p < 256, checkCell (slice bs (imgCell p) 784) p ports = none)
    (hp : (List.range 64).findSome? (portCheck ports []) = none) : checkImage bs false false = none := by
  have hf : (List.range 256).findSome? (fun p => checkCell (slice bs (imgCell p) 784) p ports) = none :=
    List.findSome?_eq_none_iff.mpr fun p h => hc p (List.mem_range.mp h)
  simp only [checkImage, hh, hq, hcrc, hf]
  simp only [imageChans, imageTemplates, List.range_zero, List.map_nil, hp]
  rw [if_neg (fun h => h rfl)]; rfl

/-- Every check of R466 passes. -/
theorem goodImage_ok : checkImage goodImage false false = none :=
  checkImage_plain goodImage (List.replicate 64 0) 0xFFFFFFFF 9 7 (goodImage_head ▸ by decide +kernel) goodImage_ports goodImage_crc
    (fun p h => (goodImage_cell p h).symm ▸ goodCell_ok p _) (by decide +kernel)

theorem loadBytes_fst (w : Work) (a n : Nat) (x : Bool) : (w.loadBytes a n x).1 = w.read (w.localAddr a) n := rfl

/-! ### Well-formedness: a term that each check refuses -/

theorem test_illformed_terms_are_refused :
    [Instr.startupMemoryDomain 8 mt0 mt0, .startupComputeBay 16 bt0, .startupPortEdge 4 [], .registerWrite 65536 0 [],
     .registerWrite 0x2400 256 [], .nop 6144 0, .nop 0 256, .sfuService 0 16, .tokenAccept 0 0 4, .unregister (2 ^ 32),
     .loadArray 1 384 0 false, .loadArray 1 0 16 false, .incomingWindowWord 0 64, .openChan { type := 256 },
     .openChan { type := 0x20, vc := 6 }, .openChan { type := 0x20, payload := List.replicate 257 0 }, .move 0 4, .checkUnitReset 417,
     .linkFrameReceive 6656 (lf0 0), .routerHeaderArrival 0 6 (pk 0x20), .define 64 [], .setMode 0 2, .publish 0 65536,
     .release 65536, .admitEntry 262144 [], .listDelete 1024, .edgeFrameReceive 16 (ef0 0 true 1), .clearSuspect 4096, .windowGo 4 0 rq,
     .dictRead ⟨true, 4, 0⟩ 0x1000 0 0 0 false, .dictRead ⟨false, 0, 2 ^ 32⟩ 0x1000 0 0 0 false, .msixMessage 16,
     .frequencyLimitWindow 9216 0, .marginResponse 0 16, .domainEnable 38 bt0, .pmbusAlert 2 [], .activate 2, .keySlotClear pn 8,
     .clearArraySuspect 416, .hdmDecoderCommit 4 0 0].all (fun i => !i.wf) = true := by decide +kernel

theorem test_wellformed_terms_pass :
    [Instr.startupMemoryDomain 7 mt0 mt0, .nop 6143 255, .loadArray 1 383 15 false, .move 0 3, .checkUnitReset 416,
     .linkFrameReceive 6655 (lf0 0), .domainEnable 37 bt0].all Instr.wf = true := by decide +kernel

/-! ### The spec's own examples -/

/-- The block of the example at R67: 3.1, 0.01 and 0.0001 to MXFP8 with E4M3 elements. -/
theorem test_mx_pack_example :
    (mxPack e4m3 false 1 [dec32 0x40466666, dec32 0x3C23D70A, dec32 0x38D1B717]) = ([0x7C, 0x3A, 0x07], 0x78, fUNF, 1) := by
  decide +kernel

/-- Its elements unpacked: 3.0, 0.009765625 and 7 × 2^-16 (R67). -/
theorem test_mx_unpack_example :
    [0x7C, 0x3A, 0x07].map (mxUnpack e4m3 0x78) = [(0x40400000, 0), (0x3C200000, 0), (0x38E00000, 0)] := by decide +kernel

/-- The generator's step and the conversion of the example at R70. -/
theorem test_stochastic_rounding_example :
    convert (.flt bf16) true false 1 (dec32 0x3F802000) = (0x3F80, 0, 0x00042021) := by decide +kernel

/-- The check values of the four polynomials over "123456789" (R222). -/
theorem test_crc_check_values :
    [0, 1, 2, 3].map (fun p => crcRun p (crcInit p) [0x31, 0x32, 0x33, 0x34, 0x35, 0x36, 0x37, 0x38, 0x39] ^^^ crcXor p) =
      [0xE3069283, 0xCBF43926, 0x6C40DF5F0B497347, 0x29B1] := by decide +kernel

/-- The address of the example at R193: DRAM, Hutch W3. -/
theorem test_address_example :
    aSpace 0xC345678A00 = 0 ∧ aHutch 0xC345678A00 = 3 ∧ aOffset 0xC345678A00 = 0x345678A00 := by decide

/-- Cell (5, 7) with the program word of the steered branch (Example: a steered branch), a value on W and a predicate on N. -/
def branch (c : Nat) : State :=
  arrS { st := .run, cells := [(87, { prog := [(0, 0x983F000021400440)], parked := false, queues := [(3, [tk 0x40400000]), (0, [tk c])] })] }

/-- What cell (5, 7) of array 0 sends, and to which output registers, after the branch fires. -/
def branchOut (c : Nat) : List (Nat × Token) :=
  match exec (.steer 0 87) (branch c) with
  | .next t => ((tget ({} : Cell) (t.array 0).cells 87).flight).map (fun e => (e.mask, e.tok))
  | _ => []

/-- A true predicate sends the value east, mask bit 1. -/
theorem test_steer_true_goes_east : branchOut 1 = [(2, tk 0x40400000)] := by decide +kernel

/-- A false predicate sends it south, mask bit 2. -/
theorem test_steer_false_goes_south : branchOut 0 = [(4, tk 0x40400000)] := by decide +kernel

/-! ### Every statement's hypotheses can be met -/

theorem witness_StepRunsFrontCommand :
    (∃ (s : State),
      ∃ c rest,
      s.pending = c :: rest) ∧
    (∃ (s : State),
      s.pending = []) :=
  ⟨⟨{ pending := [.start] }, .start, [], by decide +kernel⟩,
   ⟨State.reset, by decide +kernel⟩⟩

theorem witness_StepKeepsMemoryForm : ∃ s t : State, s.memOk = true ∧ step s = .next t :=
  ⟨State.reset, tick State.reset, by decide, rfl⟩



theorem witness_StepKeepsFuses :
    ∃ (c : Instr) (s t : State), exec c s = .next t ∧ t.fuses ≠ s.fuses :=
  ⟨.commitVersion 3, committed, _, rfl, by decide +kernel⟩

theorem witness_MemoryReadsWhatWasWritten_memoryHoldsWhatWasWritten :
    ∃ (s : State) (w : Work) (a : Nat),
      s.memOk = true ∧ w.mem = s.mem :=
  ⟨{ mem := [⟨16, 7⟩] }, (({ mem := [⟨16, 7⟩] } : State).work.write 4 [1, 2]), 5, by decide +kernel⟩

theorem witness_CellScalarResults_cellFloatResults :
    (∃ (s : State) (a p : Nat),
      let x := s.srcA a p
      let y := s.srcB a p
      let e := fun (r : Nat × Nat) => s.yields a p 0 0 (low32 r.1) r.2
      s.mayFire a p 0x60 0x60 (e (fAdd x y)) = true) ∧
    (∃ (s : State) (a p : Nat),
      let x := s.srcA a p
      let y := s.srcB a p
      let e := fun (r : Nat × Nat) => s.yields a p 0 0 (low32 r.1) r.2
      s.mayFire a p 0x61 0x61 (e (fSub x y)) = true) ∧
    (∃ (s : State) (a p : Nat),
      let x := s.srcA a p
      let y := s.srcB a p
      let e := fun (r : Nat × Nat) => s.yields a p 0 0 (low32 r.1) r.2
      s.mayFire a p 0x62 0x62 (e (fMul x y)) = true) ∧
    (∃ (s : State) (a p : Nat),
      let x := s.srcA a p
      let y := s.srcB a p
      let z := s.srcC a p
      let e := fun (r : Nat × Nat) => s.yields a p 0 0 (low32 r.1) r.2
      s.mayFire a p 0x63 0x63 (e (fFma x y z)) = true) ∧
    (∃ (s : State) (a p : Nat),
      let x := s.srcA a p
      let y := s.srcB a p
      let e := fun (r : Nat × Nat) => s.yields a p 0 0 (low32 r.1) r.2
      s.mayFire a p 0x64 0x64 (e (fMin x y)) = true) ∧
    (∃ (s : State) (a p : Nat),
      let x := s.srcA a p
      let y := s.srcB a p
      let e := fun (r : Nat × Nat) => s.yields a p 0 0 (low32 r.1) r.2
      s.mayFire a p 0x65 0x65 (e (fMax x y)) = true) :=
  ⟨⟨ins 0x60, 0, 0, by decide +kernel⟩,
   ⟨ins 0x61, 0, 0, by decide +kernel⟩,
   ⟨ins 0x62, 0, 0, by decide +kernel⟩,
   ⟨ins 0x63, 0, 0, by decide +kernel⟩,
   ⟨ins 0x64, 0, 0, by decide +kernel⟩,
   ⟨ins 0x65, 0, 0, by decide +kernel⟩⟩

theorem witness_CellScalarResults_cellIntegerResults :
    (∃ (s : State) (a p : Nat),
      let x := s.srcA a p
      let y := s.srcB a p
      let e := fun (v : Nat) => s.yields a p 0 0 (v % 2 ^ 32) 0
      s.mayFire a p 0x68 0x68 (e (x + y)) = true) ∧
    (∃ (s : State) (a p : Nat),
      let x := s.srcA a p
      let y := s.srcB a p
      let e := fun (v : Nat) => s.yields a p 0 0 (v % 2 ^ 32) 0
      s.mayFire a p 0x69 0x69 (e (x + 2 ^ 32 - y)) = true) ∧
    (∃ (s : State) (a p : Nat),
      let x := s.srcA a p
      let y := s.srcB a p
      let e := fun (v : Nat) => s.yields a p 0 0 (v % 2 ^ 32) 0
      s.mayFire a p 0x6A 0x6A (e (x * y)) = true) ∧
    (∃ (s : State) (a p : Nat),
      let x := s.srcA a p
      let y := s.srcB a p
      let e := fun (v : Nat) => s.yields a p 0 0 (v % 2 ^ 32) 0
      s.mayFire a p 0x6B 0x6B (e (if signed 32 x ≤ signed 32 y then x else y)) = true) ∧
    (∃ (s : State) (a p : Nat),
      let x := s.srcA a p
      let y := s.srcB a p
      let e := fun (v : Nat) => s.yields a p 0 0 (v % 2 ^ 32) 0
      s.mayFire a p 0x6C 0x6C (e (if signed 32 x ≤ signed 32 y then y else x)) = true) ∧
    (∃ (s : State) (a p : Nat),
      let x := s.srcA a p
      let y := s.srcB a p
      let e := fun (v : Nat) => s.yields a p 0 0 (v % 2 ^ 32) 0
      s.mayFire a p 0x70 0x70 (e (x &&& y)) = true) ∧
    (∃ (s : State) (a p : Nat),
      let x := s.srcA a p
      let y := s.srcB a p
      let e := fun (v : Nat) => s.yields a p 0 0 (v % 2 ^ 32) 0
      s.mayFire a p 0x71 0x71 (e (x ||| y)) = true) ∧
    (∃ (s : State) (a p : Nat),
      let x := s.srcA a p
      let y := s.srcB a p
      let e := fun (v : Nat) => s.yields a p 0 0 (v % 2 ^ 32) 0
      s.mayFire a p 0x72 0x72 (e (x ^^^ y)) = true) ∧
    (∃ (s : State) (a p : Nat),
      let x := s.srcA a p
      let y := s.srcB a p
      let e := fun (v : Nat) => s.yields a p 0 0 (v % 2 ^ 32) 0
      s.mayFire a p 0x73 0x73 (e (x * 2 ^ (y % 32))) = true) ∧
    (∃ (s : State) (a p : Nat),
      let x := s.srcA a p
      let y := s.srcB a p
      let e := fun (v : Nat) => s.yields a p 0 0 (v % 2 ^ 32) 0
      s.mayFire a p 0x74 0x74 (e (x / 2 ^ (y % 32))) = true) ∧
    (∃ (s : State) (a p : Nat),
      let x := s.srcA a p
      let y := s.srcB a p
      let e := fun (v : Nat) => s.yields a p 0 0 (v % 2 ^ 32) 0
      s.mayFire a p 0x75 0x75 (e (unsigned 32 (signed 32 x / 2 ^ (y % 32)))) = true) :=
  ⟨⟨ins 0x68, 0, 0, by decide +kernel⟩,
   ⟨ins 0x69, 0, 0, by decide +kernel⟩,
   ⟨ins 0x6A, 0, 0, by decide +kernel⟩,
   ⟨ins 0x6B, 0, 0, by decide +kernel⟩,
   ⟨ins 0x6C, 0, 0, by decide +kernel⟩,
   ⟨ins 0x70, 0, 0, by decide +kernel⟩,
   ⟨ins 0x71, 0, 0, by decide +kernel⟩,
   ⟨ins 0x72, 0, 0, by decide +kernel⟩,
   ⟨ins 0x73, 0, 0, by decide +kernel⟩,
   ⟨ins 0x74, 0, 0, by decide +kernel⟩,
   ⟨ins 0x75, 0, 0, by decide +kernel⟩⟩

theorem witness_CellScalarResults_cellCompareAndSelect :
    (∃ (s : State) (a p : Nat),
      let w := s.instr a p
      let cc := field (iOp w) 0 3
      let f := fCmp cc (s.srcA a p) (s.srcB a p)
      s.mayFire a p 0x80 0x87 (s.yields a p 1 0 (ofBool f.1) f.2) = true) ∧
    (∃ (s : State) (a p : Nat),
      let w := s.instr a p
      let cc := field (iOp w) 0 3
      let i := ofBool (iCmp cc (s.srcA a p) (s.srcB a p))
      s.mayFire a p 0x88 0x8D (s.yields a p 1 0 i 0) = true) ∧
    (∃ (s : State) (a p : Nat),
      let c := s.cell a p
      let w := s.instr a p
      let from_ := if bit (c.source w (iSrcC w)) 0 then iSrcA w else iSrcB w
      let e := s.yields a p 0 (c.emitLane w from_) (c.source w from_) 0
      s.mayFire a p 0x90 0x90 e = true) :=
  ⟨⟨ins 0x82, 0, 0, by decide +kernel⟩,
   ⟨ins 0x8D, 0, 0, by decide +kernel⟩,
   ⟨ins 0x90, 0, 0, by decide +kernel⟩⟩

theorem witness_CellTokenInstructions_cellSteeringAndConversion :
    (∃ (s : State) (a p : Nat),
      let eff := fun (op : Env → Cell → Nat → Eff) => op (s.env a) (s.cell a p) (s.instr a p)
      s.mayFire a p 0x98 0x98 (eff opSteer) = true) ∧
    (∃ (s : State) (a p : Nat),
      let eff := fun (op : Env → Cell → Nat → Eff) => op (s.env a) (s.cell a p) (s.instr a p)
      s.mayFire a p 0x99 0x99 (eff opGate) = true) ∧
    (∃ (s : State) (a p : Nat),
      let eff := fun (op : Env → Cell → Nat → Eff) => op (s.env a) (s.cell a p) (s.instr a p)
      s.mayFire a p 0x9A 0x9A (eff opMerge) = true) ∧
    (∃ (s : State) (a p : Nat),
      let eff := fun (op : Env → Cell → Nat → Eff) => op (s.env a) (s.cell a p) (s.instr a p)
      s.mayFire a p 0x9B 0x9B (eff opCmerge) = true) ∧
    (∃ (s : State) (a p : Nat),
      let eff := fun (op : Env → Cell → Nat → Eff) => op (s.env a) (s.cell a p) (s.instr a p)
      s.mayFire a p 0x9C 0x9C (eff opRepl) = true) ∧
    (∃ (s : State) (a p : Nat),
      let eff := fun (op : Env → Cell → Nat → Eff) => op (s.env a) (s.cell a p) (s.instr a p)
      s.mayFire a p 0xA0 0xA0 (eff opCvt) = true) ∧
    (∃ (s : State) (a p : Nat),
      let eff := fun (op : Env → Cell → Nat → Eff) => op (s.env a) (s.cell a p) (s.instr a p)
      s.mayFire a p 0xA1 0xA1 (eff opMxpack) = true) ∧
    (∃ (s : State) (a p : Nat),
      let eff := fun (op : Env → Cell → Nat → Eff) => op (s.env a) (s.cell a p) (s.instr a p)
      s.mayFire a p 0xA2 0xA2 (eff opMxunpk) = true) :=
  ⟨⟨ins 0x98, 0, 0, by decide +kernel⟩,
   ⟨ins 0x99, 0, 0, by decide +kernel⟩,
   ⟨ins 0x9A, 0, 0, by decide +kernel⟩,
   ⟨ins 0x9B, 0, 0, by decide +kernel⟩,
   ⟨ins 0x9C, 0, 0, by decide +kernel⟩,
   ⟨ins 0xA0, 0, 0, by decide +kernel⟩,
   ⟨ins0 0xA1, 0, 0, by decide +kernel⟩,
   ⟨ins 0xA2, 0, 0, by decide +kernel⟩⟩

theorem witness_CellTokenInstructions_cellAccumulators :
    (∃ (s : State) (a p : Nat),
      let eff := fun (op : Env → Cell → Nat → Eff) => op (s.env a) (s.cell a p) (s.instr a p)
      s.mayFire a p 0x50 0x50 (eff opDrain) = true) ∧
    (∃ (s : State) (a p : Nat),
      let eff := fun (op : Env → Cell → Nat → Eff) => op (s.env a) (s.cell a p) (s.instr a p)
      s.mayFire a p 0x51 0x51 (eff opDraincv) = true) ∧
    (∃ (s : State) (a p : Nat),
      let eff := fun (op : Env → Cell → Nat → Eff) => op (s.env a) (s.cell a p) (s.instr a p)
      s.mayFire a p 0x52 0x52 (eff opAccld) = true) ∧
    (∃ (s : State) (a p : Nat),
      let eff := fun (op : Env → Cell → Nat → Eff) => op (s.env a) (s.cell a p) (s.instr a p)
      s.mayFire a p 0x53 0x53 (eff opAccadd) = true) ∧
    (∃ (s : State) (a p : Nat),
      let eff := fun (op : Env → Cell → Nat → Eff) => op (s.env a) (s.cell a p) (s.instr a p)
      s.mayFire a p 0x9D 0x9D (eff opRfwd) = true) :=
  ⟨⟨ins0 0x50, 0, 0, by decide +kernel⟩,
   ⟨ins0 0x51, 0, 0, by decide +kernel⟩,
   ⟨ins 0x52, 0, 0, by decide +kernel⟩,
   ⟨ins 0x53, 0, 0, by decide +kernel⟩,
   ⟨ins2 0x9D, 0, 0, by decide +kernel⟩⟩

theorem witness_CellDotProducts_cellDotProducts : ∃ a p : Nat,
    let eff := fun (s : State) (op : Env → Cell → Nat → Eff) => op (s.env a) (s.cell a p) (s.instr a p)
    let may := fun (s : State) (lo hi : Nat) (op : Env → Cell → Nat → Eff) => s.mayFire a p lo hi (eff s op) = true
    may (ins2 0x13) 0x10 0x13 (opDoth false) ∧ may (ins2 0x17) 0x14 0x17 (opDotf8 false) ∧
      may (ins2 0x18) 0x18 0x18 (opDotI 8 8 3 false) ∧
    may (ins2 0x19) 0x19 0x19 (opDotI 4 16 6 false) ∧ may (ins2 0x1A) 0x1A 0x1A (opDotF e2m1 e2m1 16 true false) ∧
    may (ins2 0x2F) 0x20 0x2F (opDotmx8 false) ∧ may (ins 0x33) 0x30 0x33 (opDoth true) ∧
      may (ins 0x37) 0x34 0x37 (opDotf8 true) ∧
    may (ins 0x38) 0x38 0x38 (opDotI 8 8 3 true) ∧ may (ins 0x39) 0x39 0x39 (opDotI 4 16 6 true) ∧
    may (ins 0x3A) 0x3A 0x3A (opDotF e2m1 e2m1 16 true true) ∧ may (ins 0x4F) 0x40 0x4F (opDotmx8 true) :=
  ⟨0, 0, by decide +kernel⟩

theorem witness_CellTokenInstructions_cellControlAndMoves :
    (∃ (s : State) (a p : Nat),
      let c := s.cell a p
      let w := s.instr a p
      let b := c.base w
      s.mayFire a p 0 0 b = true) ∧
    (∃ (s : State) (a p : Nat),
      let c := s.cell a p
      let w := s.instr a p
      let eff := fun (op : Env → Cell → Nat → Eff) => op (s.env a) c w
      s.mayFire a p 2 2 (eff opPtcfg) = true) ∧
    (∃ (s : State) (a p : Nat),
      let c := s.cell a p
      let w := s.instr a p
      let b := c.base w
      let parks : Eff := { b with cell := { c with parked := true } }
      s.mayFire a p 3 3 parks = true) ∧
    (∃ (s : State) (a p : Nat),
      let c := s.cell a p
      let w := s.instr a p
      let eff := fun (op : Env → Cell → Nat → Eff) => op (s.env a) c w
      s.mayFire a p 4 4 (eff (opScale false)) = true) ∧
    (∃ (s : State) (a p : Nat),
      let c := s.cell a p
      let w := s.instr a p
      let eff := fun (op : Env → Cell → Nat → Eff) => op (s.env a) c w
      s.mayFire a p 5 5 (eff (opScale true)) = true) ∧
    (∃ (s : State) (a p : Nat),
      let c := s.cell a p
      let w := s.instr a p
      let eff := fun (op : Env → Cell → Nat → Eff) => op (s.env a) c w
      s.mayFire a p 0xB0 0xB0 (eff opMov) = true) ∧
    (∃ (s : State) (a p : Nat),
      let c := s.cell a p
      let w := s.instr a p
      let eff := fun (op : Env → Cell → Nat → Eff) => op (s.env a) c w
      s.mayFire a p 0xB1 0xB1 (eff opObst) = true) ∧
    (∃ (s : State) (a p : Nat),
      let c := s.cell a p
      let w := s.instr a p
      let eff := fun (op : Env → Cell → Nat → Eff) => op (s.env a) c w
      s.mayFire a p 0xB8 0xB8 (eff opSfu) = true) ∧
    (∃ (s : State) (a p : Nat),
      let c := s.cell a p
      let w := s.instr a p
      (s.array a).issues = true ∧ c.parked = false ∧ iOp w = 1 ∧ barReady (s.env a) c w = true ∧ barIds (s.env a) c w = true ∧
      c.outsFree (iDest w) = true) :=
  ⟨⟨ins 0x00, 0, 0, by decide +kernel⟩,
   ⟨ins 0x02, 0, 0, by decide +kernel⟩,
   ⟨ins 0x03, 0, 0, by decide +kernel⟩,
   ⟨ins 0x04, 0, 0, by decide +kernel⟩,
   ⟨ins 0x05, 0, 0, by decide +kernel⟩,
   ⟨ins 0xB0, 0, 0, by decide +kernel⟩,
   ⟨ins 0xB1, 0, 0, by decide +kernel⟩,
   ⟨ins0 0xB8, 0, 0, by decide +kernel⟩,
   ⟨cellW (0x01 * 2 ^ 56 + 0x0FF * 2 ^ 44 + 2 ^ 28 + 9 * 2 ^ 8) { queues := [(0, [mkTok 0 false 3 0 9])] }, 0, 0,
     by decide +kernel⟩⟩

theorem witness_CellScalarResults_cellScalarsComplete :
    (∃ (s : State) (a p : Nat),
      s.canFire a p 0x60 0x60 = true) ∧
    (∃ (s : State) (a p : Nat),
      s.canFire a p 0x61 0x61 = true) ∧
    (∃ (s : State) (a p : Nat),
      s.canFire a p 0x62 0x62 = true) ∧
    (∃ (s : State) (a p : Nat),
      s.canFire a p 0x63 0x63 = true) ∧
    (∃ (s : State) (a p : Nat),
      s.canFire a p 0x64 0x64 = true) ∧
    (∃ (s : State) (a p : Nat),
      s.canFire a p 0x65 0x65 = true) ∧
    (∃ (s : State) (a p : Nat),
      s.canFire a p 0x68 0x68 = true) ∧
    (∃ (s : State) (a p : Nat),
      s.canFire a p 0x69 0x69 = true) ∧
    (∃ (s : State) (a p : Nat),
      s.canFire a p 0x6A 0x6A = true) ∧
    (∃ (s : State) (a p : Nat),
      s.canFire a p 0x6B 0x6B = true) ∧
    (∃ (s : State) (a p : Nat),
      s.canFire a p 0x6C 0x6C = true) ∧
    (∃ (s : State) (a p : Nat),
      s.canFire a p 0x70 0x70 = true) ∧
    (∃ (s : State) (a p : Nat),
      s.canFire a p 0x71 0x71 = true) ∧
    (∃ (s : State) (a p : Nat),
      s.canFire a p 0x72 0x72 = true) ∧
    (∃ (s : State) (a p : Nat),
      s.canFire a p 0x73 0x73 = true) ∧
    (∃ (s : State) (a p : Nat),
      s.canFire a p 0x74 0x74 = true) ∧
    (∃ (s : State) (a p : Nat),
      s.canFire a p 0x75 0x75 = true) ∧
    (∃ (s : State) (a p : Nat),
      s.canFire a p 0x80 0x87 = true) ∧
    (∃ (s : State) (a p : Nat),
      s.canFire a p 0x88 0x8D = true) ∧
    (∃ (s : State) (a p : Nat),
      s.canFire a p 0x90 0x90 = true) :=
  ⟨⟨ins 0x60, 0, 0, by decide +kernel⟩,
   ⟨ins 0x61, 0, 0, by decide +kernel⟩,
   ⟨ins 0x62, 0, 0, by decide +kernel⟩,
   ⟨ins 0x63, 0, 0, by decide +kernel⟩,
   ⟨ins 0x64, 0, 0, by decide +kernel⟩,
   ⟨ins 0x65, 0, 0, by decide +kernel⟩,
   ⟨ins 0x68, 0, 0, by decide +kernel⟩,
   ⟨ins 0x69, 0, 0, by decide +kernel⟩,
   ⟨ins 0x6A, 0, 0, by decide +kernel⟩,
   ⟨ins 0x6B, 0, 0, by decide +kernel⟩,
   ⟨ins 0x6C, 0, 0, by decide +kernel⟩,
   ⟨ins 0x70, 0, 0, by decide +kernel⟩,
   ⟨ins 0x71, 0, 0, by decide +kernel⟩,
   ⟨ins 0x72, 0, 0, by decide +kernel⟩,
   ⟨ins 0x73, 0, 0, by decide +kernel⟩,
   ⟨ins 0x74, 0, 0, by decide +kernel⟩,
   ⟨ins 0x75, 0, 0, by decide +kernel⟩,
   ⟨ins 0x82, 0, 0, by decide +kernel⟩,
   ⟨ins 0x8D, 0, 0, by decide +kernel⟩,
   ⟨ins 0x90, 0, 0, by decide +kernel⟩⟩

theorem witness_CellDotProducts_cellDotsComplete :
    (∃ (s : State) (a p : Nat),
      s.canFire a p 0x10 0x13 = true) ∧
    (∃ (s : State) (a p : Nat),
      s.canFire a p 0x14 0x17 = true) ∧
    (∃ (s : State) (a p : Nat),
      s.canFire a p 0x18 0x18 = true) ∧
    (∃ (s : State) (a p : Nat),
      s.canFire a p 0x19 0x19 = true) ∧
    (∃ (s : State) (a p : Nat),
      s.canFire a p 0x1A 0x1A = true) ∧
    (∃ (s : State) (a p : Nat),
      s.canFire a p 0x20 0x2F = true) ∧
    (∃ (s : State) (a p : Nat),
      s.canFire a p 0x30 0x33 = true) ∧
    (∃ (s : State) (a p : Nat),
      s.canFire a p 0x34 0x37 = true) ∧
    (∃ (s : State) (a p : Nat),
      s.canFire a p 0x38 0x38 = true) ∧
    (∃ (s : State) (a p : Nat),
      s.canFire a p 0x39 0x39 = true) ∧
    (∃ (s : State) (a p : Nat),
      s.canFire a p 0x3A 0x3A = true) ∧
    (∃ (s : State) (a p : Nat),
      s.canFire a p 0x40 0x4F = true) :=
  ⟨⟨ins2 0x13, 0, 0, by decide +kernel⟩,
   ⟨ins2 0x17, 0, 0, by decide +kernel⟩,
   ⟨ins2 0x18, 0, 0, by decide +kernel⟩,
   ⟨ins2 0x19, 0, 0, by decide +kernel⟩,
   ⟨ins2 0x1A, 0, 0, by decide +kernel⟩,
   ⟨ins2 0x2F, 0, 0, by decide +kernel⟩,
   ⟨ins 0x33, 0, 0, by decide +kernel⟩,
   ⟨ins 0x37, 0, 0, by decide +kernel⟩,
   ⟨ins 0x38, 0, 0, by decide +kernel⟩,
   ⟨ins 0x39, 0, 0, by decide +kernel⟩,
   ⟨ins 0x3A, 0, 0, by decide +kernel⟩,
   ⟨ins 0x4F, 0, 0, by decide +kernel⟩⟩

theorem witness_CellTokenInstructions_cellTokensComplete :
    (∃ (s : State) (a p : Nat),
      s.canFire a p 0x50 0x50 = true) ∧
    (∃ (s : State) (a p : Nat),
      s.canFire a p 0x51 0x51 = true) ∧
    (∃ (s : State) (a p : Nat),
      s.canFire a p 0x52 0x52 = true) ∧
    (∃ (s : State) (a p : Nat),
      s.canFire a p 0x53 0x53 = true) ∧
    (∃ (s : State) (a p : Nat),
      s.canFire a p 0x9D 0x9D = true) ∧
    (∃ (s : State) (a p : Nat),
      s.canFire a p 0x98 0x98 = true) ∧
    (∃ (s : State) (a p : Nat),
      s.canFire a p 0x99 0x99 = true) ∧
    (∃ (s : State) (a p : Nat),
      s.canFire a p 0x9C 0x9C = true) ∧
    (∃ (s : State) (a p : Nat),
      s.canFire a p 0xA0 0xA0 = true) ∧
    (∃ (s : State) (a p : Nat),
      s.canFire a p 0xA1 0xA1 = true) ∧
    (∃ (s : State) (a p : Nat),
      s.canFire a p 0xA2 0xA2 = true) ∧
    (∃ (s : State) (a p : Nat),
      s.canFire a p 0x00 0x00 = true) ∧
    (∃ (s : State) (a p : Nat),
      s.canFire a p 0x02 0x02 = true) ∧
    (∃ (s : State) (a p : Nat),
      s.canFire a p 0x03 0x03 = true) ∧
    (∃ (s : State) (a p : Nat),
      s.canFire a p 0x04 0x04 = true) ∧
    (∃ (s : State) (a p : Nat),
      s.canFire a p 0x05 0x05 = true) ∧
    (∃ (s : State) (a p : Nat),
      s.canFire a p 0xB0 0xB0 = true) ∧
    (∃ (s : State) (a p : Nat),
      s.canFire a p 0xB1 0xB1 = true) ∧
    (∃ (s : State) (a p : Nat),
      s.canFire a p 0xB8 0xB8 = true) ∧
    (∃ (s : State) (a p : Nat),
      let c := s.cell a p
      let w := s.instr a p
      s.rests a p 0x9A 0x9A = true ∧ (s.shows a p (iSrcA w) = true ∨ s.shows a p (iSrcB w) = true) ∧
      c.noBarrier (s.array a).epoch w = true) ∧
    (∃ (s : State) (a p : Nat),
      let c := s.cell a p
      let w := s.instr a p
      s.rests a p 0x9B 0x9B = true ∧ (isQueue (iSrcC w) = true → s.shows a p (iSrcC w) = true) ∧
      s.shows a p (if bit (c.source w (iSrcC w)) 0 then iSrcA w else iSrcB w) = true) ∧
    (∃ (s : State) (a p : Nat),
      let c := s.cell a p
      let w := s.instr a p
      s.rests a p 1 1 = true ∧
      (∀ d ∈ named w, ∃ t, c.head (s.array a).epoch d = some t ∧ t.kind = 3 ∧ field t.pay.toNat 0 12 = iImm w)) :=
  ⟨⟨ins0 0x50, 0, 0, by decide +kernel⟩,
   ⟨ins0 0x51, 0, 0, by decide +kernel⟩,
   ⟨ins 0x52, 0, 0, by decide +kernel⟩,
   ⟨ins 0x53, 0, 0, by decide +kernel⟩,
   ⟨ins2 0x9D, 0, 0, by decide +kernel⟩,
   ⟨ins 0x98, 0, 0, by decide +kernel⟩,
   ⟨ins 0x99, 0, 0, by decide +kernel⟩,
   ⟨ins 0x9C, 0, 0, by decide +kernel⟩,
   ⟨ins 0xA0, 0, 0, by decide +kernel⟩,
   ⟨ins0 0xA1, 0, 0, by decide +kernel⟩,
   ⟨ins 0xA2, 0, 0, by decide +kernel⟩,
   ⟨ins 0x00, 0, 0, by decide +kernel⟩,
   ⟨ins 0x02, 0, 0, by decide +kernel⟩,
   ⟨ins 0x03, 0, 0, by decide +kernel⟩,
   ⟨ins 0x04, 0, 0, by decide +kernel⟩,
   ⟨ins 0x05, 0, 0, by decide +kernel⟩,
   ⟨ins 0xB0, 0, 0, by decide +kernel⟩,
   ⟨ins 0xB1, 0, 0, by decide +kernel⟩,
   ⟨ins0 0xB8, 0, 0, by decide +kernel⟩,
   ⟨ins 0x9A, 0, 0, by decide +kernel⟩,
   ⟨ins 0x9B, 0, 0, by decide +kernel⟩,
   ⟨cellW (0x01 * 2 ^ 56 + 0x0FF * 2 ^ 44 + 2 ^ 28 + 9 * 2 ^ 8) { queues := [(0, [mkTok 0 false 3 0 9])] }, 0, 0,
     by decide +kernel⟩⟩

theorem witness_CellServicesAndFaults_cellServicesAndMoves :
    (∃ (s : State) (a p : Nat),
      let x := s.array a
      ∃ col r fn v,
      x.sfuNext col = some r ∧ (x.cell (16 * r + col)).sfu = some (fn, v)) ∧
    (∃ (s : State) (a p : Nat),
      let c := s.cell a p
      ∃ n f,
      c.flight[n]? = some f ∧ (∀ g ∈ c.flight.take n, g.clashes f = false) ∧
      (∀ d < 4, inMask f.mask d = true → c.out d = none)) ∧
    (∃ (s : State) (a p : Nat),
      let x := s.array a
      let c := s.cell a p
      ∃ d q e t,
      edgePort p d = none ∧ c.out d = some t ∧ neighbour p d = some (q, e) ∧ x.moving = true ∧ x.hasRoom q e = true) ∧
    (∃ (s : State) (a p : Nat),
      let x := s.array a
      let c := s.cell a p
      ∃ d t,
      c.head x.epoch d = some t ∧ x.moving = true ∧ bit (c.pathByte d) 7 = true ∧ bit (c.pathByte d) 6 = true ∧
      c.out (field (c.pathByte d) 0 2) = none) ∧
    (∃ (s : State) (a p : Nat),
      let x := s.array a
      let c := s.cell a p
      ∃ d t rest,
      c.queue d = t :: rest ∧ t.epoch ≠ x.epoch) :=
  ⟨⟨arrS { st := .run, cells := [(16, { sfu := some (0, 0x3F800000) })] }, 0, 0, 0, 1, 0, 0x3F800000, by decide +kernel⟩,
   ⟨arrS { st := .run, cells := [(0, { flight := [{ mask := 1, tok := tk 5 }] })] }, 0, 0, 0, { mask := 1, tok := tk 5 }, by decide +kernel⟩,
   ⟨arrS { st := .run, cells := [(0, { outs := [(1, some (tk 5))] })] }, 0, 0, 1, 16, 0, tk 5, by decide +kernel⟩,
   ⟨arrS { st := .run, cells := [(0, { paths := [(0, 0xC1)], queues := [(0, [tk 5])] })] }, 0, 0, 0, tk 5, by decide +kernel⟩,
   ⟨arrS { st := .run, cells := [(0, { queues := [(0, [mkTok 3 false 0 0 5])] })] }, 0, 0, 0, mkTok 3 false 0 0 5, [],
     by decide +kernel⟩⟩

theorem witness_CellServicesAndFaults_cellFaultAbortsTask :
    (∃ (s : State) (a p : Nat),
      let c := s.cell a p
      let code := c.faultCode (s.array a).epoch
      (s.array a).issues = true ∧ c.parked = false ∧
      ∃ k,
      code = some k ∧ k ≠ 0x03) ∧
    (∃ (s : State) (a p : Nat),
      let c := s.cell a p
      let code := c.faultCode (s.array a).epoch
      (s.array a).issues = true ∧ c.parked = false ∧ code = some 0x03) ∧
    (∃ (s : State) (a p : Nat),
      let c := s.cell a p
      (s.array a).issues = true ∧ c.parked = false ∧ iOp (s.instr a p) = 1 ∧ barReady (s.env a) c (s.instr a p) = true ∧
      barIds (s.env a) c (s.instr a p) = false ∧ c.outsFree (iDest (s.instr a p)) = true) :=
  ⟨⟨cellW (0x60 * 2 ^ 56 + 0x0FF * 2 ^ 44) { queues := [(0, [mkTok 0 false 3 0 9])] }, 0, 0, by decide +kernel,
    by decide +kernel, 1, by decide +kernel⟩,
   ⟨cellW (0x01 * 2 ^ 56 + 0x0FF * 2 ^ 44 + 2 ^ 28 + 8 * 2 ^ 8) { queues := [(0, [mkTok 0 false 3 0 9])] }, 0, 0,
     by decide +kernel⟩,
   ⟨cellW (0x01 * 2 ^ 56 + 0x0FF * 2 ^ 44 + 2 ^ 28 + 8 * 2 ^ 8) { queues := [(0, [mkTok 0 false 3 0 9])] }, 0, 0,
     by decide +kernel⟩⟩

theorem witness_CellServicesAndFaults_firstTaskFaultStays :
    ∃ (w : Work) (a : Nat) (t : Active) (f g : Cause),
      (w.arr a).task = some t ∧ t.fault = none :=
  ⟨(arrS { task := some { running := true } }).work, 0, { running := true }, ⟨0x53, 4, 0, 0, 0, 0, 0⟩, ⟨0x55, 0, 0, 0, 0, 0, 0⟩, by decide +kernel⟩

theorem witness_ImagesAndArraysLoad_imagesRegister :
    (∃ (s : State),
      let w := s.work
      let base := w.reg 0x2800 3
      let h := headerOf (w.read base 256)
      w.imageStatus base 256 = none ∧ headerOk (w.read base 256) = true ∧ w.imageStatus base h.length = none ∧
      checkImage (w.loadBytes base h.length false).1 (w.registry.any (fun e => e.id == h.id)) (decide (4096 ≤ w.registry.length)) =
        none) ∧
    (∃ (s : State) (id : Nat), ∃ e ∈ s.registry, e.id = id) := by
  refine ⟨⟨upImg, ?_⟩, { up with registry := [img] }, 7, img, by decide +kernel, rfl⟩
  have hb : upImg.work.reg 0x2800 3 = 0 := by decide +kernel
  have hr : upImg.work.read 0 256 = goodHeader := (upImg_read 256 (by omega)).trans goodImage_head
  have hl : (headerOf goodHeader).length = 201472 := by decide +kernel
  have hi : (headerOf goodHeader).id = 7 := by decide +kernel
  have hw : (upImg.work.loadBytes 0 201472 false).1 = goodImage := by
    rw [loadBytes_fst, show upImg.work.localAddr 0 = 0 by decide +kernel, upImg_read _ (by omega), ← goodImage_length, List.take_length]
  simp only [hb, hr, hl, hi, hw]
  refine ⟨by decide +kernel, by decide +kernel, by decide +kernel, ?_⟩
  exact goodImage_ok

theorem witness_ImagesAndArraysLoad_arraysLoad :
    (∃ (s : State) (a : Nat),
      let w := s.work
      ∃ (id : _) (d : _) (k : _) (force : Bool),
      w.jobRuns = false ∧ d < w.cols * 16 ∧ k < 16 ∧ w.arrPresent (arrOf d k) = true ∧ (w.arr (arrOf d k)).task = none ∧
      (w.registry.any fun e => e.id == id) = true ∧ (∀ e ∈ w.arrays, e.2.load = .none ∧ e.2.st ≠ .opening)) ∧
    (∃ (s : State) (a : Nat),
      let w := s.work
      ∃ (id : _) (d : _) (k : _) (force : Bool),
      w.jobRuns = false ∧ d < w.cols * 16 ∧ k < 16 ∧ w.arrPresent (arrOf d k) = true ∧ (w.arr (arrOf d k)).task = none ∧
      (w.registry.any fun e => e.id == id) = true ∧ (∃ e ∈ w.arrays, e.2.load ≠ .none ∨ e.2.st = .opening)) ∧
    (∃ (s : State) (a : Nat),
      let w := s.work
      let x := s.array a
      ∃ e,
      x.load = .asked ∧ w.arrPresent a = true ∧ w.registry.find? (fun e => e.id == x.loadImage) = some e ∧ e.epoch ≠ x.epoch ∧
      (w.registeredChans e).any w.peerAbsent = false) ∧
    (∃ (s : State) (a : Nat),
      let x := s.array a
      ∃ t,
      x.load = .closing t) ∧
    (∃ (s : State) (a : Nat),
      let w := s.work
      let x := s.array a
      ∃ e,
      x.load = .writing ∧ w.registry.find? (fun e => e.id == x.loadImage) = some e ∧ w.imageStatus e.address e.length = none ∧
      let bs := w.read (w.localAddr e.address) e.length
      imageCrc bs ≠ (headerOf (bs.take 256)).crc) ∧
    (∃ (s : State) (a : Nat),
      let w := s.work
      let x := s.array a
      ∃ e,
      x.load = .writing ∧ w.registry.find? (fun e => e.id == x.loadImage) = some e ∧ w.imageStatus e.address e.length = none ∧
      let bs := w.read (w.localAddr e.address) e.length
      let got := w.hutchAccesses (w.localAddr e.address) e.length false false
      let v := got.commitImage a e bs
      imageCrc bs = (headerOf (bs.take 256)).crc ∧ (v.arr a).chans = []) ∧
    (∃ (s : State) (a : Nat),
      let w := s.work
      let x := s.array a
      ∃ e,
      x.load = .writing ∧ w.registry.find? (fun e => e.id == x.loadImage) = some e ∧ w.imageStatus e.address e.length = none ∧
      let bs := w.read (w.localAddr e.address) e.length
      let got := w.hutchAccesses (w.localAddr e.address) e.length false false
      let v := got.commitImage a e bs
      imageCrc bs = (headerOf (bs.take 256)).crc ∧ (v.arr a).chans ≠ []) :=
  ⟨⟨{ up with registry := [img] }, 0, 7, 0, 15, true, by decide +kernel⟩,
   ⟨{ upA { load := .asked } with registry := [img] }, 0, 7, 0, 15, true, by decide +kernel⟩,
   ⟨{ upA { load := .asked, loadImage := 7 } with registry := [img] }, 0, img, by decide +kernel⟩,
   ⟨upA { load := .closing 5 }, 0, 5, by decide +kernel⟩,
   ⟨{ upA { load := .writing, loadImage := 7 } with registry := [img] }, 0, img, by decide +kernel⟩,
   ⟨{ upA { load := .writing, loadImage := 7 } with registry := [{ img with length := 16 }], mem := [⟨12, 0xEA⟩, ⟨13, 0x9A⟩, ⟨14, 0x70⟩, ⟨15, 0x42⟩] }, 0, { img with length := 16 },
     by decide +kernel⟩,
   ⟨{ upA { load := .writing, loadImage := 7 } with registry := [{ img with length := 28 }], mem := [⟨12, 0x6A⟩, ⟨13, 0x44⟩, ⟨14, 0xA2⟩, ⟨15, 5⟩, ⟨27, 1⟩] }, 0, { img with length := 28 },
     by decide +kernel⟩⟩

theorem witness_TasksStartAndDrain_arrayStartsItsTask :
    ∃ (s : State) (a : Nat) (t : Active),
      (s.array a).task = some t ∧ (s.array a).st = .ready ∧ (s.array a).load = .none ∧ t.running = false ∧ t.fault = none ∧
      t.inst.checked = false :=
  ⟨upA { st := .ready, task := some {} }, 0, {}, by decide +kernel⟩

theorem witness_TasksStartAndDrain_drainAndSpill :
    (∃ (s : State) (a : Nat),
      let x := s.array a
      x.st = .drain ∧ x.drained = true) ∧
    (∃ (s : State) (a : Nat),
      let w := s.work
      let x := s.array a
      x.st = .drain ∧ w.fmgr.st < 2) ∧
    (∃ (s : State) (a : Nat),
      let w := s.work
      let x := s.array a
      x.st = .drain ∧ 2 ≤ w.fmgr.st) ∧
    (∃ (s : State) (a : Nat),
      let x := s.array a
      x.st = .drain ∧ x.drained = false ∧ 4096 ≤ x.still) ∧
    (∃ (s : State) (a : Nat),
      let x := s.array a
      x.st = .run ∧ x.task.isSome = true ∧ 4096 ≤ x.progress) ∧
    (∃ (s : State) (a : Nat),
      let x := s.array a
      ∃ (p : Nat) (d : Nat),
      x.moving = false) ∧
    (∃ (s : State) (a : Nat),
      let w := s.work
      let x := s.array a
      ∃ (p : Nat) (d : Nat) (r : _) (t : _) (rest : _),
      x.moving = true ∧ x.openRun p d = some r ∧ r.toks = t :: rest ∧
      let slot := w.slotAddr a (8 * r.num + 1)
      w.hasBadWord slot 8 = false ∧ ((x.cell p).queue d).length < 4) ∧
    (∃ (s : State) (a : Nat),
      let w := s.work
      let x := s.array a
      ∃ (p : Nat) (d : Nat) (r : _) (t : _) (rest : _),
      x.moving = true ∧ x.openRun p d = some r ∧ r.toks = t :: rest ∧
      let slot := w.slotAddr a (8 * r.num + 1)
      w.hasBadWord slot 8 = true) :=
  ⟨⟨upA { st := .drain }, 0, by decide +kernel⟩,
   ⟨upA { st := .drain, inBuf := [(0, [tk 5])] }, 0, by decide +kernel⟩,
   ⟨{ upA { st := .drain, inBuf := [(0, [tk 5])] } with fmgr := { st := 2 } }, 0, by decide +kernel⟩,
   ⟨upA { st := .drain, inBuf := [(0, [tk 5])], still := 4096 }, 0, by decide +kernel⟩,
   ⟨upA { st := .run, task := some {}, cells := [(3, { queues := [(1, [tk 1, tk 2, tk 3, tk 4])] })], progress := 4096 }, 0, by decide +kernel⟩,
   ⟨upA {}, 0, 3, 1, by decide +kernel⟩,
   ⟨upA { st := .drain, runs := [⟨0, 3, 1, 0, false, [tk 5], false⟩], cells := [(3, { queues := [(1, [tk 1, tk 2, tk 3])] })] }, 0, 3, 1, ⟨0, 3, 1, 0, false, [tk 5], false⟩, tk 5, [],
     by decide +kernel⟩,
   ⟨{ upA { st := .drain, runs := [⟨0, 3, 1, 0, false, [tk 5], false⟩], cells := [(3, { queues := [(1, [tk 1, tk 2, tk 3])] })] } with badWords := [pad (47104 * 8 + 8)] }, 0, 3, 1, ⟨0, 3, 1, 0, false, [tk 5], false⟩, tk 5, [],
     by decide +kernel⟩⟩

theorem witness_PortsMoveTokens :
    (∃ (s : State) (a e : Nat),
      let x := s.array a
      let v := tget 0 x.ports e
      let i := tget 0 x.inWin e
      x.st = .run ∧ x.task.isSome = true ∧ x.faulted = false ∧ pInKind v = 1 ∧ i < pWords v ∧ 0 < x.bufRoom e ∧
      ∃ y rest,
      tget [] x.inHold e = y :: rest) ∧
    (∃ (s : State) (a e : Nat),
      let w := s.work
      let x := s.array a
      let v := tget 0 x.ports e
      let i := tget 0 x.inWin e
      let k := min (32 - (pBase v + i) % 32) (pWords v - i)
      let row := w.padAddr a (8 * (pBase v + i))
      x.st = .run ∧ x.task.isSome = true ∧ x.faulted = false ∧ pInKind v = 1 ∧ i < pWords v ∧ 0 < x.bufRoom e ∧
      tget [] x.inHold e = [] ∧ w.hasBadWord row (8 * k) = false) ∧
    (∃ (s : State) (a e : Nat),
      let x := s.array a
      let v := tget 0 x.ports e
      let o := tget 0 x.outWin e
      ∃ t,
      x.portOut e = some t ∧ (x.st = .run ∨ x.st = .drain) ∧ x.faulted = false ∧ pOutKind v = 1 ∧ t.kind ≠ 3 ∧ o < pWords v) ∧
    (∃ (s : State) (a e : Nat),
      let x := s.array a
      ∃ t rest,
      tget [] x.inBuf e = t :: rest ∧ x.moving = true ∧ x.hasRoom (portCell e).1 (portCell e).2 = true) :=
  ⟨⟨upA { st := .run, task := some { running := true }, ports := [(0, 16 + 8 * 2 ^ 24 + 4 * 2 ^ 48)], inWin := [(0, 3)], inHold := [(0, [5])] }, 0, 0,
    by decide +kernel, by decide +kernel, by decide +kernel, by decide +kernel, by decide +kernel,
      by decide +kernel, 5, [], by decide +kernel⟩,
   ⟨upA { st := .run, task := some { running := true }, ports := [(0, 16 + 8 * 2 ^ 24 + 4 * 2 ^ 48)], inWin := [(0, 3)] }, 0, 0, by decide +kernel⟩,
   ⟨upA { st := .drain, ports := [(0, 1 + 4 * 2 ^ 48)], outWin := [(0, 3)], cells := [(0, { outs := [(0, some (tk 5))] })] }, 0, 0, tk 5,
     by decide +kernel⟩,
   ⟨upA { st := .run, inBuf := [(63, [tk 5])] }, 0, 63, tk 5, [], by decide +kernel⟩⟩

theorem witness_ChannelsOpenAndCarry_channelsOpen :
    (∃ (s : State) (p : Packet),
      s.work.inTurn p = true) ∧
    (∃ (s : State) (p : Packet),
      ∃ (b : Nat) (c : Nat),
      (s.array b).st = .opening ∧ thas (s.array b).chans c = true ∧ chDir ((s.array b).chan c).record = false ∧
      ((s.array b).chan c).granted = false ∧ ((s.array b).chan c).closed = false ∧ s.fmgr.st < 2) ∧
    (∃ (s : State) (p : Packet),
      let w := s.work.take p
      let a := w.dstArr p
      let x := w.arr a
      ∃ (c : Nat),
      s.work.inTurn p = true ∧ w.chanOf a p [false] = some c ∧ (x.chan c).granted = false) ∧
    (∃ (s : State) (p : Packet),
      let w := s.work.take p
      let a := w.dstArr p
      let x := w.arr a
      ∃ (c : Nat),
      s.work.inTurn p = true ∧ w.chanOf a p [false] = some c ∧ x.st = .opening ∧ (x.chan c).granted = false) ∧
    (∃ (s : State) (p : Packet),
      ∃ (b : Nat),
      (s.array b).st = .opening ∧ s.fmgr.st < 2) ∧
    (∃ (s : State) (p : Packet),
      ∃ (b : Nat) (c : Nat),
      2 ≤ s.fmgr.st) :=
  ⟨⟨up, chMsg 1 32, by decide +kernel⟩,
   ⟨upA (chanA .opening { record := chRec false }), chMsg 2 32, 0, 0, by decide +kernel⟩,
   ⟨upA (chanA .opening { record := chRec false }), chMsg 2 32, 0, by decide +kernel⟩,
   ⟨upA (chanA .opening { record := chRec false }), chMsg 3 1, 0, by decide +kernel⟩,
   ⟨upA { st := .opening }, chMsg 2 32, 0, by decide +kernel⟩,
   ⟨{ up with fmgr := { st := 2 } }, chMsg 2 32, 0, 0, by decide +kernel⟩⟩

theorem witness_ChannelsOpenAndCarry_channelsCarryAndClose :
    (∃ (s : State) (p : Packet),
      ∃ (b : _) (port : Nat) (c : _),
      (s.array b).outChan port = some c ∧
      let e := (s.array b).chan c
      e.granted = true ∧ e.closed = false ∧ e.gather ≠ [] ∧ e.gather.length ≤ e.credit ∧
      (e.complete = true ∨ chFlush e.record ≤ e.age ∨ (s.array b).st = .drain)) ∧
    (∃ (s : State) (p : Packet),
      let w := s.work.take p
      let a := w.dstArr p
      let x := w.arr a
      ∃ c,
      s.work.inTurn p = true ∧ w.chanOf a p [true] = some c ∧
      let e := x.chan c
      e.closed = false ∧ e.closing = false) ∧
    (∃ (s : State) (p : Packet),
      let w := s.work.take p
      let a := w.dstArr p
      let x := w.arr a
      ∃ c,
      s.work.inTurn p = true ∧ w.chanOf a p [true] = some c ∧
      let e := x.chan c
      (e.closed = true ∨ e.closing = true)) ∧
    (∃ (s : State) (p : Packet),
      let w := s.work.take p
      let a := w.dstArr p
      ∃ c,
      s.work.inTurn p = true ∧ w.chanOf a p [false] = some c) ∧
    (∃ (s : State) (p : Packet),
      let w := s.work.take p
      let a := w.dstArr p
      ∃ c,
      s.work.inTurn p = true ∧ w.chanOf a p [true, false] = some c) ∧
    (∃ (s : State) (p : Packet),
      let w := s.work.take p
      let a := w.dstArr p
      let x := w.arr a
      ∃ c,
      s.work.inTurn p = true ∧ w.chanOf a p [true, false] = some c ∧ s.work.dataFlying p = false ∧ bit p.typeData 0 = false ∧
      (x.chan c).gather = []) ∧
    (∃ (s : State) (p : Packet),
      let w := s.work.take p
      let a := w.dstArr p
      ∃ c,
      s.work.inTurn p = true ∧ w.chanOf a p [true, false] = some c ∧
      let v := (w.send (w.chanMsg a c 0x07 2 0)).modArr a (·.modChan c (fun e => { e with closed := true }))
      s.work.dataFlying p = false ∧ bit p.typeData 0 = true ∧ (v.arr a).st = .run) :=
  ⟨⟨upA (chanA .run { record := chRec false, granted := true, credit := 1, gather := [tk 5] }), chMsg 5 8, 0, 0, 0,
    by decide +kernel⟩,
   ⟨upA (chanA .run { record := chRec true, granted := true }), chMsg 4 0, 0, by decide +kernel⟩,
   ⟨upA (chanA .run { record := chRec true, granted := true, closed := true }), chMsg 4 0, 0, by decide +kernel⟩,
   ⟨upA (chanA .run { record := chRec false, granted := true }), chMsg 5 8, 0, by decide +kernel⟩,
   ⟨upA (chanA .run { record := chRec false, closing := true }), chMsg 7 0, 0, by decide +kernel⟩,
   ⟨upA (chanA .run { record := chRec true, granted := true }), chMsg 6 0, 0, by decide +kernel⟩,
   ⟨upA (chanA .run { record := chRec true, granted := true }), chMsg 6 1, 0, by decide +kernel⟩⟩

theorem witness_ChannelsOpenAndCarry_dataInOrderIsDelivered :
    ∃ (e : ChanEnd) (ts : List Token),
      e.early = [] ∧ e.seq < 65536 :=
  ⟨{ seq := 65535 }, [tk 5], by decide +kernel⟩

theorem witness_StoresAndCheckUnits_storesArePatrolled :
    (∃ (s : State) (a b corrected : Nat) (bad : List Nat),
      ∃ i rest,
      (s.array a).pipe = i :: rest) ∧
    (∃ (s : State) (a b corrected : Nat) (bad : List Nat),
      ∃ i rest,
      (s.array a).pipe = i :: rest ∧
      ∃ n,
      n ≠ 0) ∧
    (∃ (s : State) (a b corrected : Nat) (bad : List Nat),
      ∃ i rest,
      (s.array a).pipe = i :: rest ∧
      ∃ (x : Nat),
      aSpace x = 3 ∧ s.work.addrArr x = a ∧ i.write = false ∧ aByte x / 8 ∈ i.words ∧ (s.array a).task.isSome = true) ∧
    (∃ (s : State) (a b corrected : Nat) (bad : List Nat),
      (s.work.domain (16 + b)).st = .on) ∧
    (∃ (s : State) (a b corrected : Nat) (bad : List Nat),
      (s.work.domain (16 + b)).st = .on ∧ (s.work.hutch b).ecc = true) :=
  ⟨⟨upA { task := some {}, pipe := [⟨false, 0, [4]⟩] }, 0, 0, 3, [], ⟨false, 0, [4]⟩, [], by decide +kernel⟩,
   ⟨upA { task := some {}, pipe := [⟨false, 0, [4]⟩] }, 0, 0, 3, [], ⟨false, 0, [4]⟩, [], by decide +kernel, 3,
     by decide +kernel⟩,
   ⟨upA { task := some {}, pipe := [⟨false, 0, [4]⟩] }, 0, 0, 3, [], ⟨false, 0, [4]⟩, [], by decide +kernel, pad 32,
     by decide +kernel⟩,
   ⟨up, 0, 0, 3, [], by decide +kernel⟩,
   ⟨{ up with hutches := [(0, { ecc := true })] }, 0, 0, 3, [0x1000], by decide +kernel⟩⟩

theorem witness_HostReadsAndWritesDram :
    (∃ (s : State) (dpa : Nat),
      let w := s.work
      s.memOk = true ∧ s.cxl.st = 2 ∧ dpa < 2 ^ 42 ∧ w.invalid dpa = false ∧ w.hostReaches (aHutch dpa) = true ∧
      ∃ n,
      0 < n ∧ dpa % 64 + n ≤ 64 ∧ w.isProtected dpa n = false ∧ (w.hutch (aHutch dpa)).stuck = false ∧
      w.hasPoison dpa n = false) ∧
    (∃ (s : State) (dpa : Nat),
      let w := s.work
      s.memOk = true ∧ s.cxl.st = 2 ∧ dpa < 2 ^ 42 ∧ w.invalid dpa = false ∧ w.hostReaches (aHutch dpa) = true ∧
      ∃ (data : List Byte) (en : List Bool),
      0 < data.length ∧ dpa % 64 + data.length ≤ 64 ∧ w.isProtected dpa data.length = false) :=
  ⟨⟨{ up with cxl := { perst := false, st := 2 } }, 256 * 2 ^ 30 - 64, by decide +kernel, by decide +kernel,
    by decide +kernel, by decide +kernel, by decide +kernel, 64, by decide +kernel⟩,
   ⟨{ up with cxl := { perst := false, st := 2 } }, 63, by decide +kernel, by decide +kernel, by decide +kernel,
     by decide +kernel, by decide +kernel, [0xAB], [true], by decide +kernel⟩⟩

theorem witness_EnginesStartAndComplete_engineStartsItsTemplate :
    ∃ (w : Work) (a e op i : Nat) (t : Active),
      let d := w.rewriteDesc a t.inst (descOf ((w.arr a).templates.getD i []))
      (w.arr a).task = some t ∧ (w.engine a e).tmpl = some i ∧ (w.arr a).st = .run ∧ t.running = true ∧
      (w.arr a).faulted = false ∧ (w.engine a e).started = false ∧ d.op = op ∧ w.setupStatus a e d = none :=
  ⟨(upA { st := .run, task := some { running := true }, engines := [(0, { tmpl := some 0 })], templates := [(toBytes (pad 0x100) 8 ++ toBytes (pad 0x200) 8 ++ toBytes 64 4 ++ toBytes 1 4 ++ List.replicate 16 0 ++ [1, 0, 1] ++ List.replicate 21 0)] }).work, 0, 0, 1, 0, { running := true },
    by decide +kernel⟩

theorem witness_FillAndCopyWriteTheirRange :
    (∃ (s : State) (a e : Nat),
      let w := s.work
      let d := (w.engine a e).desc
      s.memOk = true ∧ (w.engine a e).issued = 0 ∧ w.runs a e 1 = true ∧ d.lineBytes % 8 = 0) ∧
    (∃ (s : State) (a e : Nat),
      let w := s.work
      let d := (w.engine a e).desc
      s.memOk = true ∧ (w.engine a e).issued = 0 ∧ w.runs a e 2 = true ∧ w.sourceWindow a d = false ∧
      w.hasBadWord d.src d.lineBytes = false) :=
  ⟨⟨engA (dsc 1), 0, 0, by decide +kernel⟩,
   ⟨engA (dsc 2), 0, 0, by decide +kernel⟩⟩

theorem witness_EnginesDoTheirOperation :
    (∃ (s : State) (a e : Nat),
      let w := s.work
      w.runs a e 0 = true) ∧
    (∃ (s : State) (a e : Nat),
      let w := s.work
      let d := (w.engine a e).desc
      let fresh := (w.engine a e).issued = 0
      w.runs a e 3 = true ∧ fresh ∧ w.sourceWindow a d = false ∧ (∀ r ∈ d.blockRows, w.hasBadWord r.1 r.2 = false)) ∧
    (∃ (s : State) (a e : Nat),
      let w := s.work
      let d := (w.engine a e).desc
      w.runs a e 2 = true ∧ w.sourceWindow a d = true) ∧
    (∃ (s : State) (a e : Nat),
      let w := s.work
      let d := (w.engine a e).desc
      w.runs a e 3 = true ∧ w.sourceWindow a d = true) ∧
    (∃ (s : State) (a e : Nat),
      let w := s.work
      let fresh := (w.engine a e).issued = 0
      w.runs a e 4 = true ∧ fresh) ∧
    (∃ (s : State) (a e : Nat),
      let w := s.work
      w.runs a e 5 = true) ∧
    (∃ (s : State) (a e : Nat),
      let w := s.work
      w.runs a e 6 = true) ∧
    (∃ (s : State) (a e : Nat),
      let w := s.work
      w.runs a e 7 = true) ∧
    (∃ (s : State) (a e : Nat),
      let w := s.work
      let fresh := (w.engine a e).issued = 0
      w.runs a e 8 = true ∧ fresh) ∧
    (∃ (s : State) (a e : Nat),
      let w := s.work
      let fresh := (w.engine a e).issued = 0
      w.runs a e 9 = true ∧ fresh) ∧
    (∃ (s : State) (a e : Nat),
      let w := s.work
      let fresh := (w.engine a e).issued = 0
      w.runs a e 10 = true ∧ fresh) ∧
    (∃ (s : State) (a e : Nat),
      let w := s.work
      let d := (w.engine a e).desc
      let fresh := (w.engine a e).issued = 0
      w.runs a e 11 = true ∧ fresh ∧ w.hasBadWord d.src 32 = false) :=
  ⟨⟨engA (dsc 0), 0, 0, by decide +kernel⟩,
   ⟨engA (dsc 3), 0, 0, by decide +kernel⟩,
   ⟨upA { st := .run, task := some { running := true }, windows := [(7, { isOpen := true, units := 2 })], engines := [(0, { started := true, desc := { dsc 2 with flags := 1, window := 135 } })] }, 0, 0,
     by decide +kernel⟩,
   ⟨upA { st := .run, task := some { running := true }, windows := [(7, { isOpen := true, units := 2 })], engines := [(0, { started := true, desc := { dsc 3 with flags := 1, window := 135 } })] }, 0, 0,
     by decide +kernel⟩,
   ⟨engA (dsc 4), 0, 0, by decide +kernel⟩,
   ⟨engA (dsc 5), 0, 0, by decide +kernel⟩,
   ⟨engA (dsc 6), 0, 0, by decide +kernel⟩,
   ⟨engA (dsc 7), 0, 0, by decide +kernel⟩,
   ⟨engA (dsc 8), 0, 0, by decide +kernel⟩,
   ⟨engA (dsc 9), 0, 0, by decide +kernel⟩,
   ⟨engA (dsc 10), 0, 0, by decide +kernel⟩,
   ⟨engA (dsc 11), 0, 0, by decide +kernel⟩⟩

theorem witness_EnginesStartAndComplete_descriptorsComplete :
    (∃ (s : State) (a e : Nat),
      let w := s.work
      let en := w.engine a e
      let d := en.desc
      w.descDone a e = true ∧ (s.array a).faulted = false ∧ dCheck d = false) ∧
    (∃ (s : State) (a e : Nat),
      let w := s.work
      let en := w.engine a e
      let d := en.desc
      w.descDone a e = true ∧ (s.array a).faulted = false ∧ dCheck d = true ∧ (d.op ≠ 0 ∨ w.isOwn a d.src = true)) ∧
    (∃ (s : State) (a e : Nat),
      let w := s.work
      let en := w.engine a e
      en.started = true ∧ en.arrival = true ∧ (s.array a).quietEngine e = true ∧ (s.array a).faulted = false) :=
  ⟨⟨engA (dsc 1) { issued := 64 }, 0, 0, by decide +kernel⟩,
   ⟨engA { dsc 0 with flags := 4 } { issued := 64 }, 0, 0, by decide +kernel⟩,
   ⟨engA (dsc 6) { arrival := true }, 0, 0, by decide +kernel⟩⟩

theorem witness_CreditsAreGranted :
    (∃ (s : State) (p : Packet) (a e : Nat),
      let w := s.work.take p
      let b := w.dstArr p
      let q : Crq := { req := p, window := p.dstSub % 8, tag := field p.typeData 0 16, units := field p.typeData 16 7 }
      let turn := s.work.inTurn p = true
      turn ∧ (((s.work.arr b).crqs.filter (fun r => r.offset.isNone)).length < 64) ∧
      ((s.work.arr b).window q.window).closing = false) ∧
    (∃ (s : State) (p : Packet) (a e : Nat),
      let y := (s.array a).window e
      ∃ i r,
      findAt (fun (r : Crq) => r.window == e && r.offset.isNone) (s.array a).crqs 0 = some i ∧ (s.array a).crqs[i]? = some r ∧
      y.isOpen = true ∧ y.closing = false ∧ r.units ≤ y.units ∧ y.used + r.units ≤ y.units ∧
      (∀ j, j < r.units → (s.array a).unitFree e ((y.wr + j) % max y.units 1) = true)) ∧
    (∃ (s : State) (p : Packet) (a e : Nat),
      let w := s.work.take p
      let b := w.dstArr p
      let q : Crq := { req := p, window := p.dstSub % 8, tag := field p.typeData 0 16, units := field p.typeData 16 7 }
      let n := p.dstSub % 4
      let en := w.engine b n
      let key := tKey p.srcPanel p.srcC p.srcR p.srcUnit
      let late := decide (w.fmgr.st < 2) && en.credits.any (fun c => c.tag == q.tag && decide (c.sentAt + 100000 < w.dieNow (b / 16)))
      let turn := s.work.inTurn p = true
      turn ∧ p.dstUnit / 16 ≠ 4 ∧ en.started = true ∧
      (en.credits.any fun c => c.tag == q.tag && c.target == key && !c.granted) = true ∧ late = true) ∧
    (∃ (s : State) (p : Packet) (a e : Nat),
      let w := s.work.take p
      let b := w.dstArr p
      let q : Crq := { req := p, window := p.dstSub % 8, tag := field p.typeData 0 16, units := field p.typeData 16 7 }
      let n := p.dstSub % 4
      let en := w.engine b n
      let key := tKey p.srcPanel p.srcC p.srcR p.srcUnit
      let cs := en.credits.map (fun c => if c.tag = q.tag ∧ c.target = key then { c with granted := true } else c)
      let late := decide (w.fmgr.st < 2) && en.credits.any (fun c => c.tag == q.tag && decide (c.sentAt + 100000 < w.dieNow (b / 16)))
      let turn := s.work.inTurn p = true
      turn ∧ p.dstUnit / 16 ≠ 4 ∧ en.started = true ∧
      (en.credits.any fun c => c.tag == q.tag && c.target == key && !c.granted) = true ∧ late = false ∧
      cs.all (·.granted) = false) ∧
    (∃ (s : State) (p : Packet) (a e : Nat),
      let w := s.work.take p
      let b := w.dstArr p
      let q : Crq := { req := p, window := p.dstSub % 8, tag := field p.typeData 0 16, units := field p.typeData 16 7 }
      let n := p.dstSub % 4
      let en := w.engine b n
      let key := tKey p.srcPanel p.srcC p.srcR p.srcUnit
      let cs := en.credits.map (fun c => if c.tag = q.tag ∧ c.target = key then { c with granted := true } else c)
      let late := decide (w.fmgr.st < 2) && en.credits.any (fun c => c.tag == q.tag && decide (c.sentAt + 100000 < w.dieNow (b / 16)))
      let turn := s.work.inTurn p = true
      turn ∧ p.dstUnit / 16 ≠ 4 ∧ en.started = true ∧
      (en.credits.any fun c => c.tag == q.tag && c.target == key && !c.granted) = true ∧ late = false ∧
      cs.all (·.granted) = true) ∧
    (∃ (s : State) (p : Packet) (a e : Nat),
      let w := s.work.take p
      let b := w.dstArr p
      let q : Crq := { req := p, window := p.dstSub % 8, tag := field p.typeData 0 16, units := field p.typeData 16 7 }
      let n := p.dstSub % 4
      let en := w.engine b n
      let turn := s.work.inTurn p = true
      turn ∧ p.dstUnit / 16 ≠ 4 ∧ en.started = true ∧ (en.credits.any fun c => c.tag == q.tag) = true) ∧
    (∃ (s : State) (p : Packet) (a e : Nat),
      ∃ c,
      (s.work.engine a e).started = true ∧ (s.work.engine a e).credits.find? (fun c => !c.granted) = some c ∧ s.fmgr.st < 2) :=
  ⟨⟨upA {}, { pk 0x10 with typeData := 3 + 2 * 2 ^ 16 }, 0, 0, by decide +kernel⟩,
   ⟨upA { windows := [(0, { isOpen := true, units := 2 })], crqs := [⟨pk 0x10, 0, 3, 2, none, [], [], false⟩] }, pk 0x10, 0, 0, 0, ⟨pk 0x10, 0, 3, 2, none, [], [], false⟩,
     by decide +kernel⟩,
   ⟨{ engA (dsc 0) { credits := [{ tag := 3, target := 0, units := 2, sentAt := 0 }] } with clock := 100001 * 2 ^ 32 }, { pk 0x11 with typeData := 3 }, 0, 0,
     by decide +kernel⟩,
   ⟨engA (dsc 0) { credits := [{ tag := 3, target := 0, units := 2, sentAt := 0 }, { tag := 3, target := 9, units := 2, sentAt := 0 }] }, { pk 0x11 with typeData := 3 }, 0, 0,
     by decide +kernel⟩,
   ⟨engA (dsc 0) { credits := [{ tag := 3, target := 0, units := 2, sentAt := 0 }] }, { pk 0x11 with typeData := 3 }, 0, 0, by decide +kernel⟩,
   ⟨engA (dsc 0) { credits := [{ tag := 3, target := 0, units := 2, sentAt := 0 }] }, { pk 0x12 with typeData := 3 }, 0, 0, by decide +kernel⟩,
   ⟨engA (dsc 0) { credits := [{ tag := 3, target := 0, units := 2, sentAt := 0 }] }, pk 0x12, 0, 0, { tag := 3, target := 0, units := 2, sentAt := 0 },
     by decide +kernel⟩⟩

theorem witness_ReductionsAndWritesComplete_writesLandAndComplete :
    (∃ (s : State) (p : Packet) (a e d : Nat),
      let turn := s.work.inTurn p = true
      turn) ∧
    (∃ (s : State) (p : Packet) (a e d : Nat),
      let here := if p.mcMode = 1 then p.dstC else p.dstR
      let turn := s.work.inTurn p = true
      turn ∧ s.work.dstDie p = d ∧ s.work.atHead d p = true ∧ here = p.mcEnd) ∧
    (∃ (s : State) (p : Packet) (a e d : Nat),
      let here := if p.mcMode = 1 then p.dstC else p.dstR
      let turn := s.work.inTurn p = true
      let dir := if p.mcMode = 1 then (if p.dstC < p.mcEnd then 2 else 3) else (if p.dstR < p.mcEnd then 1 else 0)
      let from_ := s.work.inputOf d p
      turn ∧ s.work.dstDie p = d ∧ s.work.atHead d p = true ∧ here ≠ p.mcEnd ∧ s.work.outUsable d dir = true ∧
      (s.work.die d).router.freeSlots dir 5 0 ≠ 0 ∧ s.work.mcastTurn d dir from_ = true) ∧
    (∃ (s : State) (p : Packet) (a e d : Nat),
      let here := if p.mcMode = 1 then p.dstC else p.dstR
      let turn := s.work.inTurn p = true
      let dir := if p.mcMode = 1 then (if p.dstC < p.mcEnd then 2 else 3) else (if p.dstR < p.mcEnd then 1 else 0)
      let from_ := s.work.inputOf d p
      turn ∧ s.work.dstDie p = d ∧ s.work.atHead d p = true ∧ here ≠ p.mcEnd ∧ s.work.outUsable d dir = true ∧
      ((s.work.die d).router.freeSlots dir 5 0 = 0 ∨ s.work.mcastTurn d dir from_ = false)) ∧
    (∃ (s : State) (p : Packet) (a e d : Nat),
      let here := if p.mcMode = 1 then p.dstC else p.dstR
      let turn := s.work.inTurn p = true
      let dir := if p.mcMode = 1 then (if p.dstC < p.mcEnd then 2 else 3) else (if p.dstR < p.mcEnd then 1 else 0)
      turn ∧ s.work.dstDie p = d ∧ s.work.atHead d p = true ∧ here ≠ p.mcEnd ∧ s.work.outUsable d dir = false) ∧
    (∃ (s : State) (p : Packet) (a e d : Nat),
      let turn := s.work.inTurn p = true
      turn ∧ s.work.atHead d p = false) ∧
    (∃ (s : State) (p : Packet) (a e d : Nat),
      let turn := s.work.inTurn p = true
      turn ∧ p.dstUnit / 16 = 4) ∧
    (∃ (s : State) (p : Packet) (a e d : Nat),
      let turn := s.work.inTurn p = true
      turn ∧ p.dstUnit / 16 = 0) ∧
    (∃ (s : State) (p : Packet) (a e d : Nat),
      let en := s.work.engine a e
      ∃ t,
      en.started = true ∧ en.desc.mcMode ≠ 0 ∧ en.transfers.find? (fun t => !t.targets.isEmpty) = some t ∧ s.fmgr.st < 2) ∧
    (∃ (s : State) (p : Packet) (a e d : Nat),
      let en := s.work.engine a e
      ∃ t,
      en.transfers.find? (·.red) = some t ∧ s.fmgr.st < 2) :=
  ⟨⟨up, pk 0x13, 0, 0, 0, by decide +kernel⟩,
   ⟨up, { pk 0x14 with vc := 5, mcMode := 1, mcEnd := 0 }, 0, 0, 0, by decide +kernel⟩,
   ⟨two, { pk 0x14 with vc := 5, mcMode := 1, mcEnd := 1 }, 0, 0, 0, by decide +kernel⟩,
   ⟨{ two with dies := [(0, { router := { spent := [(34, 4)] } })] }, { pk 0x14 with vc := 5, mcMode := 1, mcEnd := 1 }, 0, 0, 0,
     by decide +kernel⟩,
   ⟨up, { pk 0x14 with vc := 5, mcMode := 1, mcEnd := 1 }, 0, 0, 0, by decide +kernel⟩,
   ⟨{ up with dies := [(0, { router := { stopped := true } })] }, pk 0x14, 0, 0, 0, by decide +kernel⟩,
   ⟨up, { pk 0x15 with dstUnit := 64 }, 0, 0, 0, by decide +kernel⟩,
   ⟨up, { pk 0x15 with dstUnit := 0 }, 0, 0, 0, by decide +kernel⟩,
   ⟨engA { dsc 0 with mcMode := 2 } { transfers := [{ id := 1, targets := [5] }] }, pk 0x15, 0, 0, 0, { id := 1, targets := [5] },
     by decide +kernel⟩,
   ⟨engA (dsc 7) { transfers := [{ id := 1, red := true }] }, pk 0x15, 0, 0, 0, { id := 1, red := true }, by decide +kernel⟩⟩

theorem witness_MemoryPacketsCarryBytes :
    (∃ (s : State) (p : Packet),
      let w := s.work.take p
      let x := w.localAddr p.address
      let n := field p.typeData 0 9
      let turn := s.work.inTurn p = true
      turn ∧ w.writeStatus x n = none ∧ aSpace x ≤ 2 ∧ p.dstUnit / 16 = 1) ∧
    (∃ (s : State) (p : Packet),
      let w := s.work.take p
      let x := w.localAddr p.address
      let n := field p.typeData 0 9
      let turn := s.work.inTurn p = true
      turn ∧ w.writeStatus x n = none ∧ aSpace x ≤ 2 ∧ p.dstUnit / 16 ≠ 1) ∧
    (∃ (s : State) (p : Packet),
      let w := s.work.take p
      let turn := s.work.inTurn p = true
      let a := w.dstArr p
      let e := p.dstSub % 4
      let en := w.engine a e
      ∃ t k us,
      turn ∧ en.transfers.find? (fun t => t.id == p.transfer && t.read.isSome) = some t ∧ t.read = some (k, us) ∧
      (w.arr a).faulted = false ∧ us.contains p.index = false ∧ p.poison = false) ∧
    (∃ (s : State) (p : Packet),
      let w := s.work.take p
      let turn := s.work.inTurn p = true
      let a := w.dstArr p
      let e := p.dstSub % 4
      let en := w.engine a e
      ∃ t k us,
      turn ∧ en.transfers.find? (fun t => t.id == p.transfer && t.read.isSome) = some t ∧ t.read = some (k, us) ∧
      (w.arr a).faulted = false ∧ us.contains p.index = false ∧ p.poison = true) :=
  ⟨⟨up, { pk 0x18 with dstUnit := 16, address := 0x1000, typeData := 64 }, by decide +kernel⟩,
   ⟨up, { pk 0x18 with dstUnit := 0, address := 0x1000, typeData := 64 }, by decide +kernel⟩,
   ⟨engA (dsc 0) { transfers := [{ id := 1, read := some (4, [0, 2]) }] }, { pk 0x1A with transfer := 1, index := 3 }, { id := 1, read := some (4, [0, 2]) }, 4, [0, 2],
     by decide +kernel⟩,
   ⟨engA (dsc 0) { transfers := [{ id := 1, read := some (4, [0, 2]) }] }, { pk 0x1A with transfer := 1, index := 3, poison := true }, { id := 1, read := some (4, [0, 2]) }, 4, [0, 2],
     by decide +kernel⟩⟩

theorem witness_StoresAndCheckUnits_checkUnitsLoadAndReset :
    (∃ (s : State) (data : List Byte) (u : Nat),
      data.length = 34 ∧ leAt data 0 2 < 417 ∧ leAt data 2 1 ≤ 3) ∧
    (∃ (s : State) (data : List Byte) (u : Nat),
      u < 417) :=
  ⟨⟨State.reset, [0xA0, 1, 3] ++ List.replicate 31 0, 0, by decide +kernel⟩,
   ⟨State.reset, [], 416, by decide +kernel⟩⟩

theorem witness_ReductionsAndWritesComplete_reductionsCombine :
    (∃ (s : State) (d n : Nat) (p : Packet),
      let w := s.work
      w.inTurn p = true ∧ w.atHead d p = false) ∧
    (∃ (s : State) (d n : Nat) (p : Packet),
      let w := s.work
      w.inTurn p = true ∧ (w.redDies p).contains d = true ∧ w.atHead d p = true ∧
      let place := ((w.pull d p).die d).router.enter p (w.srcDie p == d && p.contribs == 1)
      ∃ r,
      place = some r) ∧
    (∃ (s : State) (d n : Nat) (p : Packet),
      let w := s.work
      w.inTurn p = true ∧ (w.redDies p).contains d = true ∧ w.atHead d p = true ∧
      let place := ((w.pull d p).die d).router.enter p (w.srcDie p == d && p.contribs == 1)
      place = none) ∧
    (∃ (s : State) (d n : Nat) (p : Packet),
      let w := s.work
      ∃ c : RedCtx,
      ∃ (up : Packet) (ups : List Packet) (loc : Packet) (locs : List Packet),
      c.local_ = loc :: locs ∧ c.upstream = [] ∧ (w.redDies loc).headD 0 = d) ∧
    (∃ (s : State) (d n : Nat) (p : Packet),
      ∃ c : RedCtx,
      ∃ (up : Packet) (ups : List Packet) (loc : Packet) (locs : List Packet),
      c.local_ = loc :: locs ∧ c.upstream = up :: ups ∧ up.index = loc.index) ∧
    (∃ (s : State) (d n : Nat) (p : Packet),
      ∃ c : RedCtx,
      ∃ (up : Packet) (ups : List Packet) (loc : Packet) (locs : List Packet),
      c.local_ = loc :: locs ∧ c.upstream = up :: ups ∧ up.index ≠ loc.index) ∧
    (∃ (s : State) (d n : Nat) (p : Packet),
      let w := s.work
      ∃ (c : _) (q : Packet) (c' : RedCtx) (v : Work),
      (w.die d).router.reds[n]? = some c ∧ w.redNext d c = some (q, c', v) ∧
      let k := (findAt (· == d) (w.redDies q) 0).getD 0
      k + 1 = (w.redDies q).length) ∧
    (∃ (s : State) (d n : Nat) (p : Packet),
      let w := s.work
      ∃ (c : _) (q : Packet) (c' : RedCtx) (v : Work),
      (w.die d).router.reds[n]? = some c ∧ w.redNext d c = some (q, c', v) ∧
      let k := (findAt (· == d) (w.redDies q) 0).getD 0
      let next := (w.redDies q).getD (k + 1) d
      let dir := w.dimOut d (w.colOf next) (w.rowOf next)
      let before := (w.redDies q).getD (k - 1) d
      let from_ := if k = 0 then 4 else w.dimOut d (w.colOf before) (w.rowOf before)
      k + 1 ≠ (w.redDies q).length ∧ w.outUsable d dir = true ∧ (w.die d).router.freeSlots dir 5 0 ≠ 0 ∧
      w.mcastTurn d dir from_ = true) ∧
    (∃ (s : State) (d n : Nat) (p : Packet),
      let w := s.work
      ∃ (c : _) (q : Packet) (c' : RedCtx) (v : Work),
      (w.die d).router.reds[n]? = some c ∧ w.redNext d c = some (q, c', v) ∧
      let k := (findAt (· == d) (w.redDies q) 0).getD 0
      let next := (w.redDies q).getD (k + 1) d
      let dir := w.dimOut d (w.colOf next) (w.rowOf next)
      let before := (w.redDies q).getD (k - 1) d
      let from_ := if k = 0 then 4 else w.dimOut d (w.colOf before) (w.rowOf before)
      k + 1 ≠ (w.redDies q).length ∧ w.outUsable d dir = true ∧
      ((w.die d).router.freeSlots dir 5 0 = 0 ∨ w.mcastTurn d dir from_ = false)) ∧
    (∃ (s : State) (d n : Nat) (p : Packet),
      let w := s.work
      ∃ (c : _) (q : Packet) (c' : RedCtx) (v : Work),
      (w.die d).router.reds[n]? = some c ∧ w.redNext d c = some (q, c', v) ∧
      let k := (findAt (· == d) (w.redDies q) 0).getD 0
      let next := (w.redDies q).getD (k + 1) d
      let dir := w.dimOut d (w.colOf next) (w.rowOf next)
      k + 1 ≠ (w.redDies q).length ∧ w.outUsable d dir = false) :=
  ⟨⟨{ up with dies := [(0, { router := { stopped := true } })] }, 0, 0, pk 0x1A, by decide +kernel⟩,
   ⟨up, 0, 0, pk 0x1A, by decide +kernel, by decide +kernel, by decide +kernel, _, rfl⟩,
   ⟨{ up with dies := [(0, { router := { reds := List.replicate 8 ⟨9, 9, 0, [], []⟩ } })] }, 0, 0, pk 0x1A, by decide +kernel⟩,
   ⟨{ up with dies := [(0, { router := { reds := [⟨0, 0, 0, [], [pk 0x1A]⟩] } })] }, 0, 0, pk 0x1A, ⟨0, 0, 0, [], [pk 0x1A]⟩, pk 0x1A, [], pk 0x1A, [],
     by decide +kernel⟩,
   ⟨{ up with dies := [(0, { router := { reds := [⟨0, 0, 0, [pk 0x1A], [pk 0x1A]⟩] } })] }, 0, 0, pk 0x1A, ⟨0, 0, 0, [pk 0x1A], [pk 0x1A]⟩, pk 0x1A, [], pk 0x1A, [],
     by decide +kernel⟩,
   ⟨{ up with dies := [(0, { router := { reds := [⟨0, 0, 0, [pk 0x1A], [{ pk 0x1A with index := 1 }]⟩] } })] }, 0, 0, pk 0x1A, ⟨0, 0, 0, [pk 0x1A], [{ pk 0x1A with index := 1 }]⟩, pk 0x1A, [], { pk 0x1A with index := 1 }, [],
     by decide +kernel⟩,
   ⟨{ up with dies := [(0, { router := { reds := [⟨0, 0, 0, [], [pk 0x1A]⟩] } })] }, 0, 0, pk 0x1A, ⟨0, 0, 0, [], [pk 0x1A]⟩, pk 0x1A, ⟨0, 0, 0, [], []⟩, _,
     by decide +kernel, rfl, by decide +kernel⟩,
   ⟨{ two with dies := [(0, { router := { reds := [⟨0, 0, 0, [], [{ pk 0x1A with vc := 5, mcMode := 1, dstC := 1 }]⟩] } })] }, 0, 0, pk 0x1A, ⟨0, 0, 0, [], [{ pk 0x1A with vc := 5, mcMode := 1, dstC := 1 }]⟩, { pk 0x1A with vc := 5, mcMode := 1, dstC := 1 }, ⟨0, 0, 0, [], []⟩, _,
     by decide +kernel, rfl, by decide +kernel⟩,
   ⟨{ two with dies := [(0, { router := { reds := [⟨0, 0, 0, [], [{ pk 0x1A with vc := 5, mcMode := 1, dstC := 1 }]⟩], spent := [(34, 4)] } })] }, 0, 0, pk 0x1A, ⟨0, 0, 0, [], [{ pk 0x1A with vc := 5, mcMode := 1, dstC := 1 }]⟩, { pk 0x1A with vc := 5, mcMode := 1, dstC := 1 }, ⟨0, 0, 0, [], []⟩, _,
     by decide +kernel, rfl, by decide +kernel⟩,
   ⟨{ up with dies := [(0, { router := { reds := [⟨0, 0, 0, [], [{ pk 0x1A with vc := 5, mcMode := 1, dstC := 1 }]⟩] } })] }, 0, 0, pk 0x1A, ⟨0, 0, 0, [], [{ pk 0x1A with vc := 5, mcMode := 1, dstC := 1 }]⟩, { pk 0x1A with vc := 5, mcMode := 1, dstC := 1 }, ⟨0, 0, 0, [], []⟩, _,
     by decide +kernel, rfl, by decide +kernel⟩⟩

theorem witness_LinksAndRoutersCarryPackets_packetsArriveInOrder :
    ∃ (s : State) (p : Packet) (d : Nat),
      s.work.inTurn p = false :=
  ⟨{ up with arrived := [{ pk 0x13 with vc := 4, index := 1 }] }, { pk 0x13 with vc := 4 }, 0, by decide +kernel⟩

theorem witness_LinksAndRoutersCarryPackets_linksCarryFrames :
    (∃ (s : State) (l : Nat) (f : LinkFrame) (d port : Nat) (far : Option (Nat × Nat)),
      let w := s.work
      let x := w.link l
      w.linkEnds l = some far ∧ x.failed = false ∧ w.root.lost = false ∧ f.crc = frameCrc f ∧ f.seq = (x.lastGood + 1) % 64) ∧
    (∃ (s : State) (l : Nat) (f : LinkFrame) (d port : Nat) (far : Option (Nat × Nat)),
      let w := s.work
      let x := w.link l
      w.linkEnds l = some far ∧ x.failed = false ∧ w.root.lost = false ∧ far = some (d, port)) ∧
    (∃ (s : State) (l : Nat) (f : LinkFrame) (d port : Nat) (far : Option (Nat × Nat)),
      let w := s.work
      let x := w.link l
      let got := assemble x.part (frameFlits f)
      let good := (w.modLink l (fun x => { x with
        lastGood := f.seq, waits := false, tries := 0, part := got.1
        resend := match x.resend with
          | g :: rest => if g.seq = f.seq then rest else x.resend
          | [] => [] })).modLink (opposite l) (fun x =>
          let y := if f.ackValid then x.acked f.ack else x
          { y with asked := y.asked || f.nak })
      w.linkEnds l = some far ∧ x.failed = false ∧ w.root.lost = false ∧ far = none ∧ f.creditValid = false ∧
      (∀ p ∈ got.2, p.dstPanel = good.panelId)) ∧
    (∃ (s : State) (l : Nat) (f : LinkFrame) (d port : Nat) (far : Option (Nat × Nat)),
      let w := s.work
      let x := w.link l
      w.linkEnds l = some far ∧ x.failed = false ∧ w.root.lost = false ∧ f.crc = frameCrc f ∧ f.seq ≠ (x.lastGood + 1) % 64) ∧
    (∃ (s : State) (l : Nat) (f : LinkFrame) (d port : Nat) (far : Option (Nat × Nat)),
      let w := s.work
      let x := w.link l
      w.linkEnds l = some far ∧ x.failed = false ∧ w.root.lost = false ∧ f.crc ≠ frameCrc f ∧ x.tries < 8) ∧
    (∃ (s : State) (l : Nat) (f : LinkFrame) (d port : Nat) (far : Option (Nat × Nat)),
      let w := s.work
      let x := w.link l
      w.linkEnds l = some far ∧ x.failed = false ∧ w.root.lost = false ∧ f.crc ≠ frameCrc f ∧ 8 ≤ x.tries) ∧
    (∃ (s : State) (l : Nat) (f : LinkFrame) (d port : Nat) (far : Option (Nat × Nat)),
      let w := s.work
      let x := w.link l
      x.failed = false ∧ x.asked = true) ∧
    (∃ (s : State) (l : Nat) (f : LinkFrame) (d port : Nat) (far : Option (Nat × Nat)),
      let w := s.work
      let x := w.link l
      let r : Defect := { kind := 2, source := 6, site := l / 16, sub := l / 2 % 8, pattern := 11, time := w.now }
      x.failed = false ∧ linkExists (l / 16) (l / 2 % 8) = true ∧ w.isOut r = false) :=
  ⟨⟨two, 0, lf 0, 1, 3, _, rfl, by decide +kernel, by decide +kernel, lf_crc 0, by decide +kernel⟩,
   ⟨two, 0, lf 0, 1, 3, some (1, 3), by decide +kernel⟩,
   ⟨two, 12, lf0 0, 1, 3, none, by decide +kernel⟩,
   ⟨two, 0, lf 1, 1, 3, _, rfl, by decide +kernel, by decide +kernel, lf_crc 1, by decide +kernel⟩,
   ⟨two, 0, lfBad 0, 1, 3, _, rfl, by decide +kernel, by decide +kernel, lfBad_crc 0, by decide +kernel⟩,
   ⟨{ two with links := [(0, { tries := 8 })] }, 0, lfBad 0, 1, 3, _, rfl, by decide +kernel,
     by decide +kernel, lfBad_crc 0, by decide +kernel⟩,
   ⟨{ two with links := [(0, { asked := true })] }, 0, lf 0, 1, 3, none, by decide +kernel⟩,
   ⟨two, 0, lf 0, 1, 3, none, by decide +kernel⟩⟩

theorem witness_LinksAndRoutersCarryPackets_routersForwardPackets :
    (∃ (s : State) (d : Nat) (p : Packet),
      let w := s.work
      let r := (w.die d).router
      w.diePresent d = true ∧
      ∃ (port : Nat) (x : Slot),
      port < 4 ∧ r.slots.find? (fun s => s.inPort == port && s.out.isNone && s.vc == p.vc && s.lane == p.lane) = some x ∧
      x.pkt = p ∧ w.forContext d p = false ∧ knownType p.type = true ∧
      ∃ out q,
      w.routeHeader d false p = .take out q) ∧
    (∃ (s : State) (d : Nat) (p : Packet),
      let w := s.work
      let r := (w.die d).router
      w.diePresent d = true ∧
      ∃ (port : Nat) (x : Slot),
      port < 4 ∧ r.slots.find? (fun s => s.inPort == port && s.out.isNone && s.vc == p.vc && s.lane == p.lane) = some x ∧
      x.pkt = p ∧ w.forContext d p = false ∧ knownType p.type = true ∧ w.routeHeader d false p = .lost) ∧
    (∃ (s : State) (d : Nat) (p : Packet),
      let w := s.work
      let r := (w.die d).router
      w.diePresent d = true ∧
      ∃ (port : Nat) (x : Slot),
      port < 4 ∧ r.slots.find? (fun s => s.inPort == port && s.out.isNone && s.vc == p.vc && s.lane == p.lane) = some x ∧
      x.pkt = p ∧ w.forContext d p = false ∧ knownType p.type = true ∧ w.routeHeader d false p = .wait) ∧
    (∃ (s : State) (d : Nat) (p : Packet),
      let w := s.work
      let r := (w.die d).router
      w.diePresent d = true ∧
      ∃ (port : Nat) (x : Slot),
      4 ≤ port ∧ r.slots.find? (fun s => s.inPort == port && s.out.isNone && s.vc == p.vc && s.lane == p.lane) = some x ∧
      x.pkt = p ∧ w.forContext d p = false ∧ knownType p.type = true ∧
      ∃ out q,
      w.routeHeader d true p = .take out q ∧ p.dstPanel = w.panelId) ∧
    (∃ (s : State) (d : Nat) (p : Packet),
      let w := s.work
      let r := (w.die d).router
      w.diePresent d = true ∧
      ∃ (port : Nat) (x : Slot),
      4 ≤ port ∧ r.slots.find? (fun s => s.inPort == port && s.out.isNone && s.vc == p.vc && s.lane == p.lane) = some x ∧
      x.pkt = p ∧ w.forContext d p = false ∧ knownType p.type = true ∧ w.routeHeader d true p = .lost) ∧
    (∃ (s : State) (d : Nat) (p : Packet),
      let w := s.work
      let r := (w.die d).router
      w.diePresent d = true ∧
      ∃ (port : Nat) (link : _),
      4 ≤ port ∧ r.slots.find? (fun s => s.inPort == port && s.out.isNone && s.vc == p.vc && s.lane == p.lane) = none ∧
      w.mayEnter d port p = some link ∧ knownType p.type = true ∧ r.stopped = true ∧ p.vc ≠ 0) ∧
    (∃ (s : State) (d : Nat) (p : Packet),
      let w := s.work
      let r := (w.die d).router
      w.diePresent d = true ∧
      ∃ (port : Nat) (link : _),
      4 ≤ port ∧ r.slots.find? (fun s => s.inPort == port && s.out.isNone && s.vc == p.vc && s.lane == p.lane) = none ∧
      w.mayEnter d port p = some link ∧ knownType p.type = true ∧
      ∃ m,
      r.stopped = false ∧ link = some m ∧
      (tget 0 (w.link (2 * m + 1)).spent (p.vc * 2 + (if p.vc = 3 ∨ p.vc = 5 then 0 else 1)) < vcSlots p.vc)) ∧
    (∃ (s : State) (d : Nat) (p : Packet),
      let w := s.work
      let r := (w.die d).router
      w.diePresent d = true ∧
      ∃ (port : Nat) (link : _),
      4 ≤ port ∧ r.slots.find? (fun s => s.inPort == port && s.out.isNone && s.vc == p.vc && s.lane == p.lane) = none ∧
      w.mayEnter d port p = some link ∧ knownType p.type = true ∧ r.stopped = false ∧ link = none ∧ w.forContext d p = true) ∧
    (∃ (s : State) (d : Nat) (p : Packet),
      let w := s.work
      let r := (w.die d).router
      w.diePresent d = true ∧
      ∃ (port : Nat) (link : _),
      4 ≤ port ∧ r.slots.find? (fun s => s.inPort == port && s.out.isNone && s.vc == p.vc && s.lane == p.lane) = none ∧
      w.mayEnter d port p = some link ∧ knownType p.type = true ∧
      ∃ out q,
      r.stopped = false ∧ link = none ∧ w.forContext d p = false ∧ w.routeHeader d true p = .take out q ∧
      (r.inBuffer port q.vc q.lane).length < vcSlots q.vc ∧ p.dstPanel = w.panelId) ∧
    (∃ (s : State) (d : Nat) (p : Packet),
      let w := s.work
      let r := (w.die d).router
      w.diePresent d = true ∧
      ∃ (port : Nat) (link : _),
      4 ≤ port ∧ r.slots.find? (fun s => s.inPort == port && s.out.isNone && s.vc == p.vc && s.lane == p.lane) = none ∧
      w.mayEnter d port p = some link ∧ knownType p.type = true ∧ r.stopped = false ∧ link = none ∧ w.forContext d p = false ∧
      w.routeHeader d true p = .lost) ∧
    (∃ (s : State) (d : Nat) (p : Packet),
      let w := s.work
      let r := (w.die d).router
      w.diePresent d = true ∧
      ∃ (port : Nat),
      4 ≤ port ∧ r.slots.find? (fun s => s.inPort == port && s.out.isNone && s.vc == p.vc && s.lane == p.lane) = none ∧
      w.mayEnter d port p = none) ∧
    (∃ (s : State) (d : Nat) (p : Packet),
      let w := s.work
      let r := (w.die d).router
      w.diePresent d = true ∧
      ∃ (out : _) (vc : _) (lane : _) (i : _) (x : Slot),
      w.nextSlot d out = some (vc, lane, i, x) ∧
      let left := (w.freeSlot d x).modRouter d (fun r => { r with
        rrVc := if vc = 0 then r.rrVc else tput r.rrVc out vc, rrIn := tput r.rrIn (out * 12 + vc * 2 + lane) i })
      out < 4 ∧ left.outUsable d out = true) ∧
    (∃ (s : State) (d : Nat) (p : Packet),
      let w := s.work
      let r := (w.die d).router
      w.diePresent d = true ∧
      ∃ (out : _) (vc : _) (lane : _) (i : _) (x : Slot),
      w.nextSlot d out = some (vc, lane, i, x) ∧
      let left := (w.freeSlot d x).modRouter d (fun r => { r with
        rrVc := if vc = 0 then r.rrVc else tput r.rrVc out vc, rrIn := tput r.rrIn (out * 12 + vc * 2 + lane) i })
      out < 4 ∧ left.outUsable d out = false) ∧
    (∃ (s : State) (d : Nat) (p : Packet),
      let w := s.work
      let r := (w.die d).router
      w.diePresent d = true ∧
      ∃ (out : _) (vc : _) (lane : _) (i : _) (x : Slot),
      w.nextSlot d out = some (vc, lane, i, x) ∧
      let left := (w.freeSlot d x).modRouter d (fun r => { r with
        rrVc := if vc = 0 then r.rrVc else tput r.rrVc out vc, rrIn := tput r.rrIn (out * 12 + vc * 2 + lane) i })
      ∃ m,
      out = 5 ∧ (left.exitUnit x.pkt).bind (left.attachLink d) = some m) ∧
    (∃ (s : State) (d : Nat) (p : Packet),
      let w := s.work
      let r := (w.die d).router
      w.diePresent d = true ∧
      ∃ (out : _) (vc : _) (lane : _) (i : _) (x : Slot),
      w.nextSlot d out = some (vc, lane, i, x) ∧
      let left := (w.freeSlot d x).modRouter d (fun r => { r with
        rrVc := if vc = 0 then r.rrVc else tput r.rrVc out vc, rrIn := tput r.rrIn (out * 12 + vc * 2 + lane) i })
      out = 5 ∧ (left.exitUnit x.pkt).bind (left.attachLink d) = none) ∧
    (∃ (s : State) (d : Nat) (p : Packet),
      let w := s.work
      w.diePresent d = true ∧
      ∃ (out : _) (vc : _) (lane : _) (i : _) (x : Slot),
      w.nextSlot d out = some (vc, lane, i, x) ∧ out = 4) ∧
    (∃ (s : State) (d : Nat) (p : Packet),
      let w := s.work
      w.diePresent d = true ∧ w.inTurn p = true ∧ p.dstUnit / 16 ≠ 2) ∧
    (∃ (s : State) (d : Nat) (p : Packet),
      let w := s.work
      w.diePresent d = true ∧ w.inTurn p = true ∧ p.dstUnit / 16 = 2) :=
  ⟨⟨{ two with dies := [(0, { router := { slots := [⟨0, { pk 0x13 with vc := 1 }, 1, 1, none, none⟩] } })] }, 0, { pk 0x13 with vc := 1 },
    by decide +kernel, 0, ⟨0, { pk 0x13 with vc := 1 }, 1, 1, none, none⟩, by decide +kernel, by decide +kernel,
      by decide +kernel, by decide +kernel, by decide +kernel, _, _, rfl⟩,
   ⟨{ two with dies := [(0, { router := { slots := [⟨0, { pk 0x13 with vc := 1, dstC := 23 }, 1, 1, none, none⟩] } })] }, 0, { pk 0x13 with vc := 1, dstC := 23 },
     by decide +kernel, 0, ⟨0, { pk 0x13 with vc := 1, dstC := 23 }, 1, 1, none, none⟩, by decide +kernel⟩,
   ⟨{ two with dies := [(0, { router := { slots := [⟨0, { pk 0x13 with vc := 3, dstC := 1 }, 3, 1, none, none⟩], spent := [(30, 1000), (33, 1000)] } })] }, 0, { pk 0x13 with vc := 3, dstC := 1 },
     by decide +kernel, 0, ⟨0, { pk 0x13 with vc := 3, dstC := 1 }, 3, 1, none, none⟩, by decide +kernel⟩,
   ⟨{ two with dies := [(0, { router := { slots := [⟨4, { pk 0x13 with vc := 1 }, 1, 1, none, none⟩] } })] }, 0, { pk 0x13 with vc := 1 },
     by decide +kernel, 4, ⟨4, { pk 0x13 with vc := 1 }, 1, 1, none, none⟩, by decide +kernel, by decide +kernel,
       by decide +kernel, by decide +kernel, by decide +kernel, _, _, rfl, by decide +kernel⟩,
   ⟨{ two with dies := [(0, { router := { slots := [⟨4, { pk 0x13 with vc := 1, dstC := 23 }, 1, 1, none, none⟩] } })] }, 0, { pk 0x13 with vc := 1, dstC := 23 },
     by decide +kernel, 4, ⟨4, { pk 0x13 with vc := 1, dstC := 23 }, 1, 1, none, none⟩, by decide +kernel⟩,
   ⟨{ up with dies := [(0, { router := { stopped := true } })], net := [{ pk 0x13 with vc := 1 }] }, 0, { pk 0x13 with vc := 1 },
     by decide +kernel, 4, none, by decide +kernel⟩,
   ⟨{ up with net := [{ pk 0x13 with vc := 1, srcUnit := 64 }] }, 0, { pk 0x13 with vc := 1, srcUnit := 64 },
     by decide +kernel, 5, some 6, by decide +kernel, by decide +kernel, by decide +kernel, by decide +kernel, 6,
       by decide +kernel⟩,
   ⟨{ up with net := [{ pk 0x14 with vc := 1 }] }, 0, { pk 0x14 with vc := 1 }, by decide +kernel, 4, none, by decide +kernel⟩,
   ⟨{ up with net := [{ pk 0x13 with vc := 1 }] }, 0, { pk 0x13 with vc := 1 }, by decide +kernel, 4, none,
     by decide +kernel, by decide +kernel, by decide +kernel, by decide +kernel, _, _, by decide +kernel,
       by decide +kernel, by decide +kernel, rfl, by decide +kernel⟩,
   ⟨{ up with net := [{ pk 0x13 with vc := 1, dstC := 23 }] }, 0, { pk 0x13 with vc := 1, dstC := 23 },
     by decide +kernel, 4, none, by decide +kernel⟩,
   ⟨up, 0, { pk 0x13 with vc := 1 }, by decide +kernel, 4, by decide +kernel⟩,
   ⟨routed 2 { pk 0x13 with vc := 1 }, 0, { pk 0x13 with vc := 1 },
     by decide +kernel, 2, 1, 1, 5, ⟨5, { pk 0x13 with vc := 1 }, 1, 1, some 2, none⟩, by decide +kernel⟩,
   ⟨routed 0 { pk 0x13 with vc := 1 }, 0, { pk 0x13 with vc := 1 },
     by decide +kernel, 0, 1, 1, 5, ⟨5, { pk 0x13 with vc := 1 }, 1, 1, some 0, none⟩, by decide +kernel⟩,
   ⟨routed 5 { pk 0x13 with vc := 1, dstUnit := 64 }, 0, { pk 0x13 with vc := 1 },
     by decide +kernel, 5, 1, 1, 5, ⟨5, { pk 0x13 with vc := 1, dstUnit := 64 }, 1, 1, some 5, none⟩,
       by decide +kernel, 6, by decide +kernel⟩,
   ⟨routed 5 { pk 0x13 with vc := 1 }, 0, { pk 0x13 with vc := 1 },
     by decide +kernel, 5, 1, 1, 5, ⟨5, { pk 0x13 with vc := 1 }, 1, 1, some 5, none⟩, by decide +kernel⟩,
   ⟨routed 4 { pk 0x13 with vc := 1 }, 0, { pk 0x13 with vc := 1 },
     by decide +kernel, 4, 1, 1, 5, ⟨5, { pk 0x13 with vc := 1 }, 1, 1, some 4, none⟩, by decide +kernel⟩,
   ⟨up, 0, pk 0x20, by decide +kernel⟩,
   ⟨up, 0, { pk 0x20 with dstUnit := 32 }, by decide +kernel⟩⟩

theorem witness_TablesSwapAndFabricResumes_routingTablesAreSwapped :
    (∃ (s : State) (d : Nat),
      let w := s.work
      w.fmgr.st = 1 ∧ w.diePresent d = true) ∧
    (∃ (s : State) (d : Nat),
      let w := s.work
      let r := (w.die d).router
      w.fmgr.st = 1 ∧ r.filled = true ∧ w.fmgr.acked.contains d = false) ∧
    (∃ (s : State) (d : Nat),
      let w := s.work
      w.fmgr.st = 2 ∧ w.diePresent d = true) ∧
    (∃ (s : State) (d : Nat),
      let w := s.work
      let r := (w.die d).router
      w.fmgr.st = 2 ∧ r.stopped = true ∧ w.fmgr.stopped.contains d = false) ∧
    (∃ (s : State) (d : Nat),
      let w := s.work
      let r := (w.die d).router
      w.fmgr.st = 2 ∧ r.stopped = true ∧ w.now ≤ w.fmgr.stopAt + 1000000 ∧ w.routerEmpty d = true ∧ r.checkedAt = none) ∧
    (∃ (s : State) (d : Nat),
      let w := s.work
      let r := (w.die d).router
      ∃ t,
      w.fmgr.st = 2 ∧ r.stopped = true ∧ w.now ≤ w.fmgr.stopAt + 1000000 ∧ w.routerEmpty d = true ∧ r.checkedAt = some t ∧
      t + 1000 ≤ w.fmgr.stopAt + 1000000) ∧
    (∃ (s : State) (d : Nat),
      let w := s.work
      let r := (w.die d).router
      w.fmgr.st = 2 ∧ r.quiesced = true ∧ w.fmgr.quiesced.contains d = false) ∧
    (∃ (s : State) (d : Nat),
      let w := s.work
      let r := (w.die d).router
      w.fmgr.st = 3 ∧ w.diePresent d = true ∧ r.swapped = false) ∧
    (∃ (s : State) (d : Nat),
      let w := s.work
      let r := (w.die d).router
      w.fmgr.st = 3 ∧ r.swapped = true ∧ w.fmgr.swapped.contains d = false) :=
  ⟨⟨fab 1 {}, 0, by decide +kernel⟩,
   ⟨fab 1 { filled := true }, 0, by decide +kernel⟩,
   ⟨fab 2 {}, 0, by decide +kernel⟩,
   ⟨fab 2 { stopped := true }, 0, by decide +kernel⟩,
   ⟨fab 2 { stopped := true }, 0, by decide +kernel⟩,
   ⟨fab 2 { stopped := true, checkedAt := some 5 }, 0, 5, by decide +kernel⟩,
   ⟨fab 2 { quiesced := true }, 0, by decide +kernel⟩,
   ⟨fab 3 {}, 0, by decide +kernel⟩,
   ⟨fab 3 { swapped := true }, 0, by decide +kernel⟩⟩

theorem witness_TablesSwapAndFabricResumes_fabricResumes :
    (∃ (s : State) (d window : Nat) (data : List Byte) (p : Packet),
      let w := s.work
      w.fmgr.st = 3 ∧ w.routers.all w.fmgr.swapped.contains = true) ∧
    (∃ (s : State) (d window : Nat) (data : List Byte) (p : Packet),
      let w := s.work
      w.fmgr.st = 2) ∧
    (∃ (s : State) (d window : Nat) (data : List Byte) (p : Packet),
      let w := s.work
      w.diePresent d = true) ∧
    (∃ (s : State) (d window : Nat) (data : List Byte) (p : Packet),
      let w := s.work
      d < w.numDies ∧ window % 10000 = 0 ∧ w.reg 0x4100 3 ≤ window) ∧
    (∃ (s : State) (d window : Nat) (data : List Byte) (p : Packet),
      let w := s.work
      w.inTurn p = true) :=
  ⟨⟨fab 3 {} { swapped := [0] }, 0, 0, [], pk 0, by decide +kernel⟩,
   ⟨fab 2 {}, 0, 0, [], pk 0, by decide +kernel⟩,
   ⟨up, 0, 0, [], pk 0, by decide +kernel⟩,
   ⟨up, 383, 0, [], pk 0, by decide +kernel⟩,
   ⟨up, 0, 0, [], pk 0x22, by decide +kernel⟩⟩

theorem witness_WeightSetsAndGenerations_weightSetsAreDefined :
    (∃ (s : State) (n : Nat) (data : List Byte),
      let w := s.work
      let x := w.wset n
      let table := leAt data 8 8
      let count := leAt data 4 2
      let got := w.loadBytes table (64 * count) false
      let rs := (List.range count).map (fun i => slice got.1 (64 * i) 64)
      ∃ v,
      n < 64 ∧ data.length = 16 ∧ leAt data 6 2 = 0 ∧ x.st = .free ∧ aSpace table = 0 ∧
      w.readStatus table (64 * count) = none ∧ got.2.badLayer rs = none ∧
      got.2.reserveStaging (owners (rs.map layerOf)) = .inr v) ∧
    (∃ (s : State) (n : Nat) (data : List Byte),
      let w := s.work
      let x := w.wset n
      ∃ mode,
      n < 64 ∧ mode < 2 ∧ w.jobRuns = false ∧ x.usable = true ∧ x.st ≠ .defined ∧
      ((x.st == .training) == (mode == 1)) = false ∧ (∀ e ∈ x.held, e.2.pins = 0) ∧
      (mode = 1 → ∀ e ∈ x.held, e.2.st = .current)) ∧
    (∃ (s : State) (n : Nat) (data : List Byte),
      let w := s.work
      let x := w.wset n
      n < 64 ∧ data.length = 1624 ∧ x.usable = true) ∧
    (∃ (s : State) (n : Nat) (data : List Byte),
      let w := s.work
      let x := w.wset n
      n < 64 ∧ w.jobRuns = false ∧ x.zeroing = false ∧ x.st ≠ .free ∧ (∀ e ∈ x.held, e.2.pins = 0)) ∧
    (∃ (s : State) (n : Nat) (data : List Byte),
      let w := s.work
      let x := w.wset n
      x.zeroing = true) :=
  ⟨⟨up, 0, toBytes 5 4 ++ [0, 0, 0, 0] ++ toBytes 0x10000 8, _, by decide +kernel, by decide +kernel,
    by decide +kernel, by decide +kernel, by decide +kernel, by decide +kernel, by decide +kernel, rfl⟩,
   ⟨wset0 { st := .ready, gens := [(0, { number := 1, st := .current })] }, 0, [], 1, by decide +kernel⟩,
   ⟨wset0 { st := .defined }, 0, List.replicate 1624 0, by decide +kernel⟩,
   ⟨wset0 { st := .training, gens := [(0, { number := 1, st := .current })] }, 0, [], by decide +kernel⟩,
   ⟨wset0 { zeroing := true }, 0, [], by decide +kernel⟩⟩

theorem witness_WeightSetsAndGenerations_generationsLive :
    (∃ (s : State) (n g i : Nat),
      let w := s.work
      let x := w.wset n
      n < 64 ∧ x.usable = true ∧ x.st = .training) ∧
    (∃ (s : State) (n g i : Nat),
      let w := s.work
      let x := w.wset n
      n < 64 ∧ x.usable = true ∧ x.st ≠ .training ∧ (List.range 4).find? (fun i => (x.gen i).st == .free) = some i) ∧
    (∃ (s : State) (n g i : Nat),
      let w := s.work
      let x := w.wset n
      let y := x.gen i
      n < 64 ∧ x.usable = true ∧ x.slotOf g = some i ∧ y.st = .building ∧ y.ingesting = false ∧ y.chunkFailed = false) ∧
    (∃ (s : State) (n g i : Nat),
      let w := s.work
      let x := w.wset n
      let y := x.gen i
      n < 64 ∧ x.usable = true ∧ x.slotOf g = some i ∧ y.st = .live ∧ (x.st ≠ .training ∨ x.current = none)) ∧
    (∃ (s : State) (n g i : Nat),
      let w := s.work
      let x := w.wset n
      let y := x.gen i
      n < 64 ∧ x.usable = true ∧ x.slotOf g = some i ∧ (y.st = .building ∨ y.st = .live) ∧ y.ingesting = false) ∧
    (∃ (s : State) (n g i : Nat),
      let w := s.work
      let x := w.wset n
      let y := x.gen i
      n < 64 ∧ x.usable = true ∧ x.slotOf g = some i ∧ (y.st = .current ∨ y.st = .retiring) ∧ y.pins ≠ 0) ∧
    (∃ (s : State) (n g i : Nat),
      let w := s.work
      let x := w.wset n
      let y := x.gen i
      n < 64 ∧ x.current = some i ∧ x.st = .ready ∧ x.zeroing = false ∧ y.pins ≠ 0xFFFFFFFF) :=
  ⟨⟨wset0 { st := .training }, 0, 0, 0, by decide +kernel⟩,
   ⟨wset0 { st := .ready, gens := (List.range 3).map (fun i => (i, { number := i + 1, st := .live })) }, 0, 0, 3,
     by decide +kernel⟩,
   ⟨wset0 { st := .ready, gens := [(3, { number := 9, st := .building })] }, 0, 9, 3, by decide +kernel⟩,
   ⟨wset0 { st := .ready, gens := [(3, { number := 9, st := .live })] }, 0, 9, 3, by decide +kernel⟩,
   ⟨wset0 { st := .ready, gens := [(3, { number := 9, st := .live })] }, 0, 9, 3, by decide +kernel⟩,
   ⟨wset0 { st := .ready, gens := [(3, { number := 9, st := .retiring, pins := 1 })] }, 0, 9, 3, by decide +kernel⟩,
   ⟨wset0 { st := .ready, gens := [(3, { number := 9, st := .current })] }, 0, 9, 3, by decide +kernel⟩⟩

theorem witness_ChunksAreIngested :
    (∃ (s : State) (n b k : Nat) (data : List Byte) (p : Packet),
      let w := s.work
      ∃ c,
      k < 2 ∧ (w.hutch b).chunks.find? (fun c => c.peers.isEmpty || !c.sent) = some c) ∧
    (∃ (s : State) (n b k : Nat) (data : List Byte) (p : Packet),
      let w := s.work
      let x := w.wset n
      ∃ g,
      x.ingest = some g ∧ g.running = true ∧ g.entries ≤ g.done) ∧
    (∃ (s : State) (n b k : Nat) (data : List Byte) (p : Packet),
      let w := s.work
      w.inTurn p = true) ∧
    (∃ (s : State) (n b k : Nat) (data : List Byte) (p : Packet),
      let w := s.work
      ∃ c,
      (w.hutch b).chunks.find? (fun c => c.chunk == k && c.sent && !c.peers.isEmpty) = some c) :=
  ⟨⟨{ up with hutches := [(0, { chunks := [chk [3] false] })] }, 0, 0, 1, [], pk 0x50, chk [3] false, by decide +kernel⟩,
   ⟨wset0 { ingest := some { generation := 1, entries := 2, done := 2 } }, 0, 0, 0, [], pk 0x50, { generation := 1, entries := 2, done := 2 },
     by decide +kernel⟩,
   ⟨up, 0, 0, 0, [], pk 0x50, by decide +kernel⟩,
   ⟨{ up with hutches := [(0, { chunks := [chk [3] true] })] }, 0, 0, 0, [], pk 0x50, chk [3] true, by decide +kernel⟩⟩

theorem witness_HutchStreamsAndUpdates :
    (∃ (s : State) (p : Packet) (b i : Nat),
      let w := s.work
      let h := w.hutch (p.dstUnit % 16)
      let turn := w.inTurn p = true
      turn ∧ h.wrun.length < 8) ∧
    (∃ (s : State) (p : Packet) (b i : Nat),
      let w := s.work
      let h := w.hutch (p.dstUnit % 16)
      let turn := w.inTurn p = true
      turn ∧ 8 ≤ h.wrun.length ∧ h.wqueue.length < 32) ∧
    (∃ (s : State) (p : Packet) (b i : Nat),
      let w := s.work
      ∃ x,
      (w.hutch b).wrun[i]? = some x ∧ x.units = 0 ∧ w.behindUpdate b x = true) ∧
    (∃ (s : State) (p : Packet) (b i : Nat),
      let w := s.work
      ∃ x,
      (w.hutch b).wrun[i]? = some x ∧ x.units = 0 ∧ w.behindUpdate b x = false) ∧
    (∃ (s : State) (p : Packet) (b i : Nat),
      let w := s.work
      ∃ x,
      (w.hutch b).wrun[i]? = some x ∧ x.units ≠ 0 ∧ w.fmgr.st < 2 ∧ x.launched = true ∧
      w.past (1000 + b) (x.launchedAt + 200000) = true) ∧
    (∃ (s : State) (p : Packet) (b i : Nat),
      let w := s.work
      ∃ x,
      (w.hutch b).wrun[i]? = some x ∧ x.units ≠ 0 ∧ w.fmgr.st < 2 ∧ x.launched = false ∧
      w.past (1000 + b) (x.askedAt + 100000) = true) ∧
    (∃ (s : State) (p : Packet) (b i : Nat),
      let w := s.work
      let u := w.updIn p
      let turn := w.inTurn p = true
      ∃ st,
      turn ∧ w.updStatus (p.dstUnit % 16) u (w.updCfg p) = some st) ∧
    (∃ (s : State) (p : Packet) (b i : Nat),
      let w := s.work
      let h := w.hutch (p.dstUnit % 16)
      let u := w.updIn p
      let turn := w.inTurn p = true
      let waits := w.updateWaits (p.dstUnit % 16) p
      turn ∧ w.updStatus (p.dstUnit % 16) u (w.updCfg p) = none ∧ waits = true ∧ h.updWait.contains p = false) ∧
    (∃ (s : State) (p : Packet) (b i : Nat),
      let w := s.work
      let u := w.updIn p
      let turn := w.inTurn p = true
      let waits := w.updateWaits (p.dstUnit % 16) p
      turn ∧ w.updStatus (p.dstUnit % 16) u (w.updCfg p) = none ∧ waits = false ∧ bit u.flags 1 = true) ∧
    (∃ (s : State) (p : Packet) (b i : Nat),
      let w := s.work
      let u := w.updIn p
      let turn := w.inTurn p = true
      let waits := w.updateWaits (p.dstUnit % 16) p
      turn ∧ w.updStatus (p.dstUnit % 16) u (w.updCfg p) = none ∧
      ∃ l j,
      waits = false ∧ bit u.flags 1 = false ∧ (w.wset u.set).layers[u.layer]? = some l ∧ (w.wset u.set).current = some j) :=
  ⟨⟨up, pk 0x40, 0, 0, by decide +kernel⟩,
   ⟨{ up with hutches := [(0, { wrun := List.replicate 8 wst, wqueue := List.replicate 31 wst })] }, pk 0x40, 0, 0,
     by decide +kernel⟩,
   ⟨{ up with hutches := [(0, { wrun := [{ wst with address := 0x8000, after := [{ pk 0x42 with payload := [0, 2, 0, 0] ++ toBytes 0 4 ++ toBytes 0 4 ++ toBytes 64 4 ++ toBytes 0x8000 8 }] }], updWait := [{ pk 0x42 with payload := [0, 2, 0, 0] ++ toBytes 0 4 ++ toBytes 0 4 ++ toBytes 64 4 ++ toBytes 0x8000 8 }] })] }, pk 0x40, 0, 0, { wst with address := 0x8000, after := [{ pk 0x42 with payload := [0, 2, 0, 0] ++ toBytes 0 4 ++ toBytes 0 4 ++ toBytes 64 4 ++ toBytes 0x8000 8 }] },
     by decide +kernel⟩,
   ⟨{ up with hutches := [(0, { wrun := [wst] })] }, pk 0x40, 0, 0, wst, by decide +kernel⟩,
   ⟨{ up with clock := 200001 * 2 ^ 32, hutches := [(0, { wrun := [{ wst with units := 1, launched := true }] })] }, pk 0x40, 0, 0, { wst with units := 1, launched := true },
     by decide +kernel⟩,
   ⟨{ up with clock := 100001 * 2 ^ 32, hutches := [(0, { wrun := [{ wst with units := 1 }] })] }, pk 0x40, 0, 0, { wst with units := 1 },
     by decide +kernel⟩,
   ⟨up, { pk 0x42 with payload := [0, 0, 0, 0] ++ toBytes 0 4 ++ toBytes 0 4 ++ toBytes 64 4 ++ toBytes 0x8000 8 }, 0, 0, 0x41, by decide +kernel⟩,
   ⟨{ up with hutches := [(0, { updWait := [{ ({ pk 0x42 with payload := [0, 2, 0, 0] ++ toBytes 0 4 ++ toBytes 0 4 ++ toBytes 64 4 ++ toBytes 0x8000 8 } : Packet) with index := 1 }] })] }, { pk 0x42 with payload := [0, 2, 0, 0] ++ toBytes 0 4 ++ toBytes 0 4 ++ toBytes 64 4 ++ toBytes 0x8000 8 }, 0, 0,
     by decide +kernel⟩,
   ⟨up, { pk 0x42 with payload := [0, 2, 0, 0] ++ toBytes 0 4 ++ toBytes 0 4 ++ toBytes 64 4 ++ toBytes 0x8000 8 }, 0, 0, by decide +kernel⟩,
   ⟨{ up with sets := [(0, { st := .training, layers := [lay], gens := [(0, { number := 1, st := .current })] })] }, { pk 0x42 with payload := [0, 0, 0, 0] ++ toBytes 0 4 ++ toBytes 0 4 ++ toBytes 64 4 ++ toBytes 0x8000 8 }, 0, 0,
     by decide +kernel, by decide +kernel, lay, 0, by decide +kernel⟩⟩

theorem witness_AdaptersStreamsAndBatches_adaptersLoad :
    (∃ (s : State) (i : Nat) (data : List Byte),
      let w := s.work
      let r := data.drop 2
      let x := w.wset (leAt r 1 1)
      let k := leAt data 0 2
      let es := (List.range (leAt r 6 2)).map (w.aEntry (leAt r 0x10 8))
      let fits := fun (e : AEntry) => ∃ l, x.layers[e.layer]? = some l ∧ l.adaptable = true ∧
      (e.format = 1 ∨ e.format = 5 ∨ e.format = 6) ∧
        aSpace e.source = 0 ∧ aHutch e.source = l.hutch ∧ w.invalid e.source = false ∧
        w.invalid (e.source + e.bytes - 1) = false
      ∃ v,
      data.length = 66 ∧ w.reg 0x7100 6 % 256 ≠ 0xFF ∧ leAt r 0 1 = 0 ∧ leAt r 8 4 = 0 ∧ allZero (slice r 0x20 32) = true ∧
      (w.adapter k).st = 0 ∧ leAt r 1 1 < 64 ∧ x.usable = true ∧ leAt r 2 2 ≠ 0 ∧ leAt r 2 2 ≤ 256 ∧
      aSpace (leAt r 0x10 8) = 0 ∧ w.readStatus (leAt r 0x10 8) (32 * leAt r 6 2) = none ∧ (∀ e ∈ es, fits e) ∧
      w.slotTable ≠ 0 ∧ w.reserveAdapter k x.layers es = .inr v) ∧
    (∃ (s : State) (i : Nat) (data : List Byte),
      let w := s.work
      (w.adapter i).st = 1 ∧
      ((List.range (w.adapter i).layerCount).map (w.aEntry (w.adapter i).table)).findSome? (fun e => w.readStatus e.source e.bytes) = none) ∧
    (∃ (s : State) (i : Nat) (data : List Byte),
      let w := s.work
      (w.adapter i).st = 2 ∧ (w.adapter i).pins = 0) :=
  ⟨⟨trk { up with sets := [(0, { st := .ready, layers := [lay] })] }, 0, [7, 0, 0, 0, 8, 0] ++ List.replicate 60 0, _,
    by decide +kernel, by decide +kernel, by decide +kernel, by decide +kernel, by decide +kernel, rfl,
      by decide +kernel, by decide +kernel, by decide +kernel, by decide +kernel, by decide +kernel,
      by decide +kernel, (fun e h => absurd (List.length_pos_of_mem h) (by decide +kernel)), by decide +kernel, rfl⟩,
   ⟨{ up with adapters := [(255, { st := 1 })] }, 255, [], by decide +kernel⟩,
   ⟨{ up with adapters := [(255, { st := 2 })] }, 255, [], by decide +kernel⟩⟩

theorem witness_AdaptersStreamsAndBatches_streamsAndBatches :
    (∃ (s : State) (i n : Nat) (data : List Byte) (p : Packet),
      let w := s.work
      ∃ v off,
      w.job.st.mayBind = true ∧ w.reg 0x7200 1 ≠ 1 ∧ w.slotTable ≠ 0 ∧ w.reserve 0 1 0 (16 * 2 ^ 20) = some (off, v)) ∧
    (∃ (s : State) (i n : Nat) (data : List Byte) (p : Packet),
      let w := s.work
      let x := w.stream i
      let y := streamEntry data
      ∃ slot v,
      w.tracking = true ∧ i < 262144 ∧ data.length = 64 ∧ leAt data 0 1 = 1 ∧ x.st = .free ∧ w.admitStatus y = none ∧
      w.pinCurrent y.set = .inr (slot, v) ∧ bit y.flags 0 = false) ∧
    (∃ (s : State) (i n : Nat) (data : List Byte) (p : Packet),
      let w := s.work
      let x := w.stream i
      w.tracking = true ∧ x.st = .waiting) ∧
    (∃ (s : State) (i n : Nat) (data : List Byte) (p : Packet),
      let w := s.work
      let x := w.stream i
      w.tracking = true ∧ (x.st = .ready ∨ x.st = .waiting)) ∧
    (∃ (s : State) (i n : Nat) (data : List Byte) (p : Packet),
      let w := s.work
      let x := w.stream i
      w.tracking = true ∧ x.st = .running) ∧
    (∃ (s : State) (i n : Nat) (data : List Byte) (p : Packet),
      let w := s.work
      let x := w.stream i
      w.tracking = true ∧ (x.st = .done ∨ x.st = .error ∨ x.st = .ready)) ∧
    (∃ (s : State) (i n : Nat) (data : List Byte) (p : Packet),
      let w := s.work
      ∃ g k ls l,
      w.batchGen n = some g ∧
      let size := 32 + 32 * w.reg 0x7200 6
      let slots := w.reg 0x7200 0x0A / size
      let es := takeStreams (w.reg 0x7200 6) (w.reg 0x7200 7)
        (sortBy (fun a b => a.2.before b.2) (w.streams.filter (fun e => e.2.set == n && e.2.st == .ready && e.2.generation == g)))
      (List.range slots).find? (fun i => !w.batches.any (fun b => b.slot == (w.nextBatch - 1 + i) % slots)) = some k ∧
      w.lists.find? (fun e => e.1 == w.reg 0x7200 5) = some (ls, l) ∧ w.tracking = true ∧
      (w.batches.filter (fun b => b.set == n)).length < w.reg 0x7200 8 ∧ es ≠ [] ∧ w.nextDescriptor l ≤ l.taken + l.slots) ∧
    (∃ (s : State) (i n : Nat) (data : List Byte) (p : Packet),
      let w := s.work
      let t := w.take p
      ∃ b,
      w.inTurn p = true ∧ t.batches.find? (fun b => b.id == field p.typeData 0 32) = some b ∧ field p.typeData 32 8 ≠ 0) ∧
    (∃ (s : State) (i n : Nat) (data : List Byte) (p : Packet),
      let w := s.work
      let t := w.take p
      let ack := t.send { p.answer 0x49 with vc := 2, typeData := field p.typeData 0 32 }
      ∃ b,
      w.inTurn p = true ∧ t.batches.find? (fun b => b.id == field p.typeData 0 32) = some b ∧ field p.typeData 32 8 = 0 ∧
      ack.readStatus b.results (8 * b.streams.length) = none) ∧
    (∃ (s : State) (i n : Nat) (data : List Byte) (p : Packet),
      let w := s.work
      w.inTurn p = true) :=
  ⟨⟨{ trk up with regs := [] }, 0, 0, [], pk 0x48, (({ trk up with regs := [] } : State).work.reserve 0 1 0 (16 * 2 ^ 20) |>.getD (0, up.work)).2, (({ trk up with regs := [] } : State).work.reserve 0 1 0 (16 * 2 ^ 20) |>.getD (0, up.work)).1,
    by decide +kernel⟩,
   ⟨trk { up with sets := [(0, { st := .ready, gens := [(0, { number := 1, st := .current })] })] }, 262143, 0, [1, 0, 0, 0] ++ List.replicate 60 0, pk 0x48, 0, pinned.work,
     by decide +kernel⟩,
   ⟨trk { up with streams := [(262143, { st := .waiting, set := 0 })] }, 262143, 0, [], pk 0x48, by decide +kernel⟩,
   ⟨trk { up with streams := [(262143, { st := .ready, set := 0 })] }, 262143, 0, [], pk 0x48, by decide +kernel⟩,
   ⟨trk { up with streams := [(262143, { st := .running, set := 0 })] }, 262143, 0, [], pk 0x48, by decide +kernel⟩,
   ⟨trk { up with streams := [(262143, { st := .done, set := 0 })] }, 262143, 0, [], pk 0x48, by decide +kernel⟩,
   ⟨trk { { up with sets := [(0, { st := .ready, gens := [(0, { number := 1, st := .current })] })], streams := [(5, { st := .ready, generation := 1, stepTokens := 3 })] } with regs := [(key 0x7200 6, 4), (key 0x7200 7, 64), (key 0x7200 8, 1), (key 0x7200 0x0A, 160), (key 0x7200 5, 2)], lists := [(2, { holder := 0, slots := 4, ring := 0x9000, status := 0xA000 })] }, 5, 0, [], pk 0x48, 1, 0, 2, { holder := 0, slots := 4, ring := 0x9000, status := 0xA000 },
     by decide +kernel⟩,
   ⟨{ up with batches := [⟨6, 0, 0, 1, 0x5000, [3]⟩] }, 0, 0, [], { pk 0x48 with typeData := 6 + 2 ^ 32 }, ⟨6, 0, 0, 1, 0x5000, [3]⟩,
     by decide +kernel⟩,
   ⟨{ up with batches := [⟨6, 0, 0, 1, 0x5000, [3]⟩] }, 0, 0, [], { pk 0x48 with typeData := 6 }, ⟨6, 0, 0, 1, 0x5000, [3]⟩, by decide +kernel⟩,
   ⟨up, 0, 0, [], pk 0x49, by decide +kernel⟩⟩

theorem witness_ListsFencesAndPlacement_taskListsAreTaken :
    (∃ (s : State) (n d : Nat) (data : List Byte),
      let w := s.work
      let k := leAt data 0 2
      let slots := leAt data 4 4
      let ring := leAt data 8 8
      let line := leAt data 16 8
      let free := k < 1024 ∧ leAt data 2 2 < w.numDies ∧ ringSlots slots = true ∧ aSpace ring = 0 ∧ ring % 256 = 0 ∧
      aSpace line = 0 ∧
        line % 64 = 0 ∧ leAt data 24 8 = 0 ∧ (w.lists.any fun e => e.1 == k) = false ∧
        (w.lists.filter (fun e => e.2.holder == leAt data 2 2)).length < 4
      w.job.st.mayBind = true ∧ data.length = 32 ∧ free ∧ w.writeStatus ring (64 * slots) = none ∧
      w.writeStatus line 64 = none) ∧
    (∃ (s : State) (n d : Nat) (data : List Byte),
      let w := s.work
      w.job.st.mayBind = true ∧ (w.lists.any fun e => e.1 == n) = true) ∧
    (∃ (s : State) (n d : Nat) (data : List Byte),
      let w := s.work
      ∃ m l,
      w.lists.find? (fun e => e.1 == n) = some (m, l) ∧
      let row := l.ring + 64 * (l.taken % max l.slots 1) / 256 * 256
      let served := w.modTu l.holder (fun t => { t with lastList := some n })
      let got := served.loadBytes row 256 false
      let taken := takeSlots l got.1 (256 - (w.die l.holder).tu.used) 4
      let count := l.taken + taken.length
      let listed : Work := { got.2 with
        lists := got.2.lists.map (fun e => if e.1 = n then (e.1, { e.2 with taken := count }) else e) }
      let queued := listed.modTu l.holder (fun t => { t with taken := t.taken ++ taken.map (fun b => ⟨n, b,
      listed.dieNow l.holder⟩) })
      w.job.st = .running ∧ (w.die l.holder).tu.quiet = false ∧ w.diePresent l.holder = true ∧ w.nextList l.holder = some n ∧
      served.readStatus row 256 = none ∧ taken ≠ [] ∧ queued.writeStatus l.status 64 = none) ∧
    (∃ (s : State) (n d : Nat) (data : List Byte),
      let w := s.work
      ∃ m t,
      w.headOf d 0 = some (m, t)) ∧
    (∃ (s : State) (n d : Nat) (data : List Byte),
      let w := s.work
      ∃ m t,
      w.headOf d 1 = some (m, t)) ∧
    (∃ (s : State) (n d : Nat) (data : List Byte),
      let w := s.work
      ∃ m t,
      w.headOf d 2 = some (m, t)) :=
  ⟨⟨up, 0, 0, [255, 3, 0, 0] ++ toBytes 256 4 ++ toBytes 0x1000 8 ++ toBytes 0x20000 8 ++ List.replicate 8 0,
    by decide +kernel⟩,
   ⟨{ up with lists := [(1023, tl)] }, 1023, 0, [], by decide +kernel⟩,
   ⟨{ jobS .running with lists := [(0, tl)], mem := [⟨0x1000, 1⟩] }, 0, 0, [], 0, tl, by decide +kernel⟩,
   ⟨tus { taken := [⟨0, tdb 0, 0⟩] }, 0, 0, [], ⟨0, tdb 0, 0⟩, taskOf (tdb 0), by decide +kernel⟩,
   ⟨tus { taken := [⟨0, tdb 1, 0⟩] }, 0, 0, [], ⟨0, tdb 1, 0⟩, taskOf (tdb 1), by decide +kernel⟩,
   ⟨tus { taken := [⟨0, tdb 2, 0⟩] }, 0, 0, [], ⟨0, tdb 2, 0⟩, taskOf (tdb 2), by decide +kernel⟩⟩

theorem witness_ListsFencesAndPlacement_fencesAndPlacement :
    (∃ (s : State) (d n : Nat),
      let w := s.work
      let tu := (w.die d).tu
      ∃ f,
      findAt (fun (f : Fence) => match f.pushedFrom with
        | none => tu.counts.all (fun c => c.list != f.list || !seqBefore c.seq f.desc.seq) &&
            tu.fences.all (fun g => g.list != f.list || !seqBefore g.desc.seq f.desc.seq)
        | some _ => w.fenceMet d f) tu.fences 0 = some n ∧ tu.fences[n]? = some f) ∧
    (∃ (s : State) (d n : Nat),
      let w := s.work
      let tu := (w.die d).tu
      ∃ i,
      w.job.st = .running ∧ tu.quiet = false ∧ findAt (fun i => (w.decide' d i).isSome) tu.queue 0 = some n ∧
      tu.queue[n]? = some i ∧
      ∃ a c,
      w.decide' d i = some (.inr (a, c))) ∧
    (∃ (s : State) (d n : Nat),
      let w := s.work
      let tu := (w.die d).tu
      ∃ i,
      w.job.st = .running ∧ tu.quiet = false ∧ findAt (fun i => (w.decide' d i).isSome) tu.queue 0 = some n ∧
      tu.queue[n]? = some i ∧
      ∃ st,
      w.decide' d i = some (.inl st)) :=
  ⟨⟨tus { fences := [⟨0, { seq := 9, kind := 2 }, none⟩], counts := [{ list := 0, seq := 10, left := 1 }] }, 0, 0, ⟨0, { seq := 9, kind := 2 }, none⟩,
    by decide +kernel⟩,
   ⟨{ tus { queue := [inst7] } with registry := [img] }, 0, 0, inst7, by decide +kernel, by decide +kernel,
     by decide +kernel, by decide +kernel, 0, 1, by decide +kernel⟩,
   ⟨tus { queue := [inst7] }, 0, 0, inst7, by decide +kernel, by decide +kernel, by decide +kernel,
     by decide +kernel, 0x01, by decide +kernel⟩⟩

theorem witness_WorkMovesAndBarriersComplete_workIsStolenAndPushed :
    (∃ (s : State) (d : Nat) (p : Packet),
      let w := s.work
      (w.die d).tu.steal = .idle ∧ w.idleUnit d = true) ∧
    (∃ (s : State) (d : Nat) (p : Packet),
      let w := s.work
      ∃ since wait,
      (w.die d).tu.steal = .waiting since wait ∧ w.idleUnit d = true) ∧
    (∃ (s : State) (d : Nat) (p : Packet),
      let w := s.work
      let t := w.take p
      w.inTurn p = true ∧ t.job.st ≠ .killing) ∧
    (∃ (s : State) (d : Nat) (p : Packet),
      let w := s.work
      let t := w.take p
      let e := t.dstDie p
      w.inTurn p = true ∧ t.job.st = .running ∧ t.givenBy p ≠ [] ∧ (t.die e).tu.quiet = true) ∧
    (∃ (s : State) (d : Nat) (p : Packet),
      let w := s.work
      let t := w.take p
      let e := t.dstDie p
      w.inTurn p = true ∧ t.job.st = .running ∧ t.givenBy p ≠ [] ∧ (t.die e).tu.quiet = false) ∧
    (∃ (s : State) (d : Nat) (p : Packet),
      let w := s.work
      let t := w.take p
      let e := t.dstDie p
      ∃ r,
      w.inTurn p = true ∧ t.job.st = .running ∧ t.givenBy p = [] ∧ (t.die e).tu.steal = .asking (t.srcDie p) r) ∧
    (∃ (s : State) (d : Nat) (p : Packet),
      let w := s.work
      w.inTurn p = true ∧ w.job.st = .running ∧ (w.die (w.dstDie p)).tu.used < 256) ∧
    (∃ (s : State) (d : Nat) (p : Packet),
      let w := s.work
      w.inTurn p = true ∧ w.job.st = .running ∧ 256 ≤ (w.die (w.dstDie p)).tu.used) :=
  ⟨⟨tus {}, 0, pk 0x30, by decide +kernel⟩,
   ⟨tus { steal := .waiting 5 2000 }, 0, pk 0x30, 5, 2000, by decide +kernel⟩,
   ⟨up, 0, pk 0x30, by decide +kernel⟩,
   ⟨tus { quiet := true }, 0, { pk 0x31 with payload := tdb 0 }, by decide +kernel⟩,
   ⟨tus {}, 0, { pk 0x31 with payload := tdb 0 }, by decide +kernel⟩,
   ⟨tus { steal := .asking 0 0 }, 0, pk 0x31, 0, by decide +kernel⟩,
   ⟨tus { queue := List.replicate 255 inst7 }, 0, { pk 0x33 with payload := tdb 0, index := 1 }, by decide +kernel⟩,
   ⟨tus { queue := List.replicate 256 inst7 }, 0, { pk 0x33 with payload := tdb 0, index := 1 }, by decide +kernel⟩⟩

theorem witness_WorkMovesAndBarriersComplete_barriersComplete :
    (∃ (s : State) (p : Packet),
      let w := s.work.take p
      let id := field p.typeData 0 12
      let turn := s.work.inTurn p = true
      turn ∧ w.barrierExpected id = 0) ∧
    (∃ (s : State) (p : Packet),
      let w := s.work.take p
      let id := field p.typeData 0 12
      let n := tget 0 w.job.arrivals id + 1
      let turn := s.work.inTurn p = true
      turn ∧ n < w.barrierExpected id) ∧
    (∃ (s : State) (p : Packet),
      let w := s.work.take p
      let id := field p.typeData 0 12
      let n := tget 0 w.job.arrivals id + 1
      let full := w.modJob (fun j => { j with arrivals := tput j.arrivals id 0 })
      let turn := s.work.inTurn p = true
      turn ∧ 0 < w.barrierExpected id ∧ w.barrierExpected id ≤ n ∧ full.globalRec id = none) :=
  ⟨⟨up, pk 0x34, by decide +kernel⟩,
   ⟨{ up with blobs := [(key 0x2400 0x0D, toBytes 2 4)] }, pk 0x34, by decide +kernel⟩,
   ⟨{ up with blobs := [(key 0x2400 0x0D, toBytes 1 4)] }, pk 0x34, by decide +kernel⟩⟩

theorem witness_TasksEnd :
    (∃ (s : State) (a d k : Nat) (t : Active),
      let w := s.work
      let x := s.array a
      let late := t.inst.desc.timeLimit ≠ 0 ∧
      (if t.inst.desc.waits = true then t.inst.takenAt else t.startAt) + 1000 * t.inst.desc.timeLimit < w.dieNow (a / 16)
      x.task = some t ∧ t.running = true ∧ t.fault = none ∧ x.st = .run ∧ x.taskDone = true ∧ t.inst.copy = false ∧
      t.twin = none ∧ ¬ late) ∧
    (∃ (s : State) (a d k : Nat) (t : Active),
      let w := s.work
      let x := s.array a
      let late := t.inst.desc.timeLimit ≠ 0 ∧
      (if t.inst.desc.waits = true then t.inst.takenAt else t.startAt) + 1000 * t.inst.desc.timeLimit < w.dieNow (a / 16)
      x.task = some t ∧ t.running = true ∧ t.fault = none ∧ x.st = .run ∧ x.taskDone = true ∧ t.inst.copy = false ∧
      t.twin = none ∧ late) ∧
    (∃ (s : State) (a d k : Nat) (t : Active),
      let x := s.array a
      ∃ c,
      x.task = some t ∧ t.fault = some c ∧ t.inst.copy = false ∧ t.twin = none) ∧
    (∃ (s : State) (a d k : Nat) (t : Active),
      let w := s.work
      ∃ i,
      (w.die d).tu.queue[k]? = some i ∧ i.desc.waits = true ∧ (w.die d).tu.released i.desc = false ∧ i.desc.timeLimit ≠ 0) ∧
    (∃ (s : State) (a d k : Nat) (t : Active),
      (s.array (arrOf d k)).task = some t ∧ t.running = true ∧ t.inst.desc.timeLimit ≠ 0) :=
  ⟨⟨upA { st := .run, task := some { running := true } }, 0, 0, 0, { running := true }, by decide +kernel⟩,
   ⟨{ upA { st := .run, task := some { running := true, inst := { desc := { timeLimit := 1 } } } } with clock := 1001 * 2 ^ 32 }, 0, 0, 0, { running := true, inst := { desc := { timeLimit := 1 } } },
     by decide +kernel⟩,
   ⟨upA { st := .loading, task := some { fault := some { status := 3 } } }, 0, 0, 0, { fault := some { status := 3 } }, { status := 3 },
     by decide +kernel⟩,
   ⟨tus { queue := [{ desc := { waitBarrier := 0x8005, waitCount := 1, timeLimit := 1 } }] }, 0, 0, 0, {}, { desc := { waitBarrier := 0x8005, waitCount := 1, timeLimit := 1 } },
     by decide +kernel⟩,
   ⟨upA { st := .run, task := some { running := true, inst := { desc := { timeLimit := 1 } } } }, 0, 0, 0, { running := true, inst := { desc := { timeLimit := 1 } } },
     by decide +kernel⟩⟩

theorem witness_JobRuns_jobRuns :
    (∃ (s : State),
      let w := s.work
      w.configBusy = false ∧ w.boot.st ≠ 2 ∧ w.job.st.mayBind = true ∧ w.badList = none ∧ w.badImage = none ∧
      w.badPlacement = none ∧ w.badSplit = none ∧ (w.reg 0x7800 7 = 0 ∨ w.hinge.st ≠ 2)) ∧
    (∃ (s : State),
      let w := s.work
      ∃ st n d,
      w.configBusy = false ∧ w.boot.st ≠ 2 ∧ w.job.st.mayBind = true ∧
      w.badList.or (w.badImage.or w.badPlacement) = some (st, n, d)) ∧
    (∃ (s : State),
      let w := s.work
      w.job.startWaits = false ∧ w.job.st = .configured ∧
      (w.siteMap.computed = false ∨ (w.activeSite hostSites).isSome = true) ∧ w.job.retained = false ∧
      (w.reg 0x2100 0x0D = 0 ∨ w.reg 0x2100 0x0E ≠ 1)) ∧
    (∃ (s : State),
      let w := s.work
      w.job.startWaits = false ∧ w.job.st = .configured ∧
      (w.siteMap.computed = false ∨ (w.activeSite hostSites).isSome = true) ∧ w.job.retained = false ∧ w.reg 0x2100 0x0D ≠ 0 ∧
      w.reg 0x2100 0x0E = 1) ∧
    (∃ (s : State),
      let w := s.work
      w.job.startWaits = false ∧ w.job.st = .configured ∧
      (w.siteMap.computed = false ∨ (w.activeSite hostSites).isSome = true) ∧ w.job.retained = true) ∧
    (∃ (s : State),
      let w := s.work
      w.siteMap.recomputing = true ∧ w.fmgr.st = 0) ∧
    (∃ (s : State),
      let w := s.work
      w.job.st = .running) ∧
    (∃ (s : State),
      let w := s.work
      (w.job.st = .running ∨ w.job.st = .stopping)) ∧
    (∃ (s : State),
      let w := s.work
      w.job.st = .retained) ∧
    (∃ (s : State),
      let w := s.work
      w.job.st = .stopping) ∧
    (∃ (s : State),
      let w := s.work
      w.job.st = .stopping ∧ w.settled = true) ∧
    (∃ (s : State),
      let w := s.work
      w.job.st = .stopping ∧ w.settled = false) ∧
    (∃ (s : State),
      let w := s.work
      w.job.st = .killing) ∧
    (∃ (s : State),
      let w := s.work
      let clean := w.scrub.modJob (fun j => { j with retained := false })
      w.job.st = .scrubbing ∧ clean.job.startWaits = false ∧ clean.job.configWaits = false) :=
  ⟨⟨up, by decide +kernel⟩,
   ⟨{ up with lists := [(0, { holder := 5, slots := 4, ring := 0x1000, status := 0x2000 })] }, _, _, _,
     by decide +kernel, by decide +kernel, by decide +kernel, rfl⟩,
   ⟨jobS .configured, by decide +kernel⟩,
   ⟨{ jobS .configured with regs := [(key 0x2100 0x0D, 1), (key 0x2100 0x0E, 1)] }, by decide +kernel⟩,
   ⟨{ up with job := { st := .configured, retained := true } }, by decide +kernel⟩,
   ⟨{ up with siteMap := { recomputing := true } }, by decide +kernel⟩,
   ⟨jobS .running, by decide +kernel⟩,
   ⟨jobS .stopping, by decide +kernel⟩,
   ⟨jobS .retained, by decide +kernel⟩,
   ⟨jobS .stopping, by decide +kernel⟩,
   ⟨{ up with job := { st := .stopping, drains := true } }, by decide +kernel⟩,
   ⟨jobS .stopping, by decide +kernel⟩,
   ⟨jobS .killing, by decide +kernel⟩,
   ⟨jobS .scrubbing, by decide +kernel⟩⟩

theorem witness_JobRuns_jobCommandsOutOfState :
    (∃ (s : State),
      let w := s.work
      w.job.startWaits = false ∧ w.job.st ≠ .configured) ∧
    (∃ (s : State),
      let w := s.work
      w.job.st ≠ .running) ∧
    (∃ (s : State),
      let w := s.work
      (w.job.st = .idle ∨ w.job.st = .configured ∨ w.job.st = .killing ∨ w.job.st = .scrubbing)) ∧
    (∃ (s : State),
      let w := s.work
      w.configBusy = false ∧ w.boot.st ≠ 2 ∧ (w.job.st = .running ∨ w.job.st = .stopping ∨ w.job.st = .killing)) :=
  ⟨⟨up, by decide +kernel⟩,
   ⟨jobS .configured, by decide +kernel⟩,
   ⟨jobS .scrubbing, by decide +kernel⟩,
   ⟨jobS .killing, by decide +kernel⟩⟩

theorem witness_EdgePortsAndEgress_edgePortsCarryFrames :
    (∃ (s : State) (k ms cause : Nat) (f : EdgeFrame) (test : PortTest),
      let w := s.work
      w.portUp k = true ∧ (f.crc ≠ edgeCrc f ∨ f.fecGood = false)) ∧
    (∃ (s : State) (k ms cause : Nat) (f : EdgeFrame) (test : PortTest),
      let w := s.work
      let seen := if f.corrected = 0 then w else w.corrected (0x4800 + k) 8 f.corrected 5 k
      let checked := if f.fecGood then seen else seen.addReg (0x4800 + k) 9 1
      let fromPeer := f.senderPanel = checked.peerPanel k ∧ f.senderPort = checked.peerPort k ∧ f.role = checked.peerRole k
      w.portUp k = true ∧ f.crc = edgeCrc f ∧ f.fecGood = true ∧ ¬fromPeer) ∧
    (∃ (s : State) (k ms cause : Nat) (f : EdgeFrame) (test : PortTest),
      let w := s.work
      let seen := if f.corrected = 0 then w else w.corrected (0x4800 + k) 8 f.corrected 5 k
      let checked := if f.fecGood then seen else seen.addReg (0x4800 + k) 9 1
      let fromPeer := f.senderPanel = checked.peerPanel k ∧ f.senderPort = checked.peerPort k ∧ f.role = checked.peerRole k
      w.portUp k = true ∧ f.crc = edgeCrc f ∧ f.fecGood = true ∧ fromPeer ∧ f.idle = true) ∧
    (∃ (s : State) (k ms cause : Nat) (f : EdgeFrame) (test : PortTest),
      let w := s.work
      let seen := if f.corrected = 0 then w else w.corrected (0x4800 + k) 8 f.corrected 5 k
      let checked := if f.fecGood then seen else seen.addReg (0x4800 + k) 9 1
      let fromPeer := f.senderPanel = checked.peerPanel k ∧ f.senderPort = checked.peerPort k ∧ f.role = checked.peerRole k
      w.portUp k = true ∧ f.crc = edgeCrc f ∧ f.fecGood = true ∧ fromPeer ∧ f.idle = false ∧
      f.seq = ((checked.port k).lastGood + 1) % 65536) ∧
    (∃ (s : State) (k ms cause : Nat) (f : EdgeFrame) (test : PortTest),
      let w := s.work
      let seen := if f.corrected = 0 then w else w.corrected (0x4800 + k) 8 f.corrected 5 k
      let checked := if f.fecGood then seen else seen.addReg (0x4800 + k) 9 1
      let fromPeer := f.senderPanel = checked.peerPanel k ∧ f.senderPort = checked.peerPort k ∧ f.role = checked.peerRole k
      w.portUp k = true ∧ f.crc = edgeCrc f ∧ f.fecGood = true ∧ fromPeer ∧ f.idle = false ∧
      f.seq ≠ ((checked.port k).lastGood + 1) % 65536) ∧
    (∃ (s : State) (k ms cause : Nat) (f : EdgeFrame) (test : PortTest),
      let w := s.work
      let x := w.port k
      w.portUp k = true ∧ x.asked = true ∧ x.sent ≠ []) ∧
    (∃ (s : State) (k ms cause : Nat) (f : EdgeFrame) (test : PortTest),
      let w := s.work
      let x := w.port k
      (x.st = .failed ∨ x.st = .training)) ∧
    (∃ (s : State) (k ms cause : Nat) (f : EdgeFrame) (test : PortTest),
      let w := s.work
      let x := w.port k
      k < 16 ∧ x.st ≠ .testing ∧ (w.peerRole k = 2 → w.hinge.st ≠ 2) ∧ (w.peerRole k = 1 → w.jobRuns = false) ∧
      x.st ≠ .fused ∧ x.st ≠ .defective) ∧
    (∃ (s : State) (k ms cause : Nat) (f : EdgeFrame) (test : PortTest),
      let w := s.work
      let x := w.port k
      x.st = .testing) :=
  ⟨⟨twinned up, 0, 0, 0, { ef0 0 false 1 with fecGood := false }, pt, by decide +kernel, Or.inr rfl⟩,
   ⟨twinned up, 0, 0, 0, ef 0 false 9, pt, by decide +kernel, ef_crc 0 false 9, by decide +kernel⟩,
   ⟨twinned up, 0, 0, 0, ef 0 true, pt, by decide +kernel, ef_crc 0 true 1, by decide +kernel⟩,
   ⟨twinned up, 0, 0, 0, ef 1 false, pt, by decide +kernel, ef_crc 1 false 1, by decide +kernel⟩,
   ⟨twinned up, 0, 0, 0, ef 0 false, pt, by decide +kernel, ef_crc 0 false 1, by decide +kernel⟩,
   ⟨{ up with ports := [(15, { st := .half, asked := true, sent := [ef0 0 false 1] })] }, 15, 0, 0, ef 0 true, pt,
     by decide +kernel⟩,
   ⟨{ up with ports := [(15, { st := .training })] }, 15, 0, 0, ef 0 true, pt, by decide +kernel⟩,
   ⟨up, 15, 0, 0, ef 0 true, pt, by decide +kernel⟩,
   ⟨{ up with ports := [(0, { st := .testing })] }, 0, 0, 0, ef 0 true, pt, by decide +kernel⟩⟩

theorem witness_EdgePortsAndEgress_egressCreditsMove :
    (∃ (s : State) (p : Packet) (n : Nat),
      s.work.inTurn p = true) ∧
    (∃ (s : State) (p : Packet) (n : Nat),
      let w := s.work.take p
      let vc := field p.typeData 0 3
      let holder := if p.dstUnit / 16 = 5 then 1000 + p.dstUnit % 16 else w.dstDie p
      let mine := fun (e : Egress) => e.holder == holder && e.port == p.srcUnit % 16 && e.vc == vc
      s.work.inTurn p = true ∧ w.egress.any mine = true) ∧
    (∃ (s : State) (p : Packet) (n : Nat),
      let w := s.work.take p
      let vc := field p.typeData 0 3
      let holder := if p.dstUnit / 16 = 5 then 1000 + p.dstUnit % 16 else w.dstDie p
      let mine := fun (e : Egress) => e.holder == holder && e.port == p.srcUnit % 16 && e.vc == vc
      s.work.inTurn p = true ∧ w.egress.any mine = false) ∧
    (∃ (s : State) (p : Packet) (n : Nat),
      ∃ e,
      s.work.egress[n]? = some e ∧ e.credits ≠ 0) :=
  ⟨⟨up, pk 0x50, 0, by decide +kernel⟩,
   ⟨{ up with egress := [⟨0, 0, 1, 3, 0⟩] }, { pk 0x51 with typeData := 1 }, 0, by decide +kernel⟩,
   ⟨up, { pk 0x51 with typeData := 1 }, 0, by decide +kernel⟩,
   ⟨{ up with egress := [⟨0, 0, 1, 1, 0⟩] }, pk 0x51, 0, ⟨0, 0, 1, 1, 0⟩, by decide +kernel⟩⟩

theorem witness_PanelsMeetAtBarriers :
    (∃ (s : State) (p : Packet) (panel : Nat),
      let w := s.work.take p
      let id := field p.typeData 0 12
      let g := (w.globals.find? (fun g => g.id == id)).getD { id := id }
      let came := g.arrivals ++ [(p.srcPanel, p.address, bit p.typeData 16)]
      ∃ count,
      s.work.inTurn p = true ∧ w.globalRec id = some (w.panelId, count) ∧ came.length < count) ∧
    (∃ (s : State) (p : Packet) (panel : Nat),
      let w := s.work.take p
      let id := field p.typeData 0 12
      let g := (w.globals.find? (fun g => g.id == id)).getD { id := id }
      let came := g.arrivals ++ [(p.srcPanel, p.address, bit p.typeData 16)]
      ∃ count,
      s.work.inTurn p = true ∧ w.globalRec id = some (w.panelId, count) ∧ count ≤ came.length) ∧
    (∃ (s : State) (p : Packet) (panel : Nat),
      s.work.inTurn p = true) ∧
    (∃ (s : State) (p : Packet) (panel : Nat),
      s.work.suspects.contains panel = true) :=
  ⟨⟨{ up with blobs := [(key 0x7800 1, [5, 0, 0, 0, 2, 0, 0, 0])] }, { pk 0x60 with typeData := 5 }, 0, 2, by decide +kernel⟩,
   ⟨{ up with blobs := [(key 0x7800 1, [5, 0, 0, 0, 1, 0, 0, 0])] }, { pk 0x60 with typeData := 5 }, 0, 1, by decide +kernel⟩,
   ⟨up, pk 0x61, 0, by decide +kernel⟩,
   ⟨{ up with suspects := [9] }, pk 0x60, 9, by decide +kernel⟩⟩

theorem witness_TwinsPairAndMirror_twinsPair :
    (∃ (s : State) (p : Packet),
      let w := s.work
      let cabled := (List.range 16).filter (fun k => w.peerRole k == 2 && w.peerPanel k == w.reg 0x4900 2)
      w.jobRuns = false ∧ w.reg 0x4900 9 % 256 ≠ 0xFF ∧ w.hinge.st ≠ 2 ∧ 2 ≤ cabled.length) ∧
    (∃ (s : State) (p : Packet),
      let w := s.work
      let cabled := (List.range 16).filter (fun k => w.peerRole k == 2 && w.peerPanel k == w.reg 0x4900 2)
      w.jobRuns = false ∧ w.reg 0x4900 9 % 256 ≠ 0xFF ∧ w.hinge.st ≠ 2 ∧ cabled.length < 2) ∧
    (∃ (s : State) (p : Packet),
      let w := s.work
      let t := w.take p
      w.inTurn p = true ∧ bit p.typeData 0 = true ∧ p.srcPanel = t.reg 0x4900 2) ∧
    (∃ (s : State) (p : Packet),
      let w := s.work
      let t := w.take p
      let status := field p.typeData 0 8
      w.inTurn p = true ∧ t.hinge.st = 1 ∧ p.srcPanel = t.hinge.twin ∧ status ≠ 0) ∧
    (∃ (s : State) (p : Packet),
      let w := s.work
      let t := w.take p
      let status := field p.typeData 0 8
      w.inTurn p = true ∧ t.hinge.st = 1 ∧ p.srcPanel = t.hinge.twin ∧ status = 0) ∧
    (∃ (s : State) (p : Packet),
      let w := s.work
      w.hinge.st = 2) ∧
    (∃ (s : State) (p : Packet),
      let w := s.work
      ∃ k q v x,
      w.hinge.beatWaits = [(k, q)] ∧
      ({ w with hinge := { w.hinge with beatWaits := [] } } : Work).spendEgress w.sideboardA k 0 = (x, v)) ∧
    (∃ (s : State) (p : Packet),
      let w := s.work
      let t := w.take p
      w.inTurn p = true ∧ t.hinge.st = 2 ∧ p.srcPanel = t.hinge.twin) ∧
    (∃ (s : State) (p : Packet),
      let w := s.work
      let lost := (w.reach (w.hinge.lastBeat + 1000 * w.reg 0x4900 8)).event 1 0x61 0 0
        (w.reach (w.hinge.lastBeat + 1000 * w.reg 0x4900 8)).hinge.twin
      w.hinge.st = 2 ∧ lost.job.mirrorWaits = false) :=
  ⟨⟨{ twinned up with ports := [(0, { st := .up, role := 2, peerPanel := 1 }), (1, { st := .up, role := 2, peerPanel := 1 })], inForce := [(key 0x4800 2, 2), (key 0x4800 3, 1), (key 0x4801 2, 2), (key 0x4801 3, 1)] }, pk 0x68,
    by decide +kernel⟩,
   ⟨up, pk 0x68, by decide +kernel⟩,
   ⟨twinned up, { pk 0x68 with srcPanel := 1, typeData := 1 }, by decide +kernel⟩,
   ⟨{ twinned up with hinge := { st := 1, twin := 1 } }, { pk 0x69 with srcPanel := 1, typeData := 0x60 }, by decide +kernel⟩,
   ⟨{ twinned up with hinge := { st := 1, twin := 1 } }, { pk 0x69 with srcPanel := 1 }, by decide +kernel⟩,
   ⟨paired {}, pk 0x6A, by decide +kernel⟩,
   ⟨paired { beatWaits := [(0, pk 0x6A)] }, pk 0x6A, 0, pk 0x6A, _, _, by decide +kernel, rfl⟩,
   ⟨paired {}, { pk 0x6A with srcPanel := 1 }, by decide +kernel⟩,
   ⟨paired {}, pk 0x6A, by decide +kernel⟩⟩

theorem witness_TwinsPairAndMirror_twinsMirror :
    (∃ (s : State) (p : Packet),
      let w := s.work
      w.inTurn p = true ∧ p.index + 1 < p.total) ∧
    (∃ (s : State) (p : Packet),
      let w := s.work
      w.inTurn p = true ∧ p.total ≤ p.index + 1) ∧
    (∃ (s : State) (p : Packet),
      let w := s.work
      let t := w.take p
      w.inTurn p = true ∧ t.job.mirrorWaits = true ∧ p.srcPanel = t.hinge.twin) ∧
    (∃ (s : State) (p : Packet),
      let w := s.work
      ∃ n half,
      w.hinge.copying = some (n, half) ∧ w.hinge.copyLeft = 0 ∧ w.hinge.committed = false) ∧
    (∃ (s : State) (p : Packet),
      let w := s.work
      let t := w.take p
      let step := field p.typeData 0 32
      ∃ half,
      w.inTurn p = true ∧ t.hinge.copying = some (step, half) ∧ t.hinge.committed = true) :=
  ⟨⟨up, { pk 0x6C with total := 2 }, by decide +kernel⟩,
   ⟨up, { pk 0x6C with index := 1, total := 2 }, by decide +kernel⟩,
   ⟨{ paired {} with job := { mirrorWaits := true } }, { pk 0x6C with srcPanel := 1 }, by decide +kernel⟩,
   ⟨paired { copying := some (3, 1) }, pk 0x6D, 3, 1, by decide +kernel⟩,
   ⟨paired { copying := some (3, 1), committed := true }, { pk 0x6E with typeData := 3 }, 1, by decide +kernel⟩⟩

theorem witness_CxlEndpoint :
    (∃ (s : State),
      let w := s.work
      let x := w.cxl
      x.perst = false) ∧
    (∃ (s : State),
      let w := s.work
      let x := w.cxl
      x.perst = true) ∧
    (∃ (s : State),
      let w := s.work
      ∃ (width : Nat) (rate : Nat),
      w.boot.hostReady = true) ∧
    (∃ (s : State),
      let w := s.work
      let x := w.cxl
      ∃ (i : _) (dpa : Nat) (size : Nat),
      x.st = 2 ∧ i < 4) ∧
    (∃ (s : State),
      let w := s.work
      let x := w.cxl
      ∃ (op : Nat) (data : List Byte),
      x.st ≠ 0) ∧
    (∃ (s : State),
      let w := s.work
      let x := w.cxl
      ∃ v,
      x.st ≠ 0 ∧ tget false x.pending v = true) :=
  ⟨⟨{ up with cxl := { perst := false, st := 2 } }, by decide +kernel⟩,
   ⟨State.reset, by decide +kernel⟩,
   ⟨{ up with boot := { hostReady := true } }, 4, 32, by decide +kernel⟩,
   ⟨cxlUp, 3, 0x10000000, 0x10000000, by decide +kernel⟩,
   ⟨cxlUp, 0x4000, [], by decide +kernel⟩,
   ⟨cxlUp, 1, by decide +kernel⟩⟩

theorem witness_RequestsAreServed :
    (∃ (s : State) (chan tag source : Nat) (q : Request),
      let w := s.work
      let c : Channel := tget {} w.cxl.channels chan
      w.cxl.st = 2 ∧ chan < 4 ∧ c.go = c.done ∧ w.served = true) ∧
    (∃ (s : State) (chan tag source : Nat) (q : Request),
      let w := s.work
      let c : Channel := tget {} w.cxl.channels chan
      w.cxl.st = 2 ∧ chan < 4 ∧ c.go = c.done ∧ w.served = false) ∧
    (∃ (s : State) (chan tag source : Nat) (q : Request),
      let w := s.work
      w.served = false) ∧
    (∃ (s : State) (chan tag source : Nat) (q : Request),
      let w := s.work
      w.served = true ∧ wellFormedRequest q = true ∧ (q.session = 0 → q.mac = false ∧ q.counter = 0)) ∧
    (∃ (s : State) (chan tag source : Nat) (q : Request),
      let w := s.work
      w.served = true ∧ wellFormedRequest q = true ∧ q.session = 0 ∧ q.mac = false ∧ q.counter = 0 ∧ q.op = 1 ∧
      (q.index = 0x1000 ∨ q.index = 0x1200)) ∧
    (∃ (s : State) (chan tag source : Nat) (q : Request),
      let w := s.work
      ∃ (m : Bool),
      w.served = true) ∧
    (∃ (s : State) (chan tag source : Nat) (q : Request),
      let w := s.work
      ∃ rest,
      w.discovery = (source, q) :: rest) :=
  ⟨⟨{ cxlUp with boot := { cxlUp.boot with done := 3 } }, 3, 9, 0, rq, by decide +kernel⟩,
   ⟨{ cxlUp with boot := { cxlUp.boot with done := 0 } }, 3, 9, 0, rq, by decide +kernel⟩,
   ⟨State.reset, 0, 0, 7, rq, by decide +kernel⟩,
   ⟨{ cxlUp with boot := { cxlUp.boot with done := 3 } }, 0, 0, 7, rq, by decide +kernel⟩,
   ⟨{ cxlUp with boot := { cxlUp.boot with done := 3 } }, 0, 0, 7, rq, by decide +kernel⟩,
   ⟨{ cxlUp with boot := { cxlUp.boot with done := 3 } }, 0, 0, 7, rq, true, by decide +kernel⟩,
   ⟨{ up with discovery := [(7, rq), (8, rq)] }, 0, 0, 7, rq, [(8, rq)], by decide +kernel⟩⟩

theorem witness_DictionaryIsRead :
    (∃ (s : State) (p : Path) (i sub off len : Nat) (cont : Bool) (o : Obj),
      s.work.serves p = false) ∧
    (∃ (s : State) (p : Path) (i sub off len : Nat) (cont : Bool) (o : Obj),
      s.work.serves p = true ∧ s.work.pathOpen p = true ∧ objOf i sub = some o) ∧
    (∃ (s : State) (p : Path) (i sub off len : Nat) (cont : Bool) (o : Obj),
      let n := if len = 0 then pathMost p else len
      s.work.serves p = true ∧ s.work.pathOpen p = true ∧ objOf i sub = some o ∧ o.access ≠ 4 ∧
      (o.access = 5 → o.readable = true) ∧ n ≤ pathMost p ∧ o.type ≠ 10 ∧ typeSize o.type ≠ 0 ∧ off = 0 ∧
      (len = 0 ∨ len = typeSize o.type)) ∧
    (∃ (s : State) (p : Path) (i sub off len : Nat) (cont : Bool) (o : Obj),
      let n := if len = 0 then pathMost p else len
      s.work.serves p = true ∧ s.work.pathOpen p = true ∧ objOf i sub = some o ∧ o.access ≠ 4 ∧
      (o.access = 5 → o.readable = true) ∧ n ≤ pathMost p ∧ o.type ≠ 10 ∧ typeSize o.type = 0) ∧
    (∃ (s : State) (p : Path) (i sub off len : Nat) (cont : Bool) (o : Obj),
      let n := if len = 0 then pathMost p else len
      s.work.serves p = true ∧ s.work.pathOpen p = true ∧ objOf i sub = some o ∧ o.access ≠ 4 ∧
      (o.access = 5 → o.readable = true) ∧ n ≤ pathMost p ∧ o.type = 10 ∧ (p.cxl = true ∨ p.session ≠ 0)) ∧
    (∃ (s : State) (p : Path) (i sub off len : Nat) (cont : Bool) (o : Obj),
      s.work.serves p = true ∧ s.work.pathOpen p = true ∧ objOf i sub = some o ∧ o.access = 4) ∧
    (∃ (s : State) (p : Path) (i sub off len : Nat) (cont : Bool) (o : Obj),
      s.work.serves p = true ∧ s.work.pathOpen p = true ∧ objOf i sub = some o ∧ o.type = 10 ∧ o.access ≠ 4 ∧ o.access ≠ 5 ∧
      p.cxl = false ∧ p.session = 0) :=
  ⟨⟨{ up with boot := { up.boot with done := 0 } }, pn, 0x1000, 2, 0, 0, false, ob 0x1000 2, by decide +kernel⟩,
   ⟨up, pn, 0x1000, 2, 0, 0, false, ob 0x1000 2, by decide +kernel⟩,
   ⟨up, pn, 0x2400, 2, 0, 4, false, ob 0x2400 2, by decide +kernel⟩,
   ⟨up, pn, 0x2400, 0x0D, 8, 1024, true, ob 0x2400 0x0D, by decide +kernel⟩,
   ⟨up, pw, 0x1201, 1, 0, 65536, false, ob 0x1201 1, by decide +kernel⟩,
   ⟨up, pw, 0x7001, 0x10, 0, 0, false, ob 0x7001 0x10, by decide +kernel⟩,
   ⟨up, pn, 0x1201, 1, 0, 0, false, ob 0x1201 1, by decide +kernel⟩⟩

theorem witness_DictionaryIsWritten :
    (∃ (s : State) (p : Path) (i sub off : Nat) (bs : List Byte) (more : Bool) (o : Obj),
      let w := s.work.touch p
      let authorised := p.session ≠ 0 ∨ p.cxl = true ∧ bit o.attr 0 = false
      objOf i sub = some o ∧ s.work.serves p = true ∧ s.work.pathOpen p = true ∧ o.access ≠ 1 ∧ authorised ∧
      w.jobForbids o i sub = false ∧ bs.length ≤ pathMost p ∧ (¬(i = 0x8000 ∧ sub = 5)) ∧ typeSize o.type ≠ 0 ∧ off = 0 ∧
      more = false ∧ bs.length = typeSize o.type ∧ o.inRange (ofBytes bs) = true) ∧
    (∃ (s : State) (p : Path) (i sub off : Nat) (bs : List Byte) (more : Bool) (o : Obj),
      let w := s.work.touch p
      let authorised := p.session ≠ 0 ∨ p.cxl = true ∧ bit o.attr 0 = false
      objOf i sub = some o ∧ s.work.serves p = true ∧ s.work.pathOpen p = true ∧ o.access ≠ 1 ∧ authorised ∧
      w.jobForbids o i sub = false ∧ bs.length ≤ pathMost p ∧ (¬(i = 0x8000 ∧ sub = 5)) ∧ typeSize o.type = 0) ∧
    (∃ (s : State) (p : Path) (i sub off : Nat) (bs : List Byte) (more : Bool) (o : Obj),
      objOf i sub = some o ∧ s.work.serves p = true ∧ s.work.pathOpen p = true ∧ o.access = 1) ∧
    (∃ (s : State) (p : Path) (i sub off : Nat) (bs : List Byte) (more : Bool) (o : Obj),
      let authorised := p.session ≠ 0 ∨ p.cxl = true ∧ bit o.attr 0 = false
      objOf i sub = some o ∧ s.work.serves p = true ∧ s.work.pathOpen p = true ∧ o.access ≠ 1 ∧ ¬authorised) ∧
    (∃ (s : State) (p : Path) (i sub off : Nat) (bs : List Byte) (more : Bool) (o : Obj),
      let w := s.work.touch p
      let authorised := p.session ≠ 0 ∨ p.cxl = true ∧ bit o.attr 0 = false
      objOf i sub = some o ∧ s.work.serves p = true ∧ s.work.pathOpen p = true ∧ o.access ≠ 1 ∧ authorised ∧
      w.jobForbids o i sub = true) ∧
    (∃ (s : State) (p : Path) (i sub off : Nat) (bs : List Byte) (more : Bool) (o : Obj),
      objOf i sub = some o ∧ o.access ≠ 1 ∧ s.work.jobForbids o i sub = false ∧ (¬(i = 0x8000 ∧ sub = 5))) :=
  ⟨⟨up, pw, 0x2400, 4, 0, [7], false, ob 0x2400 4, by decide +kernel⟩,
   ⟨up, pw, 0x2400, 0x0D, 16, [1, 2], true, ob 0x2400 0x0D, by decide +kernel⟩,
   ⟨up, pw, 0x2400, 1, 0, [1], false, ob 0x2400 1, by decide +kernel⟩,
   ⟨up, pn, 0x2400, 4, 0, [1], false, ob 0x2400 4, by decide +kernel⟩,
   ⟨jobS .running, pw, 0x2401, 2, 0, [], false, ob 0x2401 2, by decide +kernel⟩,
   ⟨up, pn, 0x2400, 2, 0, [], false, ob 0x2400 2, by decide +kernel⟩⟩

theorem witness_SessionsOpenAndEnd :
    (∃ (s : State) (p : Path) (data : List Byte),
      let w := s.work
      ∃ key,
      w.serves p = true ∧ data.length = 1604 ∧ leAt data 0 1 < 8 ∧ allZero (slice data 1 3) = true ∧ w.sessions.length < 8 ∧
      w.keyOf (leAt data 0 1) = some key) ∧
    (∃ (s : State) (p : Path) (data : List Byte),
      let w := s.work
      w.serves p = true ∧ data.length = 1024) ∧
    (∃ (s : State) (p : Path) (data : List Byte),
      let w := s.work
      w.serves p = true ∧ p.session ≠ 0 ∧ w.pathOpen p = true) ∧
    (∃ (s : State) (p : Path) (data : List Byte),
      let w := s.work
      ∃ x,
      w.sessions.find? (fun y => y.id == p.session) = some x) ∧
    (∃ (s : State) (p : Path) (data : List Byte),
      let w := s.work
      ∃ h,
      w.snapshots.find? (fun h => decide (h.path = p)) = some h) ∧
    (∃ (s : State) (p : Path) (data : List Byte),
      let w := s.work
      ∃ h,
      (w.staging ++ w.hellos).find? (fun h => decide (h.path = p)) = some h) :=
  ⟨⟨{ up with boot := { up.boot with keys := [(0, [1])] } }, pn, hel, [1], by decide +kernel⟩,
   ⟨up, pn, List.replicate 1024 0, by decide +kernel⟩,
   ⟨open3, { pn with session := 3 }, [], by decide +kernel⟩,
   ⟨open3, { pn with session := 3 }, [], ⟨3, pn, 0, [], 0, 0, 0, []⟩, by decide +kernel⟩,
   ⟨{ up with snapshots := [⟨pn, 0x2400, 0x0D, [], 0⟩] }, pn, [], ⟨pn, 0x2400, 0x0D, [], 0⟩, by decide +kernel⟩,
   ⟨{ up with hellos := [⟨pn, 0, 0, [], 0⟩] }, pn, [], ⟨pn, 0, 0, [], 0⟩, by decide +kernel⟩⟩

theorem witness_ClockRegions :
    (∃ (s : State) (r cycles code : Nat),
      let w := s.work
      w.regionRuns r = true) ∧
    (∃ (s : State) (r cycles code : Nat),
      let w := s.work
      let x := w.region r
      ∃ t,
      x.slowSince = some t ∧ x.slowTold = false ∧ w.regionRuns r = true) ∧
    (∃ (s : State) (r cycles code : Nat),
      let w := s.work
      w.regionRuns r = true ∧ code = 0) ∧
    (∃ (s : State) (r cycles code : Nat),
      let w := s.work
      w.regionRuns r = true ∧ code ≠ 0 ∧ min 15 code ≤ w.reg 0x9000 0x12) ∧
    (∃ (s : State) (r cycles code : Nat),
      let w := s.work
      let x := w.region r
      w.regionRuns r = true ∧ w.reg 0x9000 0x12 < min 15 code ∧ code ≠ 0 ∧
      (min 15 code < 8 ∨ w.now < x.goodSince.getD w.now + 10000000000)) ∧
    (∃ (s : State) (r cycles code : Nat),
      let w := s.work
      let x := w.region r
      w.regionRuns r = true ∧ w.reg 0x9000 0x12 < min 15 code ∧ 8 ≤ code ∧ x.goodSince.getD w.now + 10000000000 ≤ w.now) ∧
    (∃ (s : State) (r cycles code : Nat),
      let w := s.work
      let x := w.region r
      (∀ a, w.regionArray r = some a → (w.arr a).task = none) ∧ x.capMHz < 1050) :=
  ⟨⟨up, 0, 1060, 0, by decide +kernel⟩,
   ⟨{ up with regions := [(0, { slowSince := some 0 })] }, 0, 0, 0, 0, by decide +kernel⟩,
   ⟨up, 0, 0, 0, by decide +kernel⟩,
   ⟨{ up with regs := [(key 0x9000 0x12, 3)] }, 0, 0, 3, by decide +kernel⟩,
   ⟨{ up with regs := [(key 0x9000 0x12, 3)] }, 0, 0, 7, by decide +kernel⟩,
   ⟨{ up with regs := [(key 0x9000 0x12, 3)], regions := [(0, { goodSince := some 0 })], clock := 10000000000 * 2 ^ 32 }, 0, 0, 9,
     by decide +kernel⟩,
   ⟨{ up with regions := [(9160, { capMHz := 1025 })] }, 9160, 0, 0, fun a h => absurd h (by intro h; change (none : Option Nat) = some a at h; cases h),
     by decide +kernel⟩⟩

theorem witness_TimeMovesDownTheTree :
    (∃ (s : State) (d depth : Nat) (sync : TimeSync),
      let w := s.work
      w.root.running = true ∧ w.root.lost = false) ∧
    (∃ (s : State) (d depth : Nat) (sync : TimeSync),
      ∃ v : Work,
      d < 1000) ∧
    (∃ (s : State) (d depth : Nat) (sync : TimeSync),
      let w := s.work
      let t := w.takeFmgr 10 (fun q => (w.dstDie q, q.dstUnit) == w.syncPlace d)
      let k := (t.die d).clock
      k.running = true) ∧
    (∃ (s : State) (d depth : Nat) (sync : TimeSync),
      let w := s.work
      let echoed := w.takeFmgr 11 (fun q => (w.srcDie q, q.srcUnit) == w.syncPlace d)
      (echoed.die d).clock.running = true) ∧
    (∃ (s : State) (d depth : Nat) (sync : TimeSync),
      let w := s.work
      let leaf := 1000 ≤ d ∧ d < 1035
      let c := (w.die d).clock
      (d < w.numDies ∨ leaf) ∧ c.rateAt ≠ 0) ∧
    (∃ (s : State) (d depth : Nat) (sync : TimeSync),
      let w := s.work
      let leaf := 1000 ≤ d ∧ d < 1035
      w.numDies ≤ d ∧ ¬leaf ∧ w.root.rateAt ≠ 0) ∧
    (∃ (s : State) (d depth : Nat) (sync : TimeSync),
      let w := s.work
      let placed := (w.wholeTree.filter (fun e => e.depth == depth)).foldl Work.takePlace w
      w.wholeTree.any (fun e => decide (e.depth < depth) && w.misplaced e) = false ∧
      placed.wholeTree.any placed.misplaced = true) ∧
    (∃ (s : State) (d depth : Nat) (sync : TimeSync),
      let w := s.work
      let placed := (w.wholeTree.filter (fun e => e.depth == depth)).foldl Work.takePlace w
      w.wholeTree.any (fun e => decide (e.depth < depth) && w.misplaced e) = false ∧
      placed.wholeTree.any placed.misplaced = false) :=
  ⟨⟨rootS { running := true }, 0, 0, ts0, by decide +kernel⟩,
   ⟨up, 0, 0, ts0, up.work, by decide +kernel⟩,
   ⟨{ up with dies := [(0, { clock := { running := true, parent := 0xFFFE } })] }, 0, 0, ts0, by decide +kernel⟩,
   ⟨{ up with dies := [(0, { clock := { running := true } })] }, 0, 0, ts0, by decide +kernel⟩,
   ⟨{ up with dies := [(0, { clock := { rateAt := 7 } })] }, 0, 0, ts0, by decide +kernel⟩,
   ⟨rootS { rateAt := 7 }, 416, 0, ts0, by decide +kernel⟩,
   ⟨rootS { running := true, who := 1 }, 0, 0, ts0, by decide +kernel⟩,
   ⟨up, 0, 0, ts0, by decide +kernel⟩⟩

theorem witness_TimeIsSetAndKept :
    (∃ (s : State) (sec : Nat),
      let w := s.work
      w.root.stepAt ≠ 0 ∧ w.jobRuns = false) ∧
    (∃ (s : State) (sec : Nat),
      let w := s.work
      w.reg 0x9000 9 % 256 ≠ 0xFF ∧ w.jobRuns = false ∧ w.now / 1000000000 < sec) ∧
    (∃ (s : State) (sec : Nat),
      let w := s.work
      w.reg 0x9000 9 % 256 ≠ 0xFF ∧ w.jobRuns = false ∧ sec ≤ w.now / 1000000000) ∧
    (∃ (s : State) (sec : Nat),
      let w := s.work
      w.reg 0x9000 7 ≠ 0 ∧ w.root.running = true ∧ 2 ≤ w.boot.done ∧ (w.root.pps = 0 ∨ w.root.pps = 4)) ∧
    (∃ (s : State) (sec : Nat),
      let w := s.work
      let off := if w.now % 1000000000 ≤ 500000000 then Int.ofNat (w.now % 1000000000) else Int.ofNat (w.now % 1000000000) - 1000000000
      w.reg 0x9000 7 ≠ 0 ∧ w.root.running = true ∧ 2 ≤ w.boot.done ∧ w.root.pps = 2 ∧ off.natAbs ≤ 100) ∧
    (∃ (s : State) (sec : Nat),
      let w := s.work
      1 ≤ w.root.pps ∧ w.root.pps ≤ 3) :=
  ⟨⟨rootS { stepAt := 5, stepBy := 2 }, 0, by decide +kernel⟩,
   ⟨up, 1, by decide +kernel⟩,
   ⟨up, 0, by decide +kernel⟩,
   ⟨{ rootS { running := true, pps := 0 } with boot := { done := 2 }, regs := [(key 0x9000 7, 1)] }, 0, by decide +kernel⟩,
   ⟨{ rootS { running := true, pps := 2 } with boot := { done := 2 }, regs := [(key 0x9000 7, 1)] }, 0, by decide +kernel⟩,
   ⟨rootS { pps := 3 }, 0, by decide +kernel⟩⟩

theorem witness_DomainsSwitch :
    (∃ (s : State) (d : Nat) (test : BayTest),
      let w := s.work
      let x := w.domain d
      let idle := d < 37 ∧ x.st ≠ .switchingOff ∧ x.st ≠ .ramping ∧ x.enableWaits = false
      idle ∧ x.st = .on) ∧
    (∃ (s : State) (d : Nat) (test : BayTest),
      let w := s.work
      let x := w.domain d
      let idle := d < 37 ∧ x.st ≠ .switchingOff ∧ x.st ≠ .ramping ∧ x.enableWaits = false
      idle ∧ x.st ≠ .on ∧ (x.st = .trip ∨ w.thermTrip = true)) ∧
    (∃ (s : State) (d : Nat) (test : BayTest),
      let w := s.work
      let x := w.domain d
      let idle := d < 37 ∧ x.st ≠ .switchingOff ∧ x.st ≠ .ramping ∧ x.enableWaits = false
      idle ∧ x.st ≠ .on ∧ (w.domain 37).pg = false) ∧
    (∃ (s : State) (d : Nat) (test : BayTest),
      let w := s.work
      let x := w.domain d
      let idle := d < 37 ∧ x.st ≠ .switchingOff ∧ x.st ≠ .ramping ∧ x.enableWaits = false
      idle ∧ x.st ≠ .on ∧ x.st ≠ .trip ∧ w.thermTrip = false ∧ (w.domain 37).pg = true ∧ (d < 16 → w.hasPath d = true) ∧
      w.now < x.mayEnableAt) ∧
    (∃ (s : State) (d : Nat) (test : BayTest),
      let w := s.work
      let x := w.domain d
      let idle := d < 37 ∧ x.st ≠ .switchingOff ∧ x.st ≠ .ramping ∧ x.enableWaits = false
      idle ∧ x.st ≠ .on ∧ x.st ≠ .trip ∧ w.thermTrip = false ∧ (w.domain 37).pg = true ∧ (d < 16 → w.hasPath d = true) ∧
      x.mayEnableAt ≤ w.now ∧ x.faulted = true ∧ 3 ≤ (w.recentEnables d).length) ∧
    (∃ (s : State) (d : Nat) (test : BayTest),
      let w := s.work
      let x := w.domain d
      let idle := d < 37 ∧ x.st ≠ .switchingOff ∧ x.st ≠ .ramping ∧ x.enableWaits = false
      idle ∧ x.st ≠ .on ∧ x.st ≠ .trip ∧ w.thermTrip = false ∧ (w.domain 37).pg = true ∧ (d < 16 → w.hasPath d = true) ∧
      x.mayEnableAt ≤ w.now ∧ (x.faulted = false ∨ (w.recentEnables d).length < 3)) ∧
    (∃ (s : State) (d : Nat) (test : BayTest),
      let w := s.work
      let x := w.domain d
      x.st = .ramping ∧ domainKind d = 0) ∧
    (∃ (s : State) (d : Nat) (test : BayTest),
      let w := s.work
      let x := w.domain d
      x.st = .ramping ∧ domainKind d = 2) ∧
    (∃ (s : State) (d : Nat) (test : BayTest),
      let w := s.work
      let x := w.domain d
      x.st = .ramping ∧ domainKind d = 1) ∧
    (∃ (s : State) (d : Nat) (test : BayTest),
      let w := s.work
      let x := w.domain d
      x.st = .ramping ∧ 3 ≤ domainKind d) ∧
    (∃ (s : State) (d : Nat) (test : BayTest),
      let w := s.work
      let x := w.domain d
      d < 37 ∧ x.pg = true ∧ x.enabled = true ∧ (domainKind d = 1 ∨ domainKind d = 2)) ∧
    (∃ (s : State) (d : Nat) (test : BayTest),
      let w := s.work
      let x := w.domain d
      d < 37 ∧ x.pg = true ∧ x.enabled = true ∧ domainKind d = 3) ∧
    (∃ (s : State) (d : Nat) (test : BayTest),
      let w := s.work
      let x := w.domain d
      d < 37 ∧ x.pg = true ∧ x.enabled = true ∧ domainKind d = 0) ∧
    (∃ (s : State) (d : Nat) (test : BayTest),
      36 < d) ∧
    (∃ (s : State) (d : Nat) (test : BayTest),
      let w := s.work
      let x := w.domain d
      16 ≤ d ∧ d < 36 ∧ x.st = .on) ∧
    (∃ (s : State) (d : Nat) (test : BayTest),
      let w := s.work
      let x := w.domain d
      d = 36 ∧ w.jobRuns = false ∧ x.st = .on) ∧
    (∃ (s : State) (d : Nat) (test : BayTest),
      let w := s.work
      let x := w.domain d
      d < 16 ∧ d ≠ w.rootBay ∧ x.st = .on) :=
  ⟨⟨up, 36, bt0, by decide +kernel⟩,
   ⟨dom1 { st := .trip }, 1, bt0, by decide +kernel⟩,
   ⟨State.reset, 16, bt0, by decide +kernel⟩,
   ⟨{ up with domains := [(37, { st := .on, enabled := true, pg := true }), (16, { mayEnableAt := 5 })] }, 16, bt0,
     by decide +kernel⟩,
   ⟨{ up with domains := [(37, { st := .on, enabled := true, pg := true }), (16, { faulted := true, faultEnables := [0, 0, 0] })] }, 16, bt0,
     by decide +kernel⟩,
   ⟨{ up with domains := [(37, { st := .on, enabled := true, pg := true })] }, 16, bt0, by decide +kernel⟩,
   ⟨dom1 { st := .ramping }, 1, bt0, by decide +kernel⟩,
   ⟨{ up with domains := [(32, { st := .ramping })] }, 32, bt0, by decide +kernel⟩,
   ⟨{ up with domains := [(31, { st := .ramping })] }, 31, bt0, by decide +kernel⟩,
   ⟨{ up with domains := [(36, { st := .ramping })] }, 36, bt0, by decide +kernel⟩,
   ⟨up, 16, bt0, by decide +kernel⟩,
   ⟨up, 36, bt0, by decide +kernel⟩,
   ⟨up, 0, bt0, by decide +kernel⟩,
   ⟨up, 37, bt0, by decide +kernel⟩,
   ⟨up, 16, bt0, by decide +kernel⟩,
   ⟨up, 36, bt0, by decide +kernel⟩,
   ⟨dom1 { st := .on, enabled := true, pg := true }, 1, bt0, by decide +kernel⟩⟩

theorem witness_PowerIsWatched :
    (∃ (s : State) (d segment ma : Nat) (rs : List RailReading),
      let w := s.work
      d < 16 ∧ d ≠ w.rootBay) ∧
    (∃ (s : State) (d segment ma : Nat) (rs : List RailReading),
      let w := s.work
      (w.domain d).st = .switchingOff ∧ (w.domain d).step = 2) ∧
    (∃ (s : State) (d segment ma : Nat) (rs : List RailReading),
      let w := s.work
      guardCap d ≠ 0 ∧ (w.domain d).pg = true) :=
  ⟨⟨up, 0, 0, 0, [], by decide +kernel⟩,
   ⟨dom1 { st := .switchingOff, step := 2 }, 1, 0, 0, [], by decide +kernel⟩,
   ⟨up, 0, 0, 800001, [], by decide +kernel⟩⟩

theorem witness_HeatIsHeld :
    (∃ (s : State) (stack : Bool) (n after : Nat) (reading : Int),
      let w := s.work
      let read := (w.reach (w.now + after)).modSensor stack n (fun x => { x with reading := some reading })
      let l := leaderOf stack n
      let judged := (read.judgeGroup stack l).groupLimits stack l
      n < (if stack then 1024 else 1846) ∧ judged.groupReading stack l = none) ∧
    (∃ (s : State) (stack : Bool) (n after : Nat) (reading : Int),
      let w := s.work
      let read := (w.reach (w.now + after)).modSensor stack n (fun x => { x with reading := some reading })
      let l := leaderOf stack n
      let judged := (read.judgeGroup stack l).groupLimits stack l
      ∃ g,
      n < (if stack then 1024 else 1846) ∧ judged.groupReading stack l = some g) ∧
    (∃ (s : State) (stack : Bool) (n after : Nat) (reading : Int),
      (n < 1808 ∨ 1812 ≤ n ∧ n < 1846)) ∧
    (∃ (s : State) (stack : Bool) (n after : Nat) (reading : Int),
      let w := s.work
      let est : Work := { w with cooling := { w.cooling with
        rest := match w.airEstimate with | some x => (x :: w.cooling.rest).take 60 | none => w.cooling.rest
        trend := match w.trendReading with | some r => ((r, w.panelPower) :: w.cooling.trend).take 301 | none => [] } }
      let slow := decide (est.airWarn < est.cooling.mean) || memoryTrend est.cooling.trend
      (w.cooling.st = 2 ∨ w.cooling.st = 0 ∧ slow = false)) ∧
    (∃ (s : State) (stack : Bool) (n after : Nat) (reading : Int),
      let w := s.work
      let est : Work := { w with cooling := { w.cooling with
        rest := match w.airEstimate with | some x => (x :: w.cooling.rest).take 60 | none => w.cooling.rest
        trend := match w.trendReading with | some r => ((r, w.panelPower) :: w.cooling.trend).take 301 | none => [] } }
      let slow := decide (est.airWarn < est.cooling.mean) || memoryTrend est.cooling.trend
      w.cooling.st = 0 ∧ slow = true) ∧
    (∃ (s : State) (stack : Bool) (n after : Nat) (reading : Int),
      let w := s.work
      w.cooling.st = 1) ∧
    (∃ (s : State) (stack : Bool) (n after : Nat) (reading : Int),
      let w := s.work
      w.cooling.st = 3) ∧
    (∃ (s : State) (stack : Bool) (n after : Nat) (reading : Int),
      let w := s.work
      w.coolFailPin = true) ∧
    (∃ (s : State) (stack : Bool) (n after : Nat) (reading : Int),
      let w := s.work
      w.cooling.st = 2 ∧ w.calm = true) :=
  ⟨⟨{ up with sensors := [(1844, { suspect := true }), (1845, { suspect := true })] }, false, 1844, 0, 0, by decide +kernel⟩,
   ⟨up, false, 1812, 0, 0, _, by decide +kernel, rfl⟩,
   ⟨up, false, 1812, 0, 0, by decide +kernel⟩,
   ⟨coolS 0, false, 0, 0, 0, by decide +kernel⟩,
   ⟨{ up with cooling := { rest := [100000000] }, regs := [(key 0x6500 5, 0)] }, false, 0, 0, 0, by decide +kernel⟩,
   ⟨coolS 1, false, 0, 0, 0, by decide +kernel⟩,
   ⟨coolS 3, false, 0, 0, 0, by decide +kernel⟩,
   ⟨{ up with coolFailPin := true }, false, 0, 0, 0, by decide +kernel⟩,
   ⟨coolS 2, false, 0, 0, 0, by decide +kernel⟩⟩

theorem witness_StartUpBegins :
    (∃ (s : State) (lowNs straps refclk width rate : Nat) (aOk bOk hostLock ok fell : Bool),
      (fell = true ∨ 10000 ≤ lowNs)) ∧
    (∃ (s : State) (lowNs straps refclk width rate : Nat) (aOk bOk hostLock ok fell : Bool),
      fell = false ∧ lowNs < 9400) ∧
    (∃ (s : State) (lowNs straps refclk width rate : Nat) (aOk bOk hostLock ok fell : Bool),
      let w := s.work
      let b := w.boot
      let fresh : Work := { w with boot := { b with
        marks := b.newMarks b.lastRoot, clearMark := [], service := b.serviceLeft, starts := (b.starts + 1) % 2 ^ 32,
        boardB := bOk
        runs := ([⟨0, 0, 0, (b.starts + 1) % 2 ^ 32, 0, 0⟩] :: b.runs).take 9
        nodeId := straps % 32, activeSlot := b.nextSlot, st := 0, lead := 2 } }
      let rom := (fresh.loadFlash.startupDefects.domainOn 37).drawMs 200
      let alt := rom.2.boot.markOf 0x100 == 1
      let order := if alt then [1, 0] else [rom.2.boot.activeSlot, 1 - rom.2.boot.activeSlot]
      let slotA := if aOk then rom.2.bootSlot 0 order else none
      w.due 0x100 = true ∧
      ∃ n,
      slotA = some n) ∧
    (∃ (s : State) (lowNs straps refclk width rate : Nat) (aOk bOk hostLock ok fell : Bool),
      let w := s.work
      let b := w.boot
      let fresh : Work := { w with boot := { b with
        marks := b.newMarks b.lastRoot, clearMark := [], service := b.serviceLeft, starts := (b.starts + 1) % 2 ^ 32,
        boardB := bOk
        runs := ([⟨0, 0, 0, (b.starts + 1) % 2 ^ 32, 0, 0⟩] :: b.runs).take 9
        nodeId := straps % 32, activeSlot := b.nextSlot, st := 0, lead := 2 } }
      let rom := (fresh.loadFlash.startupDefects.domainOn 37).drawMs 200
      let alt := rom.2.boot.markOf 0x100 == 1
      let order := if alt then [1, 0] else [rom.2.boot.activeSlot, 1 - rom.2.boot.activeSlot]
      let slotA := if aOk then rom.2.bootSlot 0 order else none
      let slotB := if bOk then rom.2.bootSlot 1 order else none
      w.due 0x100 = true ∧
      ∃ n,
      slotA = none ∧ slotB = some n) ∧
    (∃ (s : State) (lowNs straps refclk width rate : Nat) (aOk bOk hostLock ok fell : Bool),
      let w := s.work
      let b := w.boot
      let fresh : Work := { w with boot := { b with
        marks := b.newMarks b.lastRoot, clearMark := [], service := b.serviceLeft, starts := (b.starts + 1) % 2 ^ 32,
        boardB := bOk
        runs := ([⟨0, 0, 0, (b.starts + 1) % 2 ^ 32, 0, 0⟩] :: b.runs).take 9
        nodeId := straps % 32, activeSlot := b.nextSlot, st := 0, lead := 2 } }
      let rom := (fresh.loadFlash.startupDefects.domainOn 37).drawMs 200
      let alt := rom.2.boot.markOf 0x100 == 1
      let order := if alt then [1, 0] else [rom.2.boot.activeSlot, 1 - rom.2.boot.activeSlot]
      let slotA := if aOk then rom.2.bootSlot 0 order else none
      let slotB := if bOk then rom.2.bootSlot 1 order else none
      w.due 0x100 = true ∧ slotA = none ∧ slotB = none) ∧
    (∃ (s : State) (lowNs straps refclk width rate : Nat) (aOk bOk hostLock ok fell : Bool),
      let w := s.work
      w.due 0x200 = true ∧ s.coolFailPin = false) ∧
    (∃ (s : State) (lowNs straps refclk width rate : Nat) (aOk bOk hostLock ok fell : Bool),
      let w := s.work
      w.due 0x300 = true ∧ w.boot.markOf 0x300 = 2) ∧
    (∃ (s : State) (lowNs straps refclk width rate : Nat) (aOk bOk hostLock ok fell : Bool),
      let w := s.work
      w.due 0x300 = true ∧ w.boot.markOf 0x300 ≠ 2 ∧ (w.domain 36).faulted = true) ∧
    (∃ (s : State) (lowNs straps refclk width rate : Nat) (aOk bOk hostLock ok fell : Bool),
      let w := s.work
      w.due 0x300 = true ∧ w.boot.markOf 0x300 ≠ 2 ∧ (w.domain 36).faulted = false ∧ (w.domain 36).st = .on ∧ ok = true) ∧
    (∃ (s : State) (lowNs straps refclk width rate : Nat) (aOk bOk hostLock ok fell : Bool),
      let w := s.work
      w.due 0x300 = true ∧ w.boot.markOf 0x300 ≠ 2 ∧ (w.domain 36).faulted = false ∧ (w.domain 36).st = .on ∧ ok = false) :=
  ⟨⟨State.reset, 10000, 0, 2, 8, 64, true, true, true, true, false, by decide +kernel⟩,
   ⟨State.reset, 9399, 0, 2, 8, 64, true, true, true, true, false, by decide +kernel⟩,
   ⟨State.reset, 0, 0, 2, 8, 64, true, true, true, true, false, by decide +kernel, 0, by decide +kernel⟩,
   ⟨{ State.reset with boot := { slots := [(2, { version := 1, st := 1 })] } }, 0, 0, 2, 8, 64, true, true, true, true, false, by decide +kernel, 2,
     by decide +kernel⟩,
   ⟨State.reset, 0, 0, 2, 8, 64, false, false, true, true, false, by decide +kernel⟩,
   ⟨starting 1 [], 0, 0, 2, 8, 64, true, true, true, true, false, by decide +kernel⟩,
   ⟨starting 2 [(0x300, 2)], 0, 0, 2, 8, 64, true, true, true, true, false, by decide +kernel⟩,
   ⟨{ starting 2 [] with domains := [(36, { faulted := true })] }, 0, 0, 2, 8, 64, true, true, true, true, false,
     by decide +kernel⟩,
   ⟨starting 2 [], 0, 0, 2, 8, 64, true, true, true, true, false, by decide +kernel⟩,
   ⟨starting 2 [], 0, 0, 2, 8, 64, true, true, true, false, false, by decide +kernel⟩⟩

theorem witness_StartUpGoesOn :
    (∃ (s : State) (k b e : Nat) (west east : MemTest) (test : BayTest) (tests : List PortTest),
      let w := s.work
      k < 8 ∧ w.due (0x400 + k) = true) ∧
    (∃ (s : State) (k b e : Nat) (west east : MemTest) (test : BayTest) (tests : List PortTest),
      let w := s.work
      let step := 0x500 + b
      b < 16 ∧ w.due step = true ∧ w.rampsNow = false ∧ (¬(b = w.rootBay ∧ w.serviceStays)) ∧ w.boot.markOf step = 2) ∧
    (∃ (s : State) (k b e : Nat) (west east : MemTest) (test : BayTest) (tests : List PortTest),
      let w := s.work
      let step := 0x500 + b
      b < 16 ∧ w.due step = true ∧ w.rampsNow = false ∧ (¬(b = w.rootBay ∧ w.serviceStays)) ∧ w.boot.markOf step ≠ 2 ∧
      w.hasPath b = true ∧ w.root.lost = false ∧ w.root.running = true ∧ (w.domain b).faulted = true) ∧
    (∃ (s : State) (k b e : Nat) (west east : MemTest) (test : BayTest) (tests : List PortTest),
      let w := s.work
      let step := 0x500 + b
      b < 16 ∧ w.due step = true ∧ w.rampsNow = false ∧ (¬(b = w.rootBay ∧ w.serviceStays)) ∧ w.boot.markOf step ≠ 2 ∧
      w.hasPath b = true ∧ w.root.lost = false ∧ w.root.running = true ∧ (w.domain b).faulted = false ∧ test.pgOk = false ∧
      (w.domain b).st ≠ .on) ∧
    (∃ (s : State) (k b e : Nat) (west east : MemTest) (test : BayTest) (tests : List PortTest),
      let w := s.work
      let step := 0x500 + b
      b < 16 ∧ w.due step = true ∧ w.rampsNow = false ∧ (¬(b = w.rootBay ∧ w.serviceStays)) ∧ w.boot.markOf step ≠ 2 ∧
      w.hasPath b = true ∧ w.root.lost = false ∧ w.root.running = true ∧ (w.domain b).faulted = false ∧
      (test.pgOk = true ∨ (w.domain b).st = .on) ∧ (test.timedOut = true ∨ 10000 < test.ms)) ∧
    (∃ (s : State) (k b e : Nat) (west east : MemTest) (test : BayTest) (tests : List PortTest),
      let w := s.work
      let step := 0x500 + b
      b < 16 ∧ w.due step = true ∧ w.rampsNow = false ∧ (¬(b = w.rootBay ∧ w.serviceStays)) ∧ w.boot.markOf step ≠ 2 ∧
      w.hasPath b = true ∧ w.root.lost = false ∧ w.root.running = true ∧ (w.domain b).faulted = false ∧
      (test.pgOk = true ∨ (w.domain b).st = .on) ∧ test.timedOut = false ∧ test.ms ≤ 10000) ∧
    (∃ (s : State) (k b e : Nat) (west east : MemTest) (test : BayTest) (tests : List PortTest),
      let w := s.work
      let step := 0x500 + b
      b < 16 ∧ w.due step = true ∧ w.rampsNow = false ∧ (¬(b = w.rootBay ∧ w.serviceStays)) ∧ w.boot.markOf step ≠ 2 ∧
      (w.hasPath b = false ∨ w.root.lost = true ∨ w.root.running = false)) ∧
    (∃ (s : State) (k b e : Nat) (west east : MemTest) (test : BayTest) (tests : List PortTest),
      let w := s.work
      let step := 0x500 + b
      b < 16 ∧ w.due step = true ∧ w.rampsNow = false ∧ b = w.rootBay ∧ w.serviceStays = true) ∧
    (∃ (s : State) (k b e : Nat) (west east : MemTest) (test : BayTest) (tests : List PortTest),
      let w := s.work
      let edge := 0x600 + e
      e < 4 ∧ w.due edge = true ∧ w.boot.markOf edge = 2) ∧
    (∃ (s : State) (k b e : Nat) (west east : MemTest) (test : BayTest) (tests : List PortTest),
      let w := s.work
      let edge := 0x600 + e
      e < 4 ∧ w.due edge = true ∧ w.boot.markOf edge ≠ 2 ∧ (w.domain (32 + e)).faulted = true) ∧
    (∃ (s : State) (k b e : Nat) (west east : MemTest) (test : BayTest) (tests : List PortTest),
      let w := s.work
      let edge := 0x600 + e
      e < 4 ∧ w.due edge = true ∧ w.boot.markOf edge ≠ 2 ∧ (w.domain (32 + e)).faulted = false) :=
  ⟨⟨starting 3 [], 0, 0, 0, mt0, mt0, bt0, [], by decide +kernel⟩,
   ⟨starting 11 [(0x508, 2)], 0, 8, 0, mt0, mt0, bt0, [], by decide +kernel⟩,
   ⟨{ starting 11 [] with domains := [(8, { faulted := true })] }, 0, 8, 0, mt0, mt0, bt0, [], by decide +kernel⟩,
   ⟨starting 11 [], 0, 8, 0, mt0, mt0, { bt0 with pgOk := false }, [], by decide +kernel⟩,
   ⟨starting 11 [], 0, 8, 0, mt0, mt0, { bt0 with ms := 10001 }, [], by decide +kernel⟩,
   ⟨near 12, 0, 0, 0, mt0, mt0, bt0, [], by decide +kernel⟩,
   ⟨{ starting 11 [] with root := { running := true, lost := true } }, 0, 8, 0, mt0, mt0, bt0, [], by decide +kernel⟩,
   ⟨{ starting 11 [] with boot := { (starting 11 []).boot with service := some 0x508 } }, 0, 8, 0, mt0, mt0, bt0, [],
     by decide +kernel⟩,
   ⟨starting 30 [(0x603, 2)], 0, 0, 3, mt0, mt0, bt0, [], by decide +kernel⟩,
   ⟨{ starting 27 [] with domains := [(32, { faulted := true })] }, 0, 0, 0, mt0, mt0, bt0, [], by decide +kernel⟩,
   ⟨starting 27 [], 0, 0, 0, mt0, mt0, bt0, [], by decide +kernel⟩⟩

theorem witness_SideboardsKeepWatch :
    (∃ (s : State) (cause step : Nat),
      let w := s.work
      w.boot.lead = 0 ∧ 0 < w.boot.done) ∧
    (∃ (s : State) (cause step : Nat),
      let w := s.work
      w.boot.lead = 0 ∧ w.standsBy = true) :=
  ⟨⟨starting 1 [], 0, 0, by decide +kernel⟩,
   ⟨{ up with boot := { standby := true } }, 2, 0, by decide +kernel⟩⟩

theorem witness_FirmwareIsUpdated :
    (∃ (s : State) (offset slot version : Nat) (data : List Byte) (more : Bool),
      let w := s.work
      let next := match w.boot.writing with
        | some (n, t) => if w.now ≤ t + 1000000000 then n else 0
        | none => 0
      (offset = 0 ∨ offset = next)) ∧
    (∃ (s : State) (offset slot version : Nat) (data : List Byte) (more : Bool),
      let w := s.work
      let next := match w.boot.writing with
        | some (n, t) => if w.now ≤ t + 1000000000 then n else 0
        | none => 0
      offset ≠ 0 ∧ offset ≠ next) ∧
    (∃ (s : State) (offset slot version : Nat) (data : List Byte) (more : Bool),
      let w := s.work
      ∃ n t,
      w.boot.writing = some (n, t)) ∧
    (∃ (s : State) (offset slot version : Nat) (data : List Byte) (more : Bool),
      slot < 2) ∧
    (∃ (s : State) (offset slot version : Nat) (data : List Byte) (more : Bool),
      let w := s.work
      w.boot.burn = none) :=
  ⟨⟨{ up with boot := { writing := some (5, 0) } }, 5, 1, 1, [1], true, by decide +kernel⟩,
   ⟨{ up with boot := { writing := some (5, 0) } }, 6, 1, 1, [1], true, by decide +kernel⟩,
   ⟨{ up with boot := { writing := some (5, 0) } }, 0, 0, 0, [], true, 5, 0, by decide +kernel⟩,
   ⟨up, 0, 1, 0, [], true, by decide +kernel⟩,
   ⟨up, 0, 1, 1, [], true, by decide +kernel⟩⟩

theorem witness_KeysAndAttestation :
    (∃ (s : State) (p : Path) (data : List Byte) (slot : Nat),
      let k := leAt data 0 1
      data.length = 1572 ∧ k < 8 ∧ allZero (slice data 1 3) = true) ∧
    (∃ (s : State) (p : Path) (data : List Byte) (slot : Nat),
      slot < 8) ∧
    (∃ (s : State) (p : Path) (data : List Byte) (slot : Nat),
      let w := s.work
      data.length = 32 ∧ w.now < w.boot.attestUntil) ∧
    (∃ (s : State) (p : Path) (data : List Byte) (slot : Nat),
      let w := s.work
      data.length = 32 ∧ w.boot.attestUntil ≤ w.now) :=
  ⟨⟨up, pn, 7 :: List.replicate 1571 0, 0, by decide +kernel⟩,
   ⟨up, pn, [], 7, by decide +kernel⟩,
   ⟨{ up with boot := { attestUntil := 1 } }, pn, List.replicate 32 0, 0, by decide +kernel⟩,
   ⟨up, pn, List.replicate 32 0, 0, by decide +kernel⟩⟩

theorem witness_FaultsAreRecorded :
    (∃ (s : State) (n a site : Nat) (data : List Byte),
      site < 416) ∧
    (∃ (s : State) (n a site : Nat) (data : List Byte),
      let w := s.work
      n < w.defects.length) ∧
    (∃ (s : State) (n a site : Nat) (data : List Byte),
      data.length = 16 ∧ (defectOf data).operatorOk = true) ∧
    (∃ (s : State) (n a site : Nat) (data : List Byte),
      let w := s.work
      let x := s.array a
      ∃ (f : _) (p : Nat),
      w.physical (a / 16) (a % 16) = some f ∧ w.arrPresent a = true ∧ x.task = none ∧ x.free = true ∧ x.st = .empty) ∧
    (∃ (s : State) (n a site : Nat) (data : List Byte),
      let w := s.work
      w.log.incident = true) :=
  ⟨⟨up, 0, 0, 415, [], by decide +kernel⟩,
   ⟨{ up with defects := [defectOf opRec] }, 0, 0, 0, [], by decide +kernel⟩,
   ⟨up, 0, 0, 0, opRec, by decide +kernel⟩,
   ⟨up, 0, 0, 0, [], 0, 3, by decide +kernel⟩,
   ⟨{ up with log := { up.log with incident := true } }, 0, 0, 0, [], by decide +kernel⟩⟩

theorem witness_RecordsRoundTrip :
    (∃ (n : Nat) (ts : List Token),
      n < 65536 ∧ ts.length ≤ 28) ∧
    (∃ r : Defect,
      r.kind < 2 ^ 4 ∧ r.source < 2 ^ 3 ∧ r.site < 2 ^ 9 ∧ r.sub < 2 ^ 5 ∧ r.wire < 2 ^ 11 ∧ r.temp < 2 ^ 8 ∧
      r.supply < 2 ^ 12 ∧ r.pattern < 2 ^ 4 ∧ r.count < 2 ^ 8 ∧ r.time < 2 ^ 64) ∧
    (∃ bs : List Byte,
      bs.length = 16) ∧
    (∃ (w : Work) (u v : Nat),
      let c := w.check u
      c.poly < 4 ∧ c.running < 2 ^ (if c.poly ≤ 1 then 32 else if c.poly = 2 then 64 else 16) ∧ c.bytes < 2 ^ 64) :=
  ⟨⟨65535, List.replicate 28 (tk 5), by decide +kernel⟩,
   ⟨{ kind := 4, source := 6, site := 415, sub := 19, wire := 1063, temp := 255, supply := 4095, pattern := 15, count := 255, time := 2 ^ 64 - 1 },
     by decide +kernel⟩,
   ⟨List.replicate 16 0xA5, by decide +kernel⟩,
   ⟨State.reset.work, 416, 0, by decide +kernel⟩⟩

theorem witness_ResultNaNsAreCanonical : fIsNan (fAdd 0x7F800001 0).1 = true ∧ fIsNan (fSub 0x7F800000 0x7F800000).1 = true ∧
    fIsNan (fMul 0 0x7F800000).1 = true ∧ fIsNan (fFma 0 0xFF800000 0).1 = true ∧ fIsNan (fMin 0xFFFFFFFF 0x7F800001).1 = true ∧
    fIsNan (fMax 0xFFFFFFFF 0x7F800001).1 = true ∧ fIsNan (fDiv 0 0) = true ∧ fIsNan (fSqrt 0xBF800000) = true := by decide +kernel

theorem witness_CellInstructionsChangeOnlyTheirCell : ∃ (s t : State) (a p : Nat), ∃ c ∈ cellInstrs a p,
    exec c s = .next t ∧ (∃ b, b ≠ a) ∧ ∃ q, q ≠ p :=
  ⟨ins 0x60, _, 0, 0, .fadd 0 0, by decide +kernel, rfl, ⟨1, by decide⟩, 1, by decide⟩

theorem witness_ParkedCellsNeverFire :
    (∃ (s : State) (a p : Nat),
      (s.cell a p).parked = true) ∧
    (∃ (s : State) (a p : Nat),
      let e : Eff := { (s.cell a p).base (s.instr a p) with cell := { s.cell a p with parked := true } }
      s.mayFire a p 3 3 e = true) ∧
    (∃ (s : State) (a p : Nat),
      ∃ d t,
      (s.cell a p).parked = true ∧ (s.cell a p).head (s.array a).epoch d = some t ∧ (s.array a).moving = true ∧
      bit ((s.cell a p).pathByte d) 7 = true ∧ bit ((s.cell a p).pathByte d) 6 = true ∧
      (s.cell a p).out (field ((s.cell a p).pathByte d) 0 2) = none) :=
  ⟨⟨State.reset, 0, 0, by decide +kernel⟩,
   ⟨ins0 3, 0, 0, by decide +kernel⟩,
   ⟨arrS { st := .run, cells := [(0, { paths := [(0, 0xC1)], queues := [(0, [tk 5])] })] }, 0, 0, 0, tk 5, by decide +kernel⟩⟩

theorem witness_RefusedImagesNeverIssue :
    ∃ (s : State) (a : Nat) (e : Image),
      let w := s.work
      let h := headerOf ((w.read (w.localAddr e.address) e.length).take 256)
      (s.array a).load = .writing ∧ w.registry.find? (fun e => e.id == (s.array a).loadImage) = some e ∧
      w.imageStatus e.address e.length = none ∧ imageCrc (w.read (w.localAddr e.address) e.length) ≠ h.crc :=
  ⟨{ upA { load := .writing, loadImage := 7 } with registry := [img] }, 0, img, by decide +kernel⟩

theorem witness_EpochsMustDiffer :
    (∃ (s : State) (a : Nat) (e : Image),
      let w := s.work
      let x := s.array a
      x.load = .asked ∧ w.arrPresent a = true ∧ w.registry.find? (fun e => e.id == x.loadImage) = some e ∧ e.epoch = x.epoch) ∧
    (∃ (s : State) (a : Nat) (e : Image),
      let w := s.work
      let x := s.array a
      let bs := w.read (w.localAddr e.address) e.length
      x.load = .writing ∧ w.registry.find? (fun e => e.id == x.loadImage) = some e ∧ w.imageStatus e.address e.length = none ∧
      imageCrc bs = (headerOf (bs.take 256)).crc) ∧
    (∃ (s : State) (a : Nat) (e : Image),
      let x := s.array a
      ∃ p d t rest,
      (s.cell a p).queue d = t :: rest ∧ t.epoch ≠ x.epoch) :=
  ⟨⟨{ upA { load := .asked, loadImage := 7, epoch := 1 } with registry := [img] }, 0, img, by decide +kernel⟩,
   ⟨{ upA { load := .writing, loadImage := 7 } with registry := [{ img with length := 16 }], mem := [⟨12, 0xEA⟩, ⟨13, 0x9A⟩, ⟨14, 0x70⟩, ⟨15, 0x42⟩] }, 0, { img with length := 16 },
     by decide +kernel⟩,
   ⟨upA { cells := [(255, { queues := [(3, [mkTok 3 false 0 0 5])] })] }, 0, img, 255, 3, mkTok 3 false 0 0 5, [],
     by decide +kernel⟩⟩

theorem witness_CreditsGoBack :
    ∃ (s : State) (a e c : Nat) (t : Token) (rest : List Token),
      let x := s.array a
      tget [] x.inBuf e = t :: rest ∧ x.moving = true ∧ x.hasRoom (portCell e).1 (portCell e).2 = true ∧ x.inChan e = some c ∧
      (x.chan c).closed = false :=
  ⟨upA (let x := chanA .run { record := chRec true, granted := true, owed := 6 }; { x with inBuf := [(0, [tk 5])] }), 0, 0, 0, tk 5, [],
    by decide +kernel⟩

theorem witness_TakeoverEndsRequests :
    ∃ (s : State) (cause : Nat),
      s.boot.lead = 0 ∧ s.work.standsBy = true :=
  ⟨up, 2, by decide +kernel⟩

end Sys2Proof.Tests
end

section
/-! ### What a command reads of memory -/

namespace Sys2Proof.Machine

/-- A byte that nothing has lost reads as the newest change left it, or as memory held it. -/
theorem readByte_of_not_lost {w : Work} {a : Nat} (h : lostAt w.lost a = none) :
    w.readByte a = (storeAt w.stores a).getD (memGet w.mem a) := by
  unfold Work.readByte
  rw [h]
  cases storeAt w.stores a <;> rfl

/-- A lost byte reads as the free value of its loss, whatever the stores hold (assumption 99). -/
theorem readByte_of_lost {w : Work} {a k : Nat} (h : lostAt w.lost a = some k) : w.readByte a = Config.lostByte k a := by
  unfold Work.readByte
  rw [h]

/-- A read sees of the work no more than whether the byte is lost and what its stores hold. -/
theorem readByte_congr {v w : Work} {a : Nat} (hl : lostAt v.lost a = lostAt w.lost a)
    (hm : (storeAt v.stores a).getD (memGet v.mem a) = (storeAt w.stores a).getD (memGet w.mem a)) :
    v.readByte a = w.readByte a := by
  cases h : lostAt w.lost a with
  | none => rw [readByte_of_not_lost h, readByte_of_not_lost (hl.trans h), hm]
  | some k => rw [readByte_of_lost h, readByte_of_lost (hl.trans h)]

/-- Changes made to memory read back as the newest of them left each byte. -/
theorem memGet_applyStores_getD {m : List Host.Cell} (h : Memory.wf m = true) (l : List Store) (a : Nat) :
    memGet (applyStores m l) a = (storeAt l a).getD (memGet m a) := by
  rw [memGet_applyStores m h a l]
  cases storeAt l a <;> rfl

/-- The next command reads what the work before it would have read (R13, R190). -/
theorem commit_work_readByte {s : State} {w : Work} (h : s.memOk = true) (hm : w.mem = s.mem) (a : Nat) :
    (s.commit w).work.readByte a = w.readByte a := by
  refine readByte_congr rfl ?_
  rw [work_stores, work_mem, commit_mem, hm, memGet_applyStores_getD h]
  rfl

/-- Work that carves a range out of what is lost, and whose newest change there leaves `x`, reads `x` there and every other
byte as before. -/
theorem readByte_of_carve {v w : Work} {a b n : Nat} {x : Byte} (hl : v.lost = carve w.lost b n)
    (hs : storeAt v.stores a = if b ≤ a ∧ a < b + n then some x else storeAt w.stores a) (hm : v.mem = w.mem) :
    v.readByte a = if b ≤ a ∧ a < b + n then x else w.readByte a := by
  have hc : lostAt v.lost a = if b ≤ a ∧ a < b + n then none else lostAt w.lost a := hl ▸ lostAt_carve w.lost b n a
  by_cases h : b ≤ a ∧ a < b + n
  · rw [if_pos h] at hc hs ⊢
    rw [readByte_of_not_lost hc, hs, Option.getD_some]
  · rw [if_neg h] at hc hs ⊢
    exact readByte_congr hc (by rw [hs, hm])

/-- Bytes written from address `b`, as every address then reads. -/
theorem readByte_write (w : Work) (b a : Nat) (bs : List Byte) :
    (w.write b bs).readByte a = if b ≤ a ∧ a < b + bs.length then bs.getD (a - b) 0 else w.readByte a :=
  readByte_of_carve rfl rfl rfl

/-- A range zeroed, as every address then reads. -/
theorem readByte_zero (w : Work) (b a n : Nat) : (w.zero b n).readByte a = if b ≤ a ∧ a < b + n then 0 else w.readByte a :=
  readByte_of_carve rfl rfl rfl

/-- Settles O6: a commit hands the stores on as they read, and a change of the stores carves its range out of what is lost. -/
theorem memoryReadsWhatWasWritten : Obligations.MemoryReadsWhatWasWritten :=
  ⟨fun _ _ a h hm => commit_work_readByte h hm a,
   fun w b a bs => ⟨readByte_write w b a bs, readByte_zero w b a⟩⟩

end Sys2Proof.Machine
end

section
/-! ### The fuses -/

namespace Sys2Proof.Machine

theorem fuses_grows_refl (f : Fuses) : f.grows f := ⟨rfl, rfl, rfl, rfl, rfl, Nat.le_refl _⟩

/-- A command that only commits its work leaves the fuses as they were. -/
theorem fuses_of_kept {s t : State} {o : Host.Outcome State Fault Refusal} (h : Kept s o) (ht : o = .next t) : t.fuses = s.fuses := by
  obtain ⟨w, rfl⟩ := h
  cases ht
  exact commit_fuses s w

/-- The commands that may burn the anti-rollback count: COMMIT_VERSION, and the accesses that can carry its write (R430). -/
def CarriesCommit (c : Instr) : Prop :=
  (∃ v, c = .commitVersion v) ∨ (∃ i j d, c = .registerWrite i j d) ∨ (∃ p i j o d m, c = .dictWrite p i j o d m) ∨
    (∃ n g q, c = .windowGo n g q) ∨ (∃ n m f q, c = .sacorDatagram n m f q) ∨ (∃ a d n, c = .hostCxlWrite a d n)

/-- Every command outside that list only commits its work, and so has no way to the fuses (R2). -/
theorem exec_kept_or_carriesCommit (c : Instr) (s : State) : Kept s (exec c s) ∨ CarriesCommit c := by
  cases c with
  | commitVersion v => exact .inr (.inl ⟨v, rfl⟩)
  | registerWrite i j d => exact .inr (.inr (.inl ⟨i, j, d, rfl⟩))
  | dictWrite p i j o d m => exact .inr (.inr (.inr (.inl ⟨p, i, j, o, d, m, rfl⟩)))
  | windowGo n g q => exact .inr (.inr (.inr (.inr (.inl ⟨n, g, q, rfl⟩))))
  | sacorDatagram n m f q => exact .inr (.inr (.inr (.inr (.inr (.inl ⟨n, m, f, q, rfl⟩)))))
  | hostCxlWrite a d n => exact .inr (.inr (.inr (.inr (.inr (.inr ⟨a, d, n, rfl⟩)))))
  | outgoingWindowWrite a port => exact .inl (kept_outgoingWindowWrite s a port)
  | portFailure k cause => exact .inl (kept_portFailure s k cause)
  | hello p d => exact .inl (kept_hello s p d)
  | clockRootLoss => exact .inl (kept_clockRootLoss s)
  | _ => exact .inl (kept_of_run _ s)

/-- No command lowers the anti-rollback count or changes another fuse (R2, R430). -/
theorem exec_grows_fuses {c : Instr} {s t : State} (h : exec c s = .next t) : s.fuses.grows t.fuses := by
  obtain ⟨t', w, ht, -, -, hg⟩ := exec_ran c s
  cases ht.symm.trans h
  exact hg

/-- Nor does a step: it is a command, or a tick of the clocks, which only commits its work. -/
theorem step_grows_fuses {s t : State} (h : step s = .next t) : s.fuses.grows t.fuses := by
  unfold step at h
  split at h
  next =>
    cases h
    exact fuses_grows_refl s.fuses
  next c rest _ => exact exec_grows_fuses (s := { s with pending := rest }) h

/-- Settles O4: a command either only commits its work, which holds no fuse, or is one of those that may burn the count. -/
theorem stepKeepsFuses : Obligations.StepKeepsFuses :=
  ⟨fun _ _ h => step_grows_fuses h,
   fun c s _ h hne => (exec_kept_or_carriesCommit c s).resolve_left fun hk => hne (fuses_of_kept hk h)⟩

end Sys2Proof.Machine
end

section
/-! ### Numbers and records as bytes -/

namespace Sys2Proof.Machine

@[simp] theorem toBytes_length (x n : Nat) : (toBytes x n).length = n := by
  induction n generalizing x with
  | zero => rfl
  | succ n ih => rw [toBytes, List.length_cons, ih]

/-- The low bytes of a number spell what those bytes hold of it (R13). -/
@[simp] theorem ofBytes_toBytes (x n : Nat) : ofBytes (toBytes x n) = x % 256 ^ n := by
  induction n generalizing x with
  | zero => rw [Nat.pow_zero, Nat.mod_one]; rfl
  | succ n ih => rw [toBytes, ofBytes, ih, BitVec.toNat_ofNat, Nat.pow_succ' (m := 256), Nat.mod_mul]

/-- Bytes are the low bytes of the number they spell (R13). -/
theorem toBytes_ofBytes (bs : List Byte) : toBytes (ofBytes bs) bs.length = bs := by
  induction bs with
  | nil => rfl
  | cons b bs ih =>
    have hlow : BitVec.ofNat 8 (b.toNat + 256 * ofBytes bs) = b := by
      apply BitVec.eq_of_toNat_eq
      rw [BitVec.toNat_ofNat, Nat.add_mul_mod_self_left, Nat.mod_eq_of_lt b.isLt]
    have hhigh : (b.toNat + 256 * ofBytes bs) / 256 = ofBytes bs := by
      rw [Nat.add_mul_div_left _ _ (by decide), Nat.div_eq_of_lt b.isLt, Nat.zero_add]
    rw [ofBytes, List.length_cons, toBytes, hlow, hhigh, ih]

theorem ofBytes_lt (bs : List Byte) : ofBytes bs < 256 ^ bs.length := by
  have h := congrArg ofBytes (toBytes_ofBytes bs)
  rw [ofBytes_toBytes] at h
  exact h ▸ Nat.mod_lt _ (Nat.pow_pos (by decide))

/-- A number written in full reads back cut to its width. -/
theorem leAt_toBytes (x n : Nat) : leAt (toBytes x n) 0 n = x % 256 ^ n := by
  have hall : (toBytes x n).take n = toBytes x n := List.take_of_length_le (Nat.le_of_eq (toBytes_length x n))
  rw [leAt, slice, List.drop_zero, hall, ofBytes_toBytes]

/-- A read within the middle part of some bytes reads that part. -/
theorem leAt_middle {bs pre mid post : List Byte} (h : bs = pre ++ mid ++ post) {off n : Nat} (hn : off + n ≤ mid.length) :
    leAt bs (pre.length + off) n = leAt mid off n := by
  have hfit : n ≤ (mid.drop off).length := by rw [List.length_drop]; omega
  rw [leAt, leAt, slice, slice, h, List.append_assoc, List.drop_length_add_append, List.drop_append_of_le_length (by omega),
    List.take_append_of_le_length hfit]

/-- A number written between other bytes reads back cut to its width. -/
theorem leAt_written {bs pre post : List Byte} {x n : Nat} (h : bs = pre ++ toBytes x n ++ post) :
    leAt bs pre.length n = x % 256 ^ n :=
  (leAt_middle h (off := 0) (by simp)).trans (leAt_toBytes x n)

theorem flatMap_toBytes_length {A : Type} (g : A → Nat) (k : Nat) (l : List A) :
    (l.flatMap (fun t => toBytes (g t) k)).length = k * l.length := by
  induction l with
  | nil => rfl
  | cons t l ih => rw [List.flatMap_cons, List.length_append, ih, toBytes_length, List.length_cons, Nat.mul_succ, Nat.add_comm]

/-- Of numbers of one width written one after the other, each reads back at its place. -/
theorem leAt_flatMap_toBytes {A : Type} (g : A → Nat) (k : Nat) (l : List A) (i : Nat) (h : i < l.length) :
    leAt (l.flatMap (fun t => toBytes (g t) k)) (k * i) k = g l[i] % 256 ^ k := by
  have hsplit : l.flatMap (fun t => toBytes (g t) k) =
      (l.take i).flatMap (fun t => toBytes (g t) k) ++ toBytes (g l[i]) k ++ (l.drop (i + 1)).flatMap (fun t => toBytes (g t) k) := by
    rw [List.append_assoc, ← List.flatMap_cons (f := fun t => toBytes (g t) k), ← List.drop_eq_getElem_cons h,
      ← List.flatMap_append, List.take_append_drop]
  have hlen : ((l.take i).flatMap (fun t => toBytes (g t) k)).length = k * i := by
    rw [flatMap_toBytes_length, List.length_take, Nat.min_eq_left (Nat.le_of_lt h)]
  exact hlen ▸ leAt_written hsplit

theorem padTo_of_le {n : Nat} {bs : List Byte} (h : bs.length ≤ n) : padTo n bs = bs ++ List.replicate (n - bs.length) 0 := by
  have hlen : (bs ++ List.replicate (n - bs.length) (0 : Byte)).length = n := by
    rw [List.length_append, List.length_replicate, Nat.add_sub_of_le h]
  exact List.take_of_length_le (Nat.le_of_eq hlen)

@[simp] theorem padTo_length (n : Nat) (bs : List Byte) : (padTo n bs).length = n := by
  rw [padTo, List.length_take, List.length_append, List.length_replicate]; omega

/-! ### DATA packets (R155) -/

/-- The bytes of the tags and of the payloads of a DATA packet's tokens. -/
def tagBytes (ts : List Token) : List Byte := ts.flatMap (fun t => toBytes t.tag.toNat 1)
def payBytes (ts : List Token) : List Byte := ts.flatMap (fun t => toBytes t.pay.toNat 8)

theorem tagBytes_eq_map (ts : List Token) : tagBytes ts = ts.map (·.tag) := by
  induction ts with
  | nil => rfl
  | cons t ts ih =>
    have htag : toBytes t.tag.toNat 1 = [t.tag] := congrArg (· :: []) (BitVec.ofNat_toNat 8 t.tag)
    rw [tagBytes, List.flatMap_cons, htag, ← tagBytes, ih]; rfl

/-- Where the parts of a DATA packet's payload stand: sequence number, count, a zero, tags at 4, payloads at 32 (R155). -/
theorem dataPayload_layout (seq : Nat) {ts : List Token} (h : ts.length ≤ 28) :
    dataPayload seq ts = toBytes seq 2 ++ toBytes ts.length 1 ++ [0] ++ tagBytes ts ++ List.replicate (28 - ts.length) 0 ++
      payBytes ts ++ List.replicate ((32 + 8 * ts.length + 63) / 64 * 64 - (32 + 8 * ts.length)) 0 := by
  have htags : padTo 28 (ts.map (·.tag)) = tagBytes ts ++ List.replicate (28 - ts.length) 0 := by
    rw [padTo_of_le (by simpa using h), tagBytes_eq_map, List.length_map]
  have hbody : (toBytes seq 2 ++ [BitVec.ofNat 8 ts.length, 0] ++ padTo 28 (ts.map (·.tag)) ++ payBytes ts).length =
      32 + 8 * ts.length := by
    simp only [List.length_append, toBytes_length, padTo_length, payBytes, flatMap_toBytes_length, List.length_cons, List.length_nil]
  unfold dataPayload
  dsimp only
  rw [← payBytes, padTo_of_le (by rw [hbody]; omega), hbody, htags]
  simp only [List.append_assoc]
  rfl

theorem dataPayload_length (seq : Nat) (ts : List Token) : (dataPayload seq ts).length = (32 + 8 * ts.length + 63) / 64 * 64 :=
  padTo_length _ _

theorem dataPayload_seq (seq : Nat) {ts : List Token} (h : ts.length ≤ 28) : leAt (dataPayload seq ts) 0 2 = seq % 65536 :=
  leAt_written (pre := []) ((dataPayload_layout seq h).trans (by simp only [List.append_assoc, List.nil_append]; rfl))

theorem dataPayload_count (seq : Nat) {ts : List Token} (h : ts.length ≤ 28) : leAt (dataPayload seq ts) 2 1 = ts.length := by
  have hread := leAt_written (pre := toBytes seq 2) ((dataPayload_layout seq h).trans (by simp only [List.append_assoc]; rfl))
  rw [toBytes_length] at hread
  omega

theorem dataPayload_tag (seq : Nat) {ts : List Token} (h : ts.length ≤ 28) {i : Nat} (hi : i < ts.length) :
    leAt (dataPayload seq ts) (4 + i) 1 = ts[i].tag.toNat := by
  have hread := leAt_middle (pre := toBytes seq 2 ++ toBytes ts.length 1 ++ [0]) (off := 1 * i) (n := 1) (mid := tagBytes ts)
    ((dataPayload_layout seq h).trans (by simp only [List.append_assoc]; rfl)) (by rw [tagBytes, flatMap_toBytes_length]; omega)
  have hplace : (toBytes seq 2 ++ toBytes ts.length 1 ++ [(0 : Byte)]).length = 4 := by
    simp only [List.length_append, toBytes_length, List.length_singleton]
  rwa [hplace, tagBytes, leAt_flatMap_toBytes _ _ _ _ hi, Nat.mod_eq_of_lt (show _ < 256 ^ 1 from ts[i].tag.isLt),
    Nat.one_mul] at hread

theorem dataPayload_pay (seq : Nat) {ts : List Token} (h : ts.length ≤ 28) {i : Nat} (hi : i < ts.length) :
    leAt (dataPayload seq ts) (0x20 + 8 * i) 8 = ts[i].pay.toNat := by
  have hread := leAt_middle (off := 8 * i) (n := 8) (mid := payBytes ts) (dataPayload_layout seq h)
    (by rw [payBytes, flatMap_toBytes_length]; omega)
  have hplace : (toBytes seq 2 ++ toBytes ts.length 1 ++ [0] ++ tagBytes ts ++ List.replicate (28 - ts.length) (0 : Byte)).length =
      0x20 := by
    simp only [List.length_append, toBytes_length, tagBytes, flatMap_toBytes_length, List.length_replicate, List.length_singleton]
    omega
  rwa [hplace, payBytes, leAt_flatMap_toBytes _ _ _ _ hi, Nat.mod_eq_of_lt (show _ < 256 ^ 8 from ts[i].pay.isLt)] at hread

/-- A DATA packet's tokens are those it was made of (R155). -/
theorem dataTokens_dataPayload (seq : Nat) {ts : List Token} (h : ts.length ≤ 28) : dataTokens (dataPayload seq ts) = ts := by
  refine List.ext_getElem (by simp [dataTokens, dataPayload_count seq h]) fun i _ hi => ?_
  simp [dataTokens, dataPayload_tag seq h hi, dataPayload_pay seq h hi]

/-! ### Defect records (R40) -/

/-- A field put above the bits below it makes up the bits below its end. -/
theorem mod_add_field (x lo len : Nat) : x % 2 ^ lo + field x lo len * 2 ^ lo = x % 2 ^ (lo + len) := by
  rw [field, Nat.pow_add, Nat.mod_mul, Nat.mul_comm]

/-- The fields of a defect record cover its 16 bytes: they spell the bytes that they were read from. -/
theorem bytes_defectOf (bs : List Byte) (h : bs.length = 16) : (defectOf bs).bytes = bs := by
  have hx : ofBytes bs % 2 ^ 128 = ofBytes bs := Nat.mod_eq_of_lt (by simpa [h] using ofBytes_lt bs)
  have hlow : field (ofBytes bs) 0 4 = ofBytes bs % 2 ^ 4 := by rw [field, Nat.pow_zero, Nat.div_one]
  unfold Defect.bytes defectOf
  dsimp only
  simp only [hlow, mod_add_field, Nat.reduceAdd, hx]
  rw [← h, toBytes_ofBytes]

/-- No field of a defect record reaches into another: each reads back as it was written. -/
theorem defectOf_bytes (r : Defect) (hkind : r.kind < 2 ^ 4) (hsource : r.source < 2 ^ 3) (hsite : r.site < 2 ^ 9) (hsub : r.sub < 2 ^ 5)
    (hwire : r.wire < 2 ^ 11) (htemp : r.temp < 2 ^ 8) (hsupply : r.supply < 2 ^ 12) (hpattern : r.pattern < 2 ^ 4)
    (hcount : r.count < 2 ^ 8) (htime : r.time < 2 ^ 64) : defectOf r.bytes = r := by
  obtain ⟨kind, source, site, sub, wire, temp, supply, pattern, count, time⟩ := r
  dsimp only at *
  simp only [defectOf, Defect.bytes, ofBytes_toBytes, field, Defect.mk.injEq]
  refine ⟨?_, ?_, ?_, ?_, ?_, ?_, ?_, ?_, ?_, ?_⟩ <;> omega

/-! ### State records of the check-value units (R225, R226) -/

/-- The width in bits of the check value of a polynomial (R221). -/
def polyWidth (poly : Nat) : Nat := if poly ≤ 1 then 32 else if poly = 2 then 64 else 16

theorem polyWidth_le (poly : Nat) : polyWidth poly ≤ 64 := by
  unfold polyWidth
  split
  · decide
  · split <;> decide

@[simp] theorem check_modCheck (w : Work) (u : Nat) (f : Check → Check) : (w.modCheck u f).check u = f (w.check u) :=
  tget_tput_same _ _ _ _

/-- A unit after a load: Poly, Running and Bytes of the record, Running cut to the width of Poly (R223, R225). -/
theorem check_loadCheck (w : Work) (u : Nat) (r : List Byte) : (w.loadCheck u r).check u =
    { w.check u with
      poly := leAt r 0 1 % 4, running := leAt r 8 8 % 2 ^ polyWidth (leAt r 0 1 % 4), bytes := leAt r 0x10 8 } :=
  check_modCheck _ _ _

/-- Where the parts of a unit's state record stand: Poly, Active, six zeros, Running at 8, Bytes at 16, the check value (R225). -/
theorem checkRecord_layout (w : Work) (u : Nat) : w.checkRecord u true =
    toBytes (w.check u).poly 1 ++ toBytes (ofBool (w.check u).active) 1 ++ List.replicate 6 0 ++ toBytes (w.check u).running 8 ++
      toBytes (w.check u).bytes 8 ++ toBytes ((w.check u).running ^^^ crcXor (w.check u).poly) 8 := by
  simp only [Work.checkRecord, if_true, toBytes, List.append_assoc, List.cons_append, List.nil_append]

theorem checkRecord_poly (w : Work) (u : Nat) : leAt (w.checkRecord u true) 0 1 = (w.check u).poly % 256 :=
  leAt_written (pre := []) ((checkRecord_layout w u).trans (by simp only [List.append_assoc, List.nil_append]; rfl))

theorem checkRecord_running (w : Work) (u : Nat) : leAt (w.checkRecord u true) 8 8 = (w.check u).running % 2 ^ 64 := by
  have hread := leAt_written (x := (w.check u).running) ((checkRecord_layout w u).trans (List.append_assoc _ _ _))
  simpa using hread

theorem checkRecord_bytes (w : Work) (u : Nat) : leAt (w.checkRecord u true) 0x10 8 = (w.check u).bytes % 2 ^ 64 := by
  have hread := leAt_written (checkRecord_layout w u)
  simpa using hread

/-- A unit that loads the record of another whose values lie within their widths takes Poly, Running and Bytes of it (R225). -/
theorem check_loadCheck_checkRecord (w : Work) {u : Nat} (v : Nat) (hpoly : (w.check u).poly < 4)
    (hrunning : (w.check u).running < 2 ^ polyWidth (w.check u).poly) (hbytes : (w.check u).bytes < 2 ^ 64) :
    (w.loadCheck v (w.checkRecord u true)).check v =
      { w.check v with poly := (w.check u).poly, running := (w.check u).running, bytes := (w.check u).bytes } := by
  have hwide : (w.check u).running < 2 ^ 64 := Nat.lt_of_lt_of_le hrunning (Nat.pow_le_pow_right (by decide) (polyWidth_le _))
  have hread : leAt (w.checkRecord u true) 0 1 % 4 = (w.check u).poly := by rw [checkRecord_poly]; omega
  rw [check_loadCheck, hread, checkRecord_running, checkRecord_bytes, Nat.mod_eq_of_lt hwide, Nat.mod_eq_of_lt hrunning,
    Nat.mod_eq_of_lt hbytes]

/-- Settles O7: each record's fields stand at places of their own, and a number written at its place in full width reads back. -/
theorem recordsRoundTrip : Obligations.RecordsRoundTrip :=
  ⟨fun n ts hn hts => ⟨dataTokens_dataPayload n hts, (dataPayload_seq n hts).trans (Nat.mod_eq_of_lt hn), dataPayload_length n ts⟩,
   defectOf_bytes,
   bytes_defectOf,
   fun w u v hpoly hrunning hbytes => by
    rw [check_loadCheck_checkRecord w v hpoly hrunning hbytes]
    exact ⟨rfl, rfl, rfl⟩⟩

end Sys2Proof.Machine
end

section
/-! ### Job commands -/

namespace Sys2Proof.Machine

theorem interrupt_job (w : Work) (k : Nat) : (w.interrupt k).job = w.job := by
  unfold Work.interrupt
  extract_lets vector
  split <;> rfl

@[simp] theorem modJob_job (w : Work) (f : Job → Job) : (w.modJob f).job = f w.job := rfl

@[simp] theorem jobTo_job (w : Work) (st : JobSt) : (w.jobTo st).job = { w.job with st := st } := interrupt_job _ _

/-! #### Configure (R301) -/

/-- A Configure in a state that allows it is answered by its checks (R301). -/
theorem configure_of_mayBind {w : Work} (hbusy : w.configBusy = false) (hboot : w.boot.st ≠ 2) (hst : w.job.st.mayBind = true) :
    configure w = w.configureNow.accept := by
  have hscrub : w.job.st ≠ .scrubbing := by
    intro h
    rw [h] at hst
    exact Bool.noConfusion hst
  simp [configure, hbusy, hboot, hscrub, hst]

theorem configure_refused {w : Work} (hbusy : w.configBusy = false) (hboot : w.boot.st ≠ 2)
    (hst : w.job.st = .running ∨ w.job.st = .stopping ∨ w.job.st = .killing) : configure w = w.jobRefused := by
  obtain h | h | h := hst <;> simp [configure, hbusy, hboot, h, JobSt.mayBind]

/-- The first list, image or placement that is bad gives the status (R25, R243). -/
theorem configureNow_of_bad {w : Work} {st n d : Nat} (h : w.badList.or (w.badImage.or w.badPlacement) = some (st, n, d)) :
    w.configureNow = w.jobStatus st n d := by
  simp [Work.configureNow, h]

/-- With nothing bad and no ranges to send to a twin, the job is CONFIGURED (R301, R334). -/
theorem configureNow_of_good {w : Work} (hlist : w.badList = none) (himage : w.badImage = none) (hplace : w.badPlacement = none)
    (hsplit : w.badSplit = none) (hmirror : w.reg 0x7800 7 = 0 ∨ w.hinge.st ≠ 2) :
    w.configureNow = (w.jobTo .configured).jobStatus 0 0 0 := by
  have halone : ¬(w.reg 0x7800 7 ≠ 0 ∧ w.hinge.st = 2) := fun ⟨hmode, hpaired⟩ =>
    hmirror.elim hmode (fun hunpaired => hunpaired hpaired)
  simp [Work.configureNow, hlist, himage, hplace, hsplit, halone]

/-! #### Start (R302) -/

/-- What a Start must find to go on: none waits, the job is CONFIGURED, and the host die has its way into the mesh (R28, R302). -/
def Work.mayStart (w : Work) : Prop :=
  w.job.startWaits = false ∧ w.job.st = .configured ∧ (w.siteMap.computed = false ∨ (w.activeSite hostSites).isSome = true)

theorem start_of_mayStart {w : Work} (h : w.mayStart) : start w = if w.job.retained
    then (((w.modJob (fun j => { j with startWaits := true })).jobTo .scrubbing).jobStatus 0xFF 0 0).accept
    else w.startNow.accept := by
  obtain ⟨hwaits, hst, hhost⟩ := h
  have hgo : ¬(w.job.st ≠ .configured ∨ (w.siteMap.computed = true ∧ (w.activeSite hostSites).isNone = true)) := by
    rintro (hne | ⟨hmap, hnone⟩)
    · exact hne hst
    · rw [hmap, Option.isNone_iff_eq_none.mp hnone] at hhost
      simp at hhost
  rw [start, hwaits, if_neg Bool.false_ne_true, if_neg hgo]

theorem start_refused {w : Work} (hwaits : w.job.startWaits = false) (hst : w.job.st ≠ .configured) : start w = w.jobRefused := by
  simp [start, hwaits, hst]

/-- A pending defect under RemapPolicy brings a recomputation before the launch (R35, R302). -/
theorem startNow_of_remap {w : Work} (hpending : w.reg 0x2100 0x0D ≠ 0) (hpolicy : w.reg 0x2100 0x0E = 1) :
    w.startNow = ((w.modJob (fun j => { j with startWaits := true })).jobStatus 0xFF 0 0).beginRecompute :=
  if_pos ⟨hpending, hpolicy⟩

theorem startNow_of_no_remap {w : Work} (h : w.reg 0x2100 0x0D = 0 ∨ w.reg 0x2100 0x0E ≠ 1) : w.startNow = w.launch :=
  if_neg fun ⟨hpending, hpolicy⟩ => h.elim hpending (fun hother => hother hpolicy)

/-- A recomputation of the map ends once the fabric manager is at rest, and a Start that waits for it is launched (R35). -/
theorem mapRecomputeComplete_of_done {w : Work} (hmap : w.siteMap.recomputing = true) (hfmgr : w.fmgr.st = 0) :
    mapRecomputeComplete w = if w.mapDone.joinTree.job.startWaits = true ∧ w.mapDone.joinTree.job.st = .configured
      then w.mapDone.joinTree.launch else w.mapDone.joinTree := by
  simp [mapRecomputeComplete, hmap, hfmgr]

/-! #### Stop, Kill, the end of the job and the scrub (R303 to R305) -/

theorem stop_refused {w : Work} (h : w.job.st ≠ .running) : stop w = w.jobRefused := if_pos h

theorem kill_of_runs {w : Work} (h : w.job.st = .running ∨ w.job.st = .stopping) :
    kill w = (w.killSteps.jobStatus 0 0 0).accept := if_pos h

theorem kill_of_retained {w : Work} (h : w.job.st = .retained) : kill w = ((w.jobTo .scrubbing).jobStatus 0 0 0).accept := by
  simp [kill, h]

theorem kill_refused {w : Work}
    (h : w.job.st = .idle ∨ w.job.st = .configured ∨ w.job.st = .killing ∨ w.job.st = .scrubbing) : kill w = w.jobRefused := by
  obtain h | h | h | h := h <;> simp [kill, h]

theorem jobEnd_of_stopping {w : Work} (h : w.job.st = .stopping) : jobEnd w = if w.settled then w.endJob else w.stopDrains := if_pos h

theorem jobEnd_of_killing {w : Work} (h : w.job.st = .killing) :
    jobEnd w = if w.fabricDrained then (w.reach (w.now + 1000)).endJob else w.drainOver.endJob := by
  simp [jobEnd, h]

/-- A scrub for which neither a Configure nor a Start waits leaves the panel IDLE, with nothing retained (R305). -/
theorem scrubComplete_of_none_waits {w : Work} (h : w.job.st = .scrubbing) (hstart : w.scrub.job.startWaits = false)
    (hconfig : w.scrub.job.configWaits = false) :
    scrubComplete w = (w.scrub.modJob (fun j => { j with retained := false })).jobTo .idle := by
  simp [scrubComplete, h, hstart, hconfig]

/-- A refused job command writes 0x57 and the state to CommandStatus, and that is all (R299, R301). -/
theorem jobRefused_eq (w : Work) : w.jobRefused = (w.setReg 0x2400 9 (0x57 + w.job.st.code % 256 * 2 ^ 8)).accept := by
  rw [Work.jobRefused, Work.jobStatus, Nat.zero_mod, Nat.zero_mul, Nat.add_zero]

/-- Settles O39: each job command goes the way of its own lemma, by the state that it finds. -/
theorem jobRuns : Obligations.JobRuns := by
  refine ⟨fun s => ⟨fun hbusy hboot hst hlist himage hplace hsplit hmirror => ?_, fun st n d hbusy hboot hst hbad => ?_,
      fun hwaits hst hhost => ⟨fun hkeep hremap => ?_, fun hkeep hpending hpolicy => ?_, fun hkeep => ?_⟩, fun hmap hfmgr => ?_, fun h => ?_,
      fun h => ?_, fun h => ?_, fun h => ?_, fun h hsettled => ?_, fun h hsettled => ?_, fun h => ?_, fun h hstart hconfig => ?_⟩,
    fun s => ⟨fun hwaits hst => ?_, fun h => ?_, fun h => ?_, fun hbusy hboot h => ?_⟩⟩
  · refine run_commit (f := configure) ?_
    rw [configure_of_mayBind hbusy hboot hst, configureNow_of_good hlist himage hplace hsplit hmirror]
  · refine run_commit (f := configure) ?_
    rw [configure_of_mayBind hbusy hboot hst, configureNow_of_bad hbad]
  · refine run_commit (f := start) ?_
    rw [start_of_mayStart ⟨hwaits, hst, hhost⟩, hkeep, if_neg Bool.false_ne_true, startNow_of_no_remap hremap]
  · refine run_commit (f := start) ?_
    rw [start_of_mayStart ⟨hwaits, hst, hhost⟩, hkeep, if_neg Bool.false_ne_true, startNow_of_remap hpending hpolicy]
  · refine run_commit (f := start) ?_
    rw [start_of_mayStart ⟨hwaits, hst, hhost⟩, if_pos hkeep]
  · exact run_commit (f := mapRecomputeComplete) (mapRecomputeComplete_of_done hmap hfmgr)
  · exact run_commit (f := stop) (if_neg (not_not_intro h))
  · exact run_commit (f := kill) (kill_of_runs h)
  · exact run_commit (f := kill) (kill_of_retained h)
  · exact run_commit (f := stopTimeout) (if_pos h)
  · exact run_commit (f := jobEnd) ((jobEnd_of_stopping h).trans (if_pos hsettled))
  · refine run_commit (f := jobEnd) ?_
    rw [jobEnd_of_stopping h, hsettled, if_neg Bool.false_ne_true]
  · exact run_commit (f := jobEnd) (jobEnd_of_killing h)
  · exact run_commit (f := scrubComplete) (scrubComplete_of_none_waits h hstart hconfig)
  · exact run_commit (f := start) ((start_refused hwaits hst).trans (jobRefused_eq _))
  · exact run_commit (f := stop) ((stop_refused h).trans (jobRefused_eq _))
  · exact run_commit (f := kill) ((kill_refused h).trans (jobRefused_eq _))
  · exact run_commit (f := configure) ((configure_refused hbusy hboot h).trans (jobRefused_eq _))

end Sys2Proof.Machine
end

section
/-! ### Marks, records and the known-answer set -/

namespace Sys2Proof.Machine

theorem clearArraySuspect_of_lt {w : Work} {site : Nat} (h : site < 416) : clearArraySuspect site w =
    ({ w with marks := w.marks.map (fun e => if e.1 / 20 = site then (e.1, { e.2 with suspect := false }) else e) } : Work).accept :=
  if_neg (Nat.not_le.mpr h)

theorem clearRecord_of_lt {w : Work} {n : Nat} (h : n < w.defects.length) :
    clearRecord n w = ({ w with defectMarks := w.defectMarks.filter (· != n) ++ [n] } : Work).accept := if_pos h

/-- An operator's record whose fields lie in their ranges is a failure of its unit (R39, R40). -/
theorem addRecord_of_ok {w : Work} {data : List Byte} (hlen : data.length = 16) (hok : (defectOf data).operatorOk = true) :
    addRecord data w = (w.unitFails (defectOf data)).accept := by
  rw [addRecord, if_neg (not_not_intro hlen), hok]
  rfl

/-- The known-answer set runs on an idle array that is EMPTY, and a failed tile is counted as the array's failure (R438). -/
theorem katRun_of_idle {w : Work} {a f : Nat} (hplace : w.physical (a / 16) (a % 16) = some f) (hpresent : w.arrPresent a = true)
    (htask : (w.arr a).task = none) (hfree : (w.arr a).free = true) (hempty : (w.arr a).st = .empty) (failed : Option Nat) :
    katRun a failed w =
      match failed with
      | some p => (((w.addReg 0xB000 0x14 1).modArr a Arr.afterKat).addReg 0xB000 0x15 1).arrayFails f 4 p
      | none => (w.addReg 0xB000 0x14 1).modArr a Arr.afterKat := by
  cases failed <;> simp [katRun, hplace, hpresent, htask, hfree, hempty]

/-- An incident closes 10 s after the last event that kept it open (R446). -/
theorem incidentClose_of_open {w : Work} (h : w.log.incident = true) : incidentClose w =
    { w.reach (w.log.lastBad + 10000000000) with log := (w.reach (w.log.lastBad + 10000000000)).log.close } := if_pos h

/-- Settles O60: each command has its own lemma, and the last two act in every state. -/
theorem faultsAreRecorded : Obligations.FaultsAreRecorded := by
  refine fun s n a site data => ⟨fun h => ?_, fun h => ?_, fun hlen hok => ?_,
    fun f p hplace hpresent htask hfree hempty => ⟨?_, ?_⟩, fun h => ?_, ?_, ?_⟩
  · exact run_commit (f := clearArraySuspect site) (clearArraySuspect_of_lt h)
  · exact run_commit (f := clearRecord n) (clearRecord_of_lt h)
  · exact run_commit (f := addRecord data) (addRecord_of_ok hlen hok)
  · exact run_commit (f := katRun a none) (katRun_of_idle hplace hpresent htask hfree hempty none)
  · exact run_commit (f := katRun a (some p)) (katRun_of_idle hplace hpresent htask hfree hempty (some p))
  · exact run_commit (f := incidentClose) (incidentClose_of_open h)
  · exact run_commit (f := clearFirstFailure) rfl
  · exact run_commit (f := alertAck n) rfl

end Sys2Proof.Machine
end

section
/-! ### FP32 results -/

namespace Sys2Proof.Machine

/-- Bits that FP32 arithmetic may yield: 32 of them, and of the NaN patterns the canonical one alone (R52). -/
def Fp32Result (r : Nat) : Prop := r < 2 ^ 32 ∧ (fIsNan r = true → r = 0x7FC00000)

theorem ofBool_le_one (b : Bool) : ofBool b ≤ 1 := by cases b <;> decide

/-- A NaN of an IEEE format has the greatest exponent field and a mantissa that is not zero (R50). -/
theorem fields_of_decodeNum_nan {f : Fmt} {x : Nat} (hieee : f.ieee = true) (hone : f.oneNan = false) (h : decodeNum f x = .nan) :
    field x f.mw f.ew = 2 ^ f.ew - 1 ∧ field x 0 f.mw ≠ 0 := by
  simp only [decodeNum, hieee, hone, Bool.true_and, Bool.false_and, beq_iff_eq, Bool.false_eq_true, if_false] at h
  split at h
  next hex =>
    split at h
    next => cases h
    next hman => exact ⟨hex, hman⟩
  next => split at h <;> cases h

theorem fIsNan_iff (x : Nat) : fIsNan x = true ↔ dec32 x = .nan := by
  unfold fIsNan
  cases dec32 x <;> simp [nanOf]

/-- A NaN pattern has a magnitude above that of infinity. -/
theorem magnitude_of_fIsNan {x : Nat} (h : fIsNan x = true) : 0x7F800000 < x % 2 ^ 31 := by
  obtain ⟨hex, hman⟩ := fields_of_decodeNum_nan (f := fp32) rfl rfl ((fIsNan_iff x).mp h)
  simp only [field, fp32] at hex hman
  omega

/-- Bits whose magnitude is at most that of infinity are no NaN. -/
theorem fp32Result_of_magnitude {mag : Nat} (neg : Bool) (h : mag ≤ 0x7F800000) : Fp32Result (mag + ofBool neg * 2 ^ 31) := by
  have hsign := ofBool_le_one neg
  refine ⟨by omega, fun hnan => ?_⟩
  have hmag := magnitude_of_fIsNan hnan
  omega

theorem fp32Result_canonNan : Fp32Result (canonNan fp32) := ⟨by decide, fun _ => by decide⟩

theorem fp32Result_infBits (neg : Bool) : Fp32Result (infBits fp32 neg) := fp32Result_of_magnitude neg (Nat.le_refl _)

theorem fp32Result_zero (neg : Bool) : Fp32Result (ofBool neg * 2 ^ 31) := by
  simpa using fp32Result_of_magnitude neg (Nat.zero_le _)

/-- A pattern that is no NaN is handed on as it is. -/
theorem fp32Result_of_not_nan {x : Nat} (h : fIsNan x = false) : Fp32Result (x % 2 ^ 32) := by
  refine ⟨Nat.mod_lt _ (by decide), fun hnan => ?_⟩
  unfold fIsNan dec32 at h hnan
  rw [Nat.mod_mod, h] at hnan
  cases hnan

/-! #### Rounding (R55, R64, R65) -/

theorem roundShift_le (mode : Rounding) (m t : Nat) : roundShift mode m t ≤ m / 2 ^ t + 1 := by
  unfold roundShift
  cases mode <;> dsimp only <;> split <;> omega

/-- A magnitude rounded to the place of a format's least significant bit there, before a carry is taken into the exponent. -/
def roundAtLsb (f : Fmt) (mode : Rounding) (m : Nat) (e : Int) : Nat :=
  if f.lsb m e ≤ e then m * 2 ^ (e - f.lsb m e).toNat else roundShift mode m (f.lsb m e - e).toNat

theorem roundAtLsb_le (f : Fmt) (mode : Rounding) (m : Nat) (e : Int) : roundAtLsb f mode m e ≤ 2 ^ (f.mw + 1) := by
  have hlsb : (Nat.log2 m : Int) + e - f.mw ≤ f.lsb m e := Int.le_max_left _ _
  have hm : m < 2 ^ (Nat.log2 m + 1) := Nat.lt_log2_self
  unfold roundAtLsb
  split
  next hle =>
    calc m * 2 ^ (e - f.lsb m e).toNat
        ≤ 2 ^ (Nat.log2 m + 1) * 2 ^ (e - f.lsb m e).toNat := Nat.mul_le_mul_right _ (Nat.le_of_lt hm)
      _ = 2 ^ (Nat.log2 m + 1 + (e - f.lsb m e).toNat) := (Nat.pow_add _ _ _).symm
      _ ≤ 2 ^ (f.mw + 1) := Nat.pow_le_pow_right (by decide) (by omega)
  next hlt =>
    have hq : m / 2 ^ (f.lsb m e - e).toNat < 2 ^ (f.mw + 1) := by
      refine Nat.div_lt_of_lt_mul (Nat.lt_of_lt_of_le hm ?_)
      rw [← Nat.pow_add]
      exact Nat.pow_le_pow_right (by decide) (by omega)
    exact Nat.le_trans (roundShift_le _ _ _) hq

theorem roundTo_zero (f : Fmt) (mode : Rounding) (e : Int) :
    roundTo f mode 0 e = ⟨0, 1 - (f.bias : Int) - f.mw, false, false⟩ := if_pos rfl

theorem roundTo_sig {m : Nat} (hm : m ≠ 0) (f : Fmt) (mode : Rounding) (e : Int) : (roundTo f mode m e).sig =
    if roundAtLsb f mode m e = 2 ^ (f.mw + 1) then 2 ^ f.mw else roundAtLsb f mode m e := by
  rw [roundTo, if_neg hm]
  rfl

theorem roundTo_exceeds {m : Nat} (hm : m ≠ 0) (f : Fmt) (mode : Rounding) (e : Int) : (roundTo f mode m e).exceeds =
    decide ((roundTo f mode m e).ex > f.maxExp ∨ ((roundTo f mode m e).ex = f.maxExp ∧ (roundTo f mode m e).sig > f.maxSig)) := by
  rw [roundTo, if_neg hm]

theorem roundTo_sig_le (f : Fmt) (mode : Rounding) (m : Nat) (e : Int) : (roundTo f mode m e).sig ≤ 2 ^ (f.mw + 1) := by
  by_cases hm : m = 0
  · rw [hm, roundTo_zero]
    exact Nat.zero_le _
  · rw [roundTo_sig hm]
    split
    · exact Nat.pow_le_pow_right (by decide) (Nat.le_succ _)
    · exact roundAtLsb_le f mode m e

theorem roundTo_ex_le {f : Fmt} {mode : Rounding} {m : Nat} {e : Int} (h : (roundTo f mode m e).exceeds = false)
    (hsig : (roundTo f mode m e).sig ≠ 0) : (roundTo f mode m e).ex ≤ f.maxExp := by
  have hm : m ≠ 0 := fun h0 => hsig (by rw [h0, roundTo_zero])
  rw [roundTo_exceeds hm, decide_eq_false_iff_not, not_or] at h
  exact Int.not_lt.mp h.1

/-- A magnitude within range packs to at most the bits of infinity. -/
theorem packBits_fp32 {mode : Rounding} {m : Nat} {e : Int} (neg : Bool) (h : (roundTo fp32 mode m e).exceeds = false) :
    Fp32Result (packBits fp32 neg (roundTo fp32 mode m e)) := by
  have hsig : (roundTo fp32 mode m e).sig ≤ 2 ^ 24 := roundTo_sig_le fp32 mode m e
  refine fp32Result_of_magnitude neg ?_
  split
  next hsub => exact Nat.le_trans (Nat.le_of_lt hsub) (by decide)
  next hnormal =>
    have hmax : fp32.maxExp = 104 := by decide
    have hpos : (roundTo fp32 mode m e).sig ≠ 0 := fun h0 => hnormal (h0 ▸ Nat.two_pow_pos _)
    have hex : (roundTo fp32 mode m e).ex ≤ 104 := hmax ▸ roundTo_ex_le h hpos
    show ((roundTo fp32 mode m e).ex + 23 + 127).toNat * 2 ^ 23 + ((roundTo fp32 mode m e).sig - 2 ^ 23) ≤ _
    omega

/-- A finite value rounded into FP32 is no NaN, in range or beyond it. -/
theorem fp32Result_finish (mode : Rounding) (neg : Bool) (m : Nat) (e : Int) : Fp32Result (finish fp32 mode neg m e).1 := by
  unfold finish
  dsimp only
  split
  next => exact fp32Result_infBits neg
  next h => exact packBits_fp32 neg (Bool.eq_false_iff.mpr h)

/-! #### The operations (R63, R276) -/

theorem fp32Result_addNum (mode : Rounding) (a b : Num) : Fp32Result (addNum fp32 mode a b).1 := by
  cases a with
  | nan => exact fp32Result_canonNan
  | inf x =>
    cases b with
    | nan => exact fp32Result_canonNan
    | inf y =>
      unfold addNum
      dsimp only
      split
      · exact fp32Result_infBits x
      · exact fp32Result_canonNan
    | fin n m e => exact fp32Result_infBits x
  | fin n m e =>
    cases b with
    | nan => exact fp32Result_canonNan
    | inf y => exact fp32Result_infBits y
    | fin n' m' e' =>
      unfold addNum
      dsimp only
      split
      · exact fp32Result_zero _
      · exact fp32Result_finish _ _ _ _

theorem fp32Result_roundNum (mode : Rounding) (a : Num) : Fp32Result (roundNum fp32 mode a).1 := by
  unfold roundNum
  split
  · exact fp32Result_canonNan
  · exact fp32Result_infBits _
  · split
    · exact fp32Result_zero _
    · exact fp32Result_finish _ _ _ _

theorem fp32Result_fMul (a b : Nat) : Fp32Result (fMul a b).1 := by
  unfold fMul
  split
  · exact fp32Result_canonNan
  · exact fp32Result_roundNum _ _

theorem fp32Result_fFma (a b c : Nat) : Fp32Result (fFma a b c).1 := by
  unfold fFma
  dsimp only
  split
  · exact fp32Result_canonNan
  · split
    · exact fp32Result_canonNan
    · exact fp32Result_addNum _ _ _

/-- Of two patterns that are no NaN, either may be handed on. -/
theorem fp32Result_either {a b : Nat} {P : Prop} [Decidable P] (ha : fIsNan a = false) (hb : fIsNan b = false) :
    Fp32Result (if P then a % 2 ^ 32 else b % 2 ^ 32) := by
  split
  · exact fp32Result_of_not_nan ha
  · exact fp32Result_of_not_nan hb

theorem fp32Result_fMin (a b : Nat) : Fp32Result (fMin a b).1 := by
  unfold fMin
  split
  next => exact fp32Result_canonNan
  next hb => exact fp32Result_of_not_nan hb
  next ha _ => exact fp32Result_of_not_nan ha
  next ha hb => exact fp32Result_either ha hb

theorem fp32Result_fMax (a b : Nat) : Fp32Result (fMax a b).1 := by
  unfold fMax
  split
  next => exact fp32Result_canonNan
  next hb => exact fp32Result_of_not_nan hb
  next ha _ => exact fp32Result_of_not_nan ha
  next ha hb => exact fp32Result_either ha hb

theorem fp32Result_divNum (a b : Num) : Fp32Result (divNum fp32 a b) := by
  unfold divNum
  dsimp only
  split
  · exact fp32Result_canonNan
  · exact fp32Result_canonNan
  · exact fp32Result_canonNan
  · exact fp32Result_infBits _
  · exact fp32Result_zero _
  · split
    · split
      · exact fp32Result_canonNan
      · exact fp32Result_infBits _
    · split
      · exact fp32Result_zero _
      · exact fp32Result_finish _ _ _ _

theorem fp32Result_fSqrt (a : Nat) : Fp32Result (fSqrt a) := by
  unfold fSqrt
  split
  · exact fp32Result_canonNan
  · split
    · exact fp32Result_canonNan
    · exact fp32Result_infBits _
  · split
    · exact fp32Result_zero _
    · split
      · exact fp32Result_canonNan
      · exact fp32Result_finish _ _ _ _

/-- Settles O8: each operation answers the canonical NaN, an infinity, a zero, a rounded finite value or an operand that is no
NaN. -/
theorem resultNaNsAreCanonical : Obligations.ResultNaNsAreCanonical := by
  intro x y z
  simp only [List.forall_mem_cons]
  exact ⟨fp32Result_addNum _ _ _, fp32Result_addNum _ _ _, fp32Result_fMul x y, fp32Result_fFma x y z, fp32Result_fMin x y,
    fp32Result_fMax x y, fp32Result_divNum _ _, fp32Result_fSqrt x, nofun⟩

end Sys2Proof.Machine
end

section
/-! ### Cells at rest -/

namespace Sys2Proof.Machine

/-- No result of the cell is in flight, no special-function request of it waits, and its output registers are empty (R44, R92,
R93). -/
def Cell.Quiet (c : Cell) : Prop := c.flight = [] ∧ c.sfu = none ∧ ∀ d < 4, c.out d = none

theorem quiet_of_canFire {s : State} {a p lo hi : Nat} (h : s.canFire a p lo hi = true) : (s.cell a p).Quiet := by
  simp only [State.canFire, State.rests, Bool.and_eq_true, List.isEmpty_iff, Option.isNone_iff_eq_none, List.all_eq_true,
    List.mem_range, beq_iff_eq] at h
  obtain ⟨⟨⟨⟨-, hflight⟩, hsfu⟩, houts⟩, -⟩ := h
  exact ⟨hflight, hsfu, houts⟩

theorem flight_of_quiet {c : Cell} (h : c.Quiet) : c.flight = [] := h.1

theorem sfu_of_quiet {c : Cell} (h : c.Quiet) : c.sfu = none := h.2.1

/-- What a cell at rest reads has been written (R89). -/
theorem srcWritten_of_quiet {c : Cell} (h : c.Quiet) (w code : Nat) : c.srcWritten w code = true := by
  obtain ⟨hflight, hsfu, -⟩ := h
  simp [Cell.srcWritten, Cell.accPending, Cell.prevPending, hflight, hsfu]

theorem outsFree_of_quiet {c : Cell} (h : c.Quiet) (mask : Nat) : c.outsFree mask = true := by
  obtain ⟨hflight, -, houts⟩ := h
  simp only [Cell.outsFree, hflight, List.all_nil, Bool.and_true, List.all_eq_true, List.mem_range]
  intro d hd
  rw [houts d hd]
  exact Bool.or_true _

theorem accPendingHard_of_quiet {c : Cell} (h : c.Quiet) (k : Nat) : c.accPendingHard k = false := by
  obtain ⟨hflight, -, -⟩ := h
  rw [Cell.accPendingHard, hflight]
  rfl

theorem scalePending_of_quiet {c : Cell} (h : c.Quiet) (b : Bool) : c.scalePending b = false := by
  obtain ⟨hflight, -, -⟩ := h
  rw [Cell.scalePending, hflight]
  rfl

theorem base_ready_of_quiet {c : Cell} (h : c.Quiet) (w : Nat) : (c.base w).ready = true := by
  show (c.srcWritten w (iSrcA w) && c.srcWritten w (iSrcB w) && c.srcWritten w (iSrcC w)) = true
  simp only [srcWritten_of_quiet h, Bool.and_true]

/-- A queue that shows a token has one of the array's epoch at its head, which is no barrier token (R79, R94). -/
theorem head_of_shows {s : State} {a p d : Nat} (h : s.shows a p d = true) :
    ∃ t, (s.cell a p).head (s.array a).epoch d = some t ∧ (t.kind != 3) = true :=
  (Option.any_eq_true _ _).mp h

/-- An instruction other than CMERGE examines the queues that it names (R94, R108). -/
theorem examined_eq_named {w : Nat} (h : iOp w ≠ 0x9B) (c : Cell) (epoch : Nat) : c.examined epoch w = named w := if_neg h

/-- On a cell at rest whose queues show what the instruction names, an effect that needs those queues, and that nothing of its
opcode holds back, may take place (R89, R90). -/
theorem mayFire_of_canFire {s : State} {a p lo hi : Nat} {e : Eff} (h : s.canFire a p lo hi = true) (hready : e.ready = true)
    (hneed : e.need = named (s.instr a p)) (hrow : ops lo hi 0x9B = false := by decide) : s.mayFire a p lo hi e = true := by
  have houts := outsFree_of_quiet (quiet_of_canFire h) e.outs
  simp only [State.canFire, State.rests, Bool.and_eq_true, List.all_eq_true] at h
  obtain ⟨⟨⟨⟨⟨⟨⟨hissues, hparked⟩, hlo⟩, hhi⟩, -⟩, -⟩, -⟩, hshows⟩ := h
  have hop : iOp (s.instr a p) ≠ 0x9B := by
    intro hmerge
    rw [hmerge] at hlo hhi
    rw [ops, hlo, hhi] at hrow
    cases hrow
  simp only [State.mayFire, Cell.noBarrier, examined_eq_named hop, hneed, Bool.and_eq_true, List.all_eq_true]
  refine ⟨⟨⟨⟨⟨⟨⟨hissues, hparked⟩, hlo⟩, hhi⟩, hready⟩, houts⟩, fun d hd => ?_⟩, fun d hd => ?_⟩
  · obtain ⟨t, ht, hkind⟩ := head_of_shows (hshows d hd)
    rw [ht]
    exact hkind
  · obtain ⟨t, ht, -⟩ := head_of_shows (hshows d hd)
    rw [ht]
    rfl

/-- The command `i`, where cell p of array a may fire with the effect, leaves the state of that firing (R89). -/
def FiresWith (s : State) (a p : Nat) (i : Instr) (lo hi : Nat) (e : Eff) : Prop :=
  s.mayFire a p lo hi e = true → exec i s = .next (s.fired a p e)

theorem firesWith_of_run {s : State} {a p lo hi : Nat} {i : Instr} {op : Env → Cell → Nat → Eff} {e : Eff}
    (hrun : exec i s = run (fire a p (ops lo hi) op) s) (he : op (s.env a) (s.cell a p) (s.instr a p) = e) :
    FiresWith s a p i lo hi e := by
  subst he
  exact fun h => hrun.trans (fire_next s a p _ _ op h)

end Sys2Proof.Machine
end

section
/-! ### Scalar instructions -/

namespace Sys2Proof.Machine

/-- A scalar operation fires with the token of its result. -/
theorem firesWith_yields {s : State} {a p lo hi : Nat} {i : Instr} {kind : Nat} {f : Nat → Nat → Nat → Nat × Nat} {v flags : Nat}
    (hrun : exec i s = run (fire a p (ops lo hi) (opScalar kind f)) s)
    (hv : low32 (f (s.srcA a p) (s.srcB a p) (s.srcC a p)).1 = v) (hflags : (f (s.srcA a p) (s.srcB a p) (s.srcC a p)).2 = flags) :
    FiresWith s a p i lo hi (s.yields a p kind 0 v flags) :=
  firesWith_of_run hrun (by rw [opScalar_yields, hv, hflags])

theorem iSubBits_eq {y : Nat} (hy : y < 2 ^ 32) (x : Nat) : iSubBits x y = x + 2 ^ 32 - y := (Nat.add_sub_assoc (Nat.le_of_lt hy) x).symm

theorem low32_ofBool (b : Bool) : low32 (ofBool b) = ofBool b := by cases b <;> rfl

/-- The effect of SEL is the token of the source chosen, with its lane code (R104). -/
theorem opSel_yields (s : State) (a p : Nat) :
    let c := s.cell a p
    let w := s.instr a p
    let code := if bit (c.source w (iSrcC w)) 0 then iSrcA w else iSrcB w
    opSel (s.env a) c w = s.yields a p 0 (c.emitLane w code) (c.source w code) 0 := by
  simp only [opSel, Eff.emit, State.yields, Cell.base, Cell.lastOf, Nat.zero_or, List.nil_append]
  rfl

/-- On a cell at rest whose queues show what the instruction names, the token is yielded. -/
theorem FiresWith.of_canFire {s : State} {a p lo hi : Nat} {i : Instr} {kind lane v flags : Nat}
    (h : FiresWith s a p i lo hi (s.yields a p kind lane v flags)) (hrow : ops lo hi 0x9B = false := by decide)
    (hcan : s.canFire a p lo hi = true) : exec i s = .next (s.fired a p (s.yields a p kind lane v flags)) := by
  have hquiet := quiet_of_canFire hcan
  have hready : (s.yields a p kind lane v flags).ready = true := by
    show (((s.cell a p).base (s.instr a p)).ready && (s.cell a p).sfu.isNone) = true
    rw [base_ready_of_quiet hquiet, sfu_of_quiet hquiet]
    rfl
  exact h (mayFire_of_canFire hcan hready rfl hrow)

/-- The command `i`, of opcode `op`, fires with the scalar word of `r`'s low 32 bits and with `r`'s flags (R102). -/
def YieldsScalar (s : State) (a p : Nat) (i : Instr) (op : Nat) (r : Nat × Nat) : Prop :=
  FiresWith s a p i op op (s.yields a p 0 0 (low32 r.1) r.2)

/-- An integer operation yields the low 32 bits of its result, and raises no flag. -/
theorem yieldsScalar_plain {s : State} {a p op : Nat} {i : Instr} {f : Nat → Nat → Nat} {v : Nat}
    (hrun : exec i s = run (fire a p (ops op op) (opScalar 0 (plain f))) s) (hv : f (s.srcA a p) (s.srcB a p) = v) :
    YieldsScalar s a p i op (v, 0) :=
  firesWith_yields hrun (hv ▸ Nat.mod_mod _ _) rfl

section
variable {s : State} {a p : Nat}

theorem fadd_yields : YieldsScalar s a p (.fadd a p) 0x60 (fAdd (s.srcA a p) (s.srcB a p)) := firesWith_yields rfl rfl rfl

theorem fsub_yields : YieldsScalar s a p (.fsub a p) 0x61 (fSub (s.srcA a p) (s.srcB a p)) := firesWith_yields rfl rfl rfl

theorem fmul_yields : YieldsScalar s a p (.fmul a p) 0x62 (fMul (s.srcA a p) (s.srcB a p)) := firesWith_yields rfl rfl rfl

theorem ffma_yields : YieldsScalar s a p (.ffma a p) 0x63 (fFma (s.srcA a p) (s.srcB a p) (s.srcC a p)) :=
  firesWith_yields rfl rfl rfl

theorem fmin_yields : YieldsScalar s a p (.fmin a p) 0x64 (fMin (s.srcA a p) (s.srcB a p)) := firesWith_yields rfl rfl rfl

theorem fmax_yields : YieldsScalar s a p (.fmax a p) 0x65 (fMax (s.srcA a p) (s.srcB a p)) := firesWith_yields rfl rfl rfl

theorem iadd_yields : YieldsScalar s a p (.iadd a p) 0x68 (s.srcA a p + s.srcB a p, 0) := yieldsScalar_plain rfl rfl

theorem isub_yields : YieldsScalar s a p (.isub a p) 0x69 (s.srcA a p + 2 ^ 32 - s.srcB a p, 0) :=
  yieldsScalar_plain rfl (iSubBits_eq (Nat.mod_lt _ (by decide)) _)

theorem imul_yields : YieldsScalar s a p (.imul a p) 0x6A (s.srcA a p * s.srcB a p, 0) := yieldsScalar_plain rfl rfl

theorem imin_yields : YieldsScalar s a p (.imin a p) 0x6B
    (if signed 32 (s.srcA a p) ≤ signed 32 (s.srcB a p) then s.srcA a p else s.srcB a p, 0) := yieldsScalar_plain rfl rfl

theorem imax_yields : YieldsScalar s a p (.imax a p) 0x6C
    (if signed 32 (s.srcA a p) ≤ signed 32 (s.srcB a p) then s.srcB a p else s.srcA a p, 0) := yieldsScalar_plain rfl rfl

theorem and_yields : YieldsScalar s a p (.and a p) 0x70 (s.srcA a p &&& s.srcB a p, 0) := yieldsScalar_plain rfl rfl

theorem or_yields : YieldsScalar s a p (.or a p) 0x71 (s.srcA a p ||| s.srcB a p, 0) := yieldsScalar_plain rfl rfl

theorem xor_yields : YieldsScalar s a p (.xor a p) 0x72 (s.srcA a p ^^^ s.srcB a p, 0) := yieldsScalar_plain rfl rfl

theorem shl_yields : YieldsScalar s a p (.shl a p) 0x73 (s.srcA a p * 2 ^ (s.srcB a p % 32), 0) := yieldsScalar_plain rfl rfl

theorem shr_yields : YieldsScalar s a p (.shr a p) 0x74 (s.srcA a p / 2 ^ (s.srcB a p % 32), 0) := yieldsScalar_plain rfl rfl

theorem sar_yields : YieldsScalar s a p (.sar a p) 0x75 (unsigned 32 (signed 32 (s.srcA a p) / 2 ^ (s.srcB a p % 32)), 0) :=
  yieldsScalar_plain rfl rfl

theorem fcmp_yields : FiresWith s a p (.fcmp a p) 0x80 0x87 (s.yields a p 1 0
    (ofBool (fCmp (field (iOp (s.instr a p)) 0 3) (s.srcA a p) (s.srcB a p)).1)
    (fCmp (field (iOp (s.instr a p)) 0 3) (s.srcA a p) (s.srcB a p)).2) := firesWith_yields rfl (low32_ofBool _) rfl

theorem icmp_yields : FiresWith s a p (.icmp a p) 0x88 0x8D (s.yields a p 1 0
    (ofBool (iCmp (field (iOp (s.instr a p)) 0 3) (s.srcA a p) (s.srcB a p))) 0) := firesWith_yields rfl (low32_ofBool _) rfl

theorem sel_yields :
    let c := s.cell a p
    let w := s.instr a p
    let code := if bit (c.source w (iSrcC w)) 0 then iSrcA w else iSrcB w
    FiresWith s a p (.sel a p) 0x90 0x90 (s.yields a p 0 (c.emitLane w code) (c.source w code) 0) :=
  firesWith_of_run rfl (opSel_yields s a p)

end

/-- Settles O9: each instruction fires with the token of its result, and on a cell at rest nothing holds the firing back. -/
theorem cellScalarResults : Obligations.CellScalarResults := by
  refine ⟨fun s a p => ?_, fun s a p => ?_, fun s a p => ?_, fun s a p => ?_⟩
  · exact ⟨fadd_yields, fsub_yields, fmul_yields, ffma_yields, fmin_yields, fmax_yields⟩
  · exact ⟨iadd_yields, isub_yields, imul_yields, imin_yields, imax_yields, and_yields, or_yields, xor_yields, shl_yields,
      shr_yields, sar_yields⟩
  · exact ⟨fcmp_yields, icmp_yields, sel_yields⟩
  · exact ⟨fadd_yields.of_canFire, fsub_yields.of_canFire, fmul_yields.of_canFire, ffma_yields.of_canFire,
      fmin_yields.of_canFire, fmax_yields.of_canFire, iadd_yields.of_canFire, isub_yields.of_canFire, imul_yields.of_canFire,
      imin_yields.of_canFire, imax_yields.of_canFire, and_yields.of_canFire, or_yields.of_canFire, xor_yields.of_canFire,
      shl_yields.of_canFire, shr_yields.of_canFire, sar_yields.of_canFire, fcmp_yields.of_canFire, icmp_yields.of_canFire,
      sel_yields.of_canFire⟩

end Sys2Proof.Machine
end

section
/-! ### Dot products -/

namespace Sys2Proof.Machine

/-- FWD sends a copy of source A's token behind what the firing already sends, and changes nothing else of it (R85). -/
theorem forward_cases (c : Cell) (w : Nat) (e : Eff) :
    c.forward w e = e ∨ ∃ t, c.forward w e =
      { e with outs := e.outs ||| iDest w, flights := e.flights ++ [{ mask := iDest w, tok := t }] } := by
  unfold Cell.forward
  split
  · split
    next t _ => exact .inr ⟨t, rfl⟩
    next => exact .inl rfl
  · exact .inl rfl

/-- The value `v` on its way to the accumulator that a dot product names (R47, R86). -/
def Cell.dotFlight (c : Cell) (w v : Nat) : Flight := { acc := some (c.accIdx w % 8, BitVec.ofNat 32 v), dot := true }

/-- The effect `e` of instruction `w` on a cell sends `v` to the accumulator that the instruction names, needs the queues that it
names, and waits for nothing on a cell at rest. -/
structure AddsDot (c : Cell) (w : Nat) (e : Eff) (v : Nat) : Prop where
  need : e.need = named w
  sends : e.flights.head? = some (c.dotFlight w v)
  flight : e.cell.flight = c.flight
  ready : c.Quiet → e.ready = true

theorem addsDot_forward {c : Cell} {w v : Nat} {e : Eff} (h : AddsDot c w e v) : AddsDot c w (c.forward w e) v := by
  obtain hsame | ⟨t, hcopy⟩ := forward_cases c w e
  · rwa [hsame]
  · rw [hcopy]
    exact ⟨h.need, by rw [List.head?_append, h.sends]; rfl, h.flight, h.ready⟩

theorem addsDot_dotEff {c cell : Cell} {w v flags flushes : Nat} {ready : Bool} (hflight : cell.flight = c.flight)
    (hready : c.Quiet → ready = true) : AddsDot c w (c.dotEff w v flags flushes ready cell) v := by
  refine addsDot_forward ⟨rfl, rfl, hflight, fun hquiet => ?_⟩
  show ((c.base w).ready && ready && !c.accPendingHard (c.accIdx w)) = true
  rw [base_ready_of_quiet hquiet, hready hquiet, accPendingHard_of_quiet hquiet]
  rfl

/-- A floating-point dot product adds the products of its flushed element pairs to the accumulator (R55, R57, R60, R62). -/
theorem addsDot_opDotF (fa fb : Fmt) (n : Nat) (mx sparse : Bool) (env : Env) (c : Cell) (w : Nat) :
    AddsDot c w (opDotF fa fb n mx sparse env c w) (dotFloat ((c.rawPairs w sparse n fa.width fb.width).1.map
        (fun q => ((flushNum fa env.keepDenorm q.1).1, (flushNum fb env.keepDenorm q.2).1)))
      (c.accForward (c.accIdx w)) (if mx then some (scaleAt c.sca c.ptrA, scaleAt c.scb c.ptrB) else none)).1 := by
  unfold opDotF
  dsimp only
  rw [List.map_map]
  refine addsDot_dotEff ?_ fun hquiet => ?_
  · split <;> rfl
  · rw [scalePending_of_quiet hquiet, scalePending_of_quiet hquiet]
    exact Bool.or_true _

/-- An integer dot product adds the products of its element pairs to the accumulator (R56, R62). -/
theorem addsDot_opDotI (ew n lane : Nat) (sparse : Bool) (env : Env) (c : Cell) (w : Nat) :
    AddsDot c w (opDotI ew n lane sparse env c w) (dotInt ((c.rawPairs w sparse n ew ew).1.map
      (fun q => (signed ew q.1, signed ew q.2))) (c.accForward (c.accIdx w))).1 :=
  addsDot_dotEff rfl fun _ => rfl

section
variable {s : State} {a p lo hi v : Nat} {i : Instr} {op : Env → Cell → Nat → Eff}

/-- A dot product that may fire fires, with one value on its way to the accumulator. -/
theorem dot_fires (hrun : exec i s = run (fire a p (ops lo hi) op) s)
    (hop : AddsDot (s.cell a p) (s.instr a p) (op (s.env a) (s.cell a p) (s.instr a p)) v)
    (hmay : s.mayFire a p lo hi (op (s.env a) (s.cell a p) (s.instr a p)) = true) :
    exec i s = .next (s.fired a p (op (s.env a) (s.cell a p) (s.instr a p))) ∧
      ∃ v, (op (s.env a) (s.cell a p) (s.instr a p)).flights.head? =
        some { acc := some ((s.cell a p).accIdx (s.instr a p) % 8, v), dot := true } :=
  ⟨firesWith_of_run hrun rfl hmay, BitVec.ofNat 32 v, hop.sends⟩

/-- On a cell at rest whose queues show what it names, a dot product completes, and its value is the first in flight. -/
theorem dot_completes (hrun : exec i s = run (fire a p (ops lo hi) op) s)
    (hop : AddsDot (s.cell a p) (s.instr a p) (op (s.env a) (s.cell a p) (s.instr a p)) v)
    (hrow : ops lo hi 0x9B = false := by decide) (hcan : s.canFire a p lo hi = true) :
    ∃ t, exec i s = .next t ∧ t = s.fired a p (op (s.env a) (s.cell a p) (s.instr a p)) ∧
      (t.cell a p).flight.head? = some ((s.cell a p).dotFlight (s.instr a p) v) := by
  have hquiet := quiet_of_canFire hcan
  have hmay := mayFire_of_canFire hcan (hop.ready hquiet) hop.need hrow
  refine ⟨_, firesWith_of_run hrun rfl hmay, rfl, ?_⟩
  rw [fired_cell, afterFiring_flight, hop.flight, flight_of_quiet hquiet, List.nil_append, hop.sends]

end

/-- Settles O10: each dot product's effect sends the sum to the accumulator named, and on a cell at rest nothing was in flight
before it. -/
theorem cellDotProducts : Obligations.CellDotProducts := by
  refine ⟨fun s a p => ?_, fun s a p => ?_⟩
  · exact ⟨dot_fires rfl (addsDot_opDotF ..), dot_fires rfl (addsDot_opDotF ..), dot_fires rfl (addsDot_opDotI ..),
      dot_fires rfl (addsDot_opDotI ..), dot_fires rfl (addsDot_opDotF ..), dot_fires rfl (addsDot_opDotF ..),
      dot_fires rfl (addsDot_opDotF ..), dot_fires rfl (addsDot_opDotF ..), dot_fires rfl (addsDot_opDotI ..),
      dot_fires rfl (addsDot_opDotI ..), dot_fires rfl (addsDot_opDotF ..), dot_fires rfl (addsDot_opDotF ..)⟩
  · exact ⟨dot_completes rfl (addsDot_opDotF ..), dot_completes rfl (addsDot_opDotF ..), dot_completes rfl (addsDot_opDotI ..),
      dot_completes rfl (addsDot_opDotI ..), dot_completes rfl (addsDot_opDotF ..), dot_completes rfl (addsDot_opDotF ..),
      dot_completes rfl (addsDot_opDotF ..), dot_completes rfl (addsDot_opDotF ..), dot_completes rfl (addsDot_opDotI ..),
      dot_completes rfl (addsDot_opDotI ..), dot_completes rfl (addsDot_opDotF ..), dot_completes rfl (addsDot_opDotF ..)⟩

end Sys2Proof.Machine
end

section
/-! ### What a cell instruction changes -/

namespace Sys2Proof.Machine

/-- Every cell instruction but BAR fires by the common rule (R89). -/
theorem exec_of_mem_cellInstrs {a p : Nat} {c : Instr} (h : c ∈ cellInstrs a p) :
    c = .bar a p ∨ ∃ row op, ∀ s, exec c s = run (fire a p row op) s := by
  revert c
  simp only [cellInstrs, List.cons_append, List.nil_append, List.forall_mem_cons, true_or, true_and, List.not_mem_nil,
    false_imp_iff, implies_true, and_true]
  and_intros
  all_goals exact .inr ⟨_, _, fun _ => rfl⟩

/-! #### Arrays before and after -/

/-- The array `y` is `x` but for its cells and the note that a cell has fired. -/
def Arr.SameButFired (x y : Arr) : Prop :=
  { y with cells := x.cells, fired := x.fired, moved := x.moved, firedSince := x.firedSince } = x

/-- The array `y` with the cells of `x`, and with what a fault of the task changes as `x` has it. -/
def Arr.unfaulted (x y : Arr) : Arr :=
  { y with cells := x.cells, task := x.task, stopped := x.stopped, lastStatus := x.lastStatus }

/-- The array `y` is `x` but for its cells and for what a fault of its task changes. -/
def Arr.SameButFault (x y : Arr) : Prop := x.unfaulted y = x

theorem Arr.SameButFault.trans {x y z : Arr} (hxy : x.SameButFault y) (hyz : y.SameButFault z) : x.SameButFault z :=
  (congrArg x.unfaulted hyz).trans hxy

/-- The array with the value `c'` in place p, and the note that a cell has fired. -/
def Arr.noteFired (p : Nat) (c' : Cell) (x : Arr) : Arr :=
  { x.modCell p (fun _ => c') with fired := true, moved := true, firedSince := true }

theorem cell_of_cells {x y : Arr} (h : y.cells = x.cells) (q : Nat) : y.cell q = x.cell q := by
  rw [Arr.cell, h, Arr.cell]

theorem noteFired_cell_ne {p q : Nat} (h : q ≠ p) (c' : Cell) (x : Arr) : (x.noteFired p c').cell q = x.cell q :=
  (cell_of_cells rfl q).trans (cell_modCell_ne x (fun _ => c') h)

/-- The array with a fault of its task: the first is kept, and issue stops (R196, R298). -/
def Arr.withFault (f : Cause) (x : Arr) : Arr :=
  match x.task with
  | some t =>
    match t.fault with
    | some _ => x
    | none => { x with task := some { t with fault := some f }, stopped := true, lastStatus := f.status }
  | none => { x with lastStatus := f.status }

theorem withFault_cells (f : Cause) (x : Arr) : (x.withFault f).cells = x.cells := by
  unfold Arr.withFault
  split
  · split <;> rfl
  · rfl

theorem withFault_sameButFault (f : Cause) (x : Arr) : x.SameButFault (x.withFault f) := by
  unfold Arr.withFault
  split
  · split <;> rfl
  · rfl

/-- The array without the barrier tokens that cell p's BAR names. -/
def Arr.barTaken (p : Nat) (x : Arr) : Arr := x.modCell p (fun c => c.dequeue (named c.instr))

/-- The array as the fault of cell p's BAR changes it, and stops it (R94). -/
def Arr.barStopped (p : Nat) (x : Arr) : Arr :=
  { x.withFault { status := 0x53, detail := 0x03, cell := p, idx := (x.cell p).idx } with stopped := true }

/-- The array after a BAR of cell p on a token with another ID (R94, R118). -/
def Arr.barFaulted (p : Nat) (x : Arr) : Arr := (x.barTaken p).barStopped p

/-- Work on an array depends on what it makes of that array alone. -/
theorem modArr_congr {w : Work} {a : Nat} {f g : Arr → Arr} (h : f (w.arr a) = g (w.arr a)) : w.modArr a f = w.modArr a g :=
  congrArg (fun x => ({ w with arrays := tput w.arrays a x } : Work)) h

theorem barFault_eq_modArr (w : Work) (a p : Nat) : w.barFault a p = w.modArr a (Arr.barFaulted p) := by
  show ((w.modArr a (Arr.barTaken p)).modArr a (Arr.withFault _)).modArr a _ = _
  rw [modArr_modArr, modArr_modArr, arr_modArr]
  exact modArr_congr rfl

theorem barFaulted_cell_ne {p q : Nat} (h : q ≠ p) (x : Arr) : (x.barFaulted p).cell q = x.cell q :=
  (cell_of_cells (withFault_cells _ (x.barTaken p)) q).trans (cell_modCell_ne x _ h)

theorem barStopped_sameButFault (p : Nat) (x : Arr) : x.SameButFault (x.barStopped p) :=
  (withFault_sameButFault _ x).trans rfl

theorem barFaulted_sameButFault (p : Nat) (x : Arr) : x.SameButFault (x.barFaulted p) :=
  Arr.SameButFault.trans (y := x.barTaken p) rfl (barStopped_sameButFault p (x.barTaken p))

/-! #### States before and after -/

/-- From s to t nothing differs but array a, and of that array's cells none but cell p. -/
structure OnlyCell (s t : State) (a p : Nat) : Prop where
  state : t = { s with arrays := t.arrays }
  arrays : ∀ b, b ≠ a → t.array b = s.array b
  cells : ∀ q, q ≠ p → t.cell a q = s.cell a q

theorem onlyCell_refl (s : State) (a p : Nat) : OnlyCell s s a p := ⟨rfl, fun _ _ => rfl, fun _ _ => rfl⟩

/-- Work on array a that gives another value to cell p alone. -/
theorem onlyCell_modArr (s : State) {a p : Nat} {g : Arr → Arr} (h : ∀ q, q ≠ p → (g (s.array a)).cell q = (s.array a).cell q) :
    OnlyCell s (s.commit (s.work.modArr a g)) a p where
  state := rfl
  arrays _ hb := array_commit_modArr_ne s s.work g hb
  cells q hq := (congrArg (·.cell q) (array_commit_modArr s s.work a g)).trans (h q hq)

/-- A firing by the common rule changes its cell and the note of a firing (R89). -/
theorem fire_only (s : State) (a p : Nat) (row : Nat → Bool) (op : Env → Cell → Nat → Eff) :
    OnlyCell s (s.commit (fire a p row op s.work)) a p ∧
      (s.array a).SameButFired ((s.commit (fire a p row op s.work)).array a) := by
  obtain hsame | ⟨-, c', hfired⟩ := fire_cases s a p row op
  · rw [hsame]
    exact ⟨onlyCell_refl s a p, rfl⟩
  · rw [hfired]
    exact ⟨onlyCell_modArr s fun _ hq => noteFired_cell_ne hq c' _, by rw [array_commit_modArr]; rfl⟩

theorem barWrong_of_opBar {env : Env} {c c' : Cell} {w : Nat} (h : opBar env c w = some c') : barWrong env c w = false := by
  unfold opBar at h
  split at h
  next hgo =>
    simp only [Bool.and_eq_true] at hgo
    obtain ⟨⟨-, hids⟩, -⟩ := hgo
    rw [barWrong, hids, Bool.not_true, Bool.and_false, Bool.false_and]
  next => cases h

/-- All that a BAR can do: nothing, a firing where the tokens carry its ID, or the fault where one does not (R94, R118). -/
theorem execBar_cases (s : State) (a p : Nat) :
    exec (.bar a p) s = .next s ∨
    (barWrong (s.env a) (s.cell a p) (s.instr a p) = false ∧
      ∃ c', exec (.bar a p) s = .next (s.commit (s.work.modArr a (Arr.noteFired p c')))) ∨
    (barWrong (s.env a) (s.cell a p) (s.instr a p) = true ∧
      exec (.bar a p) s = .next (s.commit (s.work.modArr a (Arr.barFaulted p)))) := by
  have hrun : exec (.bar a p) s = .next (s.commit
      (if (s.array a).issues && !(s.cell a p).parked && iOp (s.instr a p) == 0x01 then
        match opBar (s.env a) (s.cell a p) (s.instr a p) with
        | some c' => s.work.modArr a (Arr.noteFired p c')
        | none => if barWrong (s.env a) (s.cell a p) (s.instr a p) then s.work.barFault a p else s.work
      else s.work)) := rfl
  rw [hrun, barFault_eq_modArr]
  split
  · cases hbar : opBar (s.env a) (s.cell a p) (s.instr a p) with
    | some c' => exact .inr (.inl ⟨barWrong_of_opBar hbar, c', rfl⟩)
    | none =>
      cases hwrong : barWrong (s.env a) (s.cell a p) (s.instr a p) with
      | true => exact .inr (.inr ⟨rfl, rfl⟩)
      | false => exact .inl rfl
  · exact .inl rfl

/-- Settles O13: a firing by the common rule changes its cell alone, and so does a BAR, which may also fault. -/
theorem cellInstructionsChangeOnlyTheirCell : Obligations.CellInstructionsChangeOnlyTheirCell := by
  intro s t a p c hc ht
  by_cases hbar : c = .bar a p
  · subst hbar
    obtain hsame | ⟨hright, c', hfired⟩ | ⟨hwrong, hfault⟩ := execBar_cases s a p
    · cases hsame.symm.trans ht
      obtain ⟨hstate, harrays, hcells⟩ := onlyCell_refl s a p
      exact ⟨hstate, harrays, hcells, fun _ => rfl, fun _ _ => rfl⟩
    · cases hfired.symm.trans ht
      obtain ⟨hstate, harrays, hcells⟩ := onlyCell_modArr s fun q hq => noteFired_cell_ne hq c' (s.array a)
      refine ⟨hstate, harrays, hcells, fun _ => ?_, fun _ hwrong => ?_⟩
      · rw [array_commit_modArr]
        rfl
      · rw [hright] at hwrong
        cases hwrong
    · cases hfault.symm.trans ht
      obtain ⟨hstate, harrays, hcells⟩ := onlyCell_modArr s fun q hq => barFaulted_cell_ne hq (s.array a)
      refine ⟨hstate, harrays, hcells, fun hright => absurd ⟨rfl, hwrong⟩ hright, fun _ _ => ?_⟩
      rw [array_commit_modArr]
      exact barFaulted_sameButFault p (s.array a)
  · obtain ⟨row, op, hrun⟩ := (exec_of_mem_cellInstrs hc).resolve_left hbar
    cases (hrun s).symm.trans ht
    obtain ⟨⟨hstate, harrays, hcells⟩, harray⟩ := fire_only s a p row op
    exact ⟨hstate, harrays, hcells, fun _ => harray, fun h => absurd h hbar⟩

end Sys2Proof.Machine
end

section
/-! ### Token, conversion, accumulator and control instructions -/

namespace Sys2Proof.Machine

/-! #### Effects on a cell at rest -/

/-- The cell `d` has the results in flight and the special-function request that `c` has. -/
def Cell.SameResults (c d : Cell) : Prop := d.flight = c.flight ∧ d.sfu = c.sfu

theorem sameResults_clearAccs (c : Cell) (k n : Nat) : c.SameResults (c.clearAccs k n) := by
  induction n with
  | zero => exact ⟨rfl, rfl⟩
  | succ n ih => exact ih

theorem sameResults_countA (c : Cell) (n : Nat) : c.SameResults (c.countA n) := ⟨rfl, rfl⟩

theorem sameResults_ite {c d : Cell} (h : c.SameResults d) (b : Bool) : c.SameResults (if b then d else c) := by
  cases b with
  | true => exact h
  | false => exact ⟨rfl, rfl⟩

/-- The effect `e` of instruction `w` on a cell needs the queues that the instruction names, keeps what is in flight, and waits
for nothing on a cell at rest. -/
structure RunsAtRest (c : Cell) (w : Nat) (e : Eff) : Prop where
  need : e.need = named w
  flight : e.cell.flight = c.flight
  ready : c.Quiet → e.ready = true

theorem runsAtRest_base (c : Cell) (w : Nat) : RunsAtRest c w (c.base w) := ⟨rfl, rfl, fun hquiet => base_ready_of_quiet hquiet w⟩

/-- An effect with what all instructions have in common, and with a wait that a cell at rest ends. -/
theorem runsAtRest_of_base {c : Cell} {w : Nat} {e : Eff} {free : Bool} (hneed : e.need = named w)
    (hflight : e.cell.flight = c.flight) (hready : e.ready = ((c.base w).ready && free)) (hfree : c.Quiet → free = true) :
    RunsAtRest c w e :=
  ⟨hneed, hflight, fun hquiet => by rw [hready, base_ready_of_quiet hquiet, hfree hquiet]; rfl⟩

/-- A result token waits for the cell's special-function request, of which a cell at rest has none (R93). -/
theorem RunsAtRest.emit {c : Cell} {w : Nat} {e : Eff} (h : RunsAtRest c w e) (hsfu : e.cell.sfu = c.sfu) (t : Token) :
    RunsAtRest c w (e.emit w t) := by
  refine ⟨h.need, h.flight, fun hquiet => ?_⟩
  show (e.ready && e.cell.sfu.isNone) = true
  rw [h.ready hquiet, hsfu, sfu_of_quiet hquiet]
  rfl

/-- A result token of an effect that waits for no more than every instruction does. -/
theorem runsAtRest_emit {c : Cell} {w : Nat} {e : Eff} {t : Token} (hneed : e.need = named w) (hcell : c.SameResults e.cell)
    (hready : e.ready = (c.base w).ready) : RunsAtRest c w (e.emit w t) :=
  RunsAtRest.emit ⟨hneed, hcell.1, fun hquiet => hready ▸ base_ready_of_quiet hquiet w⟩ hcell.2 t

theorem RunsAtRest.forward {c : Cell} {w : Nat} {e : Eff} (h : RunsAtRest c w e) : RunsAtRest c w (c.forward w e) := by
  obtain hsame | ⟨t, hcopy⟩ := forward_cases c w e
  · rwa [hsame]
  · rw [hcopy]
    exact ⟨h.need, h.flight, h.ready⟩

/-- A forwarded copy goes behind what the firing already sends (R85). -/
theorem forward_head? {c : Cell} {w : Nat} {e : Eff} {f : Flight} (h : e.flights.head? = some f) :
    (c.forward w e).flights.head? = some f := by
  obtain hsame | ⟨t, hcopy⟩ := forward_cases c w e
  · rwa [hsame]
  · rw [hcopy, List.head?_append, h]
    rfl

theorem accPending_of_quiet {c : Cell} (h : c.Quiet) (k : Nat) : c.accPending k = false := by
  rw [Cell.accPending, flight_of_quiet h]
  rfl

theorem accsWritten_of_quiet {c : Cell} (h : c.Quiet) (k n : Nat) : c.accsWritten k n = true := by
  simp only [Cell.accsWritten, accPending_of_quiet h, Bool.not_false, List.all_eq_true, implies_true]

/-! #### The effect of each instruction -/

section
variable (env : Env) (c : Cell) (w : Nat)

theorem runsAtRest_opDrain : RunsAtRest c w (opDrain env c w) :=
  have ⟨hflight, hsfu⟩ := sameResults_ite (sameResults_clearAccs c (iAcc w) (if immBit w 1 then 2 else 1)) (immBit w 0)
  (runsAtRest_of_base rfl hflight rfl fun hquiet => accsWritten_of_quiet hquiet _ _).emit hsfu _

theorem runsAtRest_opDraincv : RunsAtRest c w (opDraincv env c w) :=
  have ⟨hflight, hsfu⟩ := sameResults_ite (sameResults_clearAccs c (iAcc w) (drainFmt (field (iImm w) 0 3)).2.1) (immBit w 5)
  (runsAtRest_of_base rfl hflight rfl fun hquiet => accsWritten_of_quiet hquiet _ _).emit hsfu _

theorem runsAtRest_opAccld : RunsAtRest c w (opAccld env c w) := by
  refine RunsAtRest.forward (runsAtRest_of_base rfl rfl rfl fun hquiet => ?_)
  rw [accPending_of_quiet hquiet]
  rfl

/-- ACCADD before it forwards source A's token: the sum to the accumulator named and, of a pair, to the next one (R101). -/
def Cell.accAdds (c : Cell) (w : Nat) : Eff :=
  let k := iAcc w
  let x := c.source w (iSrcA w)
  let lo := accSum (immBit w 0) (c.accBits k) (low32 x)
  let hi := accSum (immBit w 0) (c.accBits (k + 1)) (low32 (x / 2 ^ 32))
  let e := Eff.writeAcc { c.base w with
    ready := (c.base w).ready && c.accsWritten k (if immBit w 1 then 2 else 1),
    flags := lo.2 ||| (if immBit w 1 then hi.2 else 0) } k lo.1 false
  if immBit w 1 then e.writeAcc (k + 1) hi.1 false else e

theorem opAccadd_eq : opAccadd env c w = c.forward w (c.accAdds w) := rfl

theorem runsAtRest_opAccadd : RunsAtRest c w (opAccadd env c w) := by
  rw [opAccadd_eq]
  refine RunsAtRest.forward ?_
  unfold Cell.accAdds
  dsimp only
  split
  · exact runsAtRest_of_base rfl rfl rfl fun hquiet => accsWritten_of_quiet hquiet _ _
  · exact runsAtRest_of_base rfl rfl rfl fun hquiet => accsWritten_of_quiet hquiet _ _

theorem opAccadd_head? : (opAccadd env c w).flights.head? = some { acc := some (iAcc w % 8, BitVec.ofNat 32
    (accSum (immBit w 0) (c.accBits (iAcc w)) (low32 (c.source w (iSrcA w)))).1), dot := false } := by
  rw [opAccadd_eq]
  refine forward_head? ?_
  unfold Cell.accAdds
  dsimp only
  split <;> rfl

theorem runsAtRest_opRfwd : RunsAtRest c w (opRfwd env c w) :=
  have ⟨hflight, hsfu⟩ := sameResults_ite (sameResults_clearAccs c (iAcc w) (if immBit w 1 then 2 else 1)) (immBit w 2)
  (runsAtRest_of_base rfl hflight rfl fun hquiet => accsWritten_of_quiet hquiet _ _).emit hsfu _

theorem runsAtRest_opSteer : RunsAtRest c w (opSteer env c w) := ⟨rfl, rfl, (runsAtRest_base c w).ready⟩

theorem runsAtRest_opGate : RunsAtRest c w (opGate env c w) := by
  unfold opGate
  split
  · exact ⟨rfl, rfl, (runsAtRest_base c w).ready⟩
  · exact runsAtRest_base c w

theorem opGate_flights : (opGate env c w).flights =
    if xor (c.pred w) (immBit w 0) then [{ mask := iDest w, tok := c.tokenA w }] else [] := by
  unfold opGate
  split <;> rfl

theorem runsAtRest_opRepl : RunsAtRest c w (opRepl env c w) := runsAtRest_emit rfl ⟨rfl, rfl⟩ rfl

theorem runsAtRest_opCvt : RunsAtRest c w (opCvt env c w) := by
  unfold opCvt
  dsimp only
  split
  · exact runsAtRest_emit rfl ⟨rfl, rfl⟩ rfl
  · split
    · split
      · exact runsAtRest_emit rfl ⟨rfl, rfl⟩ rfl
      · exact ⟨rfl, rfl, (runsAtRest_base c w).ready⟩
    · exact runsAtRest_emit rfl ⟨rfl, rfl⟩ rfl

/-- Between formats of one width CVT sends one token for the one it reads (R112). -/
theorem opCvt_head? (h : perToken (cvtFmt (field (iImm w) 0 4)).1 = perToken (cvtFmt (field (iImm w) 4 4)).1) :
    let from_ := cvtFmt (field (iImm w) 0 4)
    let into := cvtFmt (field (iImm w) 4 4)
    let read := (elems from_.1.width (perToken from_.1) (c.source w (iSrcA w))).map (readElem from_.1)
    let t := mkTok env.epoch (c.lastOf (c.base w)) 0 into.2
      (joinElems into.1.width (convertAll into.1 (immBit w 8) (immBit w 9) c.sr read).1)
    (opCvt env c w).flights.head? = some { mask := iDest w, tok := t, prev := some (t.pay, t.lane) } := by
  unfold opCvt
  dsimp only
  rw [if_pos h]
  rfl

theorem runsAtRest_opMxpack : RunsAtRest c w (opMxpack env c w) := ⟨rfl, rfl, (runsAtRest_base c w).ready⟩

theorem runsAtRest_opMxunpk : RunsAtRest c w (opMxunpk env c w) := by
  have ⟨hflight, hsfu⟩ := sameResults_ite (sameResults_countA c (if (packFmt (field (iImm w) 0 3)).width = 4 then 16 else 8))
    (decide ((c.group + 1) * 2 ≥ if (packFmt (field (iImm w) 0 3)).width = 4 then 16 else 8))
  refine (runsAtRest_of_base rfl hflight rfl fun hquiet => ?_).emit hsfu _
  rw [scalePending_of_quiet hquiet]
  rfl

theorem runsAtRest_opPtcfg : RunsAtRest c w (opPtcfg env c w) := ⟨rfl, rfl, (runsAtRest_base c w).ready⟩

theorem runsAtRest_opPark : RunsAtRest c w (opPark env c w) := ⟨rfl, rfl, (runsAtRest_base c w).ready⟩

theorem runsAtRest_opScale (b : Bool) : RunsAtRest c w (opScale b env c w) :=
  RunsAtRest.forward ⟨rfl, rfl, (runsAtRest_base c w).ready⟩

theorem runsAtRest_opMov : RunsAtRest c w (opMov env c w) := (runsAtRest_base c w).emit rfl _

theorem runsAtRest_opObst : RunsAtRest c w (opObst env c w) := RunsAtRest.forward ⟨rfl, rfl, (runsAtRest_base c w).ready⟩

theorem runsAtRest_opSfu : RunsAtRest c w (opSfu env c w) := by
  refine ⟨rfl, rfl, fun hquiet => ?_⟩
  show ((c.base w).ready && c.sfu.isNone && c.flight.all _) = true
  rw [base_ready_of_quiet hquiet, sfu_of_quiet hquiet, flight_of_quiet hquiet]
  rfl

end

/-! #### Completion -/

section
variable {s : State} {a p lo hi : Nat} {i : Instr} {op : Env → Cell → Nat → Eff}

/-- On a cell at rest whose queues show what it names, such an instruction completes. -/
theorem completes_of_canFire (hrun : exec i s = run (fire a p (ops lo hi) op) s)
    (hop : RunsAtRest (s.cell a p) (s.instr a p) (op (s.env a) (s.cell a p) (s.instr a p)))
    (hrow : ops lo hi 0x9B = false := by decide) (hcan : s.canFire a p lo hi = true) :
    exec i s = .next (s.fired a p (op (s.env a) (s.cell a p) (s.instr a p))) :=
  firesWith_of_run hrun rfl (mayFire_of_canFire hcan (hop.ready (quiet_of_canFire hcan)) hop.need hrow)

/-- On a cell at rest, what an effect sends is all that is in flight after it. -/
theorem fired_flight {e : Eff} (hflight : e.cell.flight = (s.cell a p).flight) (hcan : s.canFire a p lo hi = true) :
    ((s.fired a p e).cell a p).flight = e.flights := by
  rw [fired_cell, afterFiring_flight, hflight, flight_of_quiet (quiet_of_canFire hcan), List.nil_append]

/-- It completes, and what is in flight after it has the property that its effect gives to what it sends. -/
theorem completes_sending {P : List Flight → Prop} (hrun : exec i s = run (fire a p (ops lo hi) op) s)
    (hop : RunsAtRest (s.cell a p) (s.instr a p) (op (s.env a) (s.cell a p) (s.instr a p)))
    (hsends : P (op (s.env a) (s.cell a p) (s.instr a p)).flights) (hrow : ops lo hi 0x9B = false := by decide)
    (hcan : s.canFire a p lo hi = true) :
    ∃ t, exec i s = .next t ∧ t = s.fired a p (op (s.env a) (s.cell a p) (s.instr a p)) ∧ P (t.cell a p).flight :=
  ⟨_, completes_of_canFire hrun hop hrow hcan, rfl, (fired_flight hop.flight hcan).symm ▸ hsends⟩

end

/-! #### MERGE, CMERGE and BAR -/

theorem quiet_of_rests {s : State} {a p lo hi : Nat} (h : s.rests a p lo hi = true) : (s.cell a p).Quiet := by
  simp only [State.rests, Bool.and_eq_true, List.isEmpty_iff, Option.isNone_iff_eq_none, List.all_eq_true, List.mem_range,
    beq_iff_eq] at h
  obtain ⟨⟨⟨-, hflight⟩, hsfu⟩, houts⟩ := h
  exact ⟨hflight, hsfu, houts⟩

/-- The array of a cell at rest issues, the cell is not parked, and its opcode lies in the row named. -/
theorem issues_of_rests {s : State} {a p lo hi : Nat} (h : s.rests a p lo hi = true) :
    (s.array a).issues = true ∧ (s.cell a p).parked = false ∧ lo ≤ iOp (s.instr a p) ∧ iOp (s.instr a p) ≤ hi := by
  simp only [State.rests, Bool.and_eq_true, Bool.not_eq_true', decide_eq_true_eq] at h
  obtain ⟨⟨⟨⟨⟨⟨hissues, hparked⟩, hlo⟩, hhi⟩, -⟩, -⟩, -⟩ := h
  exact ⟨hissues, hparked, hlo, hhi⟩

/-- On a cell at rest with no barrier token in its way, an effect whose queues all hold a token may take place (R89, R94). -/
theorem mayFire_of_rests {s : State} {a p lo hi : Nat} {e : Eff} (h : s.rests a p lo hi = true) (hready : e.ready = true)
    (hbarrier : (s.cell a p).noBarrier (s.array a).epoch (s.instr a p) = true)
    (hneed : ∀ d ∈ e.need, ((s.cell a p).head (s.array a).epoch d).isSome = true) : s.mayFire a p lo hi e = true := by
  obtain ⟨hissues, hparked, hlo, hhi⟩ := issues_of_rests h
  simp only [State.mayFire, hissues, hparked, hlo, hhi, hready, hbarrier, outsFree_of_quiet (quiet_of_rests h),
    List.all_eq_true.mpr hneed, decide_true, Bool.not_false, Bool.and_true]

theorem head_isSome_of_shows {s : State} {a p d : Nat} (h : s.shows a p d = true) :
    ((s.cell a p).head (s.array a).epoch d).isSome = true := by
  obtain ⟨t, ht, -⟩ := head_of_shows h
  rw [ht]
  rfl

/-- With a token in either queue, MERGE is ready, and the queue that it takes from holds one (R107). -/
theorem opMerge_of_head {env : Env} {c : Cell} {w : Nat}
    (h : (c.head env.epoch (iSrcA w)).isSome = true ∨ (c.head env.epoch (iSrcB w)).isSome = true) :
    (opMerge env c w).ready = true ∧ ∀ d ∈ (opMerge env c w).need, (c.head env.epoch d).isSome = true := by
  simp only [opMerge, Eff.emitOnly, List.mem_singleton, forall_eq, Bool.or_eq_true]
  refine ⟨h, ?_⟩
  split
  next htake => exact (Bool.and_eq_true_iff.mp htake).1
  next hleave =>
    by_cases hB : (c.head env.epoch (iSrcB w)).isSome = true
    · exact hB
    · exact absurd (by simp [h.resolve_right hB, hB]) hleave

/-- A queue that shows a token shows no barrier token (R94). -/
theorem noBarrier_of_shows {s : State} {a p : Nat}
    (h : ∀ d ∈ (s.cell a p).examined (s.array a).epoch (s.instr a p), s.shows a p d = true) :
    (s.cell a p).noBarrier (s.array a).epoch (s.instr a p) = true := by
  rw [Cell.noBarrier, List.all_eq_true]
  intro d hd
  obtain ⟨t, ht, hkind⟩ := head_of_shows (h d hd)
  rw [ht]
  exact hkind

/-- A CMERGE examines no other queue than the one selected and, where it is one, its predicate's (R108). -/
theorem mem_examined_cmerge {c : Cell} {epoch w d : Nat} (hop : iOp w = 0x9B) (h : d ∈ c.examined epoch w) :
    d = c.selected w ∨ (d = iSrcC w ∧ isQueue (iSrcC w) = true) := by
  rw [Cell.examined, if_pos hop, List.mem_append, List.mem_filter, List.mem_singleton] at h
  obtain ⟨rfl, hqueue⟩ | hsel := h
  · exact .inr ⟨rfl, hqueue⟩
  · split at hsel
    · exact .inl (List.mem_singleton.mp hsel)
    · cases hsel

theorem mem_need_opCmerge {env : Env} {c : Cell} {w d : Nat} (h : d ∈ (opCmerge env c w).need) :
    d = c.selected w ∨ (d = iSrcC w ∧ isQueue (iSrcC w) = true) := by
  obtain hsel | hpred := List.mem_cons.mp (show d ∈ c.selected w :: (if isQueue (iSrcC w) then [iSrcC w] else []) from h)
  · exact .inl hsel
  · split at hpred
    next hqueue => exact .inr ⟨List.mem_singleton.mp hpred, hqueue⟩
    next => cases hpred

section
variable {s : State} {a p : Nat}

theorem merge_completes (h : s.rests a p 0x9A 0x9A = true)
    (hshows : s.shows a p (iSrcA (s.instr a p)) = true ∨ s.shows a p (iSrcB (s.instr a p)) = true)
    (hbarrier : (s.cell a p).noBarrier (s.array a).epoch (s.instr a p) = true) :
    exec (.merge a p) s = .next (s.fired a p (opMerge (s.env a) (s.cell a p) (s.instr a p))) := by
  obtain ⟨hready, hneed⟩ := opMerge_of_head (env := s.env a) (hshows.imp head_isSome_of_shows head_isSome_of_shows)
  exact firesWith_of_run (op := opMerge) rfl rfl (mayFire_of_rests h hready hbarrier hneed)

theorem cmerge_completes (h : s.rests a p 0x9B 0x9B = true)
    (hpred : isQueue (iSrcC (s.instr a p)) = true → s.shows a p (iSrcC (s.instr a p)) = true)
    (hsel : s.shows a p ((s.cell a p).selected (s.instr a p)) = true) :
    exec (.cmerge a p) s = .next (s.fired a p (opCmerge (s.env a) (s.cell a p) (s.instr a p))) := by
  obtain ⟨-, -, hlo, hhi⟩ := issues_of_rests h
  have hshows : ∀ d, d = (s.cell a p).selected (s.instr a p) ∨
      (d = iSrcC (s.instr a p) ∧ isQueue (iSrcC (s.instr a p)) = true) → s.shows a p d = true := by
    rintro d (rfl | ⟨rfl, hqueue⟩)
    · exact hsel
    · exact hpred hqueue
  refine firesWith_of_run (op := opCmerge) rfl rfl (mayFire_of_rests h (srcWritten_of_quiet (quiet_of_rests h) _ _)
    (noBarrier_of_shows fun d hd => ?_) fun d hd => ?_)
  · exact hshows d (mem_examined_cmerge (Nat.le_antisymm hhi hlo) hd)
  · exact head_isSome_of_shows (hshows d (mem_need_opCmerge hd))

/-- The cell after its BAR has fired, with the results `fs` in flight (R118). -/
def Cell.afterBar (c : Cell) (w : Nat) (fs : List Flight) : Cell :=
  ({ c.dequeue (named w) with flight := fs } : Cell).sequence w false

/-- The barrier token that a BAR sends on (R118). -/
def barFlight (epoch w : Nat) : Flight := { mask := iDest w, tok := mkTok epoch false 3 0 (iImm w) }

/-- Queue d shows a barrier token with the ID of the cell's BAR (R118). -/
def State.ShowsBarrier (s : State) (a p d : Nat) : Prop :=
  ∃ t, (s.cell a p).head (s.array a).epoch d = some t ∧ t.kind = 3 ∧ field t.pay.toNat 0 12 = iImm (s.instr a p)

/-- A BAR fires, or faults, or leaves the array as it is (R94, R118). -/
theorem execBar_eq (s : State) (a p : Nat) : exec (.bar a p) s = .next (s.commit
    (if (s.array a).issues && !(s.cell a p).parked && iOp (s.instr a p) == 0x01 then
      (opBar (s.env a) (s.cell a p) (s.instr a p)).elim
        (if barWrong (s.env a) (s.cell a p) (s.instr a p) then s.work.barFault a p else s.work)
        (fun c' => s.work.modArr a (Arr.noteFired p c'))
    else s.work)) := by
  have hrun : exec (.bar a p) s = .next (s.commit
      (if (s.array a).issues && !(s.cell a p).parked && iOp (s.instr a p) == 0x01 then
        match opBar (s.env a) (s.cell a p) (s.instr a p) with
        | some c' => s.work.modArr a (Arr.noteFired p c')
        | none => if barWrong (s.env a) (s.cell a p) (s.instr a p) then s.work.barFault a p else s.work
      else s.work)) := rfl
  rw [hrun]
  cases opBar (s.env a) (s.cell a p) (s.instr a p) <;> rfl

/-- BAR fires where the tokens that it waits for carry its ID and its outputs are free (R118). -/
theorem bar_fires (hissues : (s.array a).issues = true) (hparked : (s.cell a p).parked = false) (hop : iOp (s.instr a p) = 1)
    (hready : barReady (s.env a) (s.cell a p) (s.instr a p) = true) (hids : barIds (s.env a) (s.cell a p) (s.instr a p) = true)
    (houts : (s.cell a p).outsFree (iDest (s.instr a p)) = true) :
    exec (.bar a p) s = .next (s.withFired a p ((s.cell a p).afterBar (s.instr a p)
      (((s.cell a p).dequeue (named (s.instr a p))).flight ++ [barFlight (s.array a).epoch (s.instr a p)]))) := by
  have hgo : ((s.array a).issues && !(s.cell a p).parked && iOp (s.instr a p) == 0x01) = true := by
    rw [hissues, hparked, hop]
    rfl
  have hbar : (barReady (s.env a) (s.cell a p) (s.instr a p) && barIds (s.env a) (s.cell a p) (s.instr a p) &&
      (s.cell a p).outsFree (iDest (s.instr a p))) = true := by
    rw [hready, hids, houts]
    rfl
  rw [execBar_eq, if_pos hgo, opBar, if_pos hbar]
  rfl

/-- A cell at rest with a barrier token of its BAR's ID in every queue named may fire it (R118). -/
theorem barReady_of_rests (h : s.rests a p 1 1 = true) (hheads : ∀ d ∈ named (s.instr a p), s.ShowsBarrier a p d) :
    barReady (s.env a) (s.cell a p) (s.instr a p) = true ∧ barIds (s.env a) (s.cell a p) (s.instr a p) = true := by
  obtain ⟨hflight, hsfu, houts⟩ := quiet_of_rests h
  have hclear : (List.range 4).all (fun d => (s.cell a p).outBound d || (s.cell a p).out d == none) = true := by
    rw [List.all_eq_true]
    intro d hd
    rw [houts d (List.mem_range.mp hd)]
    exact Bool.or_true _
  refine ⟨?_, ?_⟩
  · rw [barReady, hflight, hsfu, hclear, List.isEmpty_nil, Option.isNone_none, Bool.true_and, Bool.true_and,
      Bool.true_and, List.all_eq_true]
    intro d hd
    obtain ⟨t, ht, hkind, -⟩ := hheads d hd
    show (match (s.cell a p).head (s.array a).epoch d with | some t => t.kind == 3 | none => false) = true
    rw [ht]
    exact beq_iff_eq.mpr hkind
  · rw [barIds, List.all_eq_true]
    intro d hd
    obtain ⟨t, ht, -, hid⟩ := hheads d hd
    show (match (s.cell a p).head (s.array a).epoch d with | some t => field t.pay.toNat 0 12 == iImm _ | none => true) = true
    rw [ht]
    exact beq_iff_eq.mpr hid

theorem bar_completes (h : s.rests a p 1 1 = true) (hheads : ∀ d ∈ named (s.instr a p), s.ShowsBarrier a p d) :
    exec (.bar a p) s = .next (s.withFired a p
      ((s.cell a p).afterBar (s.instr a p) [barFlight (s.array a).epoch (s.instr a p)])) := by
  obtain ⟨hissues, hparked, hlo, hhi⟩ := issues_of_rests h
  obtain ⟨hready, hids⟩ := barReady_of_rests h hheads
  have hquiet := quiet_of_rests h
  rw [bar_fires hissues hparked (Nat.le_antisymm hhi hlo) hready hids (outsFree_of_quiet hquiet _), dequeue_flight,
    flight_of_quiet hquiet, List.nil_append]

end

/-- Settles O11: each instruction fires by the common rule, BAR by its own, and on a cell at rest nothing holds it back. -/
theorem cellTokenInstructions : Obligations.CellTokenInstructions := by
  refine ⟨fun s a p => ?_, fun s a p => ?_, fun s a p => ?_, fun s a p => ?_⟩
  · exact ⟨firesWith_of_run rfl rfl, firesWith_of_run rfl rfl, firesWith_of_run rfl rfl, firesWith_of_run rfl rfl,
      firesWith_of_run rfl rfl, firesWith_of_run rfl rfl, firesWith_of_run rfl rfl, firesWith_of_run rfl rfl⟩
  · exact ⟨firesWith_of_run rfl rfl, firesWith_of_run rfl rfl, firesWith_of_run rfl rfl, firesWith_of_run rfl rfl,
      firesWith_of_run rfl rfl⟩
  · exact ⟨firesWith_of_run (op := opNop) rfl rfl, firesWith_of_run rfl rfl, firesWith_of_run (op := opPark) rfl rfl,
      firesWith_of_run rfl rfl, firesWith_of_run rfl rfl, firesWith_of_run rfl rfl, firesWith_of_run rfl rfl,
      firesWith_of_run rfl rfl, bar_fires⟩
  · intro c w e x k ep both sends adds drained held lane from_ into read pf packed per sc pair closing
    refine ⟨?_, ?_, ?_, ?_, ?_, ?_, ?_, ?_, ?_, ?_, ?_, ?_, ?_, ?_, ?_, ?_, ?_, ?_, ?_,
      merge_completes, cmerge_completes, bar_completes⟩
    · exact completes_sending (P := fun l => l.head? = _) rfl (runsAtRest_opDrain ..) rfl
    · exact completes_sending (P := fun l => l.head? = _) rfl (runsAtRest_opDraincv ..) rfl
    · exact completes_sending (P := fun l => l.head? = _) rfl (runsAtRest_opAccld ..) (forward_head? rfl)
    · exact completes_sending (P := fun l => l.head? = _) rfl (runsAtRest_opAccadd ..) (opAccadd_head? ..)
    · exact completes_sending (P := fun l => l.head? = _) rfl (runsAtRest_opRfwd ..) rfl
    · exact completes_sending (P := fun l => l = _) rfl (runsAtRest_opSteer ..) rfl
    · exact completes_sending (P := fun l => l = _) rfl (runsAtRest_opGate ..) (opGate_flights ..)
    · exact completes_sending (P := fun l => l.head? = _) rfl (runsAtRest_opRepl ..) rfl
    · exact completes_sending (P := fun l => _ → l.head? = _) rfl (runsAtRest_opCvt ..) (opCvt_head? _ _ _)
    · exact completes_sending (P := fun l => l = _) rfl (runsAtRest_opMxpack ..) rfl
    · exact completes_sending (P := fun l => l.head? = _) rfl (runsAtRest_opMxunpk ..) rfl
    · exact completes_of_canFire rfl (runsAtRest_base ..)
    · exact completes_of_canFire rfl (runsAtRest_opPtcfg ..)
    · exact completes_of_canFire rfl (runsAtRest_opPark ..)
    · exact completes_of_canFire rfl (runsAtRest_opScale ..)
    · exact completes_of_canFire rfl (runsAtRest_opScale ..)
    · exact completes_of_canFire rfl (runsAtRest_opMov ..)
    · exact completes_of_canFire rfl (runsAtRest_opObst ..)
    · exact completes_of_canFire rfl (runsAtRest_opSfu ..)

end Sys2Proof.Machine
end

section
/-! ### Parked cells -/

namespace Sys2Proof.Machine

theorem fire_of_parked {s : State} {a p : Nat} (h : (s.cell a p).parked = true) (row : Nat → Bool)
    (op : Env → Cell → Nat → Eff) : run (fire a p row op) s = .next s := by
  obtain hsame | ⟨hfree, -⟩ := fire_cases s a p row op
  · exact run_commit hsame
  · rw [h] at hfree
    cases hfree

theorem bar_of_parked {s : State} {a p : Nat} (h : (s.cell a p).parked = true) : exec (.bar a p) s = .next s := by
  have hstay : ((s.array a).issues && !(s.cell a p).parked && iOp (s.instr a p) == 0x01) ≠ true := by
    rw [h, Bool.not_true, Bool.and_false, Bool.false_and]
    exact Bool.false_ne_true
  rw [execBar_eq, if_neg hstay]
  rfl

/-- PARK parks its cell, and takes nothing from the queues that it does not consume (R120). -/
theorem park_parks {s : State} {a p : Nat} (h : s.mayFire a p 3 3 (opPark (s.env a) (s.cell a p) (s.instr a p)) = true) :
    ∃ u, exec (.park a p) s = .next u ∧ (u.cell a p).parked = true ∧ (u.cell a p).paths = (s.cell a p).paths ∧
      ∀ d, d ∉ ((s.cell a p).consumed (s.instr a p)).1 → (u.cell a p).queue d = (s.cell a p).queue d := by
  refine ⟨_, firesWith_of_run (op := opPark) rfl rfl h, ?_⟩
  rw [fired_cell]
  exact afterFiring_keeps _ _

/-- The cell with its queue d's head `t` in the output register of the path of direction d (R45). -/
def Cell.passedAlong (d : Nat) (t : Token) (c : Cell) : Cell :=
  (c.setQueue d (c.queue d).tail).setOut (field (c.pathByte d) 0 2) (some t)

theorem passedAlong_out (d : Nat) (t : Token) (c : Cell) : (c.passedAlong d t).out (field (c.pathByte d) 0 2) = some t :=
  tget_tput_same _ _ _ _

/-- The array in which that has happened to cell p, and which notes that a token has moved. -/
def Arr.passedAlong (p d : Nat) (t : Token) (x : Arr) : Arr := { x.modCell p (Cell.passedAlong d t) with moved := true }

theorem passedAlong_cell (p d : Nat) (t : Token) (x : Arr) : (x.passedAlong p d t).cell p = (x.cell p).passedAlong d t :=
  cellAt rfl

theorem passThrough_of_open {w : Work} {a p d : Nat} {t : Token} (hhead : ((w.arr a).cell p).head (w.arr a).epoch d = some t)
    (hgo : ((w.arr a).moving && bit (((w.arr a).cell p).pathByte d) 7 && bit (((w.arr a).cell p).pathByte d) 6 &&
      ((w.arr a).cell p).out (field (((w.arr a).cell p).pathByte d) 0 2) == none) = true) :
    passThrough a p d w = w.modArr a (Arr.passedAlong p d t) := by
  simp only [passThrough, hhead]
  exact if_pos hgo

/-- The head of a queue goes along its open path into the path's free output register, whether the cell is parked or not (R45). -/
theorem passThroughMove_moves {s : State} {a p d : Nat} {t : Token} (hhead : (s.cell a p).head (s.array a).epoch d = some t)
    (hmoving : (s.array a).moving = true) (hpath : bit ((s.cell a p).pathByte d) 7 = true)
    (hopen : bit ((s.cell a p).pathByte d) 6 = true) (hfree : (s.cell a p).out (field ((s.cell a p).pathByte d) 0 2) = none) :
    ∃ u, exec (.passThroughMove a p d) s = .next u ∧ (u.cell a p).out (field ((s.cell a p).pathByte d) 0 2) = some t := by
  have hgo : ((s.array a).moving && bit ((s.cell a p).pathByte d) 7 && bit ((s.cell a p).pathByte d) 6 &&
      (s.cell a p).out (field ((s.cell a p).pathByte d) 0 2) == none) = true := by
    rw [hmoving, hpath, hopen, hfree]
    rfl
  refine ⟨_, run_commit (passThrough_of_open hhead hgo), ?_⟩
  have hcell : (s.commit (s.work.modArr a (Arr.passedAlong p d t))).cell a p = (s.cell a p).passedAlong d t :=
    (congrArg (·.cell p) (array_commit_modArr s s.work a _)).trans (passedAlong_cell p d t _)
  rw [hcell]
  exact passedAlong_out d t _

/-- Settles O14: a firing needs a cell that is not parked, PARK's effect is the parked cell, and a path asks for neither. -/
theorem parkedCellsNeverFire : Obligations.ParkedCellsNeverFire := by
  refine fun s a p => ⟨fun hparked c hc => ?_, park_parks, fun d t _ => passThroughMove_moves⟩
  obtain rfl | ⟨row, op, hrun⟩ := exec_of_mem_cellInstrs hc
  · exact bar_of_parked hparked
  · exact (hrun s).trans (fire_of_parked hparked row op)

end Sys2Proof.Machine
end

section
/-! ### Images registered, arrays loaded -/

namespace Sys2Proof.Machine

/-! #### The registry (R134, R135) -/

theorem hutchAccess_registry (w : Work) (b o : Nat) (x y : Bool) : (w.hutchAccess b o x y).registry = w.registry := by
  unfold Work.hutchAccess
  dsimp only
  split
  · rfl
  · split
    · rfl
    · split
      · rfl
      · split
        · rfl
        · split
          · split <;> rfl
          · rfl

theorem hutchAccesses_registry (w : Work) (a n : Nat) (x y : Bool) : (w.hutchAccesses a n x y).registry = w.registry := by
  unfold Work.hutchAccesses
  split
  · exact foldl_keeps (fun v : Work => v.registry) _ (fun w l => hutchAccess_registry w _ _ _ _) _ _
  · rfl

/-- An image whose header, checksum and checks are good is entered, and RegisterStatus reads 0 (R134, R466). -/
theorem registerImage_of_good {w : Work} {base : Nat} {h : Header} (hbase : w.reg 0x2800 3 = base)
    (hheader : headerOf (w.read base 256) = h) (hread : w.imageStatus base 256 = none) (hok : headerOk (w.read base 256) = true)
    (hreadAll : w.imageStatus base h.length = none)
    (hcheck : checkImage (w.loadBytes base h.length false).1 (w.registry.any (fun e => e.id == h.id))
      (decide (4096 ≤ w.registry.length)) = none) :
    registerImage w = (({ (w.loadBytes base h.length false).2 with
      registry := (w.loadBytes base h.length false).2.registry ++
        [⟨h.id, h.graph, base, h.length, h.epoch, h.templates, h.channels, 0⟩] } : Work).setReg 0x2800 5 0).accept := by
  have hkept : (w.loadBytes base h.length false).2.registry = w.registry := hutchAccesses_registry _ _ _ _ _
  simp only [registerImage, hbase, hread, hheader, hok, hreadAll, hkept, hcheck]
  rfl

theorem unregisterImage_of_mem {w : Work} {id : Nat} (h : ∃ e ∈ w.registry, e.id = id) : unregisterImage id w =
    (({ w with registry := w.registry.filter (fun e => e.id != id) } : Work).setReg 0x2800 5 0).accept := by
  have hany : w.registry.any (fun e => e.id == id) = true := by simpa using h
  exact if_pos hany

/-! #### The request for a load (R135) -/

section
variable {w : Work} {id d k : Nat}

/-- An array that is idle and present takes the request while no load runs; its LastStatus reads 0xFF meanwhile. -/
theorem loadArray_of_no_load {force : Bool} (hjob : w.jobRuns = false) (hd : d < w.cols * 16) (hk : k < 16)
    (hpresent : w.arrPresent (arrOf d k) = true) (htask : (w.arr (arrOf d k)).task = none)
    (himage : (w.registry.any fun e => e.id == id) = true) (hfree : ∀ e ∈ w.arrays, e.2.load = .none ∧ e.2.st ≠ .opening) :
    loadArray id d k force w = (w.modArr (arrOf d k) (fun x => { x with
      load := .asked, loadImage := id, loadForced := force, lastStatus := 0xFF })).accept := by
  have hrange : ¬(w.cols * 16 ≤ d ∨ 16 ≤ k) := by omega
  have hnone : w.arrays.any (fun e => e.2.load != .none || e.2.st == .opening) = false := by
    rw [List.any_eq_false]
    intro e he
    obtain ⟨hload, hst⟩ := hfree e he
    simp [hload, hst]
  simp [loadArray, hjob, hrange, hnone, hpresent, htask, himage]

theorem loadArray_of_load {force : Bool} (hjob : w.jobRuns = false) (hd : d < w.cols * 16) (hk : k < 16)
    (hbusy : ∃ e ∈ w.arrays, e.2.load ≠ .none ∨ e.2.st = .opening) : loadArray id d k force w = w.refuse 0x76 := by
  have hrange : ¬(w.cols * 16 ≤ d ∨ 16 ≤ k) := by omega
  have hany : w.arrays.any (fun e => e.2.load != .none || e.2.st == .opening) = true := by simpa using hbusy
  rw [loadArray, hjob, if_neg Bool.false_ne_true, if_neg hrange, if_pos hany]

end

/-! #### The steps of a load (R137, R140) -/

section
variable {w : Work} {a : Nat} {e : Image}

/-- A load whose image and peers are good begins: the contents of a forced one are discarded, an EMPTY array closes its channels,
any other is drained (R137, R142). -/
theorem arrayLoad_begins (hload : (w.arr a).load = .asked) (hpresent : w.arrPresent a = true)
    (himage : w.registry.find? (fun e => e.id == (w.arr a).loadImage) = some e) (hepoch : e.epoch ≠ (w.arr a).epoch)
    (hpeers : (w.registeredChans e).any w.peerAbsent = false) :
    arrayLoad a w = if (w.arr a).loadForced then (w.modArr a Arr.discard).beginClose a true
      else if (w.arr a).st = .empty then w.beginClose a false
      else (w.modArr a (fun x => { x with load := .draining })).beginDrain a := by
  simp [arrayLoad, hload, hpresent, himage, hepoch, hpeers]

theorem closeWaitTimeout_of_closing {t : Nat} (h : (w.arr a).load = .closing t) :
    closeWaitTimeout a w = (w.reachOn (a / 16) (t + 100000)).beginWrite a := by
  rw [closeWaitTimeout, h]

/-- The array once its image is committed, with channels to open (R137 step 5). -/
def Work.beginOpening (w : Work) (a before : Nat) : Work :=
  w.modArr a (fun y => { y with st := .opening, lastStatus := if before = 0xFF then 0xFF else 0 })

/-- OPEN sent on every send record, and the OPENs that waited answered (R153, R154). -/
def Work.sendOpens (w : Work) (a : Nat) : Work :=
  (((w.arr a).chans.filter (fun c => !chDir c.2.record)).foldl (fun w c => w.sendOpen a c.1) w).answerHeld a

/-- The work after a committed image: an array without channels is READY, another opens them (R137). -/
def Work.afterCommit (w : Work) (a before : Nat) : Work :=
  if (w.arr a).chans.isEmpty then w.answerHeld a else (w.beginOpening a before).sendOpens a

/-- With an image that can be read, its CRC decides between the commit and an array of parked cells (R137, R140). -/
theorem loadWriteComplete_of_read {got : Work} {bs : List Byte} (hload : (w.arr a).load = .writing)
    (himage : w.registry.find? (fun e => e.id == (w.arr a).loadImage) = some e)
    (hread : w.imageStatus e.address e.length = none) (hbytes : w.loadBytes e.address e.length false = (bs, got)) :
    loadWriteComplete a w =
      if imageCrc bs ≠ (headerOf (bs.take 256)).crc then got.loadRefused a 0x03 (some (headerOf (bs.take 256)).epoch)
      else (got.commitImage a e bs).afterCommit a (w.arr a).lastStatus := by
  simp only [loadWriteComplete, hload, himage, hread, hbytes, ne_eq, not_true_eq_false, if_false]
  rfl

end

/-- Settles O15: each command of a load has its own lemma; the CRC and the channels of the image decide how the load ends. -/
theorem imagesAndArraysLoad : Obligations.ImagesAndArraysLoad := by
  refine ⟨fun s => ⟨fun hread hok hreadAll hcheck => ?_, fun id h => ?_⟩,
    fun s a => ⟨fun id d k force hjob hd hk hpresent htask himage => ⟨fun hfree => ?_, fun hbusy => ?_⟩,
      fun e hload hpresent himage hepoch hpeers => ?_, fun t h => ?_,
      fun e hload himage hread => ⟨fun hcrc => ?_, fun hcrc hnone => ?_, fun hcrc hsome => ?_⟩⟩⟩
  · exact run_commit (f := registerImage) (registerImage_of_good rfl rfl hread hok hreadAll hcheck)
  · exact run_commit (f := unregisterImage id) (unregisterImage_of_mem h)
  · exact run_commit (f := loadArray id d k force) (loadArray_of_no_load hjob hd hk hpresent htask himage hfree)
  · exact run_commit (f := loadArray id d k force) (loadArray_of_load hjob hd hk hbusy)
  · exact run_commit (f := arrayLoad a) (arrayLoad_begins hload hpresent himage hepoch hpeers)
  · exact run_commit (f := closeWaitTimeout a) (closeWaitTimeout_of_closing h)
  · refine run_commit (f := loadWriteComplete a) ?_
    rw [loadWriteComplete_of_read hload himage hread rfl, if_pos hcrc]
  · refine run_commit (f := loadWriteComplete a) ?_
    rw [loadWriteComplete_of_read hload himage hread rfl, if_neg (not_not_intro hcrc), Work.afterCommit, hnone]
    rfl
  · refine run_commit (f := loadWriteComplete a) ?_
    rw [loadWriteComplete_of_read hload himage hread rfl, if_neg (not_not_intro hcrc), Work.afterCommit,
      if_neg (fun h => hsome (List.isEmpty_iff.mp h))]
    rfl

end Sys2Proof.Machine
end

section
/-! ### Refused images and epochs -/

namespace Sys2Proof.Machine

/-! #### An image with a wrong CRC (R140) -/

/-- A cell after a refused image: its program a single PARK, its generator and the tokens of its queues kept (R140). -/
def Work.parkedCell (w : Work) (a p : Nat) : Cell :=
  { prog := [(0, parkWord)], sr := w.generator a p, queues := (w.cell a p).queues }

/-- The array after a refused image: EMPTY, with the cells given and the task that asked for the load at fault (R140). -/
def Arr.withoutImage (status : Nat) (epoch : Option Nat) (cells : List (Nat × Cell)) (x : Arr) : Arr :=
  { x.withFault { status := status } with
    load := .none, lastStatus := status, st := .empty, imageId := 0, graphId := 0
    epoch := epoch.getD (x.withFault { status := status }).epoch, cells := cells, ports := [], templates := [], chans := []
    inBuf := [], runs := [] }

theorem loadRefused_eq_modArr (w : Work) (a status : Nat) (epoch : Option Nat) : w.loadRefused a status epoch =
    w.modArr a (Arr.withoutImage status epoch ((List.range 256).map (fun p => (p, w.parkedCell a p)))) := by
  show ((w.modArr a (Arr.withFault _)).modArr a _).modArr a _ = _
  rw [modArr_modArr, modArr_modArr]
  rfl

theorem withFault_task {x : Arr} {t : Active} (htask : x.task = some t) (hfault : t.fault = none) (f : Cause) :
    (x.withFault f).task = some { t with fault := some f } := by
  simp [Arr.withFault, htask, hfault]

/-- A parked cell's next instruction is the PARK. -/
theorem parkedCell_instr (w : Work) (a p : Nat) : (w.parkedCell a p).instr = 0x03FFF00000000000 := rfl

theorem loadRefused_cell (w : Work) (a status : Nat) (epoch : Option Nat) {p : Nat} (h : p < 256) :
    (w.loadRefused a status epoch).cell a p = w.parkedCell a p := by
  rw [loadRefused_eq_modArr, Work.cell, arr_modArr]
  exact tget_map _ _ _ _ (List.mem_range.mpr h)

theorem hutchAccesses_arr (w : Work) (a n : Nat) (x y : Bool) (b : Nat) :
    (w.hutchAccesses a n x y).arr b = w.arr b := by
  rw [Work.arr, hutchAccesses_arrays, Work.arr]

/-- Settles O16: the work of a refused image sets each of these fields of the array. -/
theorem refusedImagesNeverIssue : Obligations.RefusedImagesNeverIssue := by
  intro s a e w h hload himage hread hcrc
  have hrun : loadWriteComplete a w =
      (w.hutchAccesses (w.localAddr e.address) e.length false false).loadRefused a 0x03 (some h.epoch) := by
    rw [loadWriteComplete_of_read hload himage hread rfl, if_pos hcrc]
  refine ⟨_, run_commit (f := loadWriteComplete a) hrun, fun p hp => ?_, ?_⟩
  · have hcell := loadRefused_cell (w.hutchAccesses (w.localAddr e.address) e.length false false) a 0x03 (some h.epoch) hp
    exact ⟨congrArg Cell.prog hcell, (congrArg Cell.instr hcell).trans (parkedCell_instr _ a p)⟩
  · rw [loadRefused_eq_modArr, array_commit_modArr, hutchAccesses_arr]
    exact ⟨rfl, rfl, rfl, rfl, fun t htask hfault => withFault_task htask hfault _⟩

/-! #### Epochs (R138) -/

theorem arrayLoad_of_own_epoch {w : Work} {a : Nat} {e : Image} (hload : (w.arr a).load = .asked)
    (hpresent : w.arrPresent a = true) (himage : w.registry.find? (fun e => e.id == (w.arr a).loadImage) = some e)
    (hepoch : e.epoch = (w.arr a).epoch) : arrayLoad a w = w.loadFails a 0x05 := by
  simp [arrayLoad, hload, hpresent, himage, hepoch]

theorem settleOpen_epoch (x : Arr) : x.settleOpen.epoch = x.epoch := by
  unfold Arr.settleOpen
  split <;> rfl

theorem sendOpen_epoch (w : Work) (a c : Nat) : ((w.sendOpen a c).arr a).epoch = (w.arr a).epoch := by
  rw [Work.sendOpen, arr_modArr]
  rfl

theorem answerOpen_epoch (w : Work) (a : Nat) (p : Packet) : ((w.answerOpen a p).arr a).epoch = (w.arr a).epoch := by
  unfold Work.answerOpen
  dsimp only
  split
  · rfl
  · split
    · rw [arr_modArr, settleOpen_epoch]
      rfl
    · rfl

theorem answerHeld_epoch (w : Work) (a : Nat) : ((w.answerHeld a).arr a).epoch = (w.arr a).epoch := by
  unfold Work.answerHeld
  split
  · rw [foldl_keeps (fun v : Work => (v.arr a).epoch) _ (fun v p => answerOpen_epoch v a p), arr_modArr]
  · rfl

theorem foldl_sendOpen_epoch (a : Nat) (l : List (Nat × ChanEnd)) (w : Work) :
    ((l.foldl (fun w c => w.sendOpen a c.1) w).arr a).epoch = (w.arr a).epoch := by
  induction l generalizing w with
  | nil => rfl
  | cons c l ih => rw [List.foldl_cons, ih, sendOpen_epoch]

theorem sendOpens_epoch (w : Work) (a : Nat) : ((w.sendOpens a).arr a).epoch = (w.arr a).epoch := by
  rw [Work.sendOpens, answerHeld_epoch, foldl_sendOpen_epoch]

theorem commitImage_epoch (w : Work) (a : Nat) (e : Image) (bs : List Byte) :
    ((w.commitImage a e bs).arr a).epoch = (headerOf (bs.take 256)).epoch := by
  unfold Work.commitImage
  dsimp only
  rw [arr_modArr]

/-- Opening the channels of a committed image leaves the array the image's epoch. -/
theorem afterCommit_epoch (w : Work) (a before : Nat) : ((w.afterCommit a before).arr a).epoch = (w.arr a).epoch := by
  unfold Work.afterCommit
  split
  · exact answerHeld_epoch w a
  · rw [sendOpens_epoch, Work.beginOpening, arr_modArr]

/-- The array without the head of queue d of cell p, which it counts as stale (R79). -/
def Arr.staleRemoved (p d : Nat) (rest : List Token) (x : Arr) : Arr :=
  { x.modCell p (fun c => c.setQueue d rest) with stale := satAdd 16 x.stale 1 }

theorem staleRemoval_of_other_epoch {w : Work} {a p d : Nat} {t : Token} {rest : List Token}
    (hqueue : ((w.arr a).cell p).queue d = t :: rest) (hepoch : t.epoch ≠ (w.arr a).epoch) :
    staleRemoval a p d w = w.modArr a (Arr.staleRemoved p d rest) := by
  simp only [staleRemoval, hqueue]
  exact if_pos hepoch

theorem queue_setQueue (c : Cell) (d : Nat) (q : List Token) : (c.setQueue d q).queue d = q := tget_tput_same _ _ _ _

theorem staleRemoved_queue (p d : Nat) (rest : List Token) (x : Arr) : ((x.staleRemoved p d rest).cell p).queue d = rest :=
  (congrArg (·.queue d) (cellAt rfl)).trans (queue_setQueue (x.cell p) d rest)

/-- Settles O17: the own epoch ends the load, the commit writes the header's epoch and what follows keeps it, and a stale head
goes with a saturating count. -/
theorem epochsMustDiffer : Obligations.EpochsMustDiffer := by
  refine fun s a e => ⟨fun hload hpresent himage hepoch => ?_, fun hload himage hread hcrc => ?_,
    fun p d t rest hqueue hepoch => ?_⟩
  · exact run_commit (f := arrayLoad a) (arrayLoad_of_own_epoch hload hpresent himage hepoch)
  · refine ⟨_, run_commit (f := loadWriteComplete a)
      ((loadWriteComplete_of_read hload himage hread rfl).trans (if_neg (not_not_intro hcrc))), ?_⟩
    exact (afterCommit_epoch _ a _).trans (commitImage_epoch _ a e _)
  · refine ⟨_, run_commit (staleRemoval_of_other_epoch hqueue hepoch), ?_, ?_⟩
    · exact (congrArg (fun x => (Arr.cell x p).queue d) (array_commit_modArr s s.work a _)).trans (staleRemoved_queue p d rest _)
    · rw [array_commit_modArr]
      rfl

end Sys2Proof.Machine
end

section
/-! ### Tasks started, drains and spill -/

namespace Sys2Proof.Machine

/-! #### The start of a task (R137) -/

/-- A task as it starts on the array `x` at the time `now`, its run not a checked one (R137, R298). -/
def Active.begun (t : Active) (now : Nat) (x : Arr) : Active :=
  { t with running := true, startAt := now, stale0 := x.stale, discard0 := x.discarded, spills0 := x.spills,
           susp0 := x.suspicions, savedSr := [] }

/-- The array with the task `t` started: its engines, its windows and its progress monitor begin (R137, R147, R198). -/
def Arr.begun (t : Active) (x : Arr) : Arr :=
  { x with st := .run, task := some t, stopped := false, inWin := [], outWin := [], inHold := [], outHold := []
           engines := x.startEngines, progress := 0, firedSince := true, fired := false, moved := false }

theorem arrayRunStart_of_ready {w : Work} {a : Nat} {t : Active} (htask : (w.arr a).task = some t)
    (hst : (w.arr a).st = .ready) (hload : (w.arr a).load = .none) (hwaits : t.running = false) (hfault : t.fault = none)
    (hplain : t.inst.checked = false) :
    arrayRunStart a w = w.modArr a (Arr.begun (t.begun (w.dieNow (a / 16)) (w.arr a))) := by
  simp only [arrayRunStart, htask, hplain]
  exact if_pos ⟨hst, hload, hwaits, hfault⟩

/-! #### The ends of a drain (R144, R258) -/

section
variable {w : Work} {a : Nat}

theorem drainSuccess_of_drained (hst : (w.arr a).st = .drain) (hempty : (w.arr a).drained = true) :
    drainSuccess a w = w.drainDone a := by
  rw [drainSuccess, hst, hempty]
  rfl

/-- At its deadline a drain has emptied the array, or ends with its tokens as residue. -/
theorem drainDeadline_of_drain (hst : (w.arr a).st = .drain) (hfabric : w.fmgr.st < 2) :
    drainDeadline a w =
      if (w.arr a).drained then (w.reachOn (a / 16) ((w.arr a).drainAt + 1000000)).drainDone a
      else (w.reachOn (a / 16) ((w.arr a).drainAt + 1000000)).drainResidue a := by
  simp [drainDeadline, hst, hfabric]

/-- Between STOP and RESUME no deadline passes (R258). -/
theorem drainDeadline_of_stop (hfabric : 2 ≤ w.fmgr.st) : drainDeadline a w = w := by
  simp [drainDeadline, Nat.not_lt.mpr hfabric]

theorem drainNoProgress_of_still (hst : (w.arr a).st = .drain) (htokens : (w.arr a).drained = false)
    (hstill : 4096 ≤ (w.arr a).still) : drainNoProgress a w = w.drainResidue a := by
  simp [drainNoProgress, hst, htokens, hstill]

/-! #### Suspicions and open runs (R147 to R151) -/

/-- A suspicion is counted; a deadlock holds the array, and any other opens spill runs. -/
theorem progressSuspicion_of_run (hst : (w.arr a).st = .run) (htask : (w.arr a).task.isSome = true)
    (hprogress : 4096 ≤ (w.arr a).progress) : progressSuspicion a w =
      if (w.arr a).deadlocked
      then ((w.modArr a (fun x => { x with suspicions := satAdd 8 x.suspicions 1 })).closeAll a true).hold a 0x0D
      else (w.modArr a (fun x => { x with suspicions := satAdd 8 x.suspicions 1 })).modArr a
        (fun x => { x.spillRound with spills := satAdd 8 x.spills 1 }) := by
  simp [progressSuspicion, hst, htask, hprogress]

theorem spillRefill_of_not_moving {p d : Nat} (h : (w.arr a).moving = false) : spillRefill a p d w = w := by
  simp [spillRefill, h]

variable {p d : Nat} {r : SpillRun} {t : Token} {rest : List Token}

/-- The oldest token of an open run goes into its queue, and an emptied run closes (R150). -/
theorem spillRefill_of_room (hmoving : (w.arr a).moving = true) (hrun : (w.arr a).openRun p d = some r)
    (htoks : r.toks = t :: rest) (hgood : w.hasBadWord (w.slotAddr a (8 * r.num + 1)) 8 = false)
    (hroom : (((w.arr a).cell p).queue d).length < 4) : spillRefill a p d w = w.modArr a (fun x =>
      { x.modCell p (fun c => c.setQueue d (c.queue d ++ [t])) with
        runs := (x.runs.map (fun q => if q.num = r.num then { q with toks := rest } else q)).filter
          (fun q => q.num != r.num || !rest.isEmpty) }) := by
  simp only [spillRefill, hmoving, hrun, htoks, hgood, if_pos hroom]
  rfl

theorem spillRefill_of_bad_word (hmoving : (w.arr a).moving = true) (hrun : (w.arr a).openRun p d = some r)
    (htoks : r.toks = t :: rest) (hbad : w.hasBadWord (w.slotAddr a (8 * r.num + 1)) 8 = true) :
    spillRefill a p d w = w.taskFault a { status := 0x20, address := w.slotAddr a (8 * r.num + 1) } := by
  simp only [spillRefill, hmoving, hrun, htoks, hbad]
  rfl

end

/-- Settles O18: each command of a task's start, of a drain and of a spill has its own lemma. -/
theorem tasksStartAndDrain : Obligations.TasksStartAndDrain := by
  refine ⟨fun s a t htask hst hload hwaits hfault hplain => ?_,
    fun s a => ⟨fun hst hempty => ?_, fun hst hfabric => ?_, fun _ hfabric => ?_, fun hst htokens hstill => ?_,
      fun hst htask hprogress => ?_, fun p d h => ?_,
      fun p d r t rest hmoving hrun htoks => ⟨fun hgood hroom => ?_, fun hbad => ?_⟩⟩⟩
  · refine ⟨_, run_commit (arrayRunStart_of_ready htask hst hload hwaits hfault hplain), ?_⟩
    rw [array_commit_modArr]
    exact ⟨rfl, rfl, rfl, rfl, rfl, rfl, rfl, fun b hb => array_commit_modArr_ne s s.work _ hb⟩
  · exact run_commit (drainSuccess_of_drained hst hempty)
  · exact run_commit (drainDeadline_of_drain hst hfabric)
  · exact run_commit (drainDeadline_of_stop hfabric)
  · exact run_commit (drainNoProgress_of_still hst htokens hstill)
  · exact run_commit (progressSuspicion_of_run hst htask hprogress)
  · exact run_commit (spillRefill_of_not_moving h)
  · exact run_commit (spillRefill_of_room hmoving hrun htoks hgood hroom)
  · exact run_commit (spillRefill_of_bad_word hmoving hrun htoks hbad)

end Sys2Proof.Machine
end

section
/-! ### Windows and incoming buffers -/

namespace Sys2Proof.Machine

section
variable {w : Work} {a e : Nat}

/-! #### Incoming windows (R130, R169) -/

/-- An incoming window may make its next token: the array runs a task without a fault, a word is left, and the port's buffer has
room (R130, R131). -/
structure Work.WindowFeeds (w : Work) (a e : Nat) : Prop where
  st : (w.arr a).st = .run
  task : (w.arr a).task.isSome = true
  fault : (w.arr a).faulted = false
  kind : pInKind (tget 0 (w.arr a).ports e) = 1
  left : tget 0 (w.arr a).inWin e < pWords (tget 0 (w.arr a).ports e)
  room : 0 < (w.arr a).bufRoom e

/-- The word `y` makes the next token of a window, which keeps the words `rest` and has read those of `ws`. -/
theorem incomingWindowWord_of_word {y : Nat} {rest ws : List Nat} (h : w.WindowFeeds a e)
    (hword : w.windowWord a e = some (y, rest, ws)) :
    incomingWindowWord a e w = w.modArr a (fun x => { x.access false 4 ws with
      inHold := tput x.inHold e rest
      inBuf := tmod [] x.inBuf e (· ++ [mkTok (w.arr a).epoch
        (tget 0 (w.arr a).inWin e + 1 == pWords (tget 0 (w.arr a).ports e)) 0 (pLane (tget 0 (w.arr a).ports e)) y])
      inWin := tput x.inWin e (tget 0 (w.arr a).inWin e + 1), moved := true }) := by
  obtain ⟨hst, htask, hfault, hkind, hleft, hroom⟩ := h
  simp only [incomingWindowWord, hst, htask, hfault, hkind, hleft, hroom, hword]
  rfl

theorem windowWord_of_held {y : Nat} {rest : List Nat} (h : tget [] (w.arr a).inHold e = y :: rest) :
    w.windowWord a e = some (y, rest, []) := by
  simp only [Work.windowWord, h]

/-- With nothing held, one access reads what is left of the bank row (R169). -/
theorem windowWord_of_row {first k row : Nat} (hfirst : pBase (tget 0 (w.arr a).ports e) + tget 0 (w.arr a).inWin e = first)
    (hk : min (32 - first % 32) (pWords (tget 0 (w.arr a).ports e) - tget 0 (w.arr a).inWin e) = k)
    (hrow : w.padAddr a (8 * first) = row) (hempty : tget [] (w.arr a).inHold e = []) (hgood : w.hasBadWord row (8 * k) = false) :
    w.windowWord a e = some (((List.range k).map (fun j => w.readNat (row + 8 * j) 8)).headD 0,
      ((List.range k).map (fun j => w.readNat (row + 8 * j) 8)).tail, (List.range k).map (first + ·)) := by
  simp only [Work.windowWord, hempty, hfirst, hk, hrow, hgood]
  rfl

/-! #### Outgoing windows (R130, R143, R169) -/

theorem windowTake_of_token {t : Token} (htoken : (w.arr a).portOut e = some t)
    (hst : (w.arr a).st = .run ∨ (w.arr a).st = .drain) (hfault : (w.arr a).faulted = false)
    (hkind : pOutKind (tget 0 (w.arr a).ports e) = 1) (hbarrier : t.kind ≠ 3)
    (hleft : tget 0 (w.arr a).outWin e < pWords (tget 0 (w.arr a).ports e)) :
    w.windowTake a e =
      let v := tget 0 (w.arr a).ports e
      let o := tget 0 (w.arr a).outWin e
      let gone := w.modArr a (fun x => { x.clearOut e with
        outHold := tmod [] x.outHold e (· ++ [t.pay.toNat]), outWin := tput x.outWin e (o + 1) })
      if (pBase v + o) % 32 = 31 ∨ o + 1 = pWords v ∨ (w.arr a).st = .drain then gone.flushWindow a e else gone := by
  have hgo : (((w.arr a).st == .run || (w.arr a).st == .drain) && !(w.arr a).faulted &&
      pOutKind (tget 0 (w.arr a).ports e) == 1) = true := by
    simp [hst, hfault, hkind]
  simp only [Work.windowTake, htoken]
  rw [if_pos hgo, if_neg hbarrier, if_neg (Nat.not_le.mpr hleft)]

/-! #### Incoming buffers (R131, R157) -/

/-- The array with the token `t` of port e in its boundary cell's queue, and `rest` left in the port's buffer (R157). -/
def Arr.delivered (e : Nat) (t : Token) (rest : List Token) (x : Arr) : Arr :=
  { x.enqueue (portCell e).1 (portCell e).2 t with inBuf := tput x.inBuf e rest, moved := true }

theorem incomingDelivery_of_room {t : Token} {rest : List Token} (htoken : tget [] (w.arr a).inBuf e = t :: rest)
    (hmoving : (w.arr a).moving = true) (hroom : (w.arr a).hasRoom (portCell e).1 (portCell e).2 = true) :
    incomingDelivery a e w = (w.modArr a (Arr.delivered e t rest)).oweCredit a e := by
  simp only [incomingDelivery, htoken, hmoving, hroom]
  rfl

end

/-- Settles O19: a window's next word is one it holds or the first of a row that it reads; a token leaves by its port's window,
and one enters from its port's buffer. -/
theorem portsMoveTokens : Obligations.PortsMoveTokens := by
  refine fun s a e => ⟨fun hst htask hfault hkind hleft hroom => ⟨fun y rest hheld => ?_, fun hempty hgood => ?_⟩,
    fun t htoken hst hfault hkind hbarrier hleft => ?_, fun t rest htoken hmoving hroom => ?_⟩
  · exact run_commit (incomingWindowWord_of_word ⟨hst, htask, hfault, hkind, hleft, hroom⟩ (windowWord_of_held hheld))
  · exact run_commit (incomingWindowWord_of_word ⟨hst, htask, hfault, hkind, hleft, hroom⟩
      (windowWord_of_row rfl rfl rfl hempty hgood))
  · exact run_commit (f := (·.windowTake a e)) (windowTake_of_token htoken hst hfault hkind hbarrier hleft)
  · exact run_commit (incomingDelivery_of_room htoken hmoving hroom)

end Sys2Proof.Machine
end

section
/-! ### Channels -/

namespace Sys2Proof.Machine

theorem onTurn_of_inTurn {w : Work} {p : Packet} (h : w.inTurn p = true) (f : Work → Work) : onTurn p f w = f w := if_pos h

/-! #### The timers of an opening (R153, R154, R258) -/

section
variable {w : Work} {a c : Nat}

theorem openRepeat_of_waiting (hst : (w.arr a).st = .opening) (hhas : thas (w.arr a).chans c = true)
    (hsends : chDir ((w.arr a).chan c).record = false) (hwaits : ((w.arr a).chan c).granted = false)
    (hopen : ((w.arr a).chan c).closed = false) (hfabric : w.fmgr.st < 2) :
    openRepeat a c w = (w.reachOn (a / 16) (((w.arr a).chan c).openAt + 10000)).sendOpen a c := by
  simp [openRepeat, hst, hhas, hsends, hwaits, hopen, hfabric]

theorem openRepeat_of_stop (h : 2 ≤ w.fmgr.st) : openRepeat a c w = w := by
  simp [openRepeat, Nat.not_lt.mpr h]

theorem openTimeout_of_opening (hst : (w.arr a).st = .opening) (hfabric : w.fmgr.st < 2) :
    openTimeout a w = (w.reachOn (a / 16) ((w.arr a).commitAt + 1000001)).hold a 0x0A := by
  simp [openTimeout, hst, hfabric]

theorem openTimeout_of_stop (h : 2 ≤ w.fmgr.st) : openTimeout a w = w := by
  simp [openTimeout, Nat.not_lt.mpr h]

end

/-! #### The launch of gathered tokens (R156) -/

theorem mayLaunch_of_ready {e : ChanEnd} {st : ArraySt} (hgranted : e.granted = true) (hopen : e.closed = false)
    (hgather : e.gather ≠ []) (hcredit : e.gather.length ≤ e.credit)
    (hgo : e.complete = true ∨ chFlush e.record ≤ e.age ∨ st = .drain) : e.mayLaunch st = true := by
  have hsome : e.gather.isEmpty = false := List.isEmpty_eq_false_iff.mpr hgather
  simpa [ChanEnd.mayLaunch, hgranted, hopen, hsome, hcredit, or_assoc] using hgo

/-- The tokens that a channel has gathered go as one packet, and use up their credit (R156). -/
theorem dataLaunch_of_mayLaunch {w : Work} {a port c : Nat} (hchan : (w.arr a).outChan port = some c)
    (hgo : ((w.arr a).chan c).mayLaunch (w.arr a).st = true) :
    dataLaunch a port w =
      let e := (w.arr a).chan c
      let m := w.chanMsg a c 0x04 4 0
      let bulk := chAdaptive e.record && w.eff 0x4000 7 == 1 && m.dstPanel == w.panelId && bit (w.route (a / 16) (w.dstDie m)) 10
      (w.send { m with vc := if bulk then 3 else 4, adaptive := bulk, payload := dataPayload e.seq e.gather }).modArr a
        (·.modChan c fun e => { e with seq := (e.seq + 1) % 65536, credit := e.credit - e.gather.length, gather := [], age := 0 }) := by
  simp only [dataLaunch, hchan]
  exact if_pos hgo

/-! #### Packets held for their turn (R157) -/

theorem drainEarly_of_nil {e : ChanEnd} (h : e.early = []) (fuel : Nat) (ts : List Token) : e.drainEarly fuel ts = (e, ts) := by
  cases fuel with
  | zero => rfl
  | succ fuel => rw [ChanEnd.drainEarly, h, List.find?_nil]

/-- The packet expected gives its tokens at once, and with no other packet held that is all (R157). -/
theorem drainEarly_of_expected (e : ChanEnd) (fuel : Nat) (ts out : List Token) :
    ({ e with early := [(e.seq, ts)] } : ChanEnd).drainEarly (fuel + 1) out =
      ({ e with early := [], seq := (e.seq + 1) % 65536 }, out ++ ts) := by
  have hfind : [(e.seq, ts)].find? (fun x => x.1 == e.seq) = some (e.seq, ts) := by simp
  have hgone : [(e.seq, ts)].filter (fun y => y.1 != e.seq) = [] := by simp
  rw [ChanEnd.drainEarly, hfind]
  dsimp only
  rw [hgone]
  exact drainEarly_of_nil rfl fuel (out ++ ts)

/-! #### Messages that arrive (R153, R154, R157 to R159) -/

/-- CLOSED sent on channel c of array a, which has ended (R159). -/
def Work.endChan (w : Work) (a c : Nat) : Work :=
  (w.send (w.chanMsg a c 0x07 2 0)).modArr a (·.modChan c (fun e => { e with closed := true }))

section
variable {w v : Work} {p : Packet} {a c : Nat} (htake : w.take p = v) (harr : v.dstArr p = a)
include htake harr

/-- GRANT gives a waiting sender its initial credit, and the first sequence number 0 (R153, R155). -/
theorem recvGrant_of_waiting (hchan : v.chanOf a p [false] = some c) (hwaits : ((v.arr a).chan c).granted = false) :
    recvGrant p w = v.modArr a (fun x =>
      (x.modChan c (fun e => { e with granted := true, credit := field p.typeData 0 16, seq := 0 })).settleOpen) := by
  simp only [recvGrant, htake, harr, hchan, hwaits]
  rfl

theorem recvReject_of_waiting (hchan : v.chanOf a p [false] = some c) (hst : (v.arr a).st = .opening)
    (hwaits : ((v.arr a).chan c).granted = false) : recvReject p w = v.hold a 0x0B := by
  simp only [recvReject, htake, harr, hchan, hst, hwaits]
  rfl

/-- DATA on an open channel joins what is held, and what is now in order enters the incoming buffer (R157). -/
theorem recvData_of_open (hchan : v.chanOf a p [true] = some c) (hclosed : ((v.arr a).chan c).closed = false)
    (hclosing : ((v.arr a).chan c).closing = false) :
    recvData p w =
      let n := leAt p.payload 0 2
      let e := (v.arr a).chan c
      let d := ({ e with early := e.early.filter (fun y => y.1 != n) ++ [(n, dataTokens p.payload)] } : ChanEnd).drainEarly 64 []
      v.modArr a (fun x => { x.modChan c (fun _ => d.1) with inBuf := tmod [] x.inBuf p.dstSub (· ++ d.2), moved := true }) := by
  have hopen : ¬(((v.arr a).chan c).closed || ((v.arr a).chan c).closing) = true := by
    rw [hclosed, hclosing]
    exact Bool.false_ne_true
  simp only [recvData, htake, harr, hchan]
  exact if_neg hopen

/-- DATA on a channel that has ended, or is ending, is discarded and counted (R159). -/
theorem recvData_of_ended (hchan : v.chanOf a p [true] = some c)
    (hended : ((v.arr a).chan c).closed = true ∨ ((v.arr a).chan c).closing = true) :
    recvData p w = v.modArr a (fun x => { x with stale := satAdd 16 x.stale (dataTokens p.payload).length }) := by
  simp only [recvData, htake, harr, hchan]
  exact if_pos (Bool.or_eq_true_iff.mpr hended)

theorem recvCredit_of_sender (hchan : v.chanOf a p [false] = some c) :
    recvCredit p w = v.modArr a (·.modChan c fun e => { e with credit := e.credit + field p.typeData 0 7 }) := by
  simp only [recvCredit, htake, harr, hchan]

theorem recvClosed_of_chan (hchan : v.chanOf a p [true, false] = some c) : recvClosed p w =
    (v.modArr a (·.modChan c (fun e => { e with closing := false, closed := true }))).afterClosed a := by
  simp only [recvClosed, htake, harr, hchan]

/-- A CLOSE with no DATA in flight toward the closer is answered; what follows depends on its reason (R153, R159). -/
theorem recvClose_of_none_flying (hflying : w.dataFlying p = false) (hchan : v.chanOf a p [true, false] = some c) :
    recvClose p w =
      if bit p.typeData 0 then
        if ((v.endChan a c).arr a).st == .run then ((v.endChan a c).taskFault a { status := 0x0E }).closeAll a true
        else (v.endChan a c).afterClosed a
      else if !((v.arr a).chan c).gather.isEmpty then (v.endChan a c).taskFault a { status := 0x0E }
      else (v.endChan a c).afterClosed a := by
  simp only [recvClose, hflying, htake, harr, hchan, Bool.false_eq_true, if_false]
  rfl

/-- The reason is the end of a task, and nothing is gathered: the channel has ended, and that is all. -/
theorem recvClose_of_end (hflying : w.dataFlying p = false) (hchan : v.chanOf a p [true, false] = some c)
    (hend : bit p.typeData 0 = false) (hgather : ((v.arr a).chan c).gather = []) :
    recvClose p w = (v.endChan a c).afterClosed a := by
  rw [recvClose_of_none_flying htake harr hflying hchan, hend, hgather]
  rfl

/-- The reason is an abort: the task of an array in RUN ends with 0x0E, and its other channels close the same way. -/
theorem recvClose_of_abort (hflying : w.dataFlying p = false) (hchan : v.chanOf a p [true, false] = some c)
    (habort : bit p.typeData 0 = true) (hst : ((v.endChan a c).arr a).st = .run) :
    recvClose p w = ((v.endChan a c).taskFault a { status := 0x0E }).closeAll a true := by
  rw [recvClose_of_none_flying htake harr hflying hchan, habort, hst]
  rfl

end

/-- Settles O20: each timer, launch and message has its own lemma, a message in its turn. -/
theorem channelsOpenAndCarry : Obligations.ChannelsOpenAndCarry := by
  refine ⟨fun s p => ⟨fun hturn => ?_, fun b c hst hhas hsends hwaits hopen hfabric => ?_, fun c hturn hchan hwaits => ?_,
      fun c hturn hchan hst hwaits => ?_, fun b hst hfabric => ?_, fun b c hfabric => ⟨?_, ?_⟩⟩,
    fun s p => ⟨fun b port c hchan hgranted hopen hgather hcredit hgo => ?_,
      fun c hturn hchan => ⟨fun hclosed hclosing => ?_, fun hended => ?_⟩, fun c hturn hchan => ?_,
      fun c hturn hchan => ⟨?_, fun hflying hend hgather => ?_, fun hflying habort hst => ?_⟩⟩,
    fun e ts hearly _ => ?_⟩
  · exact run_commit (onTurn_of_inTurn hturn (recvOpen p))
  · exact run_commit (openRepeat_of_waiting hst hhas hsends hwaits hopen hfabric)
  · exact run_commit ((onTurn_of_inTurn hturn _).trans (recvGrant_of_waiting rfl rfl hchan hwaits))
  · exact run_commit ((onTurn_of_inTurn hturn _).trans (recvReject_of_waiting rfl rfl hchan hst hwaits))
  · exact run_commit (openTimeout_of_opening hst hfabric)
  · exact run_commit (openTimeout_of_stop hfabric)
  · exact run_commit (openRepeat_of_stop hfabric)
  · exact run_commit (dataLaunch_of_mayLaunch hchan (mayLaunch_of_ready hgranted hopen hgather hcredit hgo))
  · exact run_commit ((onTurn_of_inTurn hturn _).trans (recvData_of_open rfl rfl hchan hclosed hclosing))
  · exact run_commit ((onTurn_of_inTurn hturn _).trans (recvData_of_ended rfl rfl hchan hended))
  · exact run_commit ((onTurn_of_inTurn hturn _).trans (recvCredit_of_sender rfl rfl hchan))
  · exact run_commit ((onTurn_of_inTurn hturn _).trans (recvClosed_of_chan rfl rfl hchan))
  · exact run_commit ((onTurn_of_inTurn hturn _).trans (recvClose_of_end rfl rfl hflying hchan hend hgather))
  · exact run_commit ((onTurn_of_inTurn hturn _).trans (recvClose_of_abort rfl rfl hflying hchan habort hst))
  · exact drainEarly_of_expected e 63 ts []

end Sys2Proof.Machine
end

section
/-! ### Credits -/

namespace Sys2Proof.Machine

theorem chan_modChan (x : Arr) (c : Nat) (f : ChanEnd → ChanEnd) : (x.modChan c f).chan c = f (x.chan c) :=
  tget_tput_same _ _ _ _

theorem inBuf_commit_modChan (s : State) (w : Work) (a c : Nat) (f : ChanEnd → ChanEnd) :
    ((s.commit (w.modArr a (·.modChan c f))).array a).inBuf = (w.arr a).inBuf := by
  rw [array_commit_modArr]
  rfl

/-- A delivery keeps the ports and the channels of the array. -/
theorem delivered_keeps (e : Nat) (t : Token) (rest : List Token) (x : Arr) :
    (x.delivered e t rest).ports = x.ports ∧ (x.delivered e t rest).chans = x.chans := by
  have hqueue : (x.enqueue (portCell e).1 (portCell e).2 t).ports = x.ports ∧
      (x.enqueue (portCell e).1 (portCell e).2 t).chans = x.chans := by
    unfold Arr.enqueue
    split <;> exact ⟨rfl, rfl⟩
  exact hqueue

theorem delivered_inChan (e : Nat) (t : Token) (rest : List Token) (x : Arr) :
    (x.delivered e t rest).inChan e = x.inChan e := by
  rw [Arr.inChan, (delivered_keeps e t rest x).1, Arr.inChan]

theorem delivered_chan (e : Nat) (t : Token) (rest : List Token) (x : Arr) (c : Nat) :
    (x.delivered e t rest).chan c = x.chan c := by
  rw [Arr.chan, (delivered_keeps e t rest x).2, Arr.chan]

theorem delivered_inBuf (e : Nat) (t : Token) (rest : List Token) (x : Arr) :
    tget [] (x.delivered e t rest).inBuf e = rest := tget_tput_same _ _ _ _

section
variable {w : Work} {a e c : Nat}

/-- An open channel owes one credit more: at 8, or with the buffer empty and nothing held early, one CREDIT carries them all
(R158). -/
theorem oweCredit_of_open (hchan : (w.arr a).inChan e = some c) (hopen : ((w.arr a).chan c).closed = false) :
    w.oweCredit a e =
      if 8 ≤ ((w.arr a).chan c).owed + 1 ∨ tget [] (w.arr a).inBuf e = [] ∧ ((w.arr a).chan c).early = [] then
        (w.send (w.chanMsg a c 0x05 2 (((w.arr a).chan c).owed + 1))).modArr a (·.modChan c (fun h => { h with owed := 0 }))
      else w.modArr a (·.modChan c (fun h => { h with owed := ((w.arr a).chan c).owed + 1 })) := by
  simp only [Work.oweCredit, hchan, hopen, List.isEmpty_iff]
  rfl

/-- A channel's messages depend on its record alone of what the array holds. -/
theorem chanMsg_modArr {f : Arr → Arr} (h : (f (w.arr a)).chan c = (w.arr a).chan c) (type vc data : Nat) :
    (w.modArr a f).chanMsg a c type vc data = w.chanMsg a c type vc data := by
  unfold Work.chanMsg
  rw [arr_modArr, h]
  rfl

end

/-- Settles O21: the delivery keeps the channel, and of the credits that it then owes one message carries all or none goes. -/
theorem creditsGoBack : Obligations.CreditsGoBack := by
  intro s a e c t rest x owed htoken hmoving hroom hchan hopen
  have harr : (s.work.modArr a (Arr.delivered e t rest)).arr a = x.delivered e t rest := arr_modArr _ _ _
  have hkeep : (x.delivered e t rest).chan c = x.chan c := delivered_chan e t rest x c
  have howe := oweCredit_of_open (w := s.work.modArr a (Arr.delivered e t rest)) (e := e) (c := c)
    (by rw [harr, delivered_inChan, hchan]) (by rw [harr, hkeep, hopen])
  rw [harr, hkeep, delivered_inBuf, chanMsg_modArr hkeep] at howe
  have hbuf : tget [] ((s.work.modArr a (Arr.delivered e t rest)).arr a).inBuf e = rest := by rw [harr, delivered_inBuf]
  refine ⟨_, run_commit ((incomingDelivery_of_room htoken hmoving hroom).trans howe), ?_⟩
  split
  · refine ⟨?_, ?_, rfl⟩
    · rw [inBuf_commit_modChan]
      exact hbuf
    · rw [array_commit_modArr, chan_modChan]
  · refine ⟨?_, ?_, rfl⟩
    · rw [inBuf_commit_modChan]
      exact hbuf
    · rw [array_commit_modArr, chan_modChan]

end Sys2Proof.Machine
end

section
/-! ### Memory's form along a step -/

namespace Sys2Proof.Machine

/-- A command leaves memory as its stores make it of what was there, and so in form (R190). -/
theorem exec_keeps_memOk {c : Instr} {s t : State} (hs : s.memOk = true) (h : exec c s = .next t) : t.memOk = true := by
  obtain ⟨t', w, ht, -, hmem, -⟩ := exec_ran c s
  cases ht.symm.trans h
  unfold State.memOk
  rw [hmem]
  exact applyStores_wf s.mem hs w.stores

/-- Settles O3: a step is a command on the rest of the queue, or a tick of the clocks, which commits its work. -/
theorem stepKeepsMemoryForm : Obligations.StepKeepsMemoryForm := by
  intro s t hs h
  unfold step at h
  split at h
  next =>
    cases h
    exact commit_memOk s s.work.tick hs
  next c rest _ => exact exec_keeps_memOk (s := { s with pending := rest }) hs h

end Sys2Proof.Machine
end

section
/-! ### Scratchpad accesses, patrols and check-value units -/

namespace Sys2Proof.Machine

/-! #### Scratchpad accesses (R166, R194) -/

section
variable {w : Work} {a : Nat} {i : Issue}

/-- The access at the front of a pipeline ends: the words corrected on the way are counted, and then each bad word is met. -/
theorem padComplete_of_front {rest : List Issue} (h : (w.arr a).pipe = i :: rest) (corrected : Nat) (bad : List Nat) :
    padComplete a corrected bad w = bad.foldl (fun v x => v.wordError a i x)
      (if corrected = 0 then w.modArr a (fun x => { x with pipe := rest })
       else (w.modArr a (fun x => { x with pipe := rest })).wordsCorrected (a / 16) corrected) := by
  unfold padComplete
  rw [h]

/-- A bad word of the own scratchpad that an access reads ends the task, by the engine where one reads (R194, R220). -/
theorem wordError_of_read {x : Nat} (hspace : aSpace x = 3) (hown : w.addrArr x = a) (hread : i.write = false)
    (hword : aByte x / 8 ∈ i.words) (htask : (w.arr a).task.isSome = true) :
    w.wordError a i x =
      ({ w with badWords := x / 8 * 8 :: w.badWords.filter (· != x / 8 * 8) } : Work).taskFault a
        (if i.who < 4 ∧ (w.engine a i.who).started = true
         then { status := 0x20, address := x / 8 * 8, engine := (w.engine a i.who).where_ i.who,
                tile := (w.engine a i.who).tileOf (x / 8 * 8) }
         else { status := 0x20, address := x / 8 * 8 }) := by
  have hmet : aSpace x = 3 ∧ w.addrArr x = a ∧ (!i.write) = true ∧ i.words.contains (aByte x / 8) = true :=
    ⟨hspace, hown, by rw [hread]; rfl, List.contains_iff_mem.mpr hword⟩
  unfold Work.wordError
  simp only []
  rw [if_pos hmet]
  refine (if_pos htask).trans (congrArg _ ?_)
  split <;> rfl

end

/-! #### Patrols (R189, R194) -/

section
variable {w : Work} {b corrected : Nat} {bad : List Nat}

theorem sramPatrol_of_on (h : (w.domain (16 + b)).st = .on) : sramPatrol b corrected bad w =
    (bad.filter (fun x => aHutch x == b && decide (aSpace x ≤ 1))).foldl (sramError b)
      (w.corrected (0x5000 + b) 0x0B corrected 4 b) :=
  if_pos (beq_iff_eq.mpr h)

/-- With inline ECC on, the patrol poisons what it could not correct (R189). -/
theorem dramPatrol_of_ecc (h : (w.domain (16 + b)).st = .on) (hecc : (w.hutch b).ecc = true) : dramPatrol b corrected bad w =
    (bad.filter (fun x => aHutch x == b && aSpace x == 0)).foldl
      (fun v x => (v.addReg (0x5000 + b) 0x0E 1).poisonLine b (lineOf x)) (w.corrected (0x5000 + b) 0x0D corrected 4 b) := by
  unfold dramPatrol
  rw [hecc, beq_iff_eq.mpr h]
  rfl

end

/-! #### Check-value units by dictionary (R223, R225) -/

theorem checkUnitLoad_of_record {w : Work} {data : List Byte} (hlen : data.length = 34) (hunit : leAt data 0 2 < 417)
    (hpoly : leAt data 2 1 ≤ 3) : checkUnitLoad data w =
      if w.feeding (leAt data 0 2) then w.refuse 0x7D (feederName (leAt data 0 2))
      else (w.loadCheck (leAt data 0 2) (data.drop 2)).accept := by
  unfold checkUnitLoad
  simp only []
  rw [if_neg (not_not_intro hlen), if_neg (by omega)]

theorem checkUnitReset_of_unit {w : Work} {u : Nat} (hunit : u < 417) : checkUnitReset u w =
    if w.feeding u then w.refuse 0x7D (feederName u)
    else (w.modCheck u (fun c => { c with running := crcInit c.poly, bytes := 0 })).accept :=
  if_neg (by omega)

/-- Settles O22: the end of an access, each patrol and each check-value command has its own lemma. -/
theorem storesAndCheckUnits : Obligations.StoresAndCheckUnits := by
  refine ⟨fun s a b corrected bad => ⟨?_, ?_, ?_⟩, ?_⟩
  · intro i rest hpipe gone
    have hends := padComplete_of_front (w := s.work) hpipe
    refine ⟨run_commit (hends 0 []), fun n hn => run_commit ((hends n []).trans (if_neg hn)), ?_⟩
    intro x hspace hown hread hword htask
    have htask' : (gone.arr a).task.isSome = true := by rw [arr_modArr]; exact htask
    exact run_commit ((hends 0 [x]).trans (wordError_of_read (w := gone) hspace hown hread hword htask'))
  · exact fun hon => run_commit (sramPatrol_of_on hon)
  · exact fun hon hecc => run_commit (dramPatrol_of_ecc hon hecc)
  · intro s data u w
    exact ⟨fun hlen hunit hpoly => run_commit (checkUnitLoad_of_record hlen hunit hpoly),
      fun hunit => run_commit (checkUnitReset_of_unit hunit)⟩

end Sys2Proof.Machine
end

section
/-! ### A descriptor at work -/

namespace Sys2Proof.Machine

section
variable {w : Work} {a e : Nat} {f : Work → Work}

theorem started_of_runs {op : Nat} (h : w.runs a e op = true) : (w.engine a e).started = true := by
  simp only [Work.runs, Bool.and_eq_true] at h
  obtain ⟨⟨⟨hstarted, -⟩, -⟩, -⟩ := h
  exact hstarted

/-- A descriptor that runs is worked on as it stands: its setup lies behind it (R198). -/
theorem withDesc_of_runs {op : Nat} (h : w.runs a e op = true) : withDesc a e op f w = f w := by
  unfold withDesc
  simp only []
  rw [if_pos (started_of_runs h), if_pos h]

/-- Work after which a one-off operation has nothing left to do. -/
def Work.worked (w : Work) (a e : Nat) : Work := w.modEngine a e (fun en => { en with issued := max en.desc.total 1 })

theorem once_of_fresh (h : (w.engine a e).issued = 0) : w.once a e f = (f w).worked a e := if_pos h

/-- A one-off operation that runs and has not been worked is worked now. -/
theorem withDesc_once {op : Nat} (h : w.runs a e op = true) (hfresh : (w.engine a e).issued = 0) :
    withDesc a e op (·.once a e f) w = (f w).worked a e :=
  (withDesc_of_runs h).trans (once_of_fresh hfresh)

/-- An operation that reads its source window moves the units that have landed (R210). -/
theorem withDesc_fromWindow_of_window {op : Nat} (h : w.runs a e op = true) (hwin : w.sourceWindow a (w.engine a e).desc = true) :
    withDesc a e op (fromWindow a e f) w = w.moveUnits a e 1536 :=
  (withDesc_of_runs h).trans (if_pos hwin)

/-- One that reads no window is a one-off operation. -/
theorem withDesc_fromWindow_of_fresh {op : Nat} (h : w.runs a e op = true) (hfresh : (w.engine a e).issued = 0)
    (hwin : w.sourceWindow a (w.engine a e).desc = false) : withDesc a e op (fromWindow a e f) w = (f w).worked a e :=
  (withDesc_of_runs h).trans ((if_neg (Bool.not_eq_true _ ▸ hwin)).trans (once_of_fresh hfresh))

/-- A range without an uncorrectable word has no lowest one (R194). -/
theorem firstBad_of_good {x n : Nat} (h : w.hasBadWord x n = false) : w.firstBad x n = none := by
  have hnone : w.badWords.filter (fun y => decide (y < x + n) && decide (x < y + 8)) = [] :=
    List.filter_eq_nil_iff.mpr (List.any_eq_false.mp h)
  unfold Work.firstBad
  rw [hnone]
  rfl

end

end Sys2Proof.Machine
end

section
/-! ### FILL and COPY -/

namespace Sys2Proof.Machine

/-! #### What the pipeline leaves as it was: the bytes of memory -/

/-- All that a read of memory sees of the work. -/
def Work.contents (w : Work) : List (Nat × Nat × Nat) × List Store × List Host.Cell := (w.lost, w.stores, w.mem)

theorem readByte_of_contents {v w : Work} (h : v.contents = w.contents) (x : Nat) : v.readByte x = w.readByte x := by
  simp only [Work.contents, Prod.mk.injEq] at h
  obtain ⟨hlost, hstores, hmem⟩ := h
  exact readByte_congr (by rw [hlost]) (by rw [hstores, hmem])

theorem mem_of_contents {v w : Work} (h : v.contents = w.contents) : v.mem = w.mem := congrArg (·.2.2) h

@[simp] theorem contents_accesses (w : Work) (a who : Nat) (x : Bool) (l : List (List Nat)) :
    (w.accesses a x who l).contents = w.contents := rfl

@[simp] theorem contents_worked (w : Work) (a e : Nat) : (w.worked a e).contents = w.contents := rfl

/-- Where a command's work holds what a write of `bs` would, and byte k of `bs` is `g k`, the next command reads `g` there, and
elsewhere what stood there. -/
theorem readByte_commit_of_write {s : State} {v : Work} {dst n : Nat} {bs : List Byte} {g : Nat → Byte} (hs : s.memOk = true)
    (h : v.contents = (s.work.write dst bs).contents) (hlen : bs.length = n) (hg : ∀ k < n, bs.getD k 0 = g k) (x : Nat) :
    (s.commit v).work.readByte x = if dst ≤ x ∧ x < dst + n then g (x - dst) else s.work.readByte x := by
  rw [commit_work_readByte hs (mem_of_contents h), readByte_of_contents h, readByte_write, hlen]
  split
  next hx => exact hg _ (by omega)
  next => rfl

/-! #### The range that either writes (R171) -/

theorem flatten_replicate_length {A : Type} (n : Nat) (l : List A) : (List.replicate n l).flatten.length = n * l.length := by
  rw [List.length_flatten, List.map_replicate, List.sum_replicate_nat]

/-- A word repeated: byte k of it is byte k modulo its length of the word. -/
theorem flatten_replicate_getD {A : Type} (d : A) {l : List A} {n k : Nat} (h : k < n * l.length) :
    (List.replicate n l).flatten.getD k d = l.getD (k % l.length) d := by
  induction n generalizing k with
  | zero => omega
  | succ n ih =>
    rw [List.replicate_succ, List.flatten_cons, List.getD_eq_getElem?_getD]
    by_cases hk : k < l.length
    · rw [List.getElem?_append_left hk, Nat.mod_eq_of_lt hk, List.getD_eq_getElem?_getD]
    · rw [Nat.succ_mul] at h
      rw [List.getElem?_append_right (by omega), ← List.getD_eq_getElem?_getD, ih (by omega), ← Nat.mod_eq_sub_mod (by omega)]

theorem read_length (w : Work) (x n : Nat) : (w.read x n).length = n := by rw [Work.read, List.length_map, List.length_range]

theorem read_getD (w : Work) (x : Nat) {n k : Nat} (h : k < n) : (w.read x n).getD k 0 = w.readByte (x + k) := by
  rw [Work.read, List.getD_eq_getElem?_getD, List.getElem?_map, List.getElem?_range h, Option.map_some, Option.getD_some]

section
variable {w : Work} {a e : Nat}

/-- A FILL holds what one write of its repeated word would (R171). -/
theorem fill_contents (h : w.runs a e 1 = true) (hfresh : (w.engine a e).issued = 0) : (fill a e w).contents =
    (w.write (w.engine a e).desc.dst
      (List.replicate ((w.engine a e).desc.lineBytes / 8) (toBytes (w.engine a e).desc.src 8)).flatten).contents := by
  rw [fill, withDesc_once h hfresh]
  rfl

/-- A COPY from good words holds what one write of its source's bytes would (R171, R194). -/
theorem copy_contents (h : w.runs a e 2 = true) (hfresh : (w.engine a e).issued = 0)
    (hwin : w.sourceWindow a (w.engine a e).desc = false)
    (hgood : w.hasBadWord (w.engine a e).desc.src (w.engine a e).desc.lineBytes = false) : (copy a e w).contents =
      (w.write (w.engine a e).desc.dst (w.read (w.engine a e).desc.src (w.engine a e).desc.lineBytes)).contents := by
  rw [copy, withDesc_fromWindow_of_fresh h hfresh hwin, contents_worked]
  simp only [firstBad_of_good hgood]
  refine foldl_keeps Work.contents _ (fun v p => ?_) _ _
  rw [contents_accesses, contents_accesses]

end

/-- Settles O24: the work of either holds what one write of its range would, and nothing else of memory. -/
theorem fillAndCopyWriteTheirRange : Obligations.FillAndCopyWriteTheirRange := by
  intro s a e w d hs hfresh
  refine ⟨fun hrun hwhole => ⟨_, rfl, ?_⟩, fun hrun hwin hgood => ⟨_, rfl, ?_⟩⟩
  · have hlen : (List.replicate (d.lineBytes / 8) (toBytes d.src 8)).flatten.length = d.lineBytes := by
      rw [flatten_replicate_length, toBytes_length]
      omega
    have hword : ∀ k < d.lineBytes, (List.replicate (d.lineBytes / 8) (toBytes d.src 8)).flatten.getD k 0 =
        (toBytes d.src 8).getD (k % 8) 0 := by
      intro k hk
      rw [flatten_replicate_getD 0 (by rw [toBytes_length]; omega), toBytes_length]
    exact readByte_commit_of_write hs (fill_contents hrun hfresh) hlen hword
  · exact readByte_commit_of_write hs (copy_contents hrun hfresh hwin hgood) (read_length _ _ _)
      (fun _ hk => read_getD w d.src hk)

end Sys2Proof.Machine
end

section
/-! ### Every operation of an engine -/

namespace Sys2Proof.Machine

/-- A TCOPY from good words is worked block by block (R171, R194). -/
theorem tcopy_of_fresh {w : Work} {a e : Nat} (h : w.runs a e 3 = true) (hfresh : (w.engine a e).issued = 0)
    (hwin : w.sourceWindow a (w.engine a e).desc = false)
    (hgood : ∀ r ∈ (w.engine a e).desc.blockRows, w.hasBadWord r.1 r.2 = false) :
    tcopy a e w = ((List.range (((w.engine a e).desc.lines + 31) / 32)).foldl (fun v i =>
      (List.range (((w.engine a e).desc.lineBytes / 8 + 31) / 32)).foldl (fun v j =>
        tcopyBlock a e (w.engine a e).desc w v (32 * i) (min 32 ((w.engine a e).desc.lines - 32 * i)) (32 * j)
          (min 32 ((w.engine a e).desc.lineBytes / 8 - 32 * j))) v) w).worked a e := by
  have hnone : (w.engine a e).desc.blockRows.findSome? (fun r => w.firstBad r.1 r.2) = none :=
    List.findSome?_eq_none_iff.mpr fun r hr => firstBad_of_good (hgood r hr)
  rw [tcopy, withDesc_fromWindow_of_fresh h hfresh hwin]
  simp only [hnone]

/-- A CKLOAD from good words loads its record (R194, R226). -/
theorem ckload_of_fresh {w : Work} {a e : Nat} (h : w.runs a e 11 = true) (hfresh : (w.engine a e).issued = 0)
    (hgood : w.hasBadWord (w.engine a e).desc.src 32 = false) :
    ckload a e w = ((w.loadCheck (a / 16) (w.read (w.engine a e).desc.src 32)).enginePipe a e false
      (w.engine a e).desc.src 4).worked a e := by
  rw [ckload, withDesc_once h hfresh]
  simp only [firstBad_of_good hgood]

/-- Settles O26: a descriptor that runs is worked on at once, a one-off operation where it has not been. -/
theorem enginesDoTheirOperation : Obligations.EnginesDoTheirOperation := by
  intro s a e w d fresh done n blocks
  refine ⟨?move, ?tcopy, ?copyWindow, ?tcopyWindow, ?invalidate, ?feed, ?collect, ?reduce, ?openrx, ?closerx, ?cksave, ?ckload⟩
  case move => exact fun h => run_commit (withDesc_of_runs h)
  case tcopy => exact fun h hfresh hwin hgood => run_commit (tcopy_of_fresh h hfresh hwin hgood)
  case copyWindow => exact fun h hwin => run_commit (withDesc_fromWindow_of_window h hwin)
  case tcopyWindow => exact fun h hwin => run_commit (withDesc_fromWindow_of_window h hwin)
  case invalidate => exact fun h hfresh => run_commit (withDesc_once h hfresh)
  case feed => exact fun h => run_commit (withDesc_of_runs h)
  case collect => exact fun h => run_commit (withDesc_of_runs h)
  case reduce => exact fun h => run_commit (withDesc_of_runs h)
  case openrx => exact fun h hfresh => run_commit (withDesc_once h hfresh)
  case closerx => exact fun h hfresh => run_commit (withDesc_once h hfresh)
  case cksave => exact fun h hfresh => run_commit (withDesc_once h hfresh)
  case ckload => exact fun h hfresh hgood => run_commit (ckload_of_fresh h hfresh hgood)

end Sys2Proof.Machine
end

section
/-! ### The start and the completion of a descriptor -/

namespace Sys2Proof.Machine

/-! #### The check-value unit of a descriptor with Check (R224) -/

/-- A descriptor with Check takes its die's check-value unit, or gives it back; any other leaves it. -/
def Work.markCheck (w : Work) (a : Nat) (d : Desc) (active : Bool) : Work :=
  if dCheck d then w.modCheck (a / 16) (fun c => { c with active := active }) else w

/-- The marking of a check-value unit changes that unit alone. -/
theorem markCheck_keeps (w : Work) (a : Nat) (d : Desc) (b : Bool) :
    (w.markCheck a d b).arrays = w.arrays ∧ (w.markCheck a d b).mem = w.mem ∧ (w.markCheck a d b).stores = w.stores := by
  unfold Work.markCheck
  split <;> exact ⟨rfl, rfl, rfl⟩

theorem markCheck_arr (w : Work) (a : Nat) (d : Desc) (active : Bool) (b : Nat) :
    (w.markCheck a d active).arr b = w.arr b := by
  rw [Work.arr, (markCheck_keeps w a d active).1, Work.arr]

/-! #### Start (R198, R202) -/

/-- An engine at the beginning of a descriptor: nothing done, asked for or under way. -/
def Engine.begun (d : Desc) (en : Engine) : Engine :=
  { en with started := true, desc := d, issued := 0, words := 0, firstTag := en.nextTag, barrier := none, arrival := false,
            barrierLast := false, fed := 0, unfed := [], endDone := false, transfers := [], credits := [], grants := [], asked := 0 }

section
variable {w : Work} {a e : Nat}

/-- A template whose setup checks pass, where its task runs and its engine is idle, is started from its beginning. -/
theorem startDesc_of_checked {op i : Nat} {t : Active} {d : Desc}
    (hd : w.rewriteDesc a t.inst (descOf ((w.arr a).templates.getD i [])) = d)
    (htask : (w.arr a).task = some t) (htmpl : (w.engine a e).tmpl = some i) (hst : (w.arr a).st = .run)
    (hrunning : t.running = true) (hfault : (w.arr a).faulted = false) (hidle : (w.engine a e).started = false)
    (hop : d.op = op) (hchecked : w.setupStatus a e d = none) :
    w.startDesc a e op = (w.markCheck a d true).modEngine a e (Engine.begun d) := by
  have hnext : ((w.arr a).engine e).tmpl = some i := htmpl
  have hmay : (w.arr a).st = .run ∧ t.running ∧ !(w.arr a).faulted ∧ !((w.arr a).engine e).started ∧ d.op = op :=
    ⟨hst, hrunning, by rw [hfault]; rfl, by rw [show ((w.arr a).engine e).started = false from hidle]; rfl, hop⟩
  unfold Work.startDesc
  simp only [htask, hnext, hd]
  rw [if_pos hmay, hchecked]
  rfl

/-- An engine begun runs its operation, where its array has no fault and is in RUN. -/
theorem runs_begun {op : Nat} {d : Desc} (hfault : (w.arr a).faulted = false) (hst : (w.arr a).st = .run) (hop : d.op = op) :
    (w.modEngine a e (Engine.begun d)).runs a e op = true := by
  have harr : (w.modEngine a e (Engine.begun d)).arr a = (w.arr a).modEngine e (Engine.begun d) := arr_modArr _ _ _
  have hfault' : ((w.modEngine a e (Engine.begun d)).arr a).faulted = false := (congrArg Arr.faulted harr).trans hfault
  have hst' : ((w.modEngine a e (Engine.begun d)).arr a).st = .run := (congrArg Arr.st harr).trans hst
  simp [Work.runs, hfault', hst', Engine.begun, hop]

/-! #### Completion and the barrier's arrival (R205, R215) -/

/-- An engine whose descriptor is complete: only the chained template and the next tag are left of it. -/
def Engine.completed (d : Desc) (en : Engine) : Engine :=
  { tmpl := if dChain d then some d.next else none, nextTag := en.nextTag }

theorem descriptorComplete_of_done (hdone : w.descDone a e = true) (hfault : (w.arr a).faulted = false) :
    descriptorComplete a e w =
      (w.markCheck a (w.engine a e).desc false).modEngine a e (Engine.completed (w.engine a e).desc) := by
  have hmay : (w.descDone a e && !(w.arr a).faulted) = true := by rw [hdone, hfault]; rfl
  exact if_pos hmay

/-- The arrival goes to the leading Sideboard as a BARRIVE that names the barrier, the array and the engine. -/
theorem barrierPost_of_quiet (hstarted : (w.engine a e).started = true) (harrival : (w.engine a e).arrival = true)
    (hquiet : (w.arr a).quietEngine e = true) (hfault : (w.arr a).faulted = false) :
    barrierPost a e w =
      (w.send { w.packet 0x34 (a / 16) 0x20 0 w.sideboardA w.boardUnit 0 with
        vc := 1, typeData := (w.engine a e).desc.barrierId + a % 16 * 2 ^ 12 + e * 2 ^ 16 }).modEngine a e
          (fun en => { en with arrival := false }) := by
  have hmay : ((w.engine a e).started && (w.engine a e).arrival && (w.arr a).quietEngine e && !(w.arr a).faulted) = true := by
    rw [hstarted, harrival, hquiet, hfault]; rfl
  exact if_pos hmay

end

/-- Settles O25: the started engine stands at its descriptor's beginning, and a completion and a posted arrival have their own
lemmas. -/
theorem enginesStartAndComplete : Obligations.EnginesStartAndComplete := by
  refine ⟨?start, fun s a e => ⟨?plain, ?check, ?post⟩⟩
  case start =>
    intro w a e op i t d htask htmpl hst hrunning hfault hidle hop hchecked
    rw [startDesc_of_checked rfl htask htmpl hst hrunning hfault hidle hop hchecked]
    obtain ⟨-, hmem, hstores⟩ := markCheck_keeps w a d true
    have hengine := engine_modEngine (w.markCheck a d true) a e (Engine.begun d)
    refine ⟨by rw [hengine]; rfl, by rw [hengine]; rfl, by rw [hengine]; rfl, ?_, hmem, hstores, fun b hb => ?_⟩
    · exact runs_begun (by rw [markCheck_arr, hfault]) (by rw [markCheck_arr, hst]) hop
    · exact (arr_modArr_ne _ _ hb).trans (markCheck_arr w a d true b)
  case plain =>
    intro hdone hfault hcheck
    refine run_commit ((descriptorComplete_of_done hdone hfault).trans ?_)
    rw [Work.markCheck, hcheck]
    rfl
  case check =>
    intro hdone hfault hcheck _
    refine run_commit ((descriptorComplete_of_done hdone hfault).trans ?_)
    rw [Work.markCheck, hcheck]
    rfl
  case post => exact fun hstarted harrival hquiet hfault => run_commit (barrierPost_of_quiet hstarted harrival hquiet hfault)

end Sys2Proof.Machine
end

section
/-! ### The credit manager -/

namespace Sys2Proof.Machine

/-- Taking a packet leaves every unit and the grid where they were, and so the array that the packet is bound for. -/
theorem dstArr_take (w : Work) (p q : Packet) : (w.take p).dstArr q = w.dstArr q := by
  obtain ⟨_, _, _, _, h⟩ := take_cases w p
  rw [h]
  rfl

/-! #### At the manager (R211 to R213) -/

/-- The request that a CRQ brings (R212). -/
def crqOf (p : Packet) : Crq :=
  { req := p, window := p.dstSub % 8, tag := field p.typeData 0 16, units := field p.typeData 16 7 }

section
variable {w : Work} {p : Packet} {a : Nat}

/-- With fewer than 64 requests waiting, and the window not closing, a request enters the queue, or is turned away where an open
window does not hold so many units (R212, R213). -/
theorem recvCrq_of_room (harr : w.dstArr p = a) (hroom : ((w.arr a).crqs.filter (fun r => r.offset.isNone)).length < 64)
    (hclosing : ((w.arr a).window (crqOf p).window).closing = false) :
    recvCrq p w =
      if ((w.arr a).window (crqOf p).window).isOpen && decide (((w.arr a).window (crqOf p).window).units < (crqOf p).units)
      then (w.take p).rejectCrq (crqOf p) 2
      else (w.take p).modArr a (fun x => { x with crqs := x.crqs ++ [crqOf p] }) := by
  unfold crqOf at hclosing
  unfold recvCrq
  simp only [harr, hclosing, Bool.not_false, Bool.and_true]
  exact if_neg (Nat.not_le.mpr hroom)

/-- The first request waiting for a window is granted whole, at the window's next offset, once its units are free (R211, R213). -/
theorem creditGrant_of_free {e i : Nat} {r : Crq}
    (hfirst : findAt (fun (r : Crq) => r.window == e && r.offset.isNone) (w.arr a).crqs 0 = some i)
    (hreq : (w.arr a).crqs[i]? = some r) (hopen : ((w.arr a).window e).isOpen = true)
    (hclosing : ((w.arr a).window e).closing = false) (hfits : r.units ≤ ((w.arr a).window e).units)
    (hroom : ((w.arr a).window e).used + r.units ≤ ((w.arr a).window e).units)
    (hfree : ∀ j, j < r.units →
      (w.arr a).unitFree e ((((w.arr a).window e).wr + j) % max ((w.arr a).window e).units 1) = true) :
    creditGrant a e w = (w.send { r.req.answer 0x11 with
        vc := 2, typeData := r.tag + r.units * 2 ^ 16 + ((w.arr a).window e).wr * 2 ^ 23 }).modArr a fun x =>
      { x.modWindow e (fun z => { z with used := z.used + r.units, wr := (z.wr + r.units) % max z.units 1 }) with
        crqs := lmod x.crqs i (fun r => { r with offset := some ((w.arr a).window e).wr }) } := by
  have hstands : ¬(!((w.arr a).window e).isOpen || ((w.arr a).window e).closing) = true := by simp [hopen, hclosing]
  have hall : (List.range r.units).all (fun j =>
      (w.arr a).unitFree e ((((w.arr a).window e).wr + j) % max ((w.arr a).window e).units 1)) = true :=
    List.all_eq_true.mpr fun j hj => hfree j (List.mem_range.mp hj)
  unfold creditGrant
  simp only [hfirst, hreq]
  rw [if_neg hstands, if_neg (Nat.not_lt.mpr hfits), if_neg]
  simp [hall, hroom]

end

/-! #### At the engine that asked (R211, R214, R216) -/

/-- The requests of an engine with one answer marked: the grant of target `key` to the request `tag`. -/
def Engine.grantedBy (en : Engine) (tag key : Nat) : List Credit :=
  en.credits.map (fun c => if c.tag = tag ∧ c.target = key then { c with granted := true } else c)

/-- The units of a CGR, which all targets of its request have now granted, join the grants of engine n. -/
def Engine.withGrant (p : Packet) (n : Nat) (en : Engine) : Engine :=
  { en with
    credits := []
    grants := en.grants ++ [{
      tag := field p.typeData 0 16, units := field p.typeData 16 7, id := field p.typeData 0 16 + 65536 * n
      start := 256 * (en.asked - field p.typeData 16 7) }] }

section
variable {w v : Work} {p : Packet} {b n : Nat} (htake : w.take p = v) (harr : v.dstArr p = b) (hsub : p.dstSub % 4 = n)
include htake harr hsub

/-- A grant that an engine waits for is late, or one of several still to come, or the last of its request (R211, R214, R216). -/
theorem recvCgr_of_waiting (hunit : p.dstUnit / 16 ≠ 4) (hstarted : (v.engine b n).started = true)
    (hwaits : ((v.engine b n).credits.any fun c => c.tag == field p.typeData 0 16 &&
      c.target == tKey p.srcPanel p.srcC p.srcR p.srcUnit && !c.granted) = true) :
    recvCgr p w =
      if v.creditLate b n (field p.typeData 0 16) then v.engineFault b n 0x31 (v.engine b n).desc.dst
      else if ((v.engine b n).grantedBy (field p.typeData 0 16) (tKey p.srcPanel p.srcC p.srcR p.srcUnit)).all (·.granted) then
        (v.modEngine b n (Engine.withGrant p n)).pump b n
      else v.modEngine b n (fun en =>
        { en with credits := (v.engine b n).grantedBy (field p.typeData 0 16) (tKey p.srcPanel p.srcC p.srcR p.srcUnit) }) := by
  have hknown : ¬(!(v.engine b n).started || !(v.engine b n).credits.any fun c => c.tag == field p.typeData 0 16 &&
      c.target == tKey p.srcPanel p.srcC p.srcR p.srcUnit && !c.granted) = true := by
    rw [hstarted, hwaits]
    exact Bool.false_ne_true
  unfold recvCgr
  simp only [htake, harr, hsub]
  rw [if_neg hunit, if_neg hknown]
  rfl

/-- A rejection aborts the task: with 0x33, or with 0x31 after the deadline tick (R214). -/
theorem recvCrj_of_waiting (hunit : p.dstUnit / 16 ≠ 4) (hstarted : (v.engine b n).started = true)
    (hwaits : ((v.engine b n).credits.any fun c => c.tag == field p.typeData 0 16) = true) :
    recvCrj p w = v.engineFault b n (if v.creditLate b n (field p.typeData 0 16) then 0x31 else 0x33)
      (v.engine b n).desc.dst := by
  have hknown : ((v.engine b n).started && (v.engine b n).credits.any fun c => c.tag == field p.typeData 0 16) = true := by
    rw [hstarted, hwaits]
    rfl
  unfold recvCrj
  simp only [htake, harr, hsub]
  rw [if_neg hunit, if_pos hknown]

end

/-- The deadline tick of the first request without its grant has passed, with no stop of the fabric under way (R214, R258). -/
theorem crqTimeout_of_waiting {w : Work} {a e : Nat} {c : Credit} (hstarted : (w.engine a e).started = true)
    (hwaits : (w.engine a e).credits.find? (fun c => !c.granted) = some c) (hfabric : w.fmgr.st < 2) :
    crqTimeout a e w =
      (w.reachOn (a / 16) (c.sentAt + 100001)).engineFault a e 0x31 (w.engine a e).desc.dst := by
  unfold crqTimeout
  simp only [hwaits]
  exact if_pos ⟨hstarted, hfabric⟩

/-- Settles O27: each message of the manager has its own lemma, in its turn, and so have the grant and the timeout. -/
theorem creditsAreGranted : Obligations.CreditsAreGranted := by
  intro s p a e w b q y n en key cs late mine turn
  refine ⟨?crq, ?grant, ?cgr, ?crj, ?timeout, ?ccan⟩
  case crq =>
    exact fun hturn hroom hclosing => run_commit ((onTurn_of_inTurn hturn _).trans
      (recvCrq_of_room (dstArr_take s.work p p).symm hroom hclosing))
  case grant =>
    exact fun i r hfirst hreq hopen hclosing hfits hroom hfree =>
      run_commit (creditGrant_of_free hfirst hreq hopen hclosing hfits hroom hfree)
  case cgr =>
    intro hturn hunit hstarted hwaits
    have hcgr := (onTurn_of_inTurn hturn _).trans (recvCgr_of_waiting rfl rfl rfl hunit hstarted hwaits)
    refine ⟨fun hlate => ?_, fun hlate hsome => ?_, fun hlate hall => ?_⟩
    · exact run_commit (hcgr.trans (if_pos hlate))
    · exact run_commit (hcgr.trans ((if_neg (ne_true_of_eq_false hlate)).trans (if_neg (ne_true_of_eq_false hsome))))
    · exact run_commit (hcgr.trans ((if_neg (ne_true_of_eq_false hlate)).trans (if_pos hall)))
  case crj =>
    exact fun hturn hunit hstarted hwaits => run_commit ((onTurn_of_inTurn hturn _).trans
      (recvCrj_of_waiting rfl rfl rfl hunit hstarted hwaits))
  case timeout =>
    exact fun c hstarted hwaits hfabric => run_commit (crqTimeout_of_waiting hstarted hwaits hfabric)
  case ccan => exact fun hturn => run_commit (onTurn_of_inTurn hturn (recvCcan p))

end Sys2Proof.Machine
end

section
/-! ### Reductions and writes on their way -/

namespace Sys2Proof.Machine

/-! #### A reduction at a router of its chain (R251, R252, R254) -/

section
variable {w : Work} {d : Nat} {p : Packet}

/-- A contribution behind another packet of its lane waits there. -/
theorem recvRed_of_behind (h : w.atHead d p = false) : recvRed d p w = w :=
  if_pos (Or.inr (by rw [h]; rfl))

/-- At a router of its chain, at the head of its lane, nothing holds a contribution back. -/
theorem red_not_held (hchain : (w.redDies p).contains d = true) (hhead : w.atHead d p = true) :
    ¬((!(w.redDies p).contains d) = true ∨ (!w.atHead d p) = true) := by
  rw [hchain, hhead]
  exact not_or.mpr ⟨Bool.false_ne_true, Bool.false_ne_true⟩

/-- It takes its place in its group's context, out of its lane (R252). -/
theorem recvRed_of_place {r : Router} (hchain : (w.redDies p).contains d = true) (hhead : w.atHead d p = true)
    (hplace : ((w.pull d p).die d).router.enter p (w.srcDie p == d && p.contribs == 1) = some r) :
    recvRed d p w = (w.pull d p).modRouter d (fun x => { x with reds := r.reds }) := by
  unfold recvRed
  rw [if_neg (red_not_held hchain hhead), hplace]

/-- Without a context or a place it waits, one of this die in the local lane (R254). -/
theorem recvRed_of_no_place (hchain : (w.redDies p).contains d = true) (hhead : w.atHead d p = true)
    (hplace : ((w.pull d p).die d).router.enter p (w.srcDie p == d && p.contribs == 1) = none) :
    recvRed d p w = if w.srcDie p = d then w.waitLocal d p else w := by
  unfold recvRed
  rw [if_neg (red_not_held hchain hhead), hplace]

end

section
variable {w : Work} {d : Nat} {c : RedCtx} {up loc : Packet} {ups locs : List Packet}

/-- The head of the chain sends on its own packet. -/
theorem redNext_at_head (hloc : c.local_ = loc :: locs) (hup : c.upstream = []) (hhead : (w.redDies loc).headD 0 = d) :
    w.redNext d c = some (loc, { c with local_ := locs }, w) := by
  simp only [Work.redNext, hup, hloc]
  exact if_pos hhead

/-- Any other member combines the packets of one unit from both inputs. -/
theorem redNext_of_one_unit (hloc : c.local_ = loc :: locs) (hup : c.upstream = up :: ups) (hunit : up.index = loc.index) :
    w.redNext d c = some ((w.combine d up loc).1, { c with upstream := ups, local_ := locs }, (w.combine d up loc).2) := by
  simp only [Work.redNext, hup, hloc]
  exact if_pos hunit

theorem redNext_of_other_unit (hloc : c.local_ = loc :: locs) (hup : c.upstream = up :: ups) (hunit : up.index ≠ loc.index) :
    w.redNext d c = none := by
  simp only [Work.redNext, hup, hloc]
  exact if_neg hunit

end

/-! #### The way on from a router (R236, R237, R247) -/

/-- A packet that goes on outside the arbiter: `lost` where the next link has failed, `stay` without a slot free there or the
output's turn, else `go`. -/
def onward (usable : Bool) (free : Nat) (turn : Bool) (lost stay go : Work) : Work :=
  if !usable then lost else if free = 0 ∨ !turn then stay else go

section
variable {usable turn : Bool} {free : Nat} {lost stay go : Work}

theorem onward_of_failed (h : usable = false) : onward usable free turn lost stay go = lost := by
  subst h
  rfl

theorem onward_of_held (h : usable = true) (hheld : free = 0 ∨ turn = false) : onward usable free turn lost stay go = stay := by
  subst h
  exact if_pos (hheld.imp_right (Bool.not_eq_true' turn).mpr)

theorem onward_of_served (h : usable = true) (hfree : free ≠ 0) (hturn : turn = true) :
    onward usable free turn lost stay go = go := by
  subst h hturn
  exact if_neg (not_or.mpr ⟨hfree, Bool.false_ne_true⟩)

end

/-! #### A unit on its way along the chain (R252) -/

section
variable (w : Work) (d : Nat) (q : Packet)

/-- The place of router d in the chain of a packet. -/
def Work.chainPlace : Nat := (findAt (· == d) (w.redDies q) 0).getD 0

/-- The output of router d toward the die at a place of the packet's chain. -/
def Work.chainDir (k : Nat) : Nat :=
  w.dimOut d (w.colOf ((w.redDies q).getD k d)) (w.rowOf ((w.redDies q).getD k d))

/-- The input by which the packet's chain reaches router d: at its head the local one. -/
def Work.chainInput : Nat := if w.chainPlace d q = 0 then 4 else w.chainDir d q (w.chainPlace d q - 1)

/-- Context n of router d without the unit `q` that leaves it, with `c` what stays: free after the last packet. -/
def Work.unitLeaves (n : Nat) (c : RedCtx) : Work :=
  w.modRouter d (fun x => { x with
    reds := if q.index + 1 == q.total && c.upstream.isEmpty && c.local_.isEmpty then ldrop x.reds n
      else lmod x.reds n (fun _ => c) })

end

/-- The next unit of a context is placed at the chain's end, or goes to the next member, where the link stands and it may. -/
theorem redCombine_of_next {w v : Work} {d n : Nat} {c c' : RedCtx} {q : Packet}
    (hctx : (w.die d).router.reds[n]? = some c) (hnext : w.redNext d c = some (q, c', v)) :
    redCombine d n w =
      let dir := w.chainDir d q (w.chainPlace d q + 1)
      let sent := v.unitLeaves d q n c'
      if w.chainPlace d q + 1 = (w.redDies q).length then sent.placeRed q
      else onward (w.outUsable d dir) ((w.die d).router.freeSlots dir 5 0) (w.mcastTurn d dir (w.chainInput d q))
        (sent.sayUnreach d q) w ((sent.mcastServed d dir (w.chainInput d q)).sendOut d dir { q with vc := 5, lane := 0 }) := by
  unfold redCombine
  simp only [hctx, hnext]
  rfl

/-! #### A multicast at a die of its walk (R237, R247, R250) -/

/-- The place of a multicast on the row or column that it walks. -/
def walkAt (p : Packet) : Nat := if p.mcMode = 1 then p.dstC else p.dstR

/-- The direction in which a multicast goes on. -/
def walkDir (p : Packet) : Nat :=
  if p.mcMode = 1 then (if p.dstC < p.mcEnd then 2 else 3) else (if p.dstR < p.mcEnd then 1 else 0)

/-- A multicast as it goes on from die d to the next one of its walk. -/
def Work.walksOn (w : Work) (d : Nat) (p : Packet) : Packet :=
  { p with dstC := w.colOf (w.beyond d (walkDir p)), dstR := w.rowOf (w.beyond d (walkDir p)), vc := 5, lane := 0 }

section
variable {w : Work} {d : Nat} {p : Packet}

/-- A multicast behind another packet of its lane waits there. -/
theorem mwrStep_of_behind (h : w.atHead d p = false) : mwrStep d p w = w :=
  if_pos (Or.inr (by rw [h]; rfl))

/-- At the head of its lane, at a die of its walk, it ends there, is discarded, waits, or is delivered and goes on. -/
theorem mwrStep_of_head (hdie : w.dstDie p = d) (hhead : w.atHead d p = true) :
    mwrStep d p w =
      let landed := (w.pull d p).landWr (arrOf d p.dstUnit) p
      if walkAt p = p.mcEnd then landed
      else onward (w.outUsable d (walkDir p)) ((w.die d).router.freeSlots (walkDir p) 5 0)
        (w.mcastTurn d (walkDir p) (w.inputOf d p)) ((w.pull d p).sayUnreach d p) w
        ((landed.mcastServed d (walkDir p) (w.inputOf d p)).sendOut d (walkDir p) (w.walksOn d p)) := by
  have hmay : ¬(w.dstDie p ≠ d ∨ (!w.atHead d p) = true) := by rw [hdie, hhead]; simp
  exact if_neg hmay

end

/-! #### DONE, and what does not get it (R212, R215, R217, R255) -/

section
variable {w v : Work} {p : Packet}

theorem recvDone_at_hutch (htake : w.take p = v) (hunit : p.dstUnit / 16 = 4) :
    recvDone p w =
      if p.dstSub = 1 then v.confirm (p.dstUnit % 16) p.transfer (4096 + p.srcPanel) (bit p.typeData 32)
      else if p.dstSub = 2 then
        if bit p.typeData 32 then v.setReg 0x7800 0x0F (0x25 + p.transfer % 256 * 256)
        else { v with hinge := { v.hinge with copyLeft := v.hinge.copyLeft - 1 } }
      else v.streamDone (p.dstUnit % 16) p := by
  subst htake
  exact if_pos hunit

theorem recvDone_at_array (htake : w.take p = v) (hunit : p.dstUnit / 16 = 0) :
    recvDone p w = v.engineDone (v.dstArr p) p := by
  subst htake
  have hno : ¬p.dstUnit / 16 = 4 := by omega
  exact (if_neg hno).trans (if_pos hunit)

end

section
variable {w : Work} {a e : Nat} {t : Transfer}

/-- The time that passes until the deadline tick leaves the transfer, and the descriptor, as they stood (R217). -/
theorem multicastTimeout_of_waiting (hstarted : (w.engine a e).started = true) (hcast : (w.engine a e).desc.mcMode ≠ 0)
    (hwaits : (w.engine a e).transfers.find? (fun t => !t.targets.isEmpty) = some t) (hfabric : w.fmgr.st < 2) :
    multicastTimeout a e w = (w.reachOn (a / 16) (t.launched + 200001)).partialCast a e t := by
  unfold multicastTimeout
  simp only [hwaits]
  exact if_pos ⟨hstarted, hcast, hfabric⟩

/-- The same of a member's contribution whose root has not answered (R255). -/
theorem reduceDoneTimeout_of_waiting (hwaits : (w.engine a e).transfers.find? (·.red) = some t) (hfabric : w.fmgr.st < 2) :
    reduceDoneTimeout a e w = (w.reachOn (a / 16) (t.launched + 200001)).redFails a e 0x32 := by
  unfold reduceDoneTimeout
  simp only [hwaits]
  exact if_neg (Nat.not_le.mpr hfabric)

end

/-- Settles O29: each way of a contribution, a unit, a copy and a DONE has its own lemma. -/
theorem reductionsAndWritesComplete : Obligations.ReductionsAndWritesComplete := by
  refine ⟨fun s d n p => ⟨?behind, ?red, ?next, ?combine⟩,
    fun s p a e d => ⟨?wr, ?mwr, ?mwrBehind, ?hutch, ?engine, ?cast, ?reduce⟩⟩
  case behind => exact fun hturn hbehind => run_commit ((onTurn_of_inTurn hturn _).trans (recvRed_of_behind hbehind))
  case red =>
    refine fun hturn hchain hhead => ⟨fun r hplace => ?_, fun hplace => ?_⟩
    · exact run_commit ((onTurn_of_inTurn hturn _).trans (recvRed_of_place hchain hhead hplace))
    · exact run_commit ((onTurn_of_inTurn hturn _).trans (recvRed_of_no_place hchain hhead hplace))
  case next =>
    exact fun c up ups loc locs hloc =>
      ⟨redNext_at_head hloc, redNext_of_one_unit hloc, redNext_of_other_unit hloc⟩
  case combine =>
    intro c q c' v hctx hnext sent k next dir before from_
    have hgoes := redCombine_of_next hctx hnext
    refine ⟨fun hend => ?_, fun hmore hup hfree hserved => ?_, fun hmore hup hheld => ?_, fun hmore hdown => ?_⟩
    · exact run_commit (hgoes.trans (if_pos hend))
    · exact run_commit (hgoes.trans ((if_neg hmore).trans (onward_of_served hup hfree hserved)))
    · exact run_commit (hgoes.trans ((if_neg hmore).trans (onward_of_held hup hheld)))
    · exact run_commit (hgoes.trans ((if_neg hmore).trans (onward_of_failed hdown)))
  case wr => exact fun hturn => run_commit (onTurn_of_inTurn hturn (recvWr p))
  case mwr =>
    intro hturn hdie hhead
    have hstep := (onTurn_of_inTurn hturn _).trans (mwrStep_of_head hdie hhead)
    refine ⟨fun hend => ?_, fun hmore hup => ⟨fun hfree hserved => ?_, fun hheld => ?_⟩, fun hmore hdown => ?_⟩
    · exact run_commit (hstep.trans (if_pos hend))
    · exact run_commit (hstep.trans ((if_neg hmore).trans (onward_of_served hup hfree hserved)))
    · exact run_commit (hstep.trans ((if_neg hmore).trans (onward_of_held hup hheld)))
    · exact run_commit (hstep.trans ((if_neg hmore).trans (onward_of_failed hdown)))
  case mwrBehind => exact fun hturn hbehind => run_commit ((onTurn_of_inTurn hturn _).trans (mwrStep_of_behind hbehind))
  case hutch => exact fun hturn hunit => run_commit ((onTurn_of_inTurn hturn _).trans (recvDone_at_hutch rfl hunit))
  case engine => exact fun hturn hunit => run_commit ((onTurn_of_inTurn hturn _).trans (recvDone_at_array rfl hunit))
  case cast =>
    exact fun t hstarted hcast hwaits hfabric => run_commit (multicastTimeout_of_waiting hstarted hcast hwaits hfabric)
  case reduce => exact fun t hwaits hfabric => run_commit (reduceDoneTimeout_of_waiting hwaits hfabric)

end Sys2Proof.Machine
end

section
/-! ### Memory packets -/

namespace Sys2Proof.Machine

/-! #### AWR (R179, R195, R212, R234) -/

/-- The bytes of an AWR to a good range in their place, and in the lines of the writing die's own store that hold them. -/
def Work.awrStored (w : Work) (p : Packet) : Work :=
  let x := w.localAddr p.address
  let bs := p.payload.take (field p.typeData 0 9)
  let stored := w.storeBytes x bs
  if p.srcPanel == stored.panelId && aSpace x == 0 then stored.dieUpdate (stored.srcDie p) x bs else stored

/-- DONE to the source of a packet whose transfer is complete, with its fault bit. -/
def Work.tellDone (w : Work) (p : Packet) (done : Option Bool) : Work :=
  match done with
  | some f => w.send { p.answer 0x15 with vc := 2, typeData := p.total + ofBool f * 2 ^ 32 }
  | none => w

/-- An AWR counted toward its transfer's DONE, at the die or the Hutch that it is bound for. -/
def Work.awrCounted (w : Work) (p : Packet) : Work :=
  if p.dstUnit / 16 = 1 then
    let rx := countRx (w.die (w.dstDie p)).rx p false
    (w.modDie (w.dstDie p) (fun d => { d with rx := rx.1 })).tellDone p rx.2
  else
    let rx := countRx (w.hutch (p.dstUnit % 16)).rx p false
    (w.modHutch (p.dstUnit % 16) (fun h => { h with rx := rx.1 })).tellDone p rx.2

theorem recvAwr_of_good {w v : Work} {p : Packet} (htake : w.take p = v)
    (hstatus : v.writeStatus (v.localAddr p.address) (field p.typeData 0 9) = none)
    (hspace : aSpace (v.localAddr p.address) ≤ 2) : recvAwr p w = (v.awrStored p).awrCounted p := by
  have hgood : ((v.writeStatus (v.localAddr p.address) (field p.typeData 0 9)).isSome ||
      decide (2 < aSpace (v.localAddr p.address))) = false := by
    rw [hstatus, decide_eq_false (Nat.not_lt.mpr hspace)]
    rfl
  unfold recvAwr Work.awrCounted
  by_cases hunit : p.dstUnit / 16 = 1
  · simp only [htake, hgood, if_pos hunit]
    rfl
  · simp only [htake, hgood, if_neg hunit]
    rfl

/-! #### RDDATA (R206, R248) -/

/-- Where word j lands of a read's unit that belongs at byte k of the descriptor. -/
def Engine.landsAt (en : Engine) (k j : Nat) : Nat :=
  if en.desc.op = 5 then en.desc.feedAt (k + 8 * j) else en.desc.dstAt (k + 8 * j)

/-- Unit i of the read of n bytes by transfer t noted, `units` having landed before; the read is over with its last unit. -/
def Engine.readLanded (t : Transfer) (n : Nat) (units : List Nat) (i : Nat) (en : Engine) : Engine :=
  { en with
    transfers := if (n + 255) / 256 ≤ units.length + 1 then en.transfers.filter (fun x => x.id != t.id)
      else en.transfers.map (fun x => if x.id = t.id then { x with read := some (n, units ++ [i]) } else x) }

/-- The first m bytes of a read's unit in the engine's scratchpad from byte k of the descriptor, through the main port. -/
def Work.landRead (w : Work) (a e k m : Nat) (payload : List Byte) : Work :=
  let en := w.engine a e
  let landed := (List.range (m / 8)).foldl (fun w j => w.write (en.landsAt k j) (slice payload (8 * j) 8)) w
  (landed.accesses a true e (by32s ((List.range (m / 8)).map (fun j => wordAt (en.landsAt k j))))).feedLanded a e k (payload.take m)

section
variable {w v : Work} {p : Packet} {a e n : Nat} {t : Transfer} {units : List Nat}
  (htake : w.take p = v) (harr : v.dstArr p = a) (hsub : p.dstSub % 4 = e)
  (hfind : (v.engine a e).transfers.find? (fun t => t.id == p.transfer && t.read.isSome) = some t)
  (hread : t.read = some (n, units)) (hfault : (v.arr a).faulted = false) (hnew : units.contains p.index = false)
include htake harr hsub hfind hread hfault hnew

/-- A unit of a read that has not landed yet, of an engine without a fault, lands, or aborts the task where it is poisoned. -/
theorem recvRddata_of_awaited :
    recvRddata p w =
      let x := t.address + 256 * p.index
      let m := min 256 (n - 256 * p.index)
      let k := t.start + 256 * p.index
      if p.poison then v.faultAt a e ((if v.isRemote x then none else v.readStatus x m).getD 0x22) x k
      else ((v.landRead a e k m p.payload).modEngine a e (Engine.readLanded t n units p.index)).pump a e := by
  have hawaited : ¬((v.arr a).faulted = true ∨ units.contains p.index = true) := by
    rw [hfault, hnew]
    exact not_or.mpr ⟨Bool.false_ne_true, Bool.false_ne_true⟩
  unfold recvRddata
  simp only [htake, harr, hsub, hfind, hread]
  rw [if_neg hawaited]
  simp only [List.length_append, List.length_singleton, decide_eq_true_eq]
  rfl

end

/-- Settles O28: an AWR in its turn and each kind of RDDATA have their own lemma, and a RDREQ acts in every state. -/
theorem memoryPacketsCarryBytes : Obligations.MemoryPacketsCarryBytes := by
  intro s p w x n stored seen tell rxDie rxHutch count entered turn adaptive piece a e en
  refine ⟨?awr, ?rdreq, ?clean, ?poisoned⟩
  case awr =>
    intro hturn hstatus hspace
    have hawr := (onTurn_of_inTurn hturn _).trans (recvAwr_of_good rfl hstatus hspace)
    refine ⟨fun hunit => ?_, fun hunit => ?_⟩
    · exact run_commit (hawr.trans (if_pos hunit))
    · exact run_commit (hawr.trans (if_neg hunit))
  case rdreq => exact fun hturn => run_commit (onTurn_of_inTurn hturn (recvRdreq p))
  case clean =>
    intro t k us hturn hfind hread hfault hnew hclean
    exact run_commit (((onTurn_of_inTurn hturn _).trans (recvRddata_of_awaited rfl rfl rfl hfind hread hfault hnew)).trans
      (if_neg (ne_true_of_eq_false hclean)))
  case poisoned =>
    intro t k us hturn hfind hread hfault hnew hpoison
    exact run_commit (((onTurn_of_inTurn hturn _).trans (recvRddata_of_awaited rfl rfl rfl hfind hread hfault hnew)).trans
      (if_pos hpoison))

end Sys2Proof.Machine
end

section
/-! ### Links -/

namespace Sys2Proof.Machine

/-! #### A link and its opposite direction -/

theorem opposite_ne (l : Nat) : l ≠ opposite l := by
  unfold opposite
  split <;> omega

@[simp] theorem link_modLink (w : Work) (l : Nat) (f : Link → Link) : (w.modLink l f).link l = f (w.link l) := tget_tput_same _ _ _ _

theorem link_modLink_ne (w : Work) {l k : Nat} (f : Link → Link) (h : k ≠ l) : (w.modLink l f).link k = w.link k :=
  tget_tput_ne _ _ _ h

/-! #### A frame received (R228 to R230, R232, R239) -/

/-- A link after a good frame in sequence, with the flits `part` of a packet that is not yet whole: an end to any replay. -/
def Link.received (f : LinkFrame) (part : List Byte) (x : Link) : Link :=
  { x with
    lastGood := f.seq, waits := false, tries := 0, part := part
    resend := match x.resend with
      | g :: rest => if g.seq = f.seq then rest else x.resend
      | [] => [] }

/-- The opposite direction, whose sender the frame's acknowledgement and Nak reach. -/
def Link.answered (f : LinkFrame) (x : Link) : Link :=
  let y := if f.ackValid then x.acked f.ack else x
  { y with asked := y.asked || f.nak }

/-- Both directions of link l after a good frame in sequence. -/
def Work.frameTaken (w : Work) (l : Nat) (f : LinkFrame) : Work :=
  (w.modLink l (Link.received f (assemble (w.link l).part (frameFlits f)).1)).modLink (opposite l) (Link.answered f)

section
variable {w : Work} {l : Nat} {f : LinkFrame} {far : Option (Nat × Nat)}

section
variable (hends : w.linkEnds l = some far) (hup : (w.link l).failed = false) (hroot : w.root.lost = false)
include hends hup hroot

/-- What a frame does on a link that stands: by its CRC, and by its place in the sequence. -/
theorem linkFrame_of_up :
    linkFrame l f w =
      if f.crc ≠ frameCrc f then
        if 8 ≤ (w.link l).tries then linkFails l w
        else if (w.link l).waits then w else w.modLink l (fun x => { x with waits := true, nak := true })
      else if f.seq ≠ ((w.link l).lastGood + 1) % 64 then w
      else (w.frameTaken l f).landPackets l f (assemble (w.link l).part (frameFlits f)).2 far := by
  have hstands : ¬((w.link l).failed = true ∨ w.root.lost = true) := by
    rw [hup, hroot]
    exact not_or.mpr ⟨Bool.false_ne_true, Bool.false_ne_true⟩
  unfold linkFrame
  simp only [hends]
  exact if_neg hstands

/-- A good frame in sequence reaches both directions, and its whole packets land. -/
theorem linkFrame_of_good (hcrc : f.crc = frameCrc f) (hseq : f.seq = ((w.link l).lastGood + 1) % 64) :
    linkFrame l f w = (w.frameTaken l f).landPackets l f (assemble (w.link l).part (frameFlits f)).2 far := by
  rw [linkFrame_of_up hends hup hroot, if_neg (not_not_intro hcrc), if_neg (not_not_intro hseq)]

theorem linkFrame_of_other_seq (hcrc : f.crc = frameCrc f) (hseq : f.seq ≠ ((w.link l).lastGood + 1) % 64) :
    linkFrame l f w = w := by
  rw [linkFrame_of_up hends hup hroot, if_neg (not_not_intro hcrc), if_pos hseq]

/-- A frame with a bad CRC asks for a replay, unless the receiver waits for one. -/
theorem linkFrame_of_bad_crc (hcrc : f.crc ≠ frameCrc f) (htries : (w.link l).tries < 8) :
    linkFrame l f w =
      if (w.link l).waits then w else w.modLink l (fun x => { x with waits := true, nak := true }) := by
  rw [linkFrame_of_up hends hup hroot, if_pos hcrc, if_neg (Nat.not_le.mpr htries)]

/-- The eighth replay that fails makes the direction fail. -/
theorem linkFrame_of_last_try (hcrc : f.crc ≠ frameCrc f) (htries : 8 ≤ (w.link l).tries) : linkFrame l f w = linkFails l w := by
  rw [linkFrame_of_up hends hup hroot, if_pos hcrc, if_pos htries]

end

/-- Packets for this panel land one after another among those that await their units. -/
theorem foldl_arrive {port : Option Nat} {id : Nat} (ps : List Packet) (hown : ∀ p ∈ ps, p.dstPanel = id) :
    ∀ v : Work, v.panelId = id →
      ps.foldl (fun w p => match (if p.dstPanel = w.panelId then none else port) with
        | some k => w.toEgress k p
        | none => { w with arrived := w.arrived ++ [p] }) v = { v with arrived := v.arrived ++ ps } := by
  induction ps with
  | nil =>
    intro v _
    rw [List.append_nil]
    rfl
  | cons p ps ih =>
    intro v hid
    have hp : p.dstPanel = v.panelId := (hown p List.mem_cons_self).trans hid.symm
    simp only [List.foldl_cons, if_pos hp]
    rw [ih (fun q hq => hown q (List.mem_cons_of_mem p hq)) { v with arrived := v.arrived ++ [p] } hid]
    simp only [List.append_assoc, List.singleton_append]

/-- At an external die, a frame's packets for this panel await their units. -/
theorem landPackets_at_external {ps : List Packet} (hcredit : f.creditValid = false) (hown : ∀ p ∈ ps, p.dstPanel = w.panelId) :
    w.landPackets l f ps none = { w with arrived := w.arrived ++ ps } := by
  unfold Work.landPackets
  simp only [hcredit]
  exact foldl_arrive ps hown w rfl

end

/-! #### A replay, and a direction that fails (R229, R230) -/

section
variable {w : Work} {l : Nat} (hup : (w.link l).failed = false)
include hup

/-- A replay asked for takes place, and the first beyond the second's limit raises a WARN event. -/
theorem linkReplay_of_asked (hasked : (w.link l).asked = true) :
    linkReplay l w =
      let fresh := decide ((w.link l).secondAt + 1000000000 ≤ w.now)
      let n := if fresh then 1 else (w.link l).inSecond + 1
      let v := w.modLink l (fun x => { x with
        asked := false, waits := false, resend := x.sent, tries := x.tries + 1
        replays := satAdd 32 x.replays 1, inSecond := n, secondAt := if fresh then w.now else x.secondAt })
      if n = w.reg 0x4000 0x0A + 1 then v.event 2 0 3 (l / 2) n else v := by
  have hgoes : ¬((w.link l).failed = true ∨ (!(w.link l).asked) = true) := by
    rw [hup, hasked]
    exact not_or.mpr ⟨Bool.false_ne_true, Bool.false_ne_true⟩
  exact if_neg hgoes

/-- A direction of a link in use fails: the unit does, and the failure is counted and told. -/
theorem linkFails_of_up (hexists : linkExists (l / 16) (l / 2 % 8) = true) :
    linkFails l w =
      ((w.unitFails { kind := 2, source := 6, site := l / 16, sub := l / 2 % 8, pattern := 11, time := w.now }).addReg
        0x4000 9 1).event 1 0 3 (l / 2) 0 := by
  have hstands : ¬((w.link l).failed = true ∨ (!linkExists (l / 16) (l / 2 % 8)) = true) := by
    rw [hup, hexists]
    exact not_or.mpr ⟨Bool.false_ne_true, Bool.false_ne_true⟩
  exact if_neg hstands

end

/-- A link that fails stops in both directions, with its record, the ports that go with it, and new tables (R230, R256). -/
theorem unitFails_of_link {w : Work} {r : Defect} (hin : w.isOut r = false) (hkind : r.kind = 2) :
    w.unitFails r = (((w.linkStops (2 * (r.site * 8 + r.sub))).recordDefect r).refitPorts).startTables := by
  unfold Work.unitFails
  rw [if_neg (ne_true_of_eq_false hin), hkind]
  rfl

/-! #### A frame sent (R228, R229, R236) -/

/-- The frame that a direction of a link sends next with these flits. -/
def Work.nextFrame (w : Work) (l : Nat) (fs : List (List Byte)) : LinkFrame :=
  let credit := (takeOwed (w.link l).owed).1
  let f : LinkFrame :=
    { slots := fs.zipIdx.map (fun e => (e.2, e.1)), seq := (w.link l).sendSeq, ackValid := true
      ack := (w.link (opposite l)).lastGood, nak := (w.link (opposite l)).nak
      creditValid := credit.isSome, creditVc := (credit.getD (0, 0, 0)).1, creditLane := (credit.getD (0, 0, 0)).2.1
      creditCount := (credit.getD (0, 0, 0)).2.2 % 8, crc := 0 }
  { f with crc := frameCrc f }

/-- The CRC covers the frame's other fields alone. -/
theorem nextFrame_crc (w : Work) (l : Nat) (fs : List (List Byte)) : (w.nextFrame l fs).crc = frameCrc (w.nextFrame l fs) := rfl

/-- The sender counts the frame in its sequence and keeps it, with the 31 before it. -/
theorem link_sendFrame (w : Work) (l : Nat) (fs : List (List Byte)) :
    (w.sendFrame l fs).link l = { w.link l with
      sendSeq := ((w.link l).sendSeq + 1) % 64, owed := (takeOwed (w.link l).owed).2
      sent := ((w.link l).sent ++ [w.nextFrame l fs]).drop ((w.link l).sent.length + 1 - 32) } :=
  (link_modLink_ne _ _ (opposite_ne l)).trans (link_modLink w l _)

end Sys2Proof.Machine
end

section
/-! ### Routers -/

namespace Sys2Proof.Machine

/-! #### Headers (R236, R240, R241, R245, R247) -/

/-- What becomes of a header, by the router's decision. -/
def Route.elim (r : Route) (wait lost : Work) (take : Nat → Packet → Work) : Work :=
  match r with
  | .wait => wait
  | .lost => lost
  | .take out q => take out q

/-- The header that an input's buffer routes next: the oldest of its channel and lane without an output. -/
def Router.unrouted (r : Router) (port : Nat) (p : Packet) : Option Slot :=
  r.slots.find? (fun s => s.inPort == port && s.out.isNone && s.vc == p.vc && s.lane == p.lane)

/-- A slot of die d's router takes an output, with the header as it goes on. -/
def Work.slotRouted (w : Work) (d : Nat) (x : Slot) (out : Nat) (q : Packet) : Work :=
  w.modRouter d (fun r => { r with
    slots := r.slots.map (fun y => if y = x then { x with pkt := q, out := some out } else y) })

theorem withEgress_of_own_panel {w : Work} {p : Packet} (h : p.dstPanel = w.panelId) (d : Nat) (link : Option Nat)
    (go : Work → Work) : w.withEgress d link p go = go w := if_pos h

section
variable {w : Work} {d port : Nat} {p : Packet} (hdie : w.diePresent d = true)
include hdie

theorem headerArrival_at_mesh (hport : port < 4) : headerArrival d port p w = w.headerMesh d port p := by
  unfold headerArrival
  rw [hdie]
  exact if_pos hport

theorem headerArrival_in_slot {x : Slot} (hport : 4 ≤ port) (hslot : (w.die d).router.unrouted port p = some x) (hpkt : x.pkt = p) :
    headerArrival d port p w = w.headerExternal d x := by
  unfold Router.unrouted at hslot
  unfold headerArrival
  rw [hdie, hslot]
  exact (if_neg (Nat.not_lt.mpr hport)).trans (if_pos hpkt)

theorem headerArrival_at_source (hport : 4 ≤ port) (hslot : (w.die d).router.unrouted port p = none) :
    headerArrival d port p w = w.headerInject d port p := by
  unfold Router.unrouted at hslot
  unfold headerArrival
  rw [hdie, hslot]
  exact if_neg (Nat.not_lt.mpr hport)

end

section
variable {w : Work} {d port : Nat} {p : Packet} {x : Slot} (hpkt : x.pkt = p) (hctx : w.forContext d p = false)
  (hknown : knownType p.type = true)
include hpkt hctx hknown

/-- A header that came over a mesh link is routed where it stands. -/
theorem headerMesh_of_slot (hslot : (w.die d).router.unrouted port p = some x) :
    w.headerMesh d port p = (w.routeHeader d false p).elim w ((w.freeSlot d x).sayUnreach d p) (w.slotRouted d x) := by
  unfold Router.unrouted at hslot
  unfold Work.headerMesh
  simp only [hslot, hpkt, hctx, hknown]
  exact if_neg (not_or.mpr ⟨not_not_intro rfl, Bool.false_ne_true⟩)

/-- One that came over an XH or XV link has its source router here. -/
theorem headerExternal_of_slot :
    w.headerExternal d x = (w.routeHeader d true p).elim w ((w.freeSlot d x).sayUnreach d p)
      (fun out q => w.withEgress d x.link p (fun w => w.slotRouted d x out q)) := by
  unfold Work.headerExternal
  simp only [hpkt, hctx, hknown]
  rfl

end

/-! #### Injection (R229, R235, R238, R257) -/

/-- A packet as it enters a slot of die d's router from a unit of the die, stamped there, with its output. -/
def Work.enters (w : Work) (d port : Nat) (p : Packet) (out : Nat) (q : Packet) : Work :=
  (w.take p).modRouter d (fun r => { r with slots := r.slots ++ [⟨port, w.stamped q, q.vc, q.lane, some out, none⟩] })

theorem headerInject_of_no_entry {w : Work} {d port : Nat} {p : Packet} (h : w.mayEnter d port p = none) :
    w.headerInject d port p = w := by
  unfold Work.headerInject
  rw [h]

section
variable {w : Work} {d port : Nat} {p : Packet} {link : Option Nat} (henter : w.mayEnter d port p = some link)
include henter

/-- A stopped router takes CTRL packets alone (R257). -/
theorem headerInject_of_stopped (hstop : (w.die d).router.stopped = true) (hvc : p.vc ≠ 0) : w.headerInject d port p = w := by
  unfold Work.headerInject
  rw [henter]
  exact if_pos ⟨hstop, hvc⟩

variable (hknown : knownType p.type = true) (hrun : (w.die d).router.stopped = false)
include hknown hrun

/-- A packet of an external die goes onto its link, where the router's input has a slot free. -/
theorem headerInject_onto_link {m : Nat} (hlink : link = some m)
    (hroom : tget 0 (w.link (2 * m + 1)).spent (p.vc * 2 + (if p.vc = 3 ∨ p.vc = 5 then 0 else 1)) < vcSlots p.vc) :
    w.headerInject d port p = (w.take p).sendIn m p := by
  unfold Work.headerInject
  simp only [henter, hlink, hknown, hrun]
  exact if_neg (Nat.not_le.mpr hroom)

/-- A packet of a unit of the die that a context or a step takes here waits for it. -/
theorem headerInject_to_context (hlink : link = none) (hctx : w.forContext d p = true) :
    w.headerInject d port p = w.waitLocal d p := by
  unfold Work.headerInject
  simp only [henter, hlink, hknown, hrun]
  exact if_pos hctx

/-- Any other is routed as it enters, where its input has a slot free. -/
theorem headerInject_of_unit (hlink : link = none) (hctx : w.forContext d p = false) :
    w.headerInject d port p = (w.routeHeader d true p).elim w ((w.take p).sayUnreach d p) (fun out q =>
      if vcSlots q.vc ≤ ((w.die d).router.inBuffer port q.vc q.lane).length then w
      else w.withEgress d none p (fun v => v.enters d port p out q)) := by
  unfold Work.headerInject
  simp only [henter, hlink, hknown, hrun, hctx]
  rfl

end

/-! #### Output (R229, R237, R245) -/

/-- Slot x of an output's channel, lane and input i has left die d's router, with the output's round-robin marks moved. -/
def Work.slotServed (w : Work) (d out vc lane i : Nat) (x : Slot) : Work :=
  (w.freeSlot d x).modRouter d (fun r => { r with
    rrVc := if vc = 0 then r.rrVc else tput r.rrVc out vc, rrIn := tput r.rrIn (out * 12 + vc * 2 + lane) i })

/-- The slot served leaves over a mesh link, over an XH or XV link, or to a unit of the die. -/
theorem outputArbitration_of_slot {w v : Work} {d out vc lane i : Nat} {x : Slot}
    (hnext : w.nextSlot d out = some (vc, lane, i, x)) (hserved : w.slotServed d out vc lane i x = v) :
    outputArbitration d out w =
      if out < 4 then (if v.outUsable d out then v.sendOut d out x.pkt else v.sayUnreach d x.pkt)
      else if out = 5 then
        ((v.exitUnit x.pkt).bind (v.attachLink d)).elim (v.sayUnreach d x.pkt)
          (fun m => v.sendFrame (2 * m) (flitsOf (packetBytes x.pkt)))
      else { v with arrived := v.arrived ++ [x.pkt] } := by
  unfold Work.slotServed at hserved
  unfold outputArbitration
  simp only [hnext, hserved]
  cases (v.exitUnit x.pkt).bind (v.attachLink d) <;> rfl

/-! #### Lost packets and congestion (R247, R260) -/

theorem unreached_at_other {p : Packet} (h : p.dstUnit / 16 ≠ 2) (w : Work) : unreached p w = recvUnreach p w := if_neg h

theorem unreached_at_task_unit {p : Packet} (h : p.dstUnit / 16 = 2) (w : Work) :
    unreached p w =
      if field p.typeData 0 8 = 0x30 then (w.take p).stealLost p
      else if field p.typeData 0 8 = 0x32 then (w.take p).pushLost p else w.take p := if_pos h

/-- A command that has its effect in a packet's turn alone leaves the state as it is out of turn (R238). -/
theorem run_out_of_turn {s : State} {p : Packet} (h : s.work.inTurn p = false) (f : Work → Work) :
    run (onTurn p f) s = .next s :=
  run_commit (if_neg (ne_true_of_eq_false h))

/-- Settles O30: each event of a link and each way of a packet through a router has its own lemma, and every arrival is of a packet
in its turn. -/
theorem linksAndRoutersCarryPackets : Obligations.LinksAndRoutersCarryPackets := by
  refine ⟨fun s l f d port far => ⟨?frame, ?replay, ?fails, ?sent⟩,
    fun s d p hdie => ⟨?mesh, ?external, ?inject, ?noEntry, ?output, ?unreach, ?unreachTask, ?sample⟩, ?outOfTurn⟩
  case frame =>
    intro hends hup hroot
    refine ⟨fun hcrc hseq => ?_, ?_, ?_, fun hcrc hseq => ?_, fun hcrc htries => ?_, fun hcrc htries => ?_⟩
    · exact run_commit (linkFrame_of_good hends hup hroot hcrc hseq)
    · rintro rfl
      rfl
    · rintro rfl hcredit hown
      exact landPackets_at_external hcredit hown
    · exact run_commit (linkFrame_of_other_seq hends hup hroot hcrc hseq)
    · exact run_commit (linkFrame_of_bad_crc hends hup hroot hcrc htries)
    · exact run_commit (linkFrame_of_last_try hends hup hroot hcrc htries)
  case replay => exact fun hup hasked => run_commit (linkReplay_of_asked hup hasked)
  case fails =>
    exact fun hup hexists hin => run_commit ((linkFails_of_up hup hexists).trans (by rw [unitFails_of_link hin rfl]))
  case sent =>
    intro fs
    have hlink := link_sendFrame s.work l fs
    exact ⟨s.work.nextFrame l fs, congrArg Link.sent hlink, rfl, congrArg Link.sendSeq hlink, rfl, rfl, rfl, nextFrame_crc _ _ _⟩
  case mesh =>
    intro port x hport hslot hpkt hctx hknown
    have hroute := (headerArrival_at_mesh hdie hport).trans (headerMesh_of_slot hpkt hctx hknown hslot)
    refine ⟨fun out q h => ?_, fun h => ?_, fun h => ?_⟩ <;> exact run_commit (hroute.trans (congrArg (Route.elim · _ _ _) h))
  case external =>
    intro port x hport hslot hpkt hctx hknown
    have hroute := (headerArrival_in_slot hdie hport hslot hpkt).trans (headerExternal_of_slot hpkt hctx hknown)
    refine ⟨fun out q h hown => ?_, fun h => ?_⟩
    · exact run_commit ((hroute.trans (congrArg (Route.elim · _ _ _) h)).trans (withEgress_of_own_panel hown _ _ _))
    · exact run_commit (hroute.trans (congrArg (Route.elim · _ _ _) h))
  case inject =>
    intro port link hport hslot henter hknown
    have hsource := headerArrival_at_source hdie hport hslot
    refine ⟨fun hstop hvc => ?_, fun m hrun hlink hroom => ?_, fun hrun hlink hctx => ?_,
      fun out q hrun hlink hctx hroute hroom hown => ?_, fun hrun hlink hctx hroute => ?_⟩
    · exact run_commit (hsource.trans (headerInject_of_stopped henter hstop hvc))
    · exact run_commit (hsource.trans (headerInject_onto_link henter hknown hrun hlink hroom))
    · exact run_commit (hsource.trans (headerInject_to_context henter hknown hrun hlink hctx))
    · have henters := (hsource.trans (headerInject_of_unit henter hknown hrun hlink hctx)).trans
        (congrArg (Route.elim · _ _ _) hroute)
      exact run_commit (henters.trans ((if_neg (Nat.not_le.mpr hroom)).trans (withEgress_of_own_panel hown _ _ _)))
    · exact run_commit ((hsource.trans (headerInject_of_unit henter hknown hrun hlink hctx)).trans
        (congrArg (Route.elim · _ _ _) hroute))
  case noEntry =>
    exact fun port hport hslot hno => run_commit ((headerArrival_at_source hdie hport hslot).trans (headerInject_of_no_entry hno))
  case output =>
    intro out vc lane i x hnext left
    have hserves := outputArbitration_of_slot hnext (rfl : _ = left)
    refine ⟨fun hmesh hup => ?_, fun hmesh hdown => ?_, fun m hext hlink => ?_, fun hext hlink => ?_, fun hunit => ?_⟩
    · exact run_commit (hserves.trans ((if_pos hmesh).trans (if_pos hup)))
    · exact run_commit (hserves.trans ((if_pos hmesh).trans (if_neg (ne_true_of_eq_false hdown))))
    · exact run_commit (hserves.trans ((if_neg (by omega)).trans ((if_pos hext).trans (congrArg (Option.elim · _ _) hlink))))
    · exact run_commit (hserves.trans ((if_neg (by omega)).trans ((if_pos hext).trans (congrArg (Option.elim · _ _) hlink))))
    · exact run_commit (hserves.trans ((if_neg (by omega)).trans (if_neg (by omega))))
  case unreach => exact fun hturn hunit => run_commit ((onTurn_of_inTurn hturn _).trans (unreached_at_other hunit _))
  case unreachTask => exact fun hturn hunit => run_commit ((onTurn_of_inTurn hturn _).trans (unreached_at_task_unit hunit _))
  case sample =>
    refine run_commit (f := congestionSample d) ?_
    unfold congestionSample
    rw [hdie]
    rfl
  case outOfTurn =>
    intro s p d hturn
    simp only [List.cons_append, List.nil_append, List.forall_mem_cons, List.not_mem_nil, false_imp_iff, implies_true,
      and_true]
    and_intros <;> exact run_out_of_turn hturn _

end Sys2Proof.Machine
end

section
/-! ### Table changes -/

namespace Sys2Proof.Machine

/-! #### The steps of a change (R257, R259) -/

section
variable {w : Work} {d : Nat}

theorem fmgrTable_of_writing (hst : w.fmgr.st = 1) (hdie : w.diePresent d = true) :
    fmgrTable d w = w.modRouter d (fun r => { r with inactive := w.routeList w.gaps d, filled := true }) := if_pos ⟨hst, hdie⟩

/-- With every router's acknowledgement the manager stops them, once no bay that goes off has tasks still to end. -/
theorem allAcked_of_writing (hst : w.fmgr.st = 1) :
    w.allAcked =
      if w.routers.all w.fmgr.acked.contains = true ∧ w.domains.any (fun e => e.2.st == .switchingOff && e.2.step == 2) = false
      then ({ w with fmgr := { w.fmgr with stopAt := w.now } } : Work).fabricTo 2 else w := by
  unfold Work.allAcked
  simp only [hst, true_and, Bool.not_eq_true']

theorem fmgrTableAck_of_filled (hst : w.fmgr.st = 1) (hfilled : (w.die d).router.filled = true)
    (hnew : w.fmgr.acked.contains d = false) :
    fmgrTableAck d w = ({ w with fmgr := { w.fmgr with acked := w.fmgr.acked ++ [d] } } : Work).allAcked :=
  if_pos ⟨hst, hfilled, (Bool.not_eq_true' _).mpr hnew⟩

theorem fmgrStop_of_stopping (hst : w.fmgr.st = 2) (hdie : w.diePresent d = true) :
    fmgrStop d w = w.modRouter d (fun r => { r with stopped := true }) := if_pos ⟨hst, hdie⟩

theorem fmgrStopped_of_stopped (hst : w.fmgr.st = 2) (hstop : (w.die d).router.stopped = true)
    (hnew : w.fmgr.stopped.contains d = false) :
    fmgrStopped d w = { w with fmgr := { w.fmgr with stopped := w.fmgr.stopped ++ [d] } } :=
  if_pos ⟨hst, hstop, (Bool.not_eq_true' _).mpr hnew⟩

section
variable (hst : w.fmgr.st = 2) (hstop : (w.die d).router.stopped = true) (htime : w.now ≤ w.fmgr.stopAt + 1000000)
  (hempty : w.routerEmpty d = true)
include hst hstop htime hempty

/-- The first check that finds a stopped router empty notes its time. -/
theorem quiesceCheck_of_first (hfirst : (w.die d).router.checkedAt = none) :
    quiesceCheck d w = w.modRouter d (fun r => { r with checkedAt := some w.now }) := by
  unfold quiesceCheck
  simp [hst, hstop, Nat.not_lt.mpr htime, hempty, hfirst]

/-- The second, 1 µs later and before the deadline, reports the router quiesced. -/
theorem quiesceCheck_of_second {t : Nat} (hsecond : (w.die d).router.checkedAt = some t)
    (hdeadline : t + 1000 ≤ w.fmgr.stopAt + 1000000) :
    quiesceCheck d w = (w.reach (t + 1000)).modRouter d (fun r => { r with quiesced := true }) := by
  unfold quiesceCheck
  simp [hst, hstop, Nat.not_lt.mpr htime, hempty, hsecond, Nat.not_lt.mpr hdeadline]

end

/-- With the last router that has stopped and drained, the swap begins. -/
theorem fmgrQuiesced_of_quiesced {v : Work} (hst : w.fmgr.st = 2) (hquiet : (w.die d).router.quiesced = true)
    (hnew : w.fmgr.quiesced.contains d = false)
    (hnote : ({ w with fmgr := { w.fmgr with quiesced := w.fmgr.quiesced ++ [d] } } : Work) = v) :
    fmgrQuiesced d w =
      if v.routers.all (fun e => v.fmgr.stopped.contains e && v.fmgr.quiesced.contains e) then v.fabricTo 3 else v := by
  subst hnote
  exact if_pos ⟨hst, hquiet, (Bool.not_eq_true' _).mpr hnew⟩

theorem fmgrSwap_of_swapping (hst : w.fmgr.st = 3) (hdie : w.diePresent d = true) (hnew : (w.die d).router.swapped = false) :
    fmgrSwap d w = w.modRouter d (fun r => { r with active := r.inactive, inactive := r.active, swapped := true }) :=
  if_pos ⟨hst, hdie, (Bool.not_eq_true' _).mpr hnew⟩

theorem fmgrSwapped_of_swapped (hst : w.fmgr.st = 3) (hswapped : (w.die d).router.swapped = true)
    (hnew : w.fmgr.swapped.contains d = false) :
    fmgrSwapped d w = { w with fmgr := { w.fmgr with swapped := w.fmgr.swapped ++ [d] } } :=
  if_pos ⟨hst, hswapped, (Bool.not_eq_true' _).mpr hnew⟩

end

/-! #### The end of a change (R257 to R259) -/

/-- Every router accepts packets again, on the tables that it has swapped to, and no timer counts the time of the stop. -/
def Work.injects (w : Work) : Work :=
  { w.skipStop w.fmgr.stopAt with
    fmgr := { steer := w.fmgr.next, next := w.fmgr.next }
    dies := w.dies.map (fun e => (e.1, { e.2 with router := { e.2.router with stopped := false, swapped := false } })) }

/-- The manager tells the host of a change that is over, and of the time that it took. -/
def Work.changeTold (w : Work) (stop : Nat) : Work :=
  let v := (w.fabricTo 0).addReg 0x4000 1 1
  (v.setReg 0x4000 5 ((v.now - stop) / 1000 % 2 ^ 32)).interrupt 15

/-- With every router swapped the fabric resumes; a change asked for meanwhile begins. -/
theorem fmgrResume_of_swapped {w : Work} (hst : w.fmgr.st = 3) (hall : w.routers.all w.fmgr.swapped.contains = true) :
    fmgrResume w =
      if w.fmgr.again then (w.injects.changeTold w.fmgr.stopAt).startTables else w.injects.changeTold w.fmgr.stopAt :=
  if_pos ⟨hst, hall⟩

/-- A drain past its deadline discards what is left, and the swap begins. -/
theorem tableTimeout_of_stopped {w v : Work} (hst : w.fmgr.st = 2)
    (hdiscard : (w.reach (w.fmgr.stopAt + 1000001)).discardTraffic = v) :
    tableTimeout w = ({ v with dies := v.dies.map (fun e =>
      (e.1, { e.2 with router := { e.2.router with stopped := true, quiesced := true } })) } : Work).fabricTo 3 := by
  subst hdiscard
  exact if_neg (not_not_intro hst)

/-! #### Congestion maps (R260) -/

theorem fmgrMapreq_of_present {w : Work} {d : Nat} (hdie : w.diePresent d = true) :
    fmgrMapreq d w = (List.range 2).foldl (fun v i =>
      v.send { v.packet 0x21 d 0x30 0 v.sideboardA v.boardUnit 0 with
        vc := 0, typeData := 9, total := 2, index := i
        payload := flits (slice ((w.die d).router.mapBytes w.now) (256 * i) 256) }) w := by
  unfold fmgrMapreq
  rw [hdie]
  rfl

/-- The map that holds a window: the one in place where its window is the same, else a new one. -/
def Work.mapOf (w : Work) (window : Nat) : List Byte :=
  if window = w.reg 0x4100 3 then padTo (288 * w.numDies) (w.blob 0x4100 4) else List.replicate (288 * w.numDies) 0

/-- The map of a window with a die's part set. -/
def Work.mapWith (w : Work) (d window : Nat) (data : List Byte) : List Byte :=
  (w.mapOf window).take (288 * d) ++ padTo 288 data ++ (w.mapOf window).drop (288 * d + 288)

theorem fmgrMapdata_of_window {w : Work} {d window : Nat} (hdie : d < w.numDies) (hstart : window % 10000 = 0)
    (hlater : w.reg 0x4100 3 ≤ window) (data : List Byte) :
    fmgrMapdata d window data w =
      ((w.setBlob 0x4100 4 (w.mapWith d window data)).setBlob 0x4100 5 (hotPorts (w.mapWith d window data))).setReg
        0x4100 3 window := by
  have hplaced : ¬(w.numDies ≤ d ∨ window % 10000 ≠ 0 ∨ window < w.reg 0x4100 3) := by omega
  exact if_neg hplaced

/-- Settles O31: each step of a change, its end, its deadline and each part of the map have their own lemma. -/
theorem tablesSwapAndFabricResumes : Obligations.TablesSwapAndFabricResumes := by
  refine ⟨fun s d => ⟨?table, ?ack, ?stop, ?stopped, ?first, ?second, ?quiesced, ?swap, ?swapped⟩,
    fun s d window data p => ⟨?resume, ?timeout, ?mapreq, ?mapdata, ?dict⟩⟩
  case table => exact fun hst hdie => run_commit (fmgrTable_of_writing hst hdie)
  case ack =>
    exact fun hst hfilled hnew => run_commit ((fmgrTableAck_of_filled hst hfilled hnew).trans (allAcked_of_writing hst))
  case stop => exact fun hst hdie => run_commit (fmgrStop_of_stopping hst hdie)
  case stopped => exact fun hst hstop hnew => run_commit (fmgrStopped_of_stopped hst hstop hnew)
  case first => exact fun hst hstop htime hempty hfirst => run_commit (quiesceCheck_of_first hst hstop htime hempty hfirst)
  case second =>
    exact fun t hst hstop htime hempty hsecond hdeadline =>
      run_commit (quiesceCheck_of_second hst hstop htime hempty hsecond hdeadline)
  case quiesced => exact fun hst hquiet hnew => run_commit (fmgrQuiesced_of_quiesced hst hquiet hnew rfl)
  case swap => exact fun hst hdie hnew => run_commit (fmgrSwap_of_swapping hst hdie hnew)
  case swapped => exact fun hst hswapped hnew => run_commit (fmgrSwapped_of_swapped hst hswapped hnew)
  case resume => exact fun hst hall => run_commit (fmgrResume_of_swapped hst hall)
  case timeout => exact fun hst => run_commit (tableTimeout_of_stopped hst rfl)
  case mapreq => exact fun hdie => run_commit (fmgrMapreq_of_present hdie)
  case mapdata => exact fun hdie hstart hlater => run_commit (fmgrMapdata_of_window hdie hstart hlater data)
  case dict => exact fun hturn => run_commit (onTurn_of_inTurn hturn (dictPacket p))

end Sys2Proof.Machine
end

section
/-! ### Weight sets and generations -/

namespace Sys2Proof.Machine

section
variable {w : Work} {n : Nat}

/-! #### Sets and their keys (R262, R263, R265, R268) -/

/-- A good layer table makes a FREE set DEFINED, once every Hutch that owns a layer has its staging (R263, R267). -/
theorem define_of_good {v u : Work} {data bs : List Byte} {rs : List (List Byte)} (hn : n < 64) (hlen : data.length = 16)
    (hzero : leAt data 6 2 = 0) (hfree : (w.wset n).st = .free) (hspace : aSpace (leAt data 8 8) = 0)
    (hread : w.readStatus (leAt data 8 8) (64 * leAt data 4 2) = none)
    (hload : w.loadBytes (leAt data 8 8) (64 * leAt data 4 2) false = (bs, v))
    (hrs : (List.range (leAt data 4 2)).map (fun i => slice bs (64 * i) 64) = rs)
    (hgood : v.badLayer rs = none) (hstaging : v.reserveStaging (owners (rs.map layerOf)) = .inr u) :
    define n data w =
      (u.modSet n (fun x => { x with st := .defined, setId := leAt data 0 4, layers := rs.map layerOf })).tellSet n 0 := by
  subst hrs
  unfold define
  simp only [Nat.not_le.mpr hn, hlen, hzero, hfree, hspace, hread, hload, hgood, hstaging]
  rfl

/-- A set whose generations have no pin has no pinned one to refuse for. -/
theorem find_pinned_eq_none {x : WSet} (h : ∀ e ∈ x.held, e.2.pins = 0) : x.held.find? (fun e => e.2.pins != 0) = none := by
  simpa using h

/-- MODE moves a set that is not yet in the mode asked for, where no generation is pinned and training has the current one
alone (R262). -/
theorem setMode_of_unpinned {mode : Nat} (hn : n < 64) (hmode : mode < 2) (hjob : w.jobRuns = false)
    (husable : (w.wset n).usable = true) (hdefined : (w.wset n).st ≠ .defined)
    (hother : (((w.wset n).st == .training) == (mode == 1)) = false) (hpins : ∀ e ∈ (w.wset n).held, e.2.pins = 0)
    (hcurrent : mode = 1 → ∀ e ∈ (w.wset n).held, e.2.st = .current) :
    setMode n mode w =
      ((w.modSet n (fun x => { x with st := if mode = 0 then .ready else .training })).setReg (0x7001 + n) 5 mode).tellSet n 0 := by
  have hmay : (!(w.wset n).usable || (w.wset n).st == .defined) = false := by simp [husable, hdefined]
  unfold setMode
  simp only [Nat.not_le.mpr hn, Nat.not_le.mpr hmode, hjob, hmay, hother, find_pinned_eq_none hpins]
  obtain rfl | rfl : mode = 0 ∨ mode = 1 := by omega
  · rfl
  · have hnone : (w.wset n).held.find? (fun e => e.2.st != .current) = none := by simpa using hcurrent rfl
    simp only [hnone]
    rfl

/-- A wrapped key replaces the set's key by what it unwraps to, none where a check fails (R265). -/
theorem wrappedKey_of_usable {data : List Byte} (hn : n < 64) (hlen : data.length = 1624) (husable : (w.wset n).usable = true) :
    wrappedKey n data w =
      (w.modSet n (fun x => { x with key := w.unwrapRecord (w.wset n) data })).tellSet n
        (if (w.unwrapRecord (w.wset n) data).isSome then 0 else 0x45) := by
  unfold wrappedKey
  simp only [Nat.not_le.mpr hn, hlen, husable]
  rfl

/-- Undefine forgets the key at once; the zeroing is still to come (R268). -/
theorem undefine_of_unpinned (hn : n < 64) (hjob : w.jobRuns = false) (hzeroing : (w.wset n).zeroing = false)
    (hst : (w.wset n).st ≠ .free) (hpins : ∀ e ∈ (w.wset n).held, e.2.pins = 0) :
    undefine n w = (w.modSet n (fun x => { x with key := none, zeroing := true })).tellSet n 0xFF := by
  unfold undefine
  simp only [Nat.not_le.mpr hn, hjob, hzeroing, hst, find_pinned_eq_none hpins]
  rfl

theorem undefineZeroComplete_of_zeroing (h : (w.wset n).zeroing = true) :
    undefineZeroComplete n w = ((w.wset n).protectedRanges.foldl (fun w r => w.clearRange r.1 r.2) w).freeSet n := if_pos h

/-! #### Generations (R270, R271) -/

/-- A set in TRAINING takes no new generation (R262, R272; assumption 106). -/
theorem newGeneration_of_training (hn : n < 64) (hst : (w.wset n).st = .training) :
    newGeneration n w = w.tellSet n 0x41 := by
  unfold newGeneration
  simp [Nat.not_le.mpr hn, hst]

/-- Elsewhere the next free number takes the first free slot, BUILDING. -/
theorem newGeneration_of_slot {i num : Nat} (hn : n < 64) (husable : (w.wset n).usable = true) (hst : (w.wset n).st ≠ .training)
    (hslot : (List.range 4).find? (fun i => ((w.wset n).gen i).st == .free) = some i)
    (hnum : (w.wset n).nextFree 5 (w.wset n).nextNumber = num) :
    newGeneration n w = ((w.modSet n (fun z => { z with
      gens := tput z.gens i { number := num, st := .building, created := w.now }
      begun := z.begun.filter (fun r => !((w.wset n).layers.flatMap (fun l => l.slotRange i)).any (meets r))
      nextNumber := if num = 65535 then 1 else num + 1 })).setReg (0x7001 + n) 9 num).tellSet n 0 := by
  subst hnum
  have hmay : (!(w.wset n).usable || (w.wset n).st == .training) = false := by simp [husable, hst]
  unfold newGeneration
  simp only [Nat.not_le.mpr hn, hmay, hslot]
  rfl

section
variable {g i : Nat} (hn : n < 64) (husable : (w.wset n).usable = true) (hslot : (w.wset n).slotOf g = some i)
include hn husable hslot

/-- A command on a generation that the set holds does its own work on its slot. -/
theorem onGen_of_held (f : Nat → Gen → Work) : w.onGen n g f = f i ((w.wset n).gen i) := by
  unfold Work.onGen
  simp only [Nat.not_le.mpr hn, husable, hslot]
  rfl

theorem publish_of_building (hst : ((w.wset n).gen i).st = .building) (hidle : ((w.wset n).gen i).ingesting = false)
    (hgood : ((w.wset n).gen i).chunkFailed = false) :
    publish n g w = (w.modSet n (·.modGen i (fun z => { z with st := .live }))).tellSet n 0 :=
  (onGen_of_held hn husable hslot _).trans (if_neg (by simp [hst, hidle, hgood]))

/-- The generation that was current leaves as its pins ask (R271). -/
theorem switchCurrent_of_live (hst : ((w.wset n).gen i).st = .live)
    (hmay : (w.wset n).st ≠ .training ∨ (w.wset n).current = none) :
    switchCurrent n g w = ((w.modSet n (fun z =>
      { (match (w.wset n).current with | some j => z.modGen j Gen.leave | none => z).modGen i (fun u => { u with st := .current }) with
        st := if z.st = .defined then .ready else z.st })).setReg (0x7001 + n) 6 g).tellSet n 0 := by
  have hserves : ¬((w.wset n).st = .training ∧ (w.wset n).current.isSome = true) := by
    rintro ⟨htraining, hsome⟩
    obtain h | h := hmay
    · exact h htraining
    · simp [h] at hsome
  exact (onGen_of_held hn husable hslot _).trans ((if_neg hserves).trans (if_neg (not_not_intro hst)))

theorem discard_of_unused (hst : ((w.wset n).gen i).st = .building ∨ ((w.wset n).gen i).st = .live)
    (hidle : ((w.wset n).gen i).ingesting = false) :
    discard n g w = (w.modSet n (·.modGen i (fun _ => {}))).tellSet n 0 :=
  (onGen_of_held hn husable hslot _).trans (if_pos ⟨hst, by rw [hidle]; rfl⟩)

theorem unpin_of_pinned (hst : ((w.wset n).gen i).st = .current ∨ ((w.wset n).gen i).st = .retiring)
    (hpins : ((w.wset n).gen i).pins ≠ 0) :
    unpin n g w = (w.modSet n (·.modGen i Gen.unpin)).tellSet n 0 :=
  (onGen_of_held hn husable hslot _).trans (if_pos ⟨hst, hpins⟩)

end

/-- A pin goes to the current generation of a serving set, while its count has room (R271). -/
theorem pinCurrent_of_ready {i : Nat} (hcurrent : (w.wset n).current = some i) (hst : (w.wset n).st = .ready)
    (hzeroing : (w.wset n).zeroing = false) (hpins : ((w.wset n).gen i).pins ≠ 0xFFFFFFFF) :
    w.pinCurrent n = .inr (i, w.modSet n (·.modGen i (fun z => { z with pins := z.pins + 1 }))) := by
  unfold Work.pinCurrent
  simp [hcurrent, hst, hzeroing, hpins]

theorem pin_of_pinCurrent {i : Nat} {v : Work} (hn : n < 64) (h : w.pinCurrent n = .inr (i, v)) :
    pin n w = (v.setReg (0x7001 + n) 0x0E ((v.wset n).gen i).number).tellSet n 0 := by
  unfold pin
  rw [if_neg (Nat.not_le.mpr hn), h]

end

/-- Settles O32: each command of a set, of its key and of its generations has its own lemma. -/
theorem weightSetsAndGenerations : Obligations.WeightSetsAndGenerations := by
  refine ⟨fun s n data => ⟨?define, ?mode, ?key, ?undefine, ?zeroed⟩,
    fun s n g i => ⟨?training, ?new, fun hn husable hslot => ⟨?publish, ?switch, ?discard, ?unpin⟩, ?pin⟩⟩
  case define =>
    exact fun v hn hlen hzero hfree hspace hread hgood hstaging =>
      run_commit (define_of_good hn hlen hzero hfree hspace hread rfl rfl hgood hstaging)
  case mode =>
    exact fun mode hn hmode hjob husable hdefined hother hpins hcurrent =>
      run_commit (setMode_of_unpinned hn hmode hjob husable hdefined hother hpins hcurrent)
  case key => exact fun hn hlen husable => run_commit (wrappedKey_of_usable hn hlen husable)
  case undefine =>
    exact fun hn hjob hzeroing hst hpins => run_commit (undefine_of_unpinned hn hjob hzeroing hst hpins)
  case zeroed => exact fun hzeroing => run_commit (undefineZeroComplete_of_zeroing hzeroing)
  case training => exact fun hn _ hst => run_commit (newGeneration_of_training hn hst)
  case new => exact fun hn husable hst hslot => run_commit (newGeneration_of_slot hn husable hst hslot rfl)
  case publish => exact fun hst hidle hgood => run_commit (publish_of_building hn husable hslot hst hidle hgood)
  case switch => exact fun hst hmay => run_commit (switchCurrent_of_live hn husable hslot hst hmay)
  case discard => exact fun hst hidle => run_commit (discard_of_unused hn husable hslot hst hidle)
  case unpin => exact fun hst hpins => run_commit (unpin_of_pinned hn husable hslot hst hpins)
  case pin =>
    exact fun hn hcurrent hst hzeroing hpins =>
      run_commit (pin_of_pinCurrent hn (pinCurrent_of_ready hcurrent hst hzeroing hpins))

end Sys2Proof.Machine
end

section
/-! ### Ingest -/

namespace Sys2Proof.Machine

/-! #### The chunks of a manifest (R266, R267) -/

/-- The manifest entries that `bs` spells, of a generation of set n, under a key. -/
def manifestChunks (n gen keyId count : Nat) (bs : List Byte) : List Chunk :=
  (List.range count).map (fun i => chunkOf n gen keyId i (slice bs (32 * i) 32))

/-- Set n takes note of an Ingest of generation `gen` with the good chunks that wait for it. -/
def Work.beginIngest (w : Work) (n gen count : Nat) (slot : Option Nat) (good : List Chunk) : Work :=
  let begun := w.modSet n (fun x => { x with
    ingest := some { generation := gen, entries := count, waiting := good.map (fun c => (c.dest, c.length)) } })
  match slot with
  | some i => begun.modSet n (·.modGen i (fun y => { y with ingesting := true }))
  | none => begun

/-- Chunks that no peer waits for enter the queues of their Hutches. -/
def Work.queueChunks (w : Work) (cs : List Chunk) : Work :=
  cs.foldl (fun w c => w.modHutch (aHutch c.dest) (fun h => { h with chunks := h.chunks ++ [{ c with peers := [] }] })) w

/-- An Ingest of the masters and moments, without a broadcast, of a set with its key: the good chunks are queued, each bad one
fails (R266, R267). -/
theorem ingest_of_good {w v : Work} {n : Nat} {data bs : List Byte} {key : Nat × List Byte} {cs : List Chunk} (hn : n < 64)
    (hlen : data.length = 16) (hflags : leAt data 0xE 2 = 0) (husable : (w.wset n).usable = true)
    (hidle : (w.wset n).ingestRuns = false) (hgen : leAt data 0xC 2 = 0) (hkey : (w.wset n).key = some key)
    (hspace : aSpace (leAt data 0 8) = 0) (hread : w.readStatus (leAt data 0 8) (32 * leAt data 8 4) = none)
    (hload : w.loadBytes (leAt data 0 8) (32 * leAt data 8 4) false = (bs, v))
    (hcs : manifestChunks n 0 key.1 (leAt data 8 4) bs = cs) :
    ingest n data w =
      ((cs.filter (fun c => !(w.wset n).chunkOk c)).foldl (fun w c => w.chunkFails (aHutch c.dest) c 0x23)
        ((v.beginIngest n 0 (leAt data 8 4) ((w.wset n).slotOf 0) (cs.filter (w.wset n).chunkOk)).queueChunks
          (cs.filter (w.wset n).chunkOk))).tellSet n 0xFF := by
  subst hcs
  unfold ingest
  simp only [Nat.not_le.mpr hn, hlen, hflags, husable, hidle, hgen, hkey, hspace, hread, hload]
  rfl

/-! #### Engines, and the end of an Ingest (R267, R269) -/

/-- A chunk taken up is begun, and waits no longer with the Ingest of its own panel. -/
def Work.beginChunk (w : Work) (c : Chunk) : Work :=
  w.modSet c.set (fun x => { x with begun := (c.dest, c.length) :: x.begun, ingest := x.ingest.map (fun g =>
    if c.remote then g else { g with waiting := g.waiting.filter (fun r => r.1 != c.dest) }) })

theorem decryptChunk_of_next {w : Work} {b k : Nat} {c : Chunk} (hk : k < 2)
    (hnext : (w.hutch b).chunks.find? (fun c => c.peers.isEmpty || !c.sent) = some c) :
    decryptChunk b k w =
      if c.peers.isEmpty then (w.beginChunk c).decrypt b k c else (w.beginChunk c).sendChunk b c := by
  unfold decryptChunk
  rw [if_neg (Nat.not_le.mpr hk), hnext]
  rfl

/-- A generation of set n, where the set holds it, is free of the Ingest that ran for it. -/
def Work.endIngest (w : Work) (n gen : Nat) : Work :=
  match (w.wset n).slotOf gen with
  | some i => w.modSet n (·.modGen i (fun y => { y with ingesting := false }))
  | none => w

/-- CommandStatus takes the outcome where it still reads 0xFF of this Ingest, and the generation is free of it (R267, R352). -/
theorem ingestComplete_of_done {w ended told : Work} {n : Nat} {g : Ingest} (hingest : (w.wset n).ingest = some g)
    (hruns : g.running = true) (hdone : g.entries ≤ g.done)
    (hended : w.modSet n (fun x => { x with ingest := some { g with running := false } }) = ended)
    (htold : (if ended.reg (0x7001 + n) 0x15 % 256 = 0xFF ∧ (ended.wset n).zeroing = false then ended.setStatus n g.status
      else ended) = told) :
    ingestComplete n w = told.endIngest n g.generation := by
  subst hended htold
  unfold ingestComplete
  simp only [hingest, hruns, hdone, and_self, if_true, Bool.not_eq_true']
  rfl

/-! #### Peers (R269) -/

/-- 200 µs without a peer's confirmation fail the chunk. -/
theorem chunkConfirmTimeout_of_sent {w : Work} {b k : Nat} {c : Chunk}
    (hwaits : (w.hutch b).chunks.find? (fun c => c.chunk == k && c.sent && !c.peers.isEmpty) = some c) :
    chunkConfirmTimeout b k w = ((w.reachOn (1000 + b) (c.sentAt + 200001)).dropChunk b c).chunkFails b c 0x46 := by
  unfold chunkConfirmTimeout
  rw [hwaits]

/-- Settles O33: an Ingest's start, each chunk taken up, its end and each message between peers have their own lemma. -/
theorem chunksAreIngested : Obligations.ChunksAreIngested := by
  intro s n b k data p w x got t m peers ok chunk
  refine ⟨?ingest, ?decrypt, ?complete, ?chunk, ?chunkdone, ?timeout⟩
  case ingest =>
    exact fun key hn hlen hflags husable hidle hgen hkey hspace hread =>
      run_commit (ingest_of_good hn hlen hflags husable hidle hgen hkey hspace hread rfl rfl)
  case decrypt => exact fun c hk hnext => run_commit (decryptChunk_of_next hk hnext)
  case complete => exact fun g hingest hruns hdone => run_commit (ingestComplete_of_done hingest hruns hdone rfl rfl)
  case chunk => exact fun hturn => run_commit (onTurn_of_inTurn hturn (recvChunk p))
  case chunkdone => exact fun hturn => run_commit (onTurn_of_inTurn hturn (recvChunkdone p))
  case timeout => exact fun c hwaits => run_commit (chunkConfirmTimeout_of_sent hwaits)

end Sys2Proof.Machine
end

section
/-! ### Weight streams and updates -/

namespace Sys2Proof.Machine

/-! #### Weight streams (R273) -/

section
variable {w : Work} {p : Packet} {h : Hutch} {x : WStream} (hhutch : w.hutch (p.dstUnit % 16) = h)
  (hx : { streamOf p h.updWait with address := w.localAddr p.address } = x)
include hhutch hx

theorem recvWstream_of_place (hplace : h.wrun.length < 8) :
    recvWstream p w = (w.take p).modHutch (p.dstUnit % 16) (fun h => { h with wrun := h.wrun ++ [x] }) := by
  subst hhutch hx
  exact if_pos hplace

theorem recvWstream_of_busy (hbusy : 8 ≤ h.wrun.length) (hroom : h.wqueue.length < 32) :
    recvWstream p w = (w.take p).modHutch (p.dstUnit % 16) (fun h => { h with wqueue := h.wqueue ++ [x] }) := by
  subst hhutch hx
  exact (if_neg (Nat.not_lt.mpr hbusy)).trans (if_pos hroom)

end

section
variable {w : Work} {b i : Nat} {x : WStream} (hrun : (w.hutch b).wrun[i]? = some x)
include hrun

/-- A stream without units under way is checked and asks for credit, once no UPDATE before it is on its range. -/
theorem wstreamRun_of_idle (hidle : x.units = 0) :
    wstreamRun b i w =
      if w.behindUpdate b x then w
      else match w.streamStatus b x with
        | some st => w.endStreamOf b x st 0
        | none => w.askStreamOf b x := by
  unfold wstreamRun
  simp only [hrun]
  exact if_pos hidle

/-- One with units under way waits for its answers, up to the deadline tick while the fabric counts time (R214, R217, R258). -/
theorem wstreamRun_of_under_way (hunits : x.units ≠ 0) (hfabric : w.fmgr.st < 2) :
    wstreamRun b i w =
      if x.launched = true ∧ w.past (1000 + b) (x.launchedAt + 200000) = true then w.endStreamOf b x 0x32 (w.bitmapOf b x x.done)
      else if (!x.launched) = true ∧ w.past (1000 + b) (x.askedAt + 100000) = true then
        (w.cancelStreamOf b x).endStreamOf b x 0x31 0
      else w := by
  unfold wstreamRun
  simp only [hrun]
  exact (if_neg hunits).trans (if_neg (Nat.not_le.mpr hfabric))

theorem wstreamRun_of_unanswered (hunits : x.units ≠ 0) (hfabric : w.fmgr.st < 2) (hlaunched : x.launched = true)
    (hpast : w.past (1000 + b) (x.launchedAt + 200000) = true) :
    wstreamRun b i w = w.endStreamOf b x 0x32 (w.bitmapOf b x x.done) :=
  (wstreamRun_of_under_way hrun hunits hfabric).trans (if_pos ⟨hlaunched, hpast⟩)

theorem wstreamRun_of_ungranted (hunits : x.units ≠ 0) (hfabric : w.fmgr.st < 2) (hlaunched : x.launched = false)
    (hpast : w.past (1000 + b) (x.askedAt + 100000) = true) :
    wstreamRun b i w = (w.cancelStreamOf b x).endStreamOf b x 0x31 0 :=
  (wstreamRun_of_under_way hrun hunits hfabric).trans
    ((if_neg (fun h => ne_true_of_eq_false hlaunched h.1)).trans (if_pos ⟨(Bool.not_eq_true' _).mpr hlaunched, hpast⟩))

end

/-! #### Updates (R275 to R277, R286) -/

/-- UDONE to the array that asked: the request leaves its lane and the notes of its Hutch. -/
def Work.answerUpdate (w : Work) (p : Packet) (st bad : Nat) : Work :=
  ((w.take p).modHutch (p.dstUnit % 16) (fun h => { h with updWait := h.updWait.filter (· != p) })).send
    { p.answer 0x43 with vc := 2, typeData := st + bad % 2 ^ 32 * 2 ^ 32 }

/-- The gradients zeroed, where the request asks for it. -/
def Work.clearGradients (w : Work) (u : Upd) : Work :=
  if bit u.flags 0 || bit u.flags 1 then w.clearRange u.grad (4 * u.count) else w

section
variable {w : Work} {p : Packet} {u : Upd} (hu : w.updIn p = u)
include hu

theorem recvUpdate_of_refused {st : Nat} (hstatus : w.updStatus (p.dstUnit % 16) u (w.updCfg p) = some st) :
    recvUpdate p w = w.answerUpdate p st 0 := by
  subst hu
  unfold recvUpdate
  simp only [hstatus]
  rfl

variable (hstatus : w.updStatus (p.dstUnit % 16) u (w.updCfg p) = none)
include hstatus

/-- A request that must wait and is not yet noted is noted. -/
theorem recvUpdate_of_waiting (hwaits : w.updateWaits (p.dstUnit % 16) p = true)
    (hnew : (w.hutch (p.dstUnit % 16)).updWait.contains p = false) :
    recvUpdate p w = w.modHutch (p.dstUnit % 16) (fun h => { h with updWait := h.updWait ++ [p] }) := by
  subst hu
  unfold recvUpdate
  simp only [hstatus, hwaits, hnew]
  rfl

theorem recvUpdate_of_clear (hturn : w.updateWaits (p.dstUnit % 16) p = false) (hclear : bit u.flags 1 = true) :
    recvUpdate p w = (w.clearGradients u).answerUpdate p 0 0 := by
  subst hu
  unfold recvUpdate
  simp only [hstatus, hturn, hclear, Work.clearGradients]
  rfl

/-- A request in its order runs over the current generation's slot of its layer. -/
theorem recvUpdate_of_ready {l : Layer} {j : Nat} {r : Nat × Work} (hturn : w.updateWaits (p.dstUnit % 16) p = false)
    (hclear : bit u.flags 1 = false) (hlayer : (w.wset u.set).layers[u.layer]? = some l)
    (hcurrent : (w.wset u.set).current = some j)
    (hrun : w.updRun (p.dstUnit % 16) u (w.updCfg p) l j = r) :
    recvUpdate p w = (r.2.clearGradients u).answerUpdate p 0 r.1 := by
  subst hu
  unfold recvUpdate
  simp only [hstatus, hturn, hclear, hlayer, hcurrent, hrun, Work.clearGradients]
  rfl

end

/-- Settles O34: each state of a stream and each outcome of an update has its own lemma. -/
theorem hutchStreamsAndUpdates : Obligations.HutchStreamsAndUpdates := by
  intro s p b i w t h a told counted u asked reply turn waits clear
  refine ⟨?place, ?queue, fun x hrun => ⟨?behind, ?checked, ?unanswered, ?ungranted⟩, ?wdone, ?udone, ?refused,
    fun hturn hstatus => ⟨?waits, ?clears, ?runs⟩⟩
  case place =>
    exact fun hturn hplace => run_commit ((onTurn_of_inTurn hturn _).trans (recvWstream_of_place rfl rfl hplace))
  case queue =>
    exact fun hturn hbusy hroom => run_commit ((onTurn_of_inTurn hturn _).trans (recvWstream_of_busy rfl rfl hbusy hroom))
  case behind => exact fun hidle hbehind => run_commit ((wstreamRun_of_idle hrun hidle).trans (if_pos hbehind))
  case checked =>
    exact fun hidle hclear =>
      run_commit ((wstreamRun_of_idle hrun hidle).trans (if_neg (ne_true_of_eq_false hclear)))
  case unanswered =>
    exact fun hunits hfabric hlaunched hpast => run_commit (wstreamRun_of_unanswered hrun hunits hfabric hlaunched hpast)
  case ungranted =>
    exact fun hunits hfabric hlaunched hpast => run_commit (wstreamRun_of_ungranted hrun hunits hfabric hlaunched hpast)
  case wdone => exact fun hturn => run_commit (onTurn_of_inTurn hturn (recvWdone p))
  case udone => exact fun hturn => run_commit (onTurn_of_inTurn hturn (recvUdone p))
  case refused =>
    exact fun st hturn hstatus => run_commit ((onTurn_of_inTurn hturn _).trans (recvUpdate_of_refused rfl hstatus))
  case waits =>
    exact fun hwaits hnew =>
      run_commit ((onTurn_of_inTurn hturn _).trans (recvUpdate_of_waiting rfl hstatus hwaits hnew))
  case clears =>
    exact fun hwaits hclear =>
      run_commit ((onTurn_of_inTurn hturn _).trans (recvUpdate_of_clear rfl hstatus hwaits hclear))
  case runs =>
    exact fun l j hwaits hclear hlayer hcurrent =>
      run_commit ((onTurn_of_inTurn hturn _).trans (recvUpdate_of_ready rfl hstatus hwaits hclear hlayer hcurrent rfl))

end Sys2Proof.Machine
end

section
/-! ### Task lists, fences and placement -/

namespace Sys2Proof.Machine

/-! #### Lists (R287, R288, R290) -/

/-- The list that LIST_CREATE's `data` describes: its number, its holder, its slots, its ring and its status line. -/
def createdList (data : List Byte) : Nat × TList :=
  (leAt data 0 2, { holder := leAt data 2 2, slots := leAt data 4 4, ring := leAt data 8 8, status := leAt data 16 8 })

/-- The list may come to be: its geometry is legal, no list has its number, and its holder holds fewer than four (R287, R288). -/
def Work.listFits (w : Work) (data : List Byte) : Prop :=
  leAt data 0 2 < 1024 ∧ leAt data 2 2 < w.numDies ∧ ringSlots (leAt data 4 4) = true ∧ aSpace (leAt data 8 8) = 0 ∧
    leAt data 8 8 % 256 = 0 ∧ aSpace (leAt data 16 8) = 0 ∧ leAt data 16 8 % 64 = 0 ∧ leAt data 24 8 = 0 ∧
    (w.lists.any fun e => e.1 == leAt data 0 2) = false ∧ (w.lists.filter (fun e => e.2.holder == leAt data 2 2)).length < 4

/-- A ring of slots that each hold the Seq of the lap before the first (R288). -/
def Work.numberRing (w : Work) (ring slots : Nat) : Work :=
  (List.range slots).foldl (fun w j => w.storeBytes (ring + 64 * j) (toBytes ((j + 1 + 2 ^ 32 - slots) % 2 ^ 32) 4)) w

/-- A list's ring is numbered and its status line cleared, and the list joins the others. -/
def Work.addList (w : Work) (n : Nat) (l : TList) : Work :=
  let zeroed := (w.numberRing l.ring l.slots).storeBytes l.status (List.replicate 64 0)
  { zeroed with lists := zeroed.lists ++ [(n, l)] }

theorem listCreate_of_fits {w : Work} {data : List Byte} {n : Nat} {l : TList} (hdata : createdList data = (n, l))
    (hjob : w.job.st.mayBind = true) (hlen : data.length = 32) (hfits : w.listFits data)
    (hring : w.writeStatus l.ring (64 * l.slots) = none) (hline : w.writeStatus l.status 64 = none) :
    listCreate data w = ((w.addList n l).listStatus 0 n).accept := by
  cases hdata
  obtain ⟨hnum, hdie, hslots, hring0, hring256, hline0, hline64, hzeros, hnew, hroom⟩ := hfits
  dsimp only at hring hline
  unfold listCreate
  simp only [hjob, hlen, hslots, hring0, hring256, hline0, hline64, hzeros, hnew, hring, hline, Nat.not_le.mpr hnum,
    Nat.not_le.mpr hdie, Nat.not_le.mpr hroom]
  rfl

theorem listDelete_of_held {w : Work} {n : Nat} (hjob : w.job.st.mayBind = true) (hheld : (w.lists.any fun e => e.1 == n) = true) :
    listDelete n w = (({ w with lists := w.lists.filter (fun e => e.1 != n) } : Work).listStatus 0 n).accept := by
  unfold listDelete
  rw [hjob, hheld]
  rfl

/-- The 256 B line that holds the next slot of a list (R290). -/
def TList.nextLine (l : TList) : Nat := l.ring + 64 * (l.taken % max l.slots 1) / 256 * 256

/-- The holder of list n takes the descriptors `got` from it, and counts them (R289, R290). -/
def Work.takeFrom (w : Work) (n : Nat) (l : TList) (got : List (List Byte)) : Work :=
  let listed : Work :=
    { w with lists := w.lists.map (fun e => if e.1 = n then (e.1, { e.2 with taken := l.taken + got.length }) else e) }
  listed.modTu l.holder (fun t => { t with taken := t.taken ++ got.map (fun b => ⟨n, b, listed.dieNow l.holder⟩) })

/-- A poll in its list's turn that finds valid slots; `line` is the line read, and the work after the read. -/
theorem listPoll_of_valid {w served : Work} {n m : Nat} {l : TList} {line : List Byte × Work} {got : List (List Byte)}
    (hlist : w.lists.find? (fun e => e.1 == n) = some (m, l)) (hjob : w.job.st = .running)
    (hquiet : (w.die l.holder).tu.quiet = false) (hdie : w.diePresent l.holder = true) (hturn : w.nextList l.holder = some n)
    (hserved : w.modTu l.holder (fun t => { t with lastList := some n }) = served)
    (hread : served.readStatus l.nextLine 256 = none) (hload : served.loadBytes l.nextLine 256 false = line)
    (hgot : takeSlots l line.1 (256 - (w.die l.holder).tu.used) 4 = got) (hsome : got ≠ [])
    (hwrite : (line.2.takeFrom n l got).writeStatus l.status 64 = none) :
    listPoll n w = (line.2.takeFrom n l got).storeBytes l.status
      (toBytes ((l.taken + got.length) % 2 ^ 32) 4 ++ List.replicate 60 0) := by
  have hmay : ¬ (w.job.st ≠ .running ∨ (w.die l.holder).tu.quiet = true ∨ (!w.diePresent l.holder) = true ∨
      w.nextList l.holder ≠ some n) := by simp [hjob, hquiet, hdie, hturn]
  unfold TList.nextLine at hread hload
  unfold Work.takeFrom at hwrite
  unfold listPoll
  simp only [hlist, if_neg hmay, hserved, hread, hload, hgot, List.isEmpty_eq_false_iff.mpr hsome, hwrite]
  rfl

/-! #### The kinds of descriptor (R291, R295) -/

section
variable {w : Work} {d : Nat} {m : Taken} {t : TaskDesc}

theorem runTask_of_head (hhead : w.headOf d 0 = some (m, t)) : runTask d w =
    if t.valid then (w.dropHead d).beginTask d m.list m.at_ t none else (w.dropHead d).endInvalid d t := by
  unfold runTask
  rw [hhead]

theorem batchTask_of_head (hhead : w.headOf d 1 = some (m, t)) : batchTask d w =
    if t.valid then (w.dropHead d).beginTask d m.list m.at_ t (some (t.base0, 0)) else (w.dropHead d).endInvalid d t := by
  unfold batchTask
  rw [hhead]

theorem fenceTask_of_head (hhead : w.headOf d 2 = some (m, t)) : fenceTask d w =
    if t.valid = false then (w.dropHead d).endInvalid d t
    else if t.die = 0xFFFF then (w.dropHead d).modTu d (fun u => { u with fences := u.fences ++ [⟨m.list, t, none⟩] })
    else (w.dropHead d).beginTask d m.list m.at_ t none := by
  unfold fenceTask
  simp only [hhead, Bool.not_eq_true']

end

/-! #### The end of a fence (R295) -/

theorem findAt_congr {A : Type} {p q : A → Bool} (h : ∀ x, p x = q x) (l : List A) (i : Nat) : findAt p l i = findAt q l i := by
  rw [funext h]

theorem fenceComplete_of_met {w : Work} {d n : Nat} {f : Fence} (hfind : findAt (w.fenceMet d) (w.die d).tu.fences 0 = some n)
    (hf : (w.die d).tu.fences[n]? = some f) :
    fenceComplete d w = (w.modTu d (fun u => { u with fences := ldrop u.fences n })).endFence d f 0 := by
  unfold fenceComplete
  simp only [hfind, hf]

/-! #### Placement (R293) -/

section
variable {w : Work} {d n : Nat} {i : Inst} (hjob : w.job.st = .running) (hquiet : (w.die d).tu.quiet = false)
  (hfind : findAt (fun i => (w.decide' d i).isSome) (w.die d).tu.queue 0 = some n) (hi : (w.die d).tu.queue[n]? = some i)
include hjob hquiet hfind hi

theorem taskPlacement_of_placed {a c : Nat} (h : w.decide' d i = some (.inr (a, c))) :
    taskPlacement d w = w.placeInst d n i a c := by
  unfold taskPlacement
  simp only [hjob, hquiet, hfind, hi, h]
  rfl

theorem taskPlacement_of_ended {st : Nat} (h : w.decide' d i = some (.inl st)) :
    taskPlacement d w = (w.modTu d (fun u => { u with queue := ldrop u.queue n })).endUnstarted d i st := by
  unfold taskPlacement
  simp only [hjob, hquiet, hfind, hi, h]
  rfl

end

/-- Settles O36: each command on a list, each kind of descriptor, a fence's end and each decision of placement has its own lemma.
A fence kept at its holder is met by what the holder counts, which is the statement's own predicate. -/
theorem listsFencesAndPlacement : Obligations.ListsFencesAndPlacement := by
  refine ⟨?lists, ?units⟩
  case lists =>
    intro s n d data w k slots ring line free numbered zeroed
    refine ⟨?create, ?delete, ?poll, ?run, ?batch, ?fence⟩
    case create =>
      intro hjob hlen hfree hring hline
      have hcreate := listCreate_of_fits rfl hjob hlen hfree hring hline
      exact run_commit hcreate
    case delete => exact fun hjob hheld => run_commit (listDelete_of_held hjob hheld)
    case poll =>
      intro m l hlist row served got taken count listed queued hjob hquiet hdie hturn hread hsome hwrite
      have hline : served.loadBytes l.nextLine 256 false = got := rfl
      have htaken : takeSlots l got.1 (256 - (w.die l.holder).tu.used) 4 = taken := rfl
      exact run_commit (listPoll_of_valid hlist hjob hquiet hdie hturn rfl hread hline htaken hsome hwrite)
    case run => exact fun m t hhead => run_commit (runTask_of_head hhead)
    case batch => exact fun m t hhead => run_commit (batchTask_of_head hhead)
    case fence => exact fun m t hhead => run_commit (fenceTask_of_head hhead)
  case units =>
    intro s d n w tu
    refine ⟨?met, fun i hjob hquiet hfind hi => ⟨?placed, ?ended⟩⟩
    case met =>
      intro f hfind hf
      refine run_commit (fenceComplete_of_met ((findAt_congr ?_ _ _).trans hfind) hf)
      rintro ⟨list, desc, _ | origin⟩
      case none => rfl
      case some => rfl
    case placed => exact fun a c h => run_commit (taskPlacement_of_placed hjob hquiet hfind hi h)
    case ended => exact fun st h => run_commit (taskPlacement_of_ended hjob hquiet hfind hi h)

end Sys2Proof.Machine
end

section
/-! ### The end of a task -/

namespace Sys2Proof.Machine

/-! #### Completion (R298, R383) -/

/-- A task without a copy that has done everything: it faults with 0x55 past its TimeLimit, and completes otherwise. -/
theorem taskComplete_of_done {w : Work} {a : Nat} {t : Active} (htask : (w.arr a).task = some t) (hrunning : t.running = true)
    (hfault : t.fault = none) (hst : (w.arr a).st = .run) (hdone : (w.arr a).taskDone = true) (hcopy : t.inst.copy = false)
    (htwin : t.twin = none) : taskComplete a w =
      if t.inst.desc.timeLimit ≠ 0 ∧ t.inst.limitAt t.startAt < w.dieNow (a / 16) then w.taskFault a { status := 0x55 }
      else (w.endTask a t { status := 0 } .ready).stopDrains := by
  unfold taskComplete Work.past
  simp only [htask, hrunning, hfault, hst, hdone, hcopy, htwin, decide_eq_true_eq]
  rfl

/-! #### Abort (R159, R220, R298) -/

/-- Every engine of array a cancels what it asked for, and every channel closes with reason abort. -/
def Work.withdraw (w : Work) (a : Nat) : Work := ((List.range 4).foldl (fun w e => w.cancelEngine a e) w).closeAll a true

theorem taskAbort_of_fault {w : Work} {a : Nat} {t : Active} {c : Cause} (htask : (w.arr a).task = some t)
    (hfault : t.fault = some c) (hcopy : t.inst.copy = false) (htwin : t.twin = none) : taskAbort a w =
      ((w.withdraw a).endTask a t c (if (w.arr a).st = .run then .ready else (w.arr a).st)).stopDrains := by
  unfold taskAbort
  simp only [htask, hfault, hcopy, htwin]
  rfl

/-! #### The time limit (R291, R296) -/

/-- The limit of a task that waits on a barrier counts from the taking of its descriptor, whenever it starts. -/
theorem limitAt_of_waits {i : Inst} (h : i.desc.waits = true) (startAt : Nat) :
    i.limitAt startAt = i.takenAt + 1000 * i.desc.timeLimit := congrArg (· + 1000 * i.desc.timeLimit) (if_pos h)

theorem timeLimit_of_waiting {w : Work} {d k : Nat} {i : Inst} (hi : (w.die d).tu.queue[k]? = some i)
    (hwaits : i.desc.waits = true) (hheld : (w.die d).tu.released i.desc = false) (hlimit : i.desc.timeLimit ≠ 0) :
    timeLimit d k true w = ((w.reachOn d (i.takenAt + 1000 * i.desc.timeLimit + 1)).modTu d
      (fun u => { u with queue := ldrop u.queue k })).endUnstarted d i 0x55 := by
  have hmay : i.desc.waits = true ∧ (!(w.die d).tu.released i.desc) = true ∧ i.desc.timeLimit ≠ 0 := by
    simp [hwaits, hheld, hlimit]
  rw [← limitAt_of_waits hwaits 0]
  unfold timeLimit
  simp only [if_true, hi, if_pos hmay]

theorem timeLimit_of_running {w : Work} {d k : Nat} {t : Active} (htask : (w.arr (arrOf d k)).task = some t)
    (hrunning : t.running = true) (hlimit : t.inst.desc.timeLimit ≠ 0) :
    timeLimit d k false w =
      (w.reachOn d (t.inst.limitAt t.startAt + 1)).taskFault (arrOf d k) { status := 0x55 } := by
  unfold timeLimit
  simp only [htask, if_pos (And.intro hrunning hlimit)]
  rfl

/-- Settles O38: a completion before and after the deadline tick, an abort, and the limit of a waiting and of a running
task. -/
theorem tasksEnd : Obligations.TasksEnd := by
  intro s a d k t w x quiet closed late
  refine ⟨fun htask hrunning hfault hst hdone hcopy htwin => ?_, ?abort, ?waiting, ?running⟩
  · have hend := taskComplete_of_done htask hrunning hfault hst hdone hcopy htwin
    exact ⟨fun hlate => run_commit (hend.trans (if_neg hlate)), fun hlate => run_commit (hend.trans (if_pos hlate))⟩
  case abort => exact fun c htask hfault hcopy htwin => run_commit (taskAbort_of_fault htask hfault hcopy htwin)
  case waiting => exact fun i hi hwaits hheld hlimit => run_commit (timeLimit_of_waiting hi hwaits hheld hlimit)
  case running => exact fun htask hrunning hlimit => run_commit (timeLimit_of_running htask hrunning hlimit)

end Sys2Proof.Machine
end

section
/-! ### Edge ports and egress credit -/

namespace Sys2Proof.Machine

/-! #### A frame received (R310 to R312, R316, R319) -/

/-- Port k has counted what the FEC corrected in a frame, and a codeword that it could not. -/
def Work.countFec (w : Work) (k : Nat) (f : EdgeFrame) : Work :=
  let seen := if f.corrected = 0 then w else w.corrected (0x4800 + k) 8 f.corrected 5 k
  if f.fecGood then seen else seen.addReg (0x4800 + k) 9 1

/-- A frame comes from the peer that port k's table names. -/
def Work.namesPeer (w : Work) (k : Nat) (f : EdgeFrame) : Prop :=
  f.senderPanel = w.peerPanel k ∧ f.senderPort = w.peerPort k ∧ f.role = w.peerRole k

/-- A frame in order is counted and feeds the check unit, and its whole packets take ingress slots of their class. -/
def Work.edgeTaken (w : Work) (k : Nat) (f : EdgeFrame) : Work :=
  let got := assemble (w.port k).part (edgeFlits f)
  let taken := (w.modPort k (fun x => { x with lastGood := f.seq, nak := false, waits := false, part := got.1 })).feedPort k 2 f
  { taken with entering := taken.entering ++ got.2.map (fun p => ⟨k, some (taken.ingressClass k p.srcPanel), p⟩) }

/-- A port that already waits discards without a Nak of its own, unless the frame fails its checks. -/
theorem discards_eq (bad : Bool) (x : Port) :
    x.discards bad = if x.waits = true ∧ bad = false then x else { x with waits := true, nak := true } := by
  unfold Port.discards
  cases x.waits <;> cases bad <;> rfl

theorem modPort_discards (w : Work) (k : Nat) (bad : Bool) :
    w.modPort k (·.discards bad) =
      w.modPort k (fun x => if x.waits = true ∧ bad = false then x else { x with waits := true, nak := true }) :=
  congrArg (w.modPort k) (funext (discards_eq bad))

theorem not_namesPeer_iff {w : Work} {k : Nat} {f : EdgeFrame} :
    ¬w.namesPeer k f ↔ f.senderPanel ≠ w.peerPanel k ∨ f.senderPort ≠ w.peerPort k ∨ f.role ≠ w.peerRole k := by
  unfold Work.namesPeer
  rw [Decidable.not_and_iff_not_or_not, Decidable.not_and_iff_not_or_not]

section
variable {w : Work} {k : Nat} {f : EdgeFrame} (hup : w.portUp k = true)
include hup

theorem edgeFrame_of_bad (hbad : f.crc ≠ edgeCrc f ∨ f.fecGood = false) :
    edgeFrame k f w = (w.countFec k f).modPort k (·.discards true) := by
  have hfails : f.crc ≠ edgeCrc f ∨ (!f.fecGood) = true := hbad.imp_right (by rintro h; rw [h]; rfl)
  unfold edgeFrame
  rw [hup]
  exact if_pos hfails

section
variable (hcrc : f.crc = edgeCrc f) (hfec : f.fecGood = true)
include hcrc hfec

/-- A frame that passes its checks is judged by its sender. -/
theorem edgeFrame_of_checked :
    edgeFrame k f w =
      let v := w.countFec k f
      if f.senderPanel ≠ v.peerPanel k ∨ f.senderPort ≠ v.peerPort k ∨ f.role ≠ v.peerRole k then v.miswired k
      else if f.idle then v.controlSlot k f
      else if f.seq = ((v.port k).lastGood + 1) % 65536 then (v.edgeTaken k f).controlSlot k f
      else v.modPort k (·.discards false) := by
  have hpasses : ¬(f.crc ≠ edgeCrc f ∨ (!f.fecGood) = true) := by simp [hcrc, hfec]
  unfold edgeFrame
  rw [hup]
  exact if_neg hpasses

theorem edgeFrame_of_stranger (hpeer : ¬(w.countFec k f).namesPeer k f) : edgeFrame k f w = (w.countFec k f).miswired k :=
  (edgeFrame_of_checked hup hcrc hfec).trans (if_pos (not_namesPeer_iff.mp hpeer))

section
variable (hpeer : (w.countFec k f).namesPeer k f)
include hpeer

theorem edgeFrame_of_peer :
    edgeFrame k f w =
      if f.idle then (w.countFec k f).controlSlot k f
      else if f.seq = (((w.countFec k f).port k).lastGood + 1) % 65536 then ((w.countFec k f).edgeTaken k f).controlSlot k f
      else (w.countFec k f).modPort k (·.discards false) :=
  (edgeFrame_of_checked hup hcrc hfec).trans (if_neg (fun h => not_namesPeer_iff.mpr h hpeer))

theorem edgeFrame_of_idle (hidle : f.idle = true) : edgeFrame k f w = (w.countFec k f).controlSlot k f :=
  (edgeFrame_of_peer hup hcrc hfec hpeer).trans (if_pos hidle)

section
variable (hidle : f.idle = false)
include hidle

theorem edgeFrame_of_next (hseq : f.seq = (((w.countFec k f).port k).lastGood + 1) % 65536) :
    edgeFrame k f w = ((w.countFec k f).edgeTaken k f).controlSlot k f := by
  rw [edgeFrame_of_peer hup hcrc hfec hpeer, if_neg (ne_true_of_eq_false hidle), if_pos hseq]

theorem edgeFrame_of_other_seq (hseq : f.seq ≠ (((w.countFec k f).port k).lastGood + 1) % 65536) :
    edgeFrame k f w = (w.countFec k f).modPort k (·.discards false) := by
  rw [edgeFrame_of_peer hup hcrc hfec hpeer, if_neg (ne_true_of_eq_false hidle), if_neg hseq]

end
end
end

/-! #### Replay and retraining (R311, R313) -/

/-- A replay asked for sends what is kept again and is counted; the eighth in succession fails the port. -/
theorem edgeReplay_of_asked (hasked : (w.port k).asked = true) (hsent : (w.port k).sent ≠ []) :
    edgeReplay k w =
      let again := (w.modPort k (fun x => { x with
        asked := false, resend := x.sent, last := x.sent.getLast?, badReplays := x.badReplays + 1 })).corrected
          (0x4800 + k) 0x0A (w.port k).sent.length 5 k
      if 8 ≤ (w.port k).badReplays + 1 then again.portFails k 1 else again := by
  unfold edgeReplay
  simp only [hup, hasked, List.isEmpty_eq_false_iff.mpr hsent]
  rfl

end

theorem portRetrain_of_failed {w : Work} {k : Nat} (hst : (w.port k).st = .failed ∨ (w.port k).st = .training) (test : PortTest) :
    portRetrain k test w = (w.reachOn (1016 + k) (w.port k).retryAt).bringUpPort k test := if_pos hst

/-! #### The pattern generator (R333) -/

theorem patternTest_of_allowed {w : Work} {k : Nat} (hk : k < 16) (hidle : (w.port k).st ≠ .testing)
    (hhinge : w.peerRole k = 2 → w.hinge.st ≠ 2) (hjob : w.peerRole k = 1 → w.jobRuns = false)
    (hfused : (w.port k).st ≠ .fused) (hdefect : (w.port k).st ≠ .defective) (ms : Nat) :
    patternTest k ms w =
      let told := if w.portUp k then w.readyChanged else w
      (told.modPort k (fun x => { x with
        st := .testing, before := x.st, testUntil := told.dieNow (1016 + k) + 1000000 * ms })).accept := by
  have hpaired : ¬(w.peerRole k = 2 ∧ w.hinge.st = 2) := not_and.mpr hhinge
  have hruns : ¬(w.peerRole k = 1 ∧ w.jobRuns = true) := fun h => ne_true_of_eq_false (hjob h.1) h.2
  unfold patternTest
  simp only [if_neg (Nat.not_le.mpr hk), if_neg hidle, if_neg hpaired, if_neg hruns, if_neg (not_or.mpr ⟨hfused, hdefect⟩)]

/-- The port has its former state again, which the ready map's source tells where the port is up. -/
theorem patternDone_of_testing {w : Work} {k : Nat} (hst : (w.port k).st = .testing) :
    patternDone k w =
      let back := (w.reachOn (1016 + k) (w.port k).testUntil).modPort k (fun x => { x with st := x.before })
      (if back.portUp k then back.readyChanged else back).portSend k 64 := if_pos hst

/-! #### Egress credit (R317) -/

/-- The holder of egress credit that an ECGR names, and whether an entry is its credit for the port and channel of the grant. -/
def Work.grantee (w : Work) (p : Packet) : Nat := if p.dstUnit / 16 = 5 then 1000 + p.dstUnit % 16 else w.dstDie p
def Work.isGranted (w : Work) (p : Packet) (e : Egress) : Bool :=
  e.holder == w.grantee p && e.port == p.srcUnit % 16 && e.vc == field p.typeData 0 3

theorem recvEcgr_of_held {w v : Work} {p : Packet} (hv : w.take p = v) (hheld : v.egress.any (v.isGranted p) = true) :
    recvEcgr p w = { v with egress := v.egress.map (fun e => if v.isGranted p e then
      { e with credits := min 64 (e.credits + field p.typeData 3 5), usedAt := v.dieNow (holderClock (v.grantee p)) } else e) } := by
  subst hv
  exact if_pos hheld

theorem recvEcgr_of_new {w v : Work} {p : Packet} (hv : w.take p = v) (hnew : v.egress.any (v.isGranted p) = false) :
    recvEcgr p w = { v with egress := v.egress ++
      [⟨v.grantee p, p.srcUnit % 16, field p.typeData 0 3, field p.typeData 3 5, v.dieNow (holderClock (v.grantee p))⟩] } := by
  subst hv
  exact if_neg (ne_true_of_eq_false hnew)

/-- Credits that their holder has not used go back to the port once 10 µs have passed on the holder's clock. -/
theorem egressIdle_of_held {w v : Work} {n : Nat} {e : Egress} (he : w.egress[n]? = some e) (hcredits : e.credits ≠ 0)
    (hv : w.reachOn (holderClock e.holder) (e.usedAt + 10000) = v) :
    egressIdle n w =
      ({ v with egress := ldrop v.egress n } : Work).returnCredits (v.holderDie e.holder)
        (if 1000 ≤ e.holder then 0x50 + (e.holder - 1000) else 0x30)
        ((v.portDie e.port (v.holderDie e.holder) false).getD ((v.portDies e.port).headD 0)) e.port e.vc 4 e.credits := by
  subst hv
  unfold egressIdle
  simp only [he, if_neg hcredits]

/-- Settles O40: each fate of a frame, a replay, the pattern generator and each message of egress credit has its own lemma. -/
theorem edgePortsAndEgress : Obligations.EdgePortsAndEgress := by
  refine ⟨fun s k ms cause f test => ⟨fun hup => ⟨?bad, ?stranger, ?idle, ?sequence⟩, ?replay, ?fails, ?retrain, ?pattern, ?done⟩,
    fun s p n => ⟨?request, ?held, ?new, ?returned, ?unused⟩⟩
  case bad => exact fun hbad => run_commit ((edgeFrame_of_bad hup hbad).trans (modPort_discards _ k true))
  case stranger => exact fun hcrc hfec hpeer => run_commit (edgeFrame_of_stranger hup hcrc hfec hpeer)
  case idle => exact fun hcrc hfec hpeer hidle => run_commit (edgeFrame_of_idle hup hcrc hfec hpeer hidle)
  case sequence =>
    exact fun hcrc hfec hpeer hidle =>
      ⟨fun hseq => run_commit (edgeFrame_of_next hup hcrc hfec hpeer hidle hseq),
       fun hseq => run_commit ((edgeFrame_of_other_seq hup hcrc hfec hpeer hidle hseq).trans (modPort_discards _ k false))⟩
  case replay => exact fun hup hasked hsent => run_commit (edgeReplay_of_asked hup hasked hsent)
  case fails => exact run_commit (f := fun w => w.portFails k cause) rfl
  case retrain => exact fun hst => run_commit (portRetrain_of_failed hst test)
  case pattern =>
    exact fun hk hidle hhinge hjob hfused hdefect =>
      run_commit (patternTest_of_allowed hk hidle hhinge hjob hfused hdefect ms)
  case done => exact fun hst => run_commit (patternDone_of_testing hst)
  case request => exact fun hturn => run_commit (onTurn_of_inTurn hturn (recvEcrq p))
  case held =>
    exact fun hturn hheld =>
      run_commit ((onTurn_of_inTurn hturn _).trans (congrArg Work.sendBeats (recvEcgr_of_held rfl hheld)))
  case new =>
    exact fun hturn hnew =>
      run_commit ((onTurn_of_inTurn hturn _).trans (congrArg Work.sendBeats (recvEcgr_of_new rfl hnew)))
  case returned => exact fun hturn => run_commit (onTurn_of_inTurn hturn (recvEcret p))
  case unused => exact fun e he hcredits => run_commit (egressIdle_of_held he hcredits rfl)

end Sys2Proof.Machine
end

section
/-! ### Barriers across panels -/

namespace Sys2Proof.Machine

/-! #### At the master (R338, R339) -/

/-- A global barrier as its master has it, none of it before its first arrival. -/
def Work.globalOf (w : Work) (id : Nat) : Global := (w.globals.find? (fun g => g.id == id)).getD { id := id }

/-- The barrier that a Sideboard's message names, and the arrivals at it with an XBARRIVE. -/
def barrierOf (p : Packet) : Nat := field p.typeData 0 12
def Work.arrivalsWith (w : Work) (p : Packet) : List (Nat × Nat × Bool) :=
  (w.globalOf (barrierOf p)).arrivals ++ [(p.srcPanel, p.address, bit p.typeData 16)]

/-- A global barrier put in the place of the one with its ID. -/
def Work.setGlobal (w : Work) (id : Nat) (g : Global) : Work :=
  { w with globals := w.globals.filter (fun g => g.id != id) ++ [g] }

/-- While PPS is locked, each arrival stamped under a locked PPS is late past the lower median by more than LatenessThreshold. -/
def Work.judgeAll (w : Work) (came : List (Nat × Nat × Bool)) : Work :=
  let times := sortBy (fun a b => decide (a ≤ b)) (came.map (fun x => x.2.1))
  let limit := times.getD ((times.length - 1) / 2) 0 + 1000 * w.reg 0x7800 2
  if w.ppsLocked then (came.filter (fun x => x.2.2)).foldl (fun w x => w.judge x.1 (decide (limit < x.2.1))) w else w

/-- The panels that arrived are told the number of the completion. -/
def Work.tellPanels (w : Work) (id n : Nat) (came : List (Nat × Nat × Bool)) : Work :=
  came.foldl (fun w x => w.send { w.boardPkt 0x54 0 x.1 with typeData := id + n * 2 ^ 32 }) w

section
variable {w v : Work} {p : Packet} {count : Nat} (hv : w.take p = v)
  (hmaster : v.globalRec (barrierOf p) = some (v.panelId, count))
include hv hmaster

/-- The master keeps an arrival, and completes the barrier with the last one. -/
theorem recvXbarrive_of_master :
    recvXbarrive p w =
      let n := ((v.globalOf (barrierOf p)).completions + 1) % 2 ^ 32
      if (v.arrivalsWith p).length < count then
        v.setGlobal (barrierOf p) { v.globalOf (barrierOf p) with arrivals := v.arrivalsWith p }
      else ((v.setGlobal (barrierOf p) { id := barrierOf p, arrivals := [], completions := n }).judgeAll (v.arrivalsWith p)).tellPanels
        (barrierOf p) n (v.arrivalsWith p) := by
  subst hv
  unfold barrierOf at hmaster
  unfold recvXbarrive
  simp only [hmaster]
  exact if_neg (not_not_intro rfl)

theorem recvXbarrive_of_early (hearly : (v.arrivalsWith p).length < count) :
    recvXbarrive p w = v.setGlobal (barrierOf p) { v.globalOf (barrierOf p) with arrivals := v.arrivalsWith p } :=
  (recvXbarrive_of_master hv hmaster).trans (if_pos hearly)

theorem recvXbarrive_of_last (hlast : count ≤ (v.arrivalsWith p).length) :
    recvXbarrive p w =
      let n := ((v.globalOf (barrierOf p)).completions + 1) % 2 ^ 32
      ((v.setGlobal (barrierOf p) { id := barrierOf p, arrivals := [], completions := n }).judgeAll (v.arrivalsWith p)).tellPanels
        (barrierOf p) n (v.arrivalsWith p) :=
  (recvXbarrive_of_master hv hmaster).trans (if_neg (Nat.not_lt.mpr hlast))

end

/-! #### Suspects (R339) -/

theorem clearSuspectPanel_of_suspect {w : Work} {panel : Nat} (h : w.suspects.contains panel = true) :
    clearSuspectPanel panel w =
      let cleared : Work :=
        { w with suspects := w.suspects.filter (· != panel), lates := w.lates.filter (fun l => l.panel != panel) }
      ((cleared.send { cleared.boardPkt 0x55 0 panel with typeData := 0 }).interrupt 13).accept := by
  unfold clearSuspectPanel
  rw [h]
  rfl

/-- Settles O41: an arrival at the master before the last, the last one, and the end of a suspicion have their own lemmas. -/
theorem panelsMeetAtBarriers : Obligations.PanelsMeetAtBarriers := by
  intro s p panel w id g came rest n told times limit judged cleared
  refine ⟨fun count hturn hmaster => ⟨?early, ?last⟩, ?done, ?suspect, ?clear⟩
  case early =>
    exact fun hearly => run_commit ((onTurn_of_inTurn hturn _).trans (recvXbarrive_of_early rfl hmaster hearly))
  case last =>
    exact fun hlast => run_commit ((onTurn_of_inTurn hturn _).trans (recvXbarrive_of_last rfl hmaster hlast))
  case done => exact fun hturn => run_commit (onTurn_of_inTurn hturn (recvXbdone p))
  case suspect => exact fun hturn => run_commit (onTurn_of_inTurn hturn (recvXsuspect p))
  case clear => exact fun hsuspect => run_commit (clearSuspectPanel_of_suspect hsuspect)

end Sys2Proof.Machine
end

section
/-! ### The twin and the mirror -/

namespace Sys2Proof.Machine

/-! #### Attach and detach (R331) -/

/-- A change of the Hinge's state is told by source 12, the same state again is not. -/
theorem hingeState_eq (w : Work) (st : Nat) :
    w.hingeState st =
      let moved := ({ w with hinge := { w.hinge with st := st } } : Work).setReg 0x4900 1 st
      if w.hinge.st = st then moved else moved.interrupt 12 := by
  unfold Work.hingeState
  by_cases h : w.hinge.st = st <;> simp [h]

/-- Hinge ports cabled to a panel. -/
def Work.hingesTo (w : Work) (panel : Nat) : List Nat :=
  (List.range 16).filter (fun k => w.peerRole k == 2 && w.peerPanel k == panel)

/-- The panel attaches: the twin is the panel that TwinPanel names, and the Hinge waits for its answer. -/
def Work.attaching (w : Work) : Work :=
  ({ w with hinge := { w.hinge with twin := w.reg 0x4900 2, attachWritten := true } } : Work).hingeState 1

section
variable {w : Work} (hjob : w.jobRuns = false)
include hjob

section
variable (hidle : w.reg 0x4900 9 % 256 ≠ 0xFF) (hst : w.hinge.st ≠ 2)
include hidle hst

/-- With two ports cabled to the twin, Attach asks it, and answers its own request where that has come already. -/
theorem attach_of_cabled (hcabled : 2 ≤ (w.hingesTo (w.reg 0x4900 2)).length) :
    attach w =
      let sent := ((w.attaching.hingeStatus 0xFF 0).sendAttach true).accept
      if sent.hinge.attachSeen then sent.answerAttach else sent := by
  unfold attach
  rw [hjob, if_neg Bool.false_ne_true, if_neg hidle, if_neg hst]
  exact if_neg (Nat.not_lt.mpr hcabled)

theorem attach_of_not_cabled (hcabled : (w.hingesTo (w.reg 0x4900 2)).length < 2) : attach w = (w.hingeStatus 0x61 0).accept := by
  unfold attach
  rw [hjob, if_neg Bool.false_ne_true, if_neg hidle, if_neg hst]
  exact if_pos hcabled

end

theorem detach_of_idle :
    detach w = (((if w.hinge.st = 0 then w else w.sendAttach false).unpair 0).hingeStatus 0 0).accept :=
  if_neg (ne_true_of_eq_false hjob)

end

section
variable {w t : Work} {p : Packet} (ht : w.take p = t)
include ht

/-- An attach request of the panel that TwinPanel names is kept, and answered once Attach is written here. -/
theorem recvHattach_of_named (hon : bit p.typeData 0 = true) (hnamed : p.srcPanel = t.reg 0x4900 2) :
    recvHattach p w =
      let met : Work := { t with hinge := { t.hinge with
        twin := p.srcPanel, twinTags := (List.range 4).map (fun i => leAt p.payload (4 * i) 4), attachSeen := true } }
      if met.hinge.attachWritten then met.answerAttach else met := by
  subst ht
  exact (if_pos hon).trans (if_neg (not_not_intro hnamed))

/-- An answer of the panel that this one attaches to pairs the two, or tells why not. -/
theorem recvHack_of_attaching (hst : t.hinge.st = 1) (htwin : p.srcPanel = t.hinge.twin) :
    recvHack p w =
      if field p.typeData 0 8 ≠ 0 then (t.hingeTo 0).hingeStatus (field p.typeData 0 8) (field p.typeData 8 8)
      else (({ t with hinge := { t.hinge with lastBeat := t.now, beats := 0, beatAt := 0, beatWaits := [] } } : Work).hingeTo
        2).hingeStatus 0 0 := by
  subst ht
  exact if_neg (not_or.mpr ⟨not_not_intro hst, not_not_intro htwin⟩)

end

/-! #### Heartbeats (R332) -/

theorem recvHbeat_of_twin {w t : Work} {p : Packet} (ht : w.take p = t) (hst : t.hinge.st = 2) (htwin : p.srcPanel = t.hinge.twin) :
    recvHbeat p w = { t with hinge := { t.hinge with lastBeat := t.now } } := by
  subst ht
  exact if_pos ⟨hst, htwin⟩

/-- A heartbeat waits at each Hinge port that is up and cabled to the twin, and goes as far as egress credit lets it. -/
theorem hbeatSend_of_paired {w due : Work} (hst : w.hinge.st = 2)
    (hdue : (if w.hinge.beatAt = 0 then w else w.reach (w.hinge.beatAt + 1000 * w.reg 0x4900 7)) = due) :
    hbeatSend w =
      let beat := (due.hinge.beats + 1) % 2 ^ 32
      let ports := (List.range 16).filter (fun k => due.peerRole k == 2 && due.peerPanel k == due.hinge.twin && due.portUp k)
      let packet := { due.boardPkt 0x56 0 due.hinge.twin with typeData := beat + due.hinge.st * 2 ^ 32 }
      ({ due with hinge := { due.hinge with
        beats := beat, beatAt := due.now, beatWaits := due.hinge.beatWaits ++ ports.map (fun k => (k, packet)) } } :
          Work).sendBeats := by
  subst hdue
  exact if_neg (not_not_intro hst)

/-- The heartbeats that wait for egress credit are taken up, and none waits. -/
def Work.noBeats (w : Work) : Work := { w with hinge := { w.hinge with beatWaits := [] } }

/-- A heartbeat for port k enters the port's egress buffer, or waits for credit. -/
def Work.sendBeat (w : Work) (b : Nat × Packet) : Work :=
  match w.spendEgress w.sideboardA b.1 0 with
  | (some u, _) => u.toEgress b.1 (w.stamped b.2)
  | (none, v) => { v with hinge := { v.hinge with beatWaits := v.hinge.beatWaits ++ [b] } }

theorem sendBeats_eq (w : Work) : w.sendBeats = w.hinge.beatWaits.foldl Work.sendBeat w.noBeats := rfl

theorem sendBeats_of_one {w : Work} {k : Nat} {q : Packet} (h : w.hinge.beatWaits = [(k, q)]) :
    w.sendBeats = w.noBeats.sendBeat (k, q) := by
  rw [sendBeats_eq, h]
  rfl

section
variable {w v : Work} {k : Nat} {q : Packet}

theorem sendBeat_of_credit {u : Work} (h : w.spendEgress w.sideboardA k 0 = (some u, v)) :
    w.sendBeat (k, q) = u.toEgress k (w.stamped q) := by
  unfold Work.sendBeat
  rw [h]

theorem sendBeat_of_no_credit (h : w.spendEgress w.sideboardA k 0 = (none, v)) :
    w.sendBeat (k, q) = { v with hinge := { v.hinge with beatWaits := v.hinge.beatWaits ++ [(k, q)] } } := by
  unfold Work.sendBeat
  rw [h]

end

/-- Without a Configure that waits for the twin's answer, the loss of the twin ends the pair and no more. -/
theorem twinLoss_of_paired {w lost : Work} (hst : w.hinge.st = 2)
    (hlost : (w.reach (w.hinge.lastBeat + 1000 * w.reg 0x4900 8)).event 1 0x61 0 0
      (w.reach (w.hinge.lastBeat + 1000 * w.reg 0x4900 8)).hinge.twin = lost)
    (hwaits : lost.job.mirrorWaits = false) : twinLoss w = lost.unpair 3 := by
  subst hlost
  exact (if_neg (not_not_intro hst)).trans (if_neg (ne_true_of_eq_false hwaits))

/-! #### The ranges of the mirror (R334) -/

/-- The first region refused so far, with what an MRANGES adds. -/
def Work.firstRefused (w : Work) (p : Packet) : Option Nat :=
  let bad := (List.range (p.payload.length / 16)).find?
    (fun i => !w.accepts (leAt p.payload (16 * i) 8) (leAt p.payload (16 * i + 8) 8))
  (if p.index = 0 then none else w.hinge.badRegion).or (bad.map (fun i => (16 * p.index + i) / 2))

/-- The first region refused is noted until the last MRANGES, and forgotten with it. -/
def Work.noteRefused (w : Work) (first : Option Nat) : Work := { w with hinge := { w.hinge with badRegion := first } }

section
variable {w t : Work} {p : Packet} (ht : w.take p = t)
include ht

theorem recvMranges_of_more (hmore : p.index + 1 < p.total) : recvMranges p w = t.noteRefused (t.firstRefused p) := by
  subst ht
  exact if_pos hmore

/-- The last MRANGES is answered with the first region refused. -/
theorem recvMranges_of_last (hlast : p.total ≤ p.index + 1) :
    recvMranges p w =
      let heard := (t.noteRefused (t.firstRefused p)).noteRefused none
      heard.send { heard.boardPkt 0x5A 2 p.srcPanel with
        typeData := match t.firstRefused p with | some i => 0x64 + i * 2 ^ 8 | none => 0 } := by
  subst ht
  exact if_neg (Nat.not_lt.mpr hlast)

/-- The twin's answer lets the waiting Configure through, unless its job was started meanwhile, or fails it. -/
theorem recvMrack_of_waiting (hwaits : t.job.mirrorWaits = true) (htwin : p.srcPanel = t.hinge.twin) :
    recvMrack p w =
      let gone := t.modJob (fun j => { j with mirrorWaits := false })
      if field p.typeData 0 8 = 0 ∧ gone.job.st.runs = true then gone.setReg 0x2400 9 0x57
      else if field p.typeData 0 8 = 0 then (gone.jobTo .configured).setReg 0x2400 9 0
      else gone.setReg 0x2400 9 (field p.typeData 0 8 + field p.typeData 8 8 * 2 ^ 8) := by
  subst ht
  have hheard : ¬(!(w.take p).job.mirrorWaits || p.srcPanel != (w.take p).hinge.twin) = true := by
    rw [hwaits, htwin]
    simp
  exact if_neg hheard

end

/-! #### The copy of a step (R335, R336) -/

theorem recvMack_of_committed {w t : Work} {p : Packet} (ht : w.take p = t) {half : Nat}
    (hcopying : t.hinge.copying = some (field p.typeData 0 32, half))
    (hcommitted : t.hinge.committed = true) :
    recvMack p w = (if bit p.typeData 32 then t else t.setReg 0x7800 0x0C (field p.typeData 0 32)).releaseStep := by
  subst ht
  have hawaited : ¬(field p.typeData 0 32 ≠ field p.typeData 0 32 ∨ (!(w.take p).hinge.committed) = true) := by
    simp [hcommitted]
  unfold recvMack
  simp only [hcopying]
  exact if_neg hawaited

/-- With every region's copy counted, MCOMMIT goes to the twin. -/
theorem mirrorCopyComplete_of_copied {w : Work} {n half : Nat} (hcopying : w.hinge.copying = some (n, half))
    (hleft : w.hinge.copyLeft = 0) (hnew : w.hinge.committed = false) :
    mirrorCopyComplete w =
      let v := ({ w with hinge := { w.hinge with committed := true } } : Work).setReg 0x7800 0x0E
        ((w.now - w.hinge.copyAt) / 1000 % 2 ^ 32)
      v.send { v.boardPkt 0x5B 1 v.hinge.twin with typeData := n + half * 2 ^ 32 } := by
  unfold mirrorCopyComplete
  simp only [hcopying, hleft, hnew]
  rfl

/-- Settles O42: each message of the pair, its heartbeats and their loss, and each message of the mirror has its own lemma. -/
theorem twinsPairAndMirror : Obligations.TwinsPairAndMirror := by
  refine ⟨?twin, ?mirror⟩
  case twin =>
    intro s p w t cabled moved asked sent met status due beat ports packet lost
    refine ⟨fun hjob hidle hst => ⟨?attach, ?uncabled⟩, ?detach, ?request, fun hturn hst htwin => ⟨?refused, ?paired⟩, ?beat, ?sent,
      ?heard, ?lost⟩
    case attach =>
      intro hcabled
      have hattach := attach_of_cabled hjob hidle hst hcabled
      rw [Work.attaching, hingeState_eq] at hattach
      exact run_commit hattach
    case uncabled => exact fun hcabled => run_commit (attach_of_not_cabled hjob hidle hst hcabled)
    case detach => exact fun hjob => run_commit (detach_of_idle hjob)
    case request =>
      exact fun hturn hon hnamed => run_commit ((onTurn_of_inTurn hturn _).trans (recvHattach_of_named rfl hon hnamed))
    case refused =>
      exact fun hstatus =>
        run_commit ((onTurn_of_inTurn hturn _).trans ((recvHack_of_attaching rfl hst htwin).trans (if_pos hstatus)))
    case paired =>
      exact fun hstatus =>
        run_commit ((onTurn_of_inTurn hturn _).trans
          ((recvHack_of_attaching rfl hst htwin).trans (if_neg (not_not_intro hstatus))))
    case beat => exact fun hst => run_commit (hbeatSend_of_paired hst rfl)
    case sent =>
      rintro k q v (_ | u) hwaits hspend
      · exact (sendBeats_of_one hwaits).trans (sendBeat_of_no_credit hspend)
      · exact (sendBeats_of_one hwaits).trans (sendBeat_of_credit hspend)
    case heard =>
      exact fun hturn hst htwin => run_commit ((onTurn_of_inTurn hturn _).trans (recvHbeat_of_twin rfl hst htwin))
    case lost => exact fun hst hwaits => run_commit (twinLoss_of_paired hst rfl hwaits)
  case mirror =>
    intro s p w t bad first noted heard gone status good step kept
    refine ⟨?more, ?last, ?configure, ?copied, ?commit, ?acknowledged⟩
    case more => exact fun hturn hmore => run_commit ((onTurn_of_inTurn hturn _).trans (recvMranges_of_more rfl hmore))
    case last => exact fun hturn hlast => run_commit ((onTurn_of_inTurn hturn _).trans (recvMranges_of_last rfl hlast))
    case configure =>
      exact fun hturn hwaits htwin => run_commit ((onTurn_of_inTurn hturn _).trans (recvMrack_of_waiting rfl hwaits htwin))
    case copied =>
      exact fun n half hcopying hleft hnew => run_commit (mirrorCopyComplete_of_copied hcopying hleft hnew)
    case commit => exact fun hturn => run_commit (onTurn_of_inTurn hturn (recvMcommit p))
    case acknowledged =>
      exact fun half hturn hcopying hcommitted =>
        run_commit ((onTurn_of_inTurn hturn _).trans (recvMack_of_committed rfl hcopying hcommitted))

end Sys2Proof.Machine
end

section
/-! ### The queue -/

namespace Sys2Proof.Machine

/-- Settles O1: the two ways of a step, by what waits. -/
theorem stepRunsFrontCommand : Obligations.StepRunsFrontCommand := by
  refine fun s => ⟨fun c rest hfront => ?_, fun hempty => ?_⟩
  · rw [step, hfront]
  · rw [step, hempty]

/-- Settles O2: what any command can do says that it answers, and with the queue it found. -/
theorem everyCommandAnswersAndKeepsQueue : Obligations.EveryCommandAnswersAndKeepsQueue := by
  intro c s
  obtain ⟨t, -, hnext, hqueue, -, -⟩ := exec_ran c s
  exact ⟨t, hnext, hqueue⟩

/-! #### Reset (R412, R413) -/

/-- An object that no register stands for reads its default. -/
theorem reg_of_no_regs {w : Work} (h : w.regs = []) (i sub : Nat) : w.reg i sub = regDefault (key i sub) := by
  unfold Work.reg
  rw [h]
  rfl

/-- Settles O5: every list of the reset state is empty, and so every object reads its default. -/
theorem resetState : Obligations.ResetState :=
  ⟨rfl, rfl, rfl, rfl, rfl, rfl, rfl, rfl, rfl, fun i sub => reg_of_no_regs rfl i sub⟩

end Sys2Proof.Machine
end

section
/-! ### The host reads and writes panel DRAM -/

namespace Sys2Proof.Machine

/-! #### Commands that may burn fuses (R430) -/

/-- Work that asks for no burn leaves the fuses as they are. -/
theorem burned_of_no_burn {w : Work} (s : State) (h : w.boot.burn = none) : s.burned w = s.commit w := by
  have hkept : ({ w with boot := { w.boot with burn := none } } : Work) = w := by rw [← h]
  have hfuses : max s.fuses.securityVersion 0 = s.fuses.securityVersion := Nat.max_zero _
  unfold State.burned
  rw [hkept, h, Option.getD_none, hfuses]
  rfl

/-- A command that may burn fuses answers the state with its work in place, burned as the work asks. -/
theorem runBurning_eq_burned (f : Work → Work) (s : State) : runBurning f s = .next (s.burned (f s.work)) := by
  unfold runBurning
  cases h : (f s.work).boot.burn with
  | none => rw [burned_of_no_burn s h]; simp only [h]
  | some v => rw [State.burned, h]; simp only [h, Option.getD_some]

/-- A command that may burn fuses, whose work comes to `w`. -/
theorem runBurning_burned {f : Work → Work} {s : State} {w : Work} (h : f s.work = w) :
    runBurning f s = .next (s.burned w) := h ▸ runBurning_eq_burned f s

/-- Memory is read after a burn as after a commit. -/
theorem burned_work_readByte (s : State) (w : Work) (x : Nat) : (s.burned w).work.readByte x = (s.commit w).work.readByte x := rfl

/-! #### One unit (R343, R344) -/

section
variable {dpa : Nat}

theorem barOf_of_dram (h : dpa < 2 ^ 42) : barOf dpa = none := if_neg (by omega)

/-- An access within one unit is that unit. -/
theorem unitsOf_of_within {n : Nat} (hpos : 0 < n) (hunit : dpa % 64 + n ≤ 64) : unitsOf dpa n = [(0, n)] := by
  have hone : (dpa % 64 + n + 63) / 64 = 1 := by omega
  have hlo : max dpa (dpa / 64 * 64 + 64 * 0) = dpa := by omega
  have hlen : min (dpa + n) (dpa / 64 * 64 + 64 * 0 + 64) - dpa = n := by omega
  unfold unitsOf
  rw [hone, List.range_one, List.map_singleton]
  simp only [hlo, hlen, Nat.sub_self]

theorem hostReadDram_of_good {w : Work} {n : Nat} (hvalid : w.invalid dpa = false) (hreach : w.hostReaches (aHutch dpa) = true)
    (hopen : w.isProtected dpa n = false) (hstuck : (w.hutch (aHutch dpa)).stuck = false) (hgood : w.hasPoison dpa n = false) :
    w.hostReadDram dpa n = (some (w.read dpa n), w.hutchAccesses dpa n false false) := by
  unfold Work.hostReadDram
  simp [hvalid, hreach, hopen, hstuck, hgood]

end

/-! #### A read (R344) -/

theorem hutchAccess_cxl (w : Work) (b off : Nat) (x y : Bool) : (w.hutchAccess b off x y).cxl = w.cxl := by
  unfold Work.hutchAccess
  simp only []
  split
  case isTrue => rfl
  case isFalse =>
    split
    case h_1 => rfl
    case h_2 =>
      split
      case isTrue => rfl
      case isFalse =>
        split
        case isTrue => rfl
        case isFalse =>
          split
          case h_1 v _ => cases v.2 <;> rfl
          case h_2 => rfl

theorem hutchAccesses_cxl (w : Work) (a n : Nat) (x y : Bool) : (w.hutchAccesses a n x y).cxl = w.cxl := by
  unfold Work.hutchAccesses
  split
  · exact foldl_keeps (fun v : Work => v.cxl) _ (fun w l => hutchAccess_cxl w _ _ _ _) _ _
  · rfl

/-- The answer of a read begins anew: no data yet, and no poison. -/
def Work.freshAnswer (w : Work) : Work := { w with cxl := { w.cxl with readData := [], readPoison := false } }

/-- A read of a readable unit leaves its bytes in the answer, and no more than accesses to the cache behind. -/
theorem hostRead_of_good {w : Work} {dpa n : Nat} (hst : w.cxl.st = 2) (hdpa : dpa < 2 ^ 42) (hpos : 0 < n)
    (hunit : dpa % 64 + n ≤ 64) (hvalid : w.invalid dpa = false) (hreach : w.hostReaches (aHutch dpa) = true)
    (hopen : w.isProtected dpa n = false) (hstuck : (w.hutch (aHutch dpa)).stuck = false) (hgood : w.hasPoison dpa n = false) :
    hostRead dpa n w =
      let v := w.freshAnswer.hutchAccesses dpa n false false
      { v with cxl := { v.cxl with readData := v.cxl.readData ++ w.read dpa n } } := by
  have hread : w.freshAnswer.hostReadDram dpa n = (some (w.read dpa n), w.freshAnswer.hutchAccesses dpa n false false) :=
    hostReadDram_of_good (w := w.freshAnswer) hvalid hreach hopen hstuck hgood
  have hread' : w.freshAnswer.hostReadUnit dpa n = _ := (if_pos hdpa).trans hread
  unfold hostRead
  rw [barOf_of_dram hdpa, if_neg (not_not_intro hst), unitsOf_of_within hpos hunit]
  exact (by rw [Work.freshAnswer] at hread' ⊢; simp only [List.foldl_cons, List.foldl_nil, Nat.add_zero, hread'])

/-! #### A write (R344) -/

/-- The enabled bytes of a unit stored at `g`, one by one. -/
def Work.hostStores (w : Work) (g : Nat) (es : List (Nat × Byte)) : Work :=
  es.foldl (fun w p => w.hutchWrite (g + p.1) [p.2]) w

theorem hostStores_mem (w : Work) (g : Nat) (es : List (Nat × Byte)) : (w.hostStores g es).mem = w.mem :=
  foldl_keeps Work.mem (fun (w : Work) (p : Nat × Byte) => w.hutchWrite (g + p.1) [p.2])
    (fun w p => (hutchWrite_stores w (g + p.1) [p.2]).2) es w

theorem hostStores_cons (w : Work) (g : Nat) (e : Nat × Byte) (es : List (Nat × Byte)) :
    w.hostStores g (e :: es) = (w.hutchWrite (g + e.1) [e.2]).hostStores g es := rfl

/-- The enabled bytes of a unit whose first byte is number `k` of its access. -/
def enabledFrom (en k : Nat) (bs : List Byte) : List (Nat × Byte) :=
  ((bs.zipIdx k).filter (fun p => bit en p.2)).map (fun p => (p.2, p.1))

theorem enabledFrom_cons (en k : Nat) (b : Byte) (bs : List Byte) :
    enabledFrom en k (b :: bs) = if bit en k = true then (k, b) :: enabledFrom en (k + 1) bs else enabledFrom en (k + 1) bs := by
  unfold enabledFrom
  rw [List.zipIdx_cons, List.filter_cons]
  split <;> rfl

/-- Byte x stands at or behind byte `k` of the access, within `n` bytes, and is enabled. -/
def enabledAt (en g k n x : Nat) : Prop := g + k ≤ x ∧ x < g + k + n ∧ bit en (x - g) = true

/-- The first byte of a unit, or a later one. -/
theorem enabledAt_succ (en g k n x : Nat) :
    enabledAt en g k (n + 1) x ↔ (x = g + k ∧ bit en k = true) ∨ enabledAt en g (k + 1) n x := by
  unfold enabledAt
  by_cases hx : x = g + k
  · subst hx
    rw [Nat.add_sub_cancel_left]
    refine ⟨fun ⟨_, _, hbit⟩ => .inl ⟨rfl, hbit⟩, ?_⟩
    rintro (⟨-, hbit⟩ | ⟨hlo, -, -⟩)
    · exact ⟨Nat.le_refl _, by omega, hbit⟩
    · omega
  · refine ⟨fun ⟨_, _, hbit⟩ => .inr ⟨by omega, by omega, hbit⟩, ?_⟩
    rintro (⟨h, -⟩ | ⟨_, _, hbit⟩)
    · exact absurd h hx
    · exact ⟨by omega, by omega, hbit⟩

/-- Of the bytes of a unit numbered from `k` the enabled ones are stored, and every other byte reads as before. -/
theorem hostStores_readByte (en g x : Nat) (bs : List Byte) : ∀ (k : Nat) (w : Work),
    (enabledAt en g k bs.length x → (w.hostStores g (enabledFrom en k bs)).readByte x = bs.getD (x - g - k) 0) ∧
    (¬enabledAt en g k bs.length x → (w.hostStores g (enabledFrom en k bs)).readByte x = w.readByte x) := by
  induction bs with
  | nil =>
    refine fun k w => ⟨fun h => ?_, fun _ => rfl⟩
    obtain ⟨hlo, hhi, -⟩ := h
    exact absurd (Nat.lt_of_lt_of_le hhi hlo) (Nat.lt_irrefl x)
  | cons b bs ih =>
    intro k w
    rw [List.length_cons, enabledAt_succ, enabledFrom_cons]
    have hlater : enabledAt en g (k + 1) bs.length x → x - g - k = x - g - (k + 1) + 1 := fun h => by
      obtain ⟨hlo, -, -⟩ := h
      omega
    by_cases hbit : bit en k = true
    · rw [if_pos hbit, hostStores_cons]
      obtain ⟨hin, hout⟩ := ih (k + 1) (w.hutchWrite (g + k) [b])
      have hfirst : (w.hutchWrite (g + k) [b]).readByte x = if g + k ≤ x ∧ x < g + k + 1 then b else w.readByte x := by
        rw [hutchWrite_readByte, readByte_write, List.length_singleton]
        split
        next h => rw [show x - (g + k) = 0 by omega, List.getD_cons_zero]
        next => rfl
      constructor
      · intro h
        by_cases hl : enabledAt en g (k + 1) bs.length x
        · rw [hin hl, hlater hl, List.getD_cons_succ]
        · have hx : x = g + k := (h.resolve_right hl).1
          rw [hout hl, hfirst, if_pos (by omega), hx, Nat.add_sub_cancel_left, Nat.sub_self, List.getD_cons_zero]
      · intro h
        have hx : x ≠ g + k := fun hx => h (.inl ⟨hx, hbit⟩)
        rw [hout (fun hl => h (.inr hl)), hfirst, if_neg (by omega)]
    · rw [if_neg hbit]
      obtain ⟨hin, hout⟩ := ih (k + 1) w
      constructor
      · intro h
        have hl := h.resolve_left (fun hf => hbit hf.2)
        rw [hin hl, hlater hl, List.getD_cons_succ]
      · exact fun h => hout (fun hl => h (.inr hl))

/-- A write to a unit that the host may write stores its enabled bytes, once the cache has been looked at. -/
theorem hostWriteDram_of_good {w : Work} {g en : Nat} {bs : List Byte} (hdpa : g < 2 ^ 42) (hvalid : w.invalid g = false)
    (hreach : w.hostReaches (aHutch g) = true) (hopen : w.isProtected g bs.length = false) :
    w.hostWriteDram g bs en false =
      (true, (w.hutchAccesses g bs.length true false).hostStores g (enabledFrom en 0 bs)) := by
  have hhole : ¬(g ≥ 2 ^ 42 ∨ w.invalid g = true) := not_or.mpr ⟨Nat.not_le.mpr hdpa, ne_true_of_eq_false hvalid⟩
  unfold Work.hostWriteDram
  rw [if_neg hhole, hreach, hopen]
  rfl

/-- A write leaves memory as the stores of its enabled bytes do: a line that loses its poison keeps its bytes. -/
theorem hostWrite_contents {w : Work} {dpa en : Nat} {data : List Byte} (hst : w.cxl.st = 2) (hdpa : dpa < 2 ^ 42)
    (hpos : 0 < data.length) (hunit : dpa % 64 + data.length ≤ 64) (hvalid : w.invalid dpa = false)
    (hreach : w.hostReaches (aHutch dpa) = true) (hopen : w.isProtected dpa data.length = false) :
    (hostWrite dpa data en w).contents =
      ((w.hutchAccesses dpa data.length true false).hostStores dpa (enabledFrom en 0 data)).contents := by
  have hall : slice data 0 data.length = data := List.take_length
  have hunits : w.hostWriteUnit dpa data en = _ := (if_pos hdpa).trans (hostWriteDram_of_good hdpa hvalid hreach hopen)
  unfold hostWrite
  rw [barOf_of_dram hdpa, if_neg (not_not_intro hst), unitsOf_of_within hpos hunit]
  simp only [List.foldl_cons, List.foldl_nil, Nat.add_zero, hall, Nat.pow_zero, Nat.div_one, hunits]
  split
  · split <;> rfl
  · rfl

/-- Settles O23: one unit read is its bytes, and one written its enabled bytes; the cache holds no byte of its own. -/
theorem hostReadsAndWritesDram : Obligations.HostReadsAndWritesDram := by
  intro s dpa w hs hst hdpa hvalid hreach
  refine ⟨fun n hpos hunit hopen hstuck hgood => ?read, fun data en hpos hunit hopen => ?write⟩
  case read =>
    refine ⟨_, run_commit (hostRead_of_good hst hdpa hpos hunit hvalid hreach hopen hstuck hgood), ?_, ?_, ?_⟩
    · rw [commit_cxl]
      simp only [hutchAccesses_cxl]
      rfl
    · rw [commit_cxl]
      simp only [hutchAccesses_cxl]
      rfl
    · rw [commit_mem]
      exact congrArg (applyStores s.mem) (hutchAccesses_stores w.freshAnswer dpa n false false)
  case write =>
    refine ⟨_, runBurning_eq_burned _ s, fun x => ?_⟩
    have hwork := hostWrite_contents (en := en) hst hdpa hpos hunit hvalid hreach hopen
    have hmem : (hostWrite dpa data en w).mem = s.mem := by
      rw [mem_of_contents hwork, hostStores_mem, hutchAccesses_mem]
      rfl
    obtain ⟨hin, hout⟩ := hostStores_readByte en dpa x data 0 (w.hutchAccesses dpa data.length true false)
    rw [burned_work_readByte, commit_work_readByte hs hmem, readByte_of_contents hwork]
    split
    next h => exact hin h
    next h => rw [hout h, hutchAccesses_readByte]

end Sys2Proof.Machine
end

section
/-! ### The CXL endpoint -/

namespace Sys2Proof.Machine

theorem perstAssert_of_high {w : Work} (h : w.cxl.perst = false) :
    perstAssert w = ({ w with cxl := { perst := true } } : Work).readyChanged := if_neg (ne_true_of_eq_false h)

theorem hdmCommit_of_up {w : Work} {i dpa size : Nat} (hst : w.cxl.st = 2) (hi : i < 4) :
    hdmCommit i dpa size w =
      { w.reach w.cxl.configAt with cxl := { w.cxl with decoders := tput w.cxl.decoders i (dpa, size, spanOk dpa size) } } :=
  if_neg (not_or.mpr ⟨not_not_intro hst, Nat.not_le.mpr hi⟩)

/-- The instant has come from which a vector may send again (R350). -/
def Work.spaced (w : Work) (v : Nat) : Work :=
  match w.cxl.sentAt.find? (fun e => e.1 == v) with
  | some e => w.reach (e.2 + w.reg 0x1200 0x14 * 1000)
  | none => w

theorem msixMessage_of_pending {w : Work} {v : Nat} (hst : w.cxl.st ≠ 0) (hpending : tget false w.cxl.pending v = true) :
    msixMessage v w = { w.spaced v with cxl := { (w.spaced v).cxl with
      pending := tput (w.spaced v).cxl.pending v false, sentAt := tput (w.spaced v).cxl.sentAt v (w.spaced v).now
      msix := (v, (w.spaced v).now) :: (w.spaced v).cxl.msix } } := by
  have hmay : ¬(w.cxl.st = 0 ∨ (!tget false w.cxl.pending v) = true) := by simp [hst, hpending]
  exact if_neg hmay

/-- Settles O43: the pins, the reset of the function and the training act by one condition each, a decoder, the mailbox and a
message once the link is up. -/
theorem cxlEndpoint : Obligations.CxlEndpoint := by
  intro s w x
  refine ⟨?low, ?held, ?high, ?reset, ?trains, ?decoder, ?mailbox, ?message⟩
  case low => exact fun hperst => run_commit (perstAssert_of_high hperst)
  case held => exact fun hperst => run_commit (f := perstAssert) (if_pos hperst)
  case high => exact run_commit (f := perstDeassert) rfl
  case reset => exact run_commit (f := functionReset) rfl
  case trains => exact fun width rate hready => run_commit (f := linkUp width rate) (if_pos hready)
  case decoder => exact fun i dpa size hst hi => run_commit (hdmCommit_of_up hst hi)
  case mailbox => exact fun op data hst => run_commit (f := mailbox op data) (if_neg hst)
  case message => exact fun v hst hpending => run_commit (msixMessage_of_pending hst hpending)

end Sys2Proof.Machine
end

section
/-! ### Window channels and datagrams -/

namespace Sys2Proof.Machine

/-! #### Window channels (R358) -/

/-- A channel whose request software has written, and under way with its Tag. -/
def Channel.begun (c : Channel) (tag : Nat) (q : Request) : Channel := { c.written q with go := tag, request := some q }

/-- Channel `chan` of the window. -/
def Work.channel (w : Work) (chan : Nat) : Channel := tget {} w.cxl.channels chan

/-- Channel `chan` holds a request that is under way. -/
def Work.holdRequest (w : Work) (chan tag : Nat) (q : Request) : Work :=
  { w with cxl := { w.cxl with channels := tput w.cxl.channels chan ((w.channel chan).begun tag q) } }

/-- The answer to the request of channel `chan` stands in its page and buffer. -/
def Work.answerChannel (done : Work) (chan : Nat) (c : Channel) (q : Request) : Work :=
  { done with cxl := { done.cxl with channels := tput done.cxl.channels chan (c.answered q done.reply) } }

section
variable {w : Work} {chan : Nat} (hst : w.cxl.st = 2) (hchan : chan < 4)
  (hidle : (w.channel chan).go = (w.channel chan).done)
include hst hchan hidle

/-- A channel with no request under way takes one, and answers it where the dictionary server is in service. -/
theorem windowGo_of_idle (tag : Nat) (q : Request) :
    windowGo chan tag q w =
      if (!w.served) = true then w.holdRequest chan tag q
      else (((w.holdRequest chan tag q).channelRequest { cxl := true, chan := chan, session := q.session } q).answerChannel chan
        ((w.channel chan).begun tag q) q).interrupt chan :=
  if_neg (not_or.mpr ⟨not_not_intro hst, not_or.mpr ⟨Nat.not_le.mpr hchan, not_not_intro hidle⟩⟩)

theorem windowGo_of_served (hserved : w.served = true) (tag : Nat) (q : Request) :
    windowGo chan tag q w =
      (((w.holdRequest chan tag q).channelRequest { cxl := true, chan := chan, session := q.session } q).answerChannel chan
        ((w.channel chan).begun tag q) q).interrupt chan := by
  rw [windowGo_of_idle hst hchan hidle, hserved]
  rfl

theorem windowGo_of_unserved (hserved : w.served = false) (tag : Nat) (q : Request) :
    windowGo chan tag q w = w.holdRequest chan tag q := by
  rw [windowGo_of_idle hst hchan hidle, hserved]
  rfl

end

/-! #### Datagrams (R362, R363) -/

theorem sacorDatagram_of_unserved {w : Work} (h : w.served = false) (source : Nat) (m b : Bool) (q : Request) :
    sacorDatagram source m b q w = w := by
  unfold sacorDatagram
  rw [h]
  rfl

section
variable {w : Work} (hserved : w.served = true)
include hserved

theorem sacorDatagram_of_malformed (source : Nat) (m : Bool) (q : Request) : sacorDatagram source m true q w = w.dropDatagram := by
  unfold sacorDatagram
  rw [hserved, Bool.not_true, if_neg Bool.false_ne_true]
  exact if_pos (Or.inl rfl)

section
variable {q : Request} (hform : wellFormedRequest q = true) (hplain : q.session = 0 → q.mac = false ∧ q.counter = 0)
include hform hplain

/-- A good datagram goes on by whether it is a multicast. -/
theorem sacorDatagram_of_good (source : Nat) (multicast : Bool) :
    sacorDatagram source multicast false q w =
      if multicast then
        if q.op = 1 ∧ q.session = 0 ∧ (q.index = 0x1000 ∨ q.index = 0x1200) then { w with discovery := w.discovery ++ [(source, q)] }
        else w
      else if q.session = 0 then (w.perform { cxl := false, chan := source, session := q.session } q).countAnswer.framed q
      else w.sessionDatagram { cxl := false, chan := source, session := q.session } q := by
  have hgood : ¬(false = true ∨ (!wellFormedRequest q) = true ∨ (q.session = 0 ∧ (q.mac = true ∨ q.counter ≠ 0))) := by
    rintro (h | h | ⟨hsession, h⟩)
    · cases h
    · rw [hform] at h
      exact Bool.false_ne_true h
    · obtain ⟨hmac, hcounter⟩ := hplain hsession
      exact h.elim (ne_true_of_eq_false hmac) (absurd hcounter)
  unfold sacorDatagram
  rw [hserved]
  exact if_neg hgood

theorem sacorDatagram_of_unicast (source : Nat) :
    sacorDatagram source false false q w =
      if q.session = 0 then (w.perform { cxl := false, chan := source, session := 0 } q).countAnswer.framed q
      else w.sessionDatagram { cxl := false, chan := source, session := q.session } q := by
  rw [sacorDatagram_of_good hserved hform hplain, if_neg Bool.false_ne_true]
  by_cases h : q.session = 0
  · rw [if_pos h, if_pos h, h]
  · rw [if_neg h, if_neg h]

theorem sacorDatagram_of_discovery (hsession : q.session = 0) (hop : q.op = 1) (hobject : q.index = 0x1000 ∨ q.index = 0x1200)
    (source : Nat) : sacorDatagram source true false q w = { w with discovery := w.discovery ++ [(source, q)] } :=
  (sacorDatagram_of_good hserved hform hplain source true).trans ((if_pos rfl).trans (if_pos ⟨hop, hsession, hobject⟩))

end
end

theorem discoveryReply_of_waiting {w : Work} {source : Nat} {q : Request} {rest : List (Nat × Request)}
    (h : w.discovery = (source, q) :: rest) :
    discoveryReply w =
      ((({ w.draw.2 with clock := w.draw.2.clock + w.draw.1 % 50000001 * 2 ^ 32, discovery := rest } : Work).perform
        { cxl := false, chan := source, session := 0 } q).countAnswer).framed q := by
  unfold discoveryReply
  rw [h]

/-- Settles O44: a channel's request and a datagram each go by whether the server is in service, a datagram by its form and by
whether it is a multicast. -/
theorem requestsAreServed : Obligations.RequestsAreServed := by
  intro s chan tag source q w c page held done answer
  refine ⟨?answered, ?held, ?unanswered, ?datagram, ?discovery, ?malformed, ?reply⟩
  case answered =>
    exact fun hst hchan hidle hserved => runBurning_burned (windowGo_of_served hst hchan hidle hserved tag q)
  case held =>
    exact fun hst hchan hidle hserved => runBurning_burned (windowGo_of_unserved hst hchan hidle hserved tag q)
  case unanswered => exact fun hserved m b => runBurning_burned (sacorDatagram_of_unserved hserved source m b q)
  case datagram =>
    exact fun hserved hform hplain => runBurning_burned (sacorDatagram_of_unicast hserved hform hplain source)
  case discovery =>
    exact fun hserved hform hsession hmac hcounter hop hobject =>
      runBurning_burned
        (sacorDatagram_of_discovery hserved hform (fun _ => ⟨hmac, hcounter⟩) hsession hop hobject source)
  case malformed => exact fun m hserved => runBurning_burned (sacorDatagram_of_malformed hserved source m q)
  case reply => exact fun rest hwaits => run_commit (discoveryReply_of_waiting hwaits)

end Sys2Proof.Machine
end

section
/-! ### Dictionary reads -/

namespace Sys2Proof.Machine

theorem onServer_of_serves {w : Work} {p : Path} (h : w.serves p = true) (f : Work → Work) : onServer p f w = f w := if_pos h

theorem onServer_of_not_serves {w : Work} {p : Path} (h : w.serves p = false) (f : Work → Work) : onServer p f w = w :=
  if_neg (ne_true_of_eq_false h)

/-- A read refuses by access class only an object that is written only, and a command that cannot be read as well. -/
theorem not_unreadable {o : Obj} (hwrite : o.access ≠ 4) (hread : o.access = 5 → o.readable = true) :
    ¬(o.access = 4 ∨ (o.access = 5 ∧ (!o.readable) = true)) := by
  rintro (h | ⟨h, hnot⟩)
  · exact hwrite h
  · rw [hread h] at hnot
    exact Bool.false_ne_true hnot

section
variable {w : Work} {p : Path} {i sub : Nat} {o : Obj} (hopen : w.pathOpen p = true) (hobj : objOf i sub = some o)
include hopen hobj

theorem dictDescribe_of_obj : dictDescribe p i sub w = (w.touch p).accept ((w.touch p).description o i sub) := by
  unfold dictDescribe
  rw [hopen, hobj]
  rfl

/-- A read over an open path of an object that is there: access class, authorisation and length in this order, and then the
object's own way (R351, R352, R356, R357). -/
theorem dictRead_of_obj (off len : Nat) (cont : Bool) :
    dictRead p i sub off len cont w =
      let v := w.touch p
      let n := if len = 0 then pathMost p else len
      if o.access = 4 ∨ (o.access = 5 ∧ (!o.readable) = true) then v.refuse 0x71
      else if o.type = 10 ∧ (!p.cxl) = true ∧ p.session = 0 then v.refuse 0x74
      else if pathMost p < n then v.refuse 0x72
      else if o.type = 10 then v.readDomain off n
      else if typeSize o.type ≠ 0 then
        if off ≠ 0 ∨ (len ≠ 0 ∧ len ≠ typeSize o.type) then v.refuse 0x72 else v.accept (v.objectBytes o i sub)
      else v.readBlob p o i sub off n cont := by
  unfold dictRead
  rw [hopen, hobj]
  rfl

theorem dictRead_of_write_only (haccess : o.access = 4) (off len : Nat) (cont : Bool) :
    dictRead p i sub off len cont w = (w.touch p).refuse 0x71 :=
  (dictRead_of_obj hopen hobj off len cont).trans (if_pos (Or.inl haccess))

section
variable (hwrite : o.access ≠ 4) (hread : o.access = 5 → o.readable = true)
include hwrite hread

theorem dictRead_of_unauthorised (htype : o.type = 10) (hcxl : p.cxl = false) (hsession : p.session = 0) (off len : Nat)
    (cont : Bool) : dictRead p i sub off len cont w = (w.touch p).refuse 0x74 := by
  have hnone : o.type = 10 ∧ (!p.cxl) = true ∧ p.session = 0 := ⟨htype, by rw [hcxl]; rfl, hsession⟩
  rw [dictRead_of_obj hopen hobj, if_neg (not_unreadable hwrite hread), if_pos hnone]

section
variable {off len : Nat} (hauthorised : o.type = 10 → p.cxl = true ∨ p.session ≠ 0)
  (hlen : (if len = 0 then pathMost p else len) ≤ pathMost p)
include hauthorised hlen

/-- A read that is allowed, of a length that the path carries, goes the way of the object's type. -/
theorem dictRead_of_allowed (cont : Bool) :
    dictRead p i sub off len cont w =
      let v := w.touch p
      let n := if len = 0 then pathMost p else len
      if o.type = 10 then v.readDomain off n
      else if typeSize o.type ≠ 0 then
        if off ≠ 0 ∨ (len ≠ 0 ∧ len ≠ typeSize o.type) then v.refuse 0x72 else v.accept (v.objectBytes o i sub)
      else v.readBlob p o i sub off n cont := by
  have hallowed : ¬(o.type = 10 ∧ (!p.cxl) = true ∧ p.session = 0) := by
    rintro ⟨htype, hcxl, hsession⟩
    rcases hauthorised htype with h | h
    · rw [h] at hcxl
      exact Bool.false_ne_true hcxl
    · exact h hsession
  rw [dictRead_of_obj hopen hobj, if_neg (not_unreadable hwrite hread), if_neg hallowed, if_neg (Nat.not_lt.mpr hlen)]

theorem dictRead_of_scalar (htype : o.type ≠ 10) (hsize : typeSize o.type ≠ 0) (hoff : off = 0)
    (hwhole : len = 0 ∨ len = typeSize o.type) (cont : Bool) :
    dictRead p i sub off len cont w = (w.touch p).accept ((w.touch p).objectBytes o i sub) := by
  have hgood : ¬(off ≠ 0 ∨ (len ≠ 0 ∧ len ≠ typeSize o.type)) := by omega
  rw [dictRead_of_allowed hopen hobj hwrite hread hauthorised hlen]
  exact (if_neg htype).trans ((if_pos hsize).trans (if_neg hgood))

theorem dictRead_of_blob (htype : o.type ≠ 10) (hsize : typeSize o.type = 0) (cont : Bool) :
    dictRead p i sub off len cont w = (w.touch p).readBlob p o i sub off (if len = 0 then pathMost p else len) cont := by
  rw [dictRead_of_allowed hopen hobj hwrite hread hauthorised hlen]
  exact (if_neg htype).trans (if_neg (not_not_intro hsize))

theorem dictRead_of_domain (htype : o.type = 10) (cont : Bool) :
    dictRead p i sub off len cont w = (w.touch p).readDomain off (if len = 0 then pathMost p else len) := by
  rw [dictRead_of_allowed hopen hobj hwrite hread hauthorised hlen]
  exact if_pos htype

end
end
end

/-- Settles O45: where the path reaches the server, a description and a read go by the object's access class, the path's
authorisation and the object's type, each with its own lemma. -/
theorem dictionaryIsRead : Obligations.DictionaryIsRead := by
  intro s p i sub off len cont o w n
  refine ⟨?silent, fun hserves hopen hobj => ⟨?described, fun hwrite hread hlen => ⟨?scalar, ?blob, ?domain⟩, ?writeOnly,
    ?unauthorised⟩⟩
  case silent => exact fun hserves => (run_commit (onServer_of_not_serves hserves _)).trans (by rw [commit_work])
  case described => exact run_commit ((onServer_of_serves hserves _).trans (dictDescribe_of_obj hopen hobj))
  case scalar =>
    exact fun htype hsize hoff hwhole =>
      run_commit ((onServer_of_serves hserves _).trans
        (dictRead_of_scalar hopen hobj hwrite hread (absurd · htype) hlen htype hsize hoff hwhole cont))
  case blob =>
    exact fun htype hsize =>
      run_commit ((onServer_of_serves hserves _).trans
        (dictRead_of_blob hopen hobj hwrite hread (absurd · htype) hlen htype hsize cont))
  case domain =>
    exact fun htype hauthorised =>
      run_commit ((onServer_of_serves hserves _).trans
        (dictRead_of_domain hopen hobj hwrite hread (fun _ => hauthorised) hlen htype cont))
  case writeOnly =>
    exact fun haccess =>
      run_commit ((onServer_of_serves hserves _).trans (dictRead_of_write_only hopen hobj haccess off len cont))
  case unauthorised =>
    exact fun htype hwrite hstream hcxl hsession =>
      run_commit ((onServer_of_serves hserves _).trans
        (dictRead_of_unauthorised hopen hobj hwrite (absurd · hstream) htype hcxl hsession off len cont))

end Sys2Proof.Machine
end

section
/-! ### Dictionary writes -/

namespace Sys2Proof.Machine

/-- A path may write an object: it has a session, or is the CXL window and the object asks for none (R352, R356). -/
def pathMayWrite (p : Path) (o : Obj) : Prop := p.session ≠ 0 ∨ p.cxl = true ∧ bit o.attr 0 = false

theorem pathMayWrite_iff {p : Path} {o : Obj} :
    pathMayWrite p o ↔ ¬(p.session = 0 ∧ ((!p.cxl) = true ∨ bit o.attr 0 = true)) := by
  unfold pathMayWrite
  cases p.cxl <;> cases bit o.attr 0 <;> simp

section
variable {w : Work} {p : Path} {i sub : Nat} {o : Obj} (hopen : w.pathOpen p = true) (hobj : objOf i sub = some o)
include hopen hobj

/-- A write over an open path to an object that is there: access class, authorisation, job and length in this order, and then
the object's own way (R351, R352, R354, R356). -/
theorem dictWrite_of_obj (off : Nat) (bs : List Byte) (more : Bool) :
    dictWrite p i sub off bs more w =
      let v := w.touch p
      if o.access = 1 then v.refuse 0x71
      else if p.session = 0 ∧ ((!p.cxl) = true ∨ bit o.attr 0 = true) then v.refuse 0x74
      else if v.jobForbids o i sub = true then v.refuseJob
      else if pathMost p < bs.length then v.refuse 0x72
      else if i = 0x8000 ∧ sub = 5 then firmwareWrite off bs more v
      else if typeSize o.type ≠ 0 then
        if off ≠ 0 ∨ more = true then v.refuse 0x72 else v.writeWhole p o i sub bs
      else v.writeSegment p o i sub off bs more := by
  unfold dictWrite
  rw [hopen, hobj]
  rfl

theorem dictWrite_of_read_only (haccess : o.access = 1) (off : Nat) (bs : List Byte) (more : Bool) :
    dictWrite p i sub off bs more w = (w.touch p).refuse 0x71 :=
  (dictWrite_of_obj hopen hobj off bs more).trans (if_pos haccess)

section
variable (haccess : o.access ≠ 1)
include haccess

theorem dictWrite_of_unauthorised (hpath : ¬pathMayWrite p o) (off : Nat) (bs : List Byte) (more : Bool) :
    dictWrite p i sub off bs more w = (w.touch p).refuse 0x74 := by
  rw [dictWrite_of_obj hopen hobj, if_neg haccess, if_pos (not_not.mp (mt pathMayWrite_iff.mpr hpath))]

section
variable (hpath : pathMayWrite p o)
include hpath

theorem dictWrite_of_forbidden (hjob : (w.touch p).jobForbids o i sub = true) (off : Nat) (bs : List Byte) (more : Bool) :
    dictWrite p i sub off bs more w = (w.touch p).refuseJob := by
  rw [dictWrite_of_obj hopen hobj, if_neg haccess, if_neg (pathMayWrite_iff.mp hpath), if_pos hjob]

section
variable (hjob : (w.touch p).jobForbids o i sub = false) {bs : List Byte} (hlen : bs.length ≤ pathMost p)
  (hplain : ¬(i = 0x8000 ∧ sub = 5))
include hjob hlen hplain

/-- A write that is allowed, to any object but the firmware's, goes the way of the object's type. -/
theorem dictWrite_of_allowed (off : Nat) (more : Bool) :
    dictWrite p i sub off bs more w =
      let v := w.touch p
      if typeSize o.type ≠ 0 then
        if off ≠ 0 ∨ more = true then v.refuse 0x72 else v.writeWhole p o i sub bs
      else v.writeSegment p o i sub off bs more := by
  rw [dictWrite_of_obj hopen hobj, if_neg haccess, if_neg (pathMayWrite_iff.mp hpath), if_neg (ne_true_of_eq_false hjob),
    if_neg (Nat.not_lt.mpr hlen), if_neg hplain]

theorem dictWrite_of_blob (hsize : typeSize o.type = 0) (off : Nat) (more : Bool) :
    dictWrite p i sub off bs more w = (w.touch p).writeSegment p o i sub off bs more := by
  rw [dictWrite_of_allowed hopen hobj haccess hpath hjob hlen hplain]
  exact if_neg (not_not_intro hsize)

theorem dictWrite_of_scalar (hsize : typeSize o.type ≠ 0) (hwhole : bs.length = typeSize o.type)
    (hrange : o.inRange (ofBytes bs) = true) :
    dictWrite p i sub 0 bs false w = (w.touch p).writeScalar p o i sub (ofBytes bs) := by
  have hat : ¬((0 : Nat) ≠ 0 ∨ false = true) := by simp
  rw [dictWrite_of_allowed hopen hobj haccess hpath hjob hlen hplain]
  refine (if_pos hsize).trans ((if_neg hat).trans ?_)
  unfold Work.writeWhole
  simp only [if_pos hsize, if_neg (not_not_intro hwhole), hrange]
  rfl

end
end
end
end

theorem registerWrite_of_allowed {w : Work} {i sub : Nat} {o : Obj} (hobj : objOf i sub = some o) (haccess : o.access ≠ 1)
    (hjob : w.jobForbids o i sub = false) (hplain : ¬(i = 0x8000 ∧ sub = 5)) (bs : List Byte) :
    registerWrite i sub bs w = w.writeWhole hostPath o i sub bs := by
  unfold registerWrite
  rw [hobj]
  simp only [if_neg haccess, hjob, if_neg hplain]
  rfl

/-- Settles O46: where the path reaches the server, a write goes by the object's access class, the path's authorisation, the
job and the object's type, each with its own lemma; the host's own register write by the class and the job alone. -/
theorem dictionaryIsWritten : Obligations.DictionaryIsWritten := by
  intro s p i sub off bs more o w authorised hobj
  refine ⟨fun hserves hopen => ⟨fun haccess hpath hjob hlen hplain => ⟨?scalar, ?blob⟩, ?readOnly, ?unauthorised, ?forbidden⟩,
    ?register⟩
  case scalar =>
    rintro hsize rfl rfl hwhole hrange
    exact runBurning_burned ((onServer_of_serves hserves _).trans
      (dictWrite_of_scalar hopen hobj haccess hpath hjob hlen hplain hsize hwhole hrange))
  case blob =>
    exact fun hsize => runBurning_burned ((onServer_of_serves hserves _).trans
      (dictWrite_of_blob hopen hobj haccess hpath hjob hlen hplain hsize off more))
  case readOnly =>
    exact fun haccess => runBurning_burned ((onServer_of_serves hserves _).trans
      (dictWrite_of_read_only hopen hobj haccess off bs more))
  case unauthorised =>
    exact fun haccess hpath => runBurning_burned ((onServer_of_serves hserves _).trans
      (dictWrite_of_unauthorised hopen hobj haccess hpath off bs more))
  case forbidden =>
    exact fun haccess hpath hjob => runBurning_burned ((onServer_of_serves hserves _).trans
      (dictWrite_of_forbidden hopen hobj haccess hpath hjob off bs more))
  case register =>
    exact fun haccess hjob hplain => runBurning_burned (registerWrite_of_allowed hobj haccess hjob hplain bs)

end Sys2Proof.Machine
end

section
/-! ### Sessions -/

namespace Sys2Proof.Machine

/-! #### The answer to a HELLO (R364, R365) -/

/-- An answer without data opens no session, and is not signed. -/
theorem signHello_of_no_data {w : Work} (h : w.reply.data = []) (p : Path) (q : Request) : w.signHello p q = w := by
  unfold Work.signHello
  split
  · exact if_neg (by rw [h]; decide)
  · rfl

/-- The last segment of the answer to a HELLO on a path, as the session signs it. -/
def Session.lastSegment (x : Session) (p : Path) (q : Request) (r : Reply) : Reply :=
  if p.cxl then x.signs q r 0 else x.signs { q with offset := 1024 } { r with data := r.data.drop 1024 } 0

/-- The answer that opens a session carries its name and the code of its last segment. -/
theorem signHello_of_opened {w : Work} {x : Session} (hlast : w.sessions.getLast? = some x) (hlen : w.reply.data.length = 1604)
    (p : Path) (q : Request) :
    w.signHello p q = { w with reply := { w.reply with code := (x.lastSegment p q w.reply).code, session := x.id } } := by
  unfold Work.signHello
  rw [hlast]
  exact if_pos hlen

/-- On the network an answer goes out as its messages, and over CXL it stays as it is (R363). -/
theorem answers_eq (v : Work) (p : Path) (q : Request) :
    v.answers p q = if p.cxl = true then v else { v with reply := { v.reply with messages := messagesOf q v.reply } } := rfl

/-! #### A session opened (R364) -/

/-- What a HELLO that opens a session makes of the panel: two values drawn, the session added, the next number named. -/
def Work.withSession (w : Work) (x : Session) : Work :=
  { w with free := w.free + 1 + 1, sessions := w.sessions ++ [x]
           nextSession := if w.nextSession + 1 < 2 ^ 32 then w.nextSession + 1 else 1 }

section
variable {w : Work} {p : Path} {data key : List Byte} (hlen : data.length = 1604) (hslot : leAt data 0 1 < 8)
  (hzero : allZero (slice data 1 3) = true) (hroom : w.sessions.length < 8) (hkey : w.keyOf (leAt data 0 1) = some key)
include hlen hslot hzero hroom hkey

/-- A HELLO of good form, with room for a session and a key in its slot, is judged by its encapsulation alone. -/
theorem openSession_of_bad_kem (hkem : Config.kemDecaps (2 * w.boot.starts) (slice data 36 1568) = none) :
    openSession p data w = w.refuse 0x73 := by
  have hfields : ¬(8 ≤ leAt data 0 1 ∨ (!allZero (slice data 1 3)) = true) := by simp [hzero, hslot]
  unfold openSession
  simp only [if_neg (not_not_intro hlen), if_neg hfields, if_neg (Nat.not_le.mpr hroom), hkey, hkem]

theorem openSession_of_good_kem {ss : List Byte}
    (hkem : Config.kemDecaps (2 * w.boot.starts) (slice data 36 1568) = some ss) :
    ∃ x bs, openSession p data w = (w.withSession x).accept bs ∧ bs.length = 1604 ∧ x.id = w.nextSession ∧
      x.path = { p with session := 0 } ∧ x.keySlot = leAt data 0 1 ∧ x.lastAt = w.now := by
  have hfields : ¬(8 ≤ leAt data 0 1 ∨ (!allZero (slice data 1 3)) = true) := by simp [hzero, hslot]
  unfold openSession
  simp only [if_neg (not_not_intro hlen), if_neg hfields, if_neg (Nat.not_le.mpr hroom), hkey, hkem]
  exact ⟨_, _, rfl, by simp, rfl, rfl, rfl, rfl⟩

end

/-- The first segment of a HELLO waits for the second. -/
theorem hello_of_first {w : Work} {data : List Byte} (h : data.length = 1024) (p : Path) :
    hello p data w = ({ w with hellos := holdFor w.hellos ⟨p, 0, 0, data, w.now⟩ } : Work).accept := if_pos h

theorem hello_of_whole {w : Work} {data : List Byte} (h : data.length = 1604) (p : Path) : hello p data w = openSession p data w := by
  unfold hello
  rw [if_neg (by omega), if_neg (by omega)]

/-- A HELLO over a path, with its answer. -/
def answeredHello (p : Path) (data : List Byte) (w : Work) : Work :=
  ((hello p data w).signHello p (helloRequest data)).answers p (helloRequest data)

theorem execHello_of_serves {s : State} {p : Path} (h : s.work.serves p = true) (data : List Byte) :
    exec (.hello p data) s = .next (s.commit (answeredHello p data s.work)) :=
  run_commit (onServer_of_serves h (answeredHello p data))

/-! #### The end of a session, of a snapshot and of what is staged (R355, R365) -/

theorem dictClose_of_open {w : Work} {p : Path} (hsession : p.session ≠ 0) (hopen : w.pathOpen p = true) :
    dictClose p w = (w.closeSession p.session).accept := by
  have hmay : ¬(p.session = 0 ∨ (!w.pathOpen p) = true) := by simp [hsession, hopen]
  exact if_neg hmay

theorem sessionIdle_of_open {w : Work} {id : Nat} {x : Session} (h : w.sessions.find? (fun y => y.id == id) = some x) :
    sessionIdle id w = (w.reach (x.lastAt + w.idleNs)).closeSession id := by
  unfold sessionIdle
  rw [h]

theorem snapshotExpiry_of_held {w : Work} {p : Path} {h : Held}
    (hheld : w.snapshots.find? (fun h => decide (h.path = p)) = some h) :
    snapshotExpiry p w =
      let t := w.reach (h.at_ + 1000000000)
      { t with snapshots := t.snapshots.filter (fun x => !decide (x.path = p)) } := by
  unfold snapshotExpiry
  rw [hheld]

theorem stagingExpiry_of_held {w : Work} {p : Path} {h : Held}
    (hheld : (w.staging ++ w.hellos).find? (fun h => decide (h.path = p)) = some h) :
    stagingExpiry p w =
      let t := w.reach (h.at_ + 1000000000)
      { t with
        staging := t.staging.filter (fun x => !decide (x.path = p)), hellos := t.hellos.filter (fun x => !decide (x.path = p)) } := by
  unfold stagingExpiry
  rw [hheld]

/-- Settles O47: a whole HELLO opens a session by its encapsulation, half of one waits, and each end has its own lemma. -/
theorem sessionsOpenAndEnd : Obligations.SessionsOpenAndEnd := by
  intro s p data w
  refine ⟨?opens, ?half, fun v q => answers_eq v p q, ?close, ?idle, ?snapshot, ?staged⟩
  case opens =>
    intro key hserves hlen hslot hzero hroom hkey
    refine ⟨_, execHello_of_serves hserves data, ?_⟩
    rw [answeredHello, hello_of_whole hlen]
    cases hkem : Config.kemDecaps (2 * w.boot.starts) (slice data 36 1568) with
    | none =>
      rw [openSession_of_bad_kem hlen hslot hzero hroom hkey hkem, signHello_of_no_data rfl]
      rfl
    | some ss =>
      obtain ⟨x, bs, hopened, hbs, hid, hpath, hkeySlot, hlastAt⟩ :=
        openSession_of_good_kem (p := p) hlen hslot hzero hroom hkey hkem
      have hlast : ((w.withSession x).accept bs).sessions.getLast? = some x := List.getLast?_concat
      rw [hopened, signHello_of_opened hlast hbs, answers_eq, Session.lastSegment]
      by_cases hcxl : p.cxl = true
      · simp only [if_pos hcxl]
        exact ⟨rfl, rfl, x, rfl, hid, hpath, hkeySlot, hlastAt, rfl, rfl, rfl⟩
      · simp only [if_neg hcxl]
        exact ⟨rfl, rfl, x, rfl, hid, hpath, hkeySlot, hlastAt, rfl, rfl, rfl⟩
  case half =>
    intro hserves hlen
    refine (execHello_of_serves hserves data).trans ?_
    rw [answeredHello, hello_of_first hlen, signHello_of_no_data rfl]
  case close =>
    exact fun hserves hsession hopen => run_commit ((onServer_of_serves hserves _).trans (dictClose_of_open hsession hopen))
  case idle => exact fun x hopen => run_commit (sessionIdle_of_open hopen)
  case snapshot => exact fun h hheld => run_commit (snapshotExpiry_of_held hheld)
  case staged => exact fun h hheld => run_commit (stagingExpiry_of_held hheld)

end Sys2Proof.Machine
end

section
/-! ### A takeover -/

namespace Sys2Proof.Machine

/-! #### What the lead's change leaves alone (R350, R358, R447) -/

theorem keepRegs_apart (w : Work) : w.keepRegs.apart = w.apart := by
  unfold Work.keepRegs
  split <;> rfl

theorem readyChanged_apart (w : Work) : w.readyChanged.apart = w.apart := interrupt_apart _ 8

theorem failChannels_apart (w : Work) : w.failChannels.apart = w.apart := by
  refine foldl_keeps Work.apart _ (fun w e => ?_) w.cxl.channels w
  split
  · split
    · rfl
    · exact interrupt_apart _ e.1
  · rfl

/-- The panel as Sideboard B has taken its lead, before the alert and the event of it. -/
def Work.ledByB (w : Work) : Work :=
  let v := if w.jobRuns then w.killJob.jobStatus 0x83 0 0 else w.killJob
  { v with
    boot := { v.boot with lead := 1, standby := false, boardB := true }
    sessions := [], hellos := [], snapshots := [], staging := [], discovery := []
    reply := { status := 0x7C, messages := v.discovery.flatMap (fun e => messagesOf e.2 { status := 0x7C }) }
    log := { v.log with ring := [], overflow := [], incident := false } }

theorem takeLead_eq (w : Work) (cause : Nat) :
    w.takeLead cause = ((((w.ledByB.alert 16).event 0 0 10 1 cause).keepRegs).failChannels).readyChanged := by
  unfold Work.takeLead Work.ledByB
  simp only []

theorem takeLead_apart (w : Work) (cause : Nat) : (w.takeLead cause).apart = w.ledByB.apart := by
  rw [takeLead_eq, readyChanged_apart, failChannels_apart, keepRegs_apart, event_apart, alert_apart]

theorem takeover_of_standby {w : Work} (hlead : w.boot.lead = 0) (hstandby : w.standsBy = true) (cause : Nat) :
    takeover cause w = (if cause = 2 then w.reach (w.boot.beatAt + 100000000) else w).takeLead cause := by
  have hmay : ¬(w.boot.lead ≠ 0 ∨ (!w.standsBy) = true) := by simp [hlead, hstandby]
  exact if_neg hmay

/-- Settles O48: the change of the lead empties each list, and what follows it touches none of them. -/
theorem takeoverEndsRequests : Obligations.TakeoverEndsRequests := by
  intro s cause hlead hstandby
  refine ⟨_, run_commit (takeover_of_standby hlead hstandby cause), ?_⟩
  generalize (if cause = 2 then s.work.reach (s.work.boot.beatAt + 100000000) else s.work) = v
  have hapart := takeLead_apart v cause
  generalize v.takeLead cause = u at hapart ⊢
  simp only [Work.apart, Prod.mk.injEq] at hapart
  obtain ⟨hboot, hsessions, hhellos, hsnapshots, hstaging, -, -, -, -, -, -, -, -, -, -, -, -, hreply⟩ := hapart
  exact ⟨congrArg Boot.lead hboot, congrArg Boot.standby hboot, hsessions, hhellos, hsnapshots, hstaging,
    congrArg Reply.status hreply⟩

end Sys2Proof.Machine
end

section
/-! ### Clock regions -/

namespace Sys2Proof.Machine

/-! #### The frequency limit (R369) -/

/-- A region that has run so many cycles in a window, with so many guard steps added for the next. -/
def Region.windowed (x : Region) (cycles extra full now : Nat) : Region :=
  let y : Region := { x with mhz := cycles, extra := extra, sum := x.sum + cycles, count := x.count + 1 }
  let z : Region := if full ≤ y.count then { y with mean := y.sum / y.count, sum := 0, count := 0 } else y
  if cycles < 500 then { z with slowSince := some (z.slowSince.getD now) } else { z with slowSince := none, slowTold := false }

theorem limitWindow_of_runs {w : Work} {r : Nat} (hruns : w.regionRuns r = true) (cycles : Nat) :
    limitWindow r cycles w =
      let drawn := if min 1050 (w.capOf r) < cycles then w.draw else (0, w)
      drawn.2.modRegion r (fun x => x.windowed cycles (if min 1050 (w.capOf r) < cycles then drawn.1 + 1 else 0)
        (drawn.2.reg 0x9000 0x13 * 1000) drawn.2.now) := by
  unfold limitWindow
  rw [hruns]
  by_cases hexceeds : min 1050 (w.capOf r) < cycles
  · simp only [hexceeds, decide_true, if_true]
    rfl
  · simp only [hexceeds, decide_false, if_false]
    rfl

theorem slowClock_of_slow {w : Work} {r t : Nat} (hslow : (w.region r).slowSince = some t) (htold : (w.region r).slowTold = false)
    (hruns : w.regionRuns r = true) :
    slowClock r w =
      ((w.reach (t + 1000001)).modRegion r (fun x => { x with slowTold := true })).event 1 0 8 r (w.region r).mhz := by
  have hmay : ¬((w.region r).slowTold = true ∨ (!w.regionRuns r) = true) := by simp [htold, hruns]
  unfold slowClock
  simp only [hslow, if_neg hmay]

/-! #### The margin (R370, R371, R437) -/

/-- A region's margin code is noted, and since when it has been good. -/
def Work.noteMargin (w : Work) (r code : Nat) : Work :=
  w.modRegion r (fun x => { x with margin := code, goodSince := if 8 ≤ code then some (x.goodSince.getD w.now) else none })

section
variable {w : Work} {r : Nat} (hruns : w.regionRuns r = true)
include hruns

/-- The margin code of a region that runs is noted, and answered by its size. -/
theorem marginResponse_of_runs (code : Nat) :
    marginResponse r code w =
      let noted := w.noteMargin r (min 15 code)
      if min 15 code = 0 then
        ((((noted.raiseGuard r 2).marginCheck r).event 1 0 8 r (min 15 code)).hourly 1 8 r).marginSuspect r
      else if min 15 code ≤ w.reg 0x9000 0x12 then
        if noted.guard r = 15 then (noted.marginCheck r).event 1 0 8 r (min 15 code)
        else ((noted.raiseGuard r 1).event 2 0 8 r (min 15 code)).hourly 1 8 r
      else if 8 ≤ min 15 code ∧ (w.region r).goodSince.getD w.now + 10000000000 ≤ w.now then
        (noted.lowerGuard r).modRegion r (fun x => { x with goodSince := some w.now })
      else noted := by
  unfold marginResponse
  rw [hruns]
  rfl

theorem marginResponse_of_zero :
    marginResponse r 0 w =
      (((((w.noteMargin r 0).raiseGuard r 2).marginCheck r).event 1 0 8 r 0).hourly 1 8 r).marginSuspect r :=
  (marginResponse_of_runs hruns 0).trans (if_pos rfl)

theorem marginResponse_of_low {code : Nat} (hcode : code ≠ 0) (hlow : min 15 code ≤ w.reg 0x9000 0x12) :
    marginResponse r code w =
      if (w.noteMargin r (min 15 code)).guard r = 15 then
        ((w.noteMargin r (min 15 code)).marginCheck r).event 1 0 8 r (min 15 code)
      else (((w.noteMargin r (min 15 code)).raiseGuard r 1).event 2 0 8 r (min 15 code)).hourly 1 8 r := by
  have hsome : min 15 code ≠ 0 := by omega
  exact (marginResponse_of_runs hruns code).trans ((if_neg hsome).trans (if_pos hlow))

section
variable {code : Nat} (hhigh : w.reg 0x9000 0x12 < min 15 code)
include hhigh

theorem marginResponse_of_high :
    marginResponse r code w =
      if 8 ≤ min 15 code ∧ (w.region r).goodSince.getD w.now + 10000000000 ≤ w.now then
        ((w.noteMargin r (min 15 code)).lowerGuard r).modRegion r (fun x => { x with goodSince := some w.now })
      else w.noteMargin r (min 15 code) := by
  have hsome : min 15 code ≠ 0 := by omega
  exact (marginResponse_of_runs hruns code).trans ((if_neg hsome).trans (if_neg (Nat.not_le.mpr hhigh)))

theorem marginResponse_of_fresh
    (hfresh : min 15 code < 8 ∨ w.now < (w.region r).goodSince.getD w.now + 10000000000) :
    marginResponse r code w = w.noteMargin r (min 15 code) :=
  (marginResponse_of_high hruns hhigh).trans (if_neg (by omega))

theorem marginResponse_of_good (hgood : 8 ≤ code)
    (hlong : (w.region r).goodSince.getD w.now + 10000000000 ≤ w.now) :
    marginResponse r code w =
      ((w.noteMargin r (min 15 code)).lowerGuard r).modRegion r (fun x => { x with goodSince := some w.now }) :=
  (marginResponse_of_high hruns hhigh).trans (if_pos ⟨by omega, hlong⟩)

end
end

/-! #### The cap given back (R437) -/

/-- Since when the array of a region has had no task; 0 for a region without an array. -/
def Work.idleSince (w : Work) (r : Nat) : Nat :=
  match w.regionArray r with
  | some a => (w.arr a).idleAt
  | none => 0

theorem marginRestore_of_idle {w : Work} {r : Nat} (hidle : ∀ a, w.regionArray r = some a → (w.arr a).task = none)
    (hcap : (w.region r).capMHz < 1050) :
    marginRestore r w =
      let t := w.reach (max ((w.region r).restoredAt + 10000000000) (w.idleSince r + 1000000000))
      t.modRegion r (fun x => { x with capMHz := min 1050 (x.capMHz + 25), restoredAt := t.now }) := by
  unfold marginRestore Work.idleSince
  cases harray : w.regionArray r with
  | none => exact if_neg (by simp [hcap])
  | some a => exact if_neg (by simp [hidle a harray, hcap])

/-- Settles O49: a window of a region, its spell below 500 MHz, each answer to its margin code by the code's size, and the cap
given back have their own lemmas. -/
theorem clockRegions : Obligations.ClockRegions := by
  intro s r cycles code w x exceeds drawn full now noted idle
  refine ⟨?window, ?slow, fun hruns => ⟨?zero, ?low, ?fresh, ?good⟩, ?restore⟩
  case window => exact fun hruns => run_commit (limitWindow_of_runs hruns cycles)
  case slow => exact fun t hslow htold hruns => run_commit (slowClock_of_slow hslow htold hruns)
  case zero =>
    rintro rfl
    exact run_commit (marginResponse_of_zero hruns)
  case low => exact fun hcode hlow => run_commit (marginResponse_of_low hruns hcode hlow)
  case fresh => exact fun hhigh _ hfresh => run_commit (marginResponse_of_fresh hruns hhigh hfresh)
  case good =>
    exact fun hhigh hgood hlong => run_commit (marginResponse_of_good hruns hhigh hgood hlong)
  case restore => exact fun hidle hcap => run_commit (marginRestore_of_idle hidle hcap)

end Sys2Proof.Machine
end

section
/-! ### The time wave and the clock's tree -/

namespace Sys2Proof.Machine

/-! #### The wave (R380, R381) -/

/-- The instant of the next wave has come, and is noted. -/
def Work.atWave (w : Work) : Work :=
  let period := w.reg 0x9000 0x0A * 1000
  let late := w.reach ((w.root.lastWave / period + 1) * period)
  { late with root := { late.root with lastWave := late.now } }

theorem timeWave_of_running {w : Work} (hrunning : w.root.running = true) (hlost : w.root.lost = false) :
    timeWave w = if (w.atWave.die w.atWave.rootDie).clock.running then w.atWave.sendSync 0xFFFE w.atWave.rootDie else w.atWave :=
  if_neg (by simp [hrunning, hlost])

theorem syncPlace_of_die {d : Nat} (h : d < 1000) (w : Work) : w.syncPlace d = (d, 0x30) := by
  unfold Work.syncPlace
  rw [if_neg (by omega)]
  exact if_pos h

theorem syncPlace_of_root (w : Work) : w.syncPlace 0xFFFE = (w.rootDie, if w.root.who = 1 then 0x60 else 0x70) := if_pos rfl

/-- The TSYNC that the root sends to a die of the array. -/
theorem sendSync_of_root {d : Nat} (h : d < 1000) (v : Work) :
    v.sendSync 0xFFFE d =
      v.send { v.packet 0x21 v.rootDie (if v.root.who = 1 then 0x60 else 0x70) 0 d 0x30 0 with
        typeData := 10, total := 1, payload := TimeSync.bytes ⟨v.rootCounter, 0,
          if v.root.rateAt = 0 then v.root.rate else v.root.rateNew,
          (v.die d).clock.prevT4, v.root.rateAt, v.root.stepAt, v.root.stepBy⟩ } := by
  unfold Work.sendSync
  rw [syncPlace_of_root, syncPlace_of_die h]
  rfl

/-- A die has a move to end: it stands in holdover, and the root is not lost (R377, R386). -/
def Work.moving (t : Work) (d : Nat) : Bool := (t.die d).clock.holdover && !t.root.lost

/-- A TSYNC is noted at die d: its times, the delay of the exchange before it, and the rate and the step that it hands on. -/
def Work.noteSync (t : Work) (d : Nat) (sync : TimeSync) : Work :=
  let k := (t.die d).clock
  t.modDieClock d (fun c => { c.settled t.root.rate t.now with
    t1 := sync.t1, t2 := t.dieCounter d, t3 := t.dieCounter d
    delays := if k.t1 = 0 ∨ sync.prevT4 = 0 then k.delays else (((sync.prevT4 - k.t1) - (k.t3 - k.t2)) / 2 :: k.delays).take 16
    rateNew := sync.rate, rateAt := sync.rateAt
    rate := if sync.rateAt = 0 then sync.rate else c.rate, stepAt := sync.stepAt, stepBy := sync.stepBy
    holdover := k.holdover && !t.moving d })

/-- Die d answers its parent with TECHO, which carries its counter at the TSYNC's arrival twice. -/
def Work.echo (v : Work) (d parent : Nat) (t2 : Int) : Work :=
  v.send { v.packet 0x21 (v.syncPlace d).1 (v.syncPlace d).2 0 (v.syncPlace parent).1 (v.syncPlace parent).2 0 with
    typeData := 11, total := 1, payload := padTo 16 (timeBytes t2) ++ padTo 48 (timeBytes t2) }

theorem tsync_of_running {w t : Work} {d : Nat} {sync : TimeSync}
    (ht : w.takeFmgr 10 (fun q => (w.dstDie q, q.dstUnit) == w.syncPlace d) = t) (hrunning : (t.die d).clock.running = true) :
    tsync d sync w =
      let sent := (t.noteSync d sync).echo d (t.die d).clock.parent (t.dieCounter d)
      let fixed := sent.correct d (sync.t1 + (sent.die d).clock.delay - t.dieCounter d)
      if t.moving d then fixed.treeSettles else fixed.syncChildren d := by
  subst ht
  have hstands : ¬(!((w.takeFmgr 10 (fun q => (w.dstDie q, q.dstUnit) == w.syncPlace d)).die d).clock.running) = true := by
    rw [hrunning]
    exact Bool.false_ne_true
  exact if_neg hstands

theorem techo_of_running {w v : Work} {d : Nat}
    (hv : w.takeFmgr 11 (fun q => (w.srcDie q, q.srcUnit) == w.syncPlace d) = v) (hrunning : (v.die d).clock.running = true) :
    techo d w = v.modDieClock d (fun c => { c with prevT4 := v.parentCounter d }) := by
  subst hv
  exact if_pos hrunning

/-! #### Rates (R381) -/

/-- The number of a leaf of the tree (R375). -/
def isLeaf (d : Nat) : Prop := 1000 ≤ d ∧ d < 1035

theorem rateChange_of_die {w v : Work} {d : Nat} (hd : d < w.numDies ∨ isLeaf d) (hat : (w.die d).clock.rateAt ≠ 0)
    (hv : w.reachOn d (w.die d).clock.rateAt = v) :
    rateChange d w =
      v.modDieClock d (fun c => { c.settled v.root.rate v.now with rate := c.rateNew, rateAt := 0 }) := by
  have hdie : ¬(w.numDies ≤ d ∧ (!decide (leafBase ≤ d ∧ d < leafBase + 35)) = true) := by
    rintro ⟨hnone, hleaf⟩
    have hin : leafBase ≤ d ∧ d < leafBase + 35 := hd.resolve_left (Nat.not_lt.mpr hnone)
    rw [decide_eq_true hin] at hleaf
    exact Bool.false_ne_true hleaf
  subst hv
  exact (if_neg hdie).trans (if_neg hat)

theorem rateChange_of_root {w v : Work} {d : Nat} (hnone : w.numDies ≤ d) (hleaf : ¬isLeaf d) (hat : w.root.rateAt ≠ 0)
    (hv : (w.reach w.root.rateAt).settleAll = v) :
    rateChange d w = { v with root := { v.root with rate := v.root.rateNew, rateAt := 0 } } := by
  have hout : ¬(leafBase ≤ d ∧ d < leafBase + 35) := hleaf
  have hroot : w.numDies ≤ d ∧ (!decide (leafBase ≤ d ∧ d < leafBase + 35)) = true := ⟨hnone, by rw [decide_eq_false hout]; rfl⟩
  subst hv
  exact (if_pos hroot).trans (if_neg hat)

/-! #### A new tree (R386) -/

section
variable {w : Work} {depth : Nat} (habove : w.wholeTree.any (fun e => decide (e.depth < depth) && w.misplaced e) = false)
include habove

/-- The dies of a depth take their places once those above have settled. -/
theorem reparent_of_settled :
    reparent depth w = ((w.wholeTree.filter (fun e => e.depth == depth)).foldl Work.takePlace w).treeSettles :=
  if_neg (ne_true_of_eq_false habove)

end

theorem treeSettles_of_misplaced {w : Work} (h : w.wholeTree.any w.misplaced = true) : w.treeSettles = w := if_pos h

theorem treeSettles_of_placed {w : Work} (h : w.wholeTree.any w.misplaced = false) :
    w.treeSettles =
      if (w.showTree w.wholeTree).fmgr.st = 0 then (List.range 16).foldl Work.bayJoins (w.showTree w.wholeTree)
      else w.showTree w.wholeTree :=
  if_neg (ne_true_of_eq_false h)

/-- Settles O50: the wave, its message and the two answers to it, a rate's instant at a die and at the root, and a depth of the
new tree have their own lemmas. -/
theorem timeMovesDownTheTree : Obligations.TimeMovesDownTheTree := by
  intro s d depth sync w period late waved echoed leaf c t k t2 moving set here above sent fixed placed
  refine ⟨?wave, ?message, ?sync, ?echo, ?rate, ?rootRate, fun habove => ⟨?moves, ?settles⟩⟩
  case wave => exact fun hrunning hlost => run_commit (timeWave_of_running hrunning hlost)
  case message => exact fun v hd => sendSync_of_root hd v
  case sync => exact fun hrunning => run_commit (tsync_of_running rfl hrunning)
  case echo => exact fun hrunning => run_commit (techo_of_running rfl hrunning)
  case rate => exact fun hd hat => run_commit (rateChange_of_die hd hat rfl)
  case rootRate => exact fun hnone hleaf hat => run_commit (rateChange_of_root hnone hleaf hat rfl)
  case moves =>
    exact fun hmisplaced => run_commit ((reparent_of_settled habove).trans (treeSettles_of_misplaced hmisplaced))
  case settles =>
    exact fun hplaced => run_commit ((reparent_of_settled habove).trans (treeSettles_of_placed hplaced))

end Sys2Proof.Machine
end

section
/-! ### Steps of time, and the pulse -/

namespace Sys2Proof.Machine

/-! #### Steps (R385) -/

/-- The root's counter and those of the dies that the wave has told of the step have reached its instant. -/
def Work.atStep (w : Work) : Work :=
  (w.dies.filter (fun e => e.2.clock.stepAt == w.root.stepAt)).foldl (fun v e => v.reachOn e.1 w.root.stepAt)
    (w.reach w.root.stepAt)

/-- The counters move by a step of `d` ns due at `t`; a die that was not told of it stays where it was. -/
def Work.movedBy (v : Work) (t d : Nat) : Work :=
  { v with
    clock := v.clock + d * 2 ^ 32
    root := { v.root with stepAt := 0, stepBy := 0 }
    dies := v.dies.map (fun e => (e.1, { e.2 with clock :=
      if e.2.clock.stepAt = t then { e.2.clock with stepAt := 0, stepBy := 0 }
      else { e.2.clock with offset := e.2.clock.offset - Int.ofNat d * 256 } })) }

theorem timeStep_of_announced {w : Work} (hat : w.root.stepAt ≠ 0) (hjob : w.jobRuns = false) :
    timeStep w =
      let shifted := (w.atStep.movedBy w.root.stepAt w.root.stepBy).shiftIntervals w.root.stepBy
      if shifted.reg 0x9000 9 % 256 = 0xFF then shifted.setReg 0x9000 9 0 else shifted :=
  if_neg (not_or.mpr ⟨hat, ne_true_of_eq_false hjob⟩)

section
variable {w : Work} {sec : Nat} (hidle : w.reg 0x9000 9 % 256 ≠ 0xFF) (hjob : w.jobRuns = false)
include hidle hjob

theorem setSeconds_of_later (hlater : w.now / 1000000000 < sec) :
    setSeconds sec w = ((w.announceStep ((sec - w.now / 1000000000) * 1000000000)).setReg 0x9000 9 0xFF).accept := by
  rw [setSeconds, if_neg hidle, if_neg (ne_true_of_eq_false hjob), if_neg (Nat.not_le.mpr hlater)]

theorem setSeconds_of_earlier (hearlier : sec ≤ w.now / 1000000000) :
    setSeconds sec w = (w.setReg 0x9000 9 0x73).refuse 0x73 := by
  rw [setSeconds, if_neg hidle, if_neg (ne_true_of_eq_false hjob), if_pos hearlier]

end

/-! #### The pulse (R384) -/

/-- How far the present instant is past the nearest second, in ns. -/
def Work.pulseOffset (w : Work) : Int :=
  if w.now % 1000000000 ≤ 500000000 then Int.ofNat (w.now % 1000000000) else Int.ofNat (w.now % 1000000000) - 1000000000

/-- A pulse is seen: its instant is noted and its offset told. -/
def Work.pulseSeen (w : Work) : Work :=
  ({ w with root := { w.root with lastEdge := w.now } } : Work).setReg 0x9000 5 (unsigned 32 w.pulseOffset)

section
variable {w : Work} (hon : w.reg 0x9000 7 ≠ 0) (hrunning : w.root.running = true) (hdone : 2 ≤ w.boot.done)
include hon hrunning hdone

/-- The pulse is looked at once it is enabled, the root runs and step 2 has ended. -/
theorem pulse_is_seen : ¬(w.reg 0x9000 7 = 0 ∨ (!w.root.running) = true ∨ w.boot.done < 2) := by
  simp [hon, hrunning, Nat.not_lt.mpr hdone]

theorem ppsEdge_of_free (hpps : w.root.pps = 0 ∨ w.root.pps = 4) : ppsEdge w = w.pulseSeen.acquire w.pulseOffset :=
  (if_neg (pulse_is_seen hon hrunning hdone)).trans (if_pos hpps)

/-- In lock, an edge within 100 ns is counted among the good or not, and steers the rate. -/
theorem ppsEdge_of_locked (hpps : w.root.pps = 2) (hnear : w.pulseOffset.natAbs ≤ 100) :
    ppsEdge w =
      ({ w.pulseSeen with root := { w.pulseSeen.root with
        badEdges := 0, goodEdges := if w.pulseOffset.natAbs ≤ 20 then w.pulseSeen.root.goodEdges + 1 else 0 } } : Work).steer 0 200 := by
  have hst : w.pulseSeen.root.pps = 2 := hpps
  have hfree : ¬(w.pulseSeen.root.pps = 0 ∨ w.pulseSeen.root.pps = 4) := by omega
  have hwaits : w.pulseSeen.root.pps ≠ 3 := by omega
  have hclose : ¬1000 < w.pulseOffset.natAbs := by omega
  have hlost : ¬(w.pulseSeen.root.pps = 2 ∧ 100 < w.pulseOffset.natAbs) := by omega
  refine (if_neg (pulse_is_seen hon hrunning hdone)).trans ((if_neg hfree).trans ((if_neg hwaits).trans ((if_neg hclose).trans ?_)))
  exact congrArg (Work.steer · 0 200) ((if_neg hlost).trans (if_neg (fun h => absurd (hst.symm.trans h.1) (by decide))))

end

/-- Settles O51: a step at its instant, the announcement of one and its refusal, a pulse by the state that it finds, and the want of
one have their own lemmas; the loss of the root acts in every state. -/
theorem timeIsSetAndKept : Obligations.TimeIsSetAndKept := by
  intro s sec w t moved shifted off seen
  refine ⟨?step, fun hidle hjob => ⟨?later, ?earlier⟩, fun hon hrunning hdone => ⟨?free, ?locked⟩, ?holdover, ?loss⟩
  case step => exact fun hat hjob => run_commit (timeStep_of_announced hat hjob)
  case later => exact fun hlater => run_commit (setSeconds_of_later hidle hjob hlater)
  case earlier => exact fun hearlier => run_commit (setSeconds_of_earlier hidle hjob hearlier)
  case free => exact fun hpps => run_commit (ppsEdge_of_free hon hrunning hdone hpps)
  case locked => exact fun hpps hnear => run_commit (ppsEdge_of_locked hon hrunning hdone hpps hnear)
  case holdover => exact fun hlow hhigh => run_commit (f := ppsHoldover) (if_pos ⟨hlow, hhigh⟩)
  case loss => exact run_commit (f := fun w => w.loseRoot.keepRegs) rfl

end Sys2Proof.Machine
end

section
/-! ### Rails, guards and power caps -/

namespace Sys2Proof.Machine

theorem baySwitchOff_of_bay {w : Work} {b : Nat} (hbay : b < 16) (hroot : b ≠ w.rootBay) :
    baySwitchOff b w = if (w.domain b).st = .on then Work.goOff b 5 (w.beginOff b true) else Work.goOff b 5 w :=
  if_neg (not_or.mpr ⟨Nat.not_le.mpr hbay, hroot⟩)

theorem drainGrace_of_waiting {w late : Work} {b : Nat} (hst : (w.domain b).st = .switchingOff) (hstep : (w.domain b).step = 2)
    (hlate : w.reach ((w.domain b).stepAt + w.reg 0x6500 0x0A * 1000000) = late) :
    drainGrace b w =
      (late.arrays.filter (fun e => (late.bayDies b).contains (e.1 / 16))).foldl (fun w e => w.stopArray e.1 0x92 0x92) late := by
  subst hlate
  exact if_neg (not_or.mpr ⟨not_not_intro hst, not_not_intro hstep⟩)

/-- A CapW that software has written may lower the cap of a guard, and never raises it (R395). -/
theorem guardNow_of_guarded {w : Work} {d : Nat} (hguard : guardCap d ≠ 0) :
    w.guardNow d = if thas w.regs (key (0x6000 + d) 6) = true then
      min (guardCap d) (Config.loweredCap d (w.reg (0x6000 + d) 6)) else guardCap d := by
  unfold Work.guardNow
  by_cases hwritten : thas w.regs (key (0x6000 + d) 6) = true
  · rw [if_pos ⟨hguard, hwritten⟩, if_pos hwritten]
  · rw [if_neg (fun h => hwritten h.2), if_neg hwritten]

/-- A sample is drawn and kept, with whether it exceeds the cap. -/
def Work.sampled (w : Work) (d cap ma : Nat) : Work :=
  ({ w with free := w.free + 1 } : Work).modDomain d
    (fun x => { x with current := ma, gated := decide (cap < ma), sample := w.free + 1 })

/-- A current over the guard's cap gates the cells of a bay, and is counted (R396). -/
theorem guardSample_of_guarded {w : Work} {d ma : Nat} (hguard : guardCap d ≠ 0) (hpg : (w.domain d).pg = true) :
    guardSample d ma w =
      let sample := w.sampled d (w.guardNow d) ma
      if w.guardNow d < ma ∧ d < 16 then sample.addReg (0x6000 + d) 0x10 (sample.gatedCycles d) else sample := by
  have hmay : ¬(guardCap d = 0 ∨ (!(w.domain d).pg) = true) := by simp [hguard, hpg]
  exact (if_neg hmay).trans (if_congr (and_congr_left' decide_eq_true_iff) rfl rfl)

/-- Settles O53: a bay's switch-off, its grace time and a guard's sample have their own lemmas; the polls, an alert and the loop of
the caps act in every state. -/
theorem powerIsWatched : Obligations.PowerIsWatched := by
  intro s d segment ma rs w late cap counted sample
  refine ⟨?switchOff, ?grace, ?poll, ?alert, ?guard, ?caps⟩
  case switchOff => exact fun hbay hroot => run_commit (baySwitchOff_of_bay hbay hroot)
  case grace => exact fun hst hstep => run_commit (drainGrace_of_waiting hst hstep rfl)
  case poll => exact run_commit (f := pmbusPoll rs) rfl
  case alert => exact run_commit (f := pmbusAlert segment rs) rfl
  case guard =>
    intro hguard hpg
    have hsample := guardSample_of_guarded (ma := ma) hguard hpg
    rw [guardNow_of_guarded hguard] at hsample
    exact run_commit hsample
  case caps => exact run_commit (f := powerCapLoop) rfl

end Sys2Proof.Machine
end

section
/-! ### Sensors, throttles and cooling -/

namespace Sys2Proof.Machine

/-! #### A reading (R399 to R402, R407) -/

/-- A group without a reading has no slope. -/
theorem groupSlope_of_unread {w : Work} {stack : Bool} {l : Nat} (h : w.groupReading stack l = none) :
    w.groupSlope stack l = w := by
  unfold Work.groupSlope
  rw [h]

/-- The reading of a group joins those of its last second. -/
def Work.slopeTaken (w : Work) (stack : Bool) (l : Nat) (g : Int) : Work :=
  w.modSensor stack l (fun x => x.taken w.now (if stack then 16 * g else g))

theorem groupSlope_of_read {w : Work} {stack : Bool} {l : Nat} {g : Int} (h : w.groupReading stack l = some g) :
    w.groupSlope stack l =
      let seen := w.slopeTaken stack l g
      let slope := (seen.sensor stack l).slope
      let busy : Work := if 8 ≤ slope then { seen with cooling := { seen.cooling with calmSince := seen.now } } else seen
      if 32 < slope ∧ (stack = true ∨ l < 1808) then busy.suddenStop 7 (sensorNumber stack l) else busy := by
  unfold Work.groupSlope
  rw [h]
  rfl

/-- The group of a reading has been judged, and the limits have acted on it. -/
def Work.readingJudged (w : Work) (stack : Bool) (n after : Nat) (r : Int) : Work :=
  ((((w.reach (w.now + after)).modSensor stack n (fun x => { x with reading := some r })).judgeGroup stack
    (leaderOf stack n)).groupLimits stack (leaderOf stack n))

theorem sensorRead_of_sensor {stack : Bool} {n : Nat} (h : n < (if stack then 1024 else 1846)) (r : Int) (after : Nat) (w : Work) :
    sensorRead stack n r after w = ((w.readingJudged stack n after r).groupSlope stack (leaderOf stack n)).keepRegs :=
  if_neg (Nat.not_le.mpr h)

/-- Every switched domain is pulled low in the trip, or is marked by it where it is off (R403). -/
def Work.allTripped (w : Work) : Work :=
  (List.range 37).foldl (fun w d =>
    if (w.domain d).enabled then w.pullLow d .trip else w.modDomain d (fun x => { x with st := .trip, enableWaits := false })) w

theorem thermalTrip_of_comparator {w dark rootless : Work} {n : Nat} (h : n < 1808 ∨ 1812 ≤ n ∧ n < 1846)
    (hdark : ((w.alert 3).setReg 0x6400 0x0D n).loseAll.allTripped = dark)
    (hrootless : (if dark.root.who = 1 then dark.loseRoot else dark) = rootless) :
    thermalTrip n w = ((({ rootless with thermTrip := true } : Work).event 0 0 7 n 0).interrupt 11).keepRegs := by
  have hcomparator : ¬(1846 ≤ n ∨ (1808 ≤ n ∧ n < 1812)) := by omega
  unfold thermalTrip
  rw [if_neg hcomparator, ← hrootless, ← hdark]
  unfold Work.allTripped
  simp only []

/-! #### The airflow estimate (R406) -/

/-- The estimate has been taken into its mean, and the trend into its readings. -/
def Work.airTaken (w : Work) : Work :=
  { w with cooling := { w.cooling with
    rest := match w.airEstimate with | some x => (x :: w.cooling.rest).take 60 | none => w.cooling.rest
    trend := match w.trendReading with | some r => ((r, w.panelPower) :: w.cooling.trend).take 301 | none => [] } }

/-- One of the two signs of a slow loss of airflow shows. -/
def Work.slowSigns (w : Work) : Bool := decide (w.airWarn < w.cooling.mean) || memoryTrend w.cooling.trend

/-- Slow loss begins, with a WARN event. -/
def Work.slowBegins (est : Work) : Work :=
  let warned := (est.coolingTo 1).event 2 0 0 0 (unsigned 64 (est.coolingTo 1).cooling.mean)
  ({ warned with cooling := { warned.cooling with raisedAt := warned.now, goodSince := none } } : Work).slowLoss

/-- What is made of the estimate goes by the state of the cooling policy. -/
theorem airflow_eq (w : Work) :
    airflow w =
      let est := w.airTaken
      if w.cooling.st = 0 then (if est.slowSigns then est.slowBegins else est)
      else if w.cooling.st = 1 then est.slowLoss
      else if w.cooling.st = 3 then { est with cooling := { est.cooling with capW := min est.cooling.capW est.airAllows } }
      else est := rfl

section
variable {w : Work}

theorem airflow_of_quiet (h : w.cooling.st = 2 ∨ w.cooling.st = 0 ∧ w.airTaken.slowSigns = false) : airflow w = w.airTaken := by
  rcases h with hst | ⟨hst, hquiet⟩
  · rw [airflow_eq, hst]
    rfl
  · rw [airflow_eq, hst]
    exact if_neg (ne_true_of_eq_false hquiet)

theorem airflow_of_sign (hst : w.cooling.st = 0) (hslow : w.airTaken.slowSigns = true) : airflow w = w.airTaken.slowBegins := by
  rw [airflow_eq, hst]
  exact if_pos hslow

theorem airflow_of_slow (hst : w.cooling.st = 1) : airflow w = w.airTaken.slowLoss := by
  rw [airflow_eq, hst]
  rfl

theorem airflow_of_recovering (hst : w.cooling.st = 3) :
    airflow w = { w.airTaken with cooling := { w.airTaken.cooling with
      capW := min w.airTaken.cooling.capW w.airTaken.airAllows } } := by
  rw [airflow_eq, hst]
  rfl

/-! #### Recovery (R407) -/

theorem coolingRecovery_of_calm {calm : Work} (hst : w.cooling.st = 2) (hcalm : w.calm = true)
    (hreach : w.reach (w.cooling.calmSince + 30000000000) = calm) :
    coolingRecovery w =
      ({ calm with cooling := { calm.cooling with capW := 2560, raisedAt := calm.now } } : Work).coolingTo 3 := by
  subst hreach
  exact (if_pos hst).trans (if_pos hcalm)

/-- The cap has risen by a step, to at most what the airflow allows. -/
def Work.capRaised (later : Work) : Work :=
  { later with cooling := { later.cooling with
    capW := min later.airAllows (later.cooling.capW + 640), raisedAt := later.now, goodSince := none } }

theorem coolingRecovery_of_recovering {later : Work} (hst : w.cooling.st = 3)
    (hreach : w.reach (w.cooling.raisedAt + 10000000000) = later) :
    coolingRecovery w =
      if min later.airAllows (later.cooling.capW + 640) = later.airAllows
      then later.capRaised.coolingTo (if later.capRaised.airWarn < later.capRaised.cooling.mean then 1 else 0)
      else later.capRaised := by
  subst hreach
  exact (if_neg (by rw [hst]; decide)).trans (if_pos hst)

end

/-- Settles O54: a reading by whether its group has one, the trip, each way of the estimate and of the recovery have their own
lemmas; a pass of the throttles and COOL_FAIL_N act in every state. -/
theorem heatIsHeld : Obligations.HeatIsHeld := by
  intro s stack n after reading w read failed later cap raised est slow warned calm told dark rootless l judged
  refine ⟨?unread, ?read, ?throttles, ?trip, ?quiet, ?sign, ?slow, ?allows, ?fails, ?ends, ?calm, ?rises⟩
  case unread =>
    exact fun hsensor hgroup =>
      run_commit ((sensorRead_of_sensor hsensor reading after w).trans (congrArg Work.keepRegs (groupSlope_of_unread hgroup)))
  case read =>
    exact fun g hsensor hgroup =>
      run_commit ((sensorRead_of_sensor hsensor reading after w).trans (congrArg Work.keepRegs (groupSlope_of_read hgroup)))
  case throttles => exact run_commit (f := junctionThrottle) rfl
  case trip => exact fun hn => run_commit (thermalTrip_of_comparator (w := w) (dark := dark) (rootless := rootless) hn rfl rfl)
  case quiet => exact fun h => run_commit (airflow_of_quiet h)
  case sign => exact fun hst hslow => run_commit (airflow_of_sign hst hslow)
  case slow => exact fun hst => run_commit (airflow_of_slow hst)
  case allows => exact fun hst => run_commit (airflow_of_recovering hst)
  case fails => exact run_commit (f := coolFail) rfl
  case ends => exact fun hpin => run_commit (f := coolGood) (if_pos hpin)
  case calm => exact fun hst hcalm => run_commit (coolingRecovery_of_calm hst hcalm rfl)
  case rises => exact fun hst => run_commit (coolingRecovery_of_recovering hst rfl)

end Sys2Proof.Machine
end

section
/-! ### Reset and the first steps of start-up -/

namespace Sys2Proof.Machine

/-! #### Reset (R412, R458) -/

theorem panelRst_of_reset {lowNs : Nat} {fell : Bool} (h : fell = true ∨ 10000 ≤ lowNs) (w : Work) :
    panelRst lowNs fell w = w.afterReset := if_pos (h.imp_right Or.inl)

theorem panelRst_of_short {lowNs : Nat} (h : lowNs < 9400) (w : Work) : panelRst lowNs false w = w := by
  refine if_neg ?_
  rintro (hfell | hlong | ⟨hlong, -⟩)
  · exact Bool.false_ne_true hfell
  · omega
  · omega

/-! #### Step 1 (R414, R417, R429) -/

/-- The panel as a start begins: its marks, its count and its run are new, and no one leads. -/
def Work.freshStart (w : Work) (bOk : Bool) (straps : Nat) : Work :=
  let b := w.boot
  { w with boot := { b with
    marks := b.newMarks b.lastRoot, clearMark := [], service := b.serviceLeft, starts := (b.starts + 1) % 2 ^ 32, boardB := bOk
    runs := ([⟨0, 0, 0, (b.starts + 1) % 2 ^ 32, 0, 0⟩] :: b.runs).take 9
    nodeId := straps % 32, activeSlot := b.nextSlot, st := 0, lead := 2 } }

/-- What the ROM finds as it looks for a slot, with the milliseconds that it takes. -/
def Work.romLooks (w : Work) (bOk : Bool) (straps : Nat) : Nat × Work :=
  ((w.freshStart bOk straps).loadFlash.startupDefects.domainOn 37).drawMs 200

/-- The order of the slots: slot 1 first on the alternate way. -/
def Work.romOrder (v : Work) (alt : Bool) : List Nat := if alt then [1, 0] else [v.boot.activeSlot, 1 - v.boot.activeSlot]

/-- The slots that the two ROMs take decide who leads: A, else B, else no one. -/
def Work.ledBySlots (v : Work) (aOk bOk alt : Bool) (order : List Nat) (ms : Nat) : Option Nat → Option Nat → Work
  | some n, _ =>
    let u := (v.runSlot n).checkTable
    (({ u with boot := { u.boot with lead := 0, standby := bOk } } : Work).journal 0x100 (ofBool alt) 1 ms
      0).readyChanged.stepEnds ms
  | none, some n => (((v.runSlot n).checkTable.takeLead (if aOk then 1 else 0)).journal 0x100 1 1 ms 0).stepEnds ms
  | none, none =>
    (v.journal 0x100 (ofBool alt) 2 ms (if bOk = true then v.slotRefusal (2 + order.getD 1 0)
      else if aOk = true then v.slotRefusal (order.getD 1 0) else 0)).stepEnds ms

theorem romSelfTest_of_due {w : Work} {aOk bOk alt : Bool} {straps : Nat} {rom : Nat × Work} {order : List Nat}
    {slotA slotB : Option Nat} (hdue : w.due 0x100 = true) (hrom : w.romLooks bOk straps = rom)
    (halt : (rom.2.boot.markOf 0x100 == 1) = alt) (horder : rom.2.romOrder alt = order)
    (ha : (if aOk then rom.2.bootSlot 0 order else none) = slotA) (hb : (if bOk then rom.2.bootSlot 1 order else none) = slotB) :
    romSelfTest aOk bOk straps w = rom.2.ledBySlots aOk bOk alt order rom.1 slotA slotB := by
  subst hrom halt horder ha hb
  unfold romSelfTest
  rw [hdue]
  rfl

/-! #### Step 2 (R376) -/

/-- What names the root and stands by its clock: no step of the sequence that ends or begins touches it. -/
def Work.rootSide (w : Work) : Root × Bool := (w.root, w.coolFailPin)

theorem releaseEn_rootSide (w : Work) (d : Nat) : (w.releaseEn d).rootSide = w.rootSide := rfl

theorem startRamp_rootSide (w : Work) (d step : Nat) : (w.startRamp d step).rootSide = w.rootSide := by
  unfold Work.startRamp
  simp only []
  split <;> rfl

theorem beginStep_rootSide (w : Work) : w.beginStep.rootSide = w.rootSide :=
  foldl_keeps Work.rootSide (fun (w : Work) (e : Nat × Nat) => w.startRamp e.1 e.2) (fun w e => startRamp_rootSide w e.1 e.2) _ w

theorem stepEnds_rootSide (w : Work) (ms : Nat) : (w.stepEnds ms).rootSide = w.rootSide := by
  unfold Work.stepEnds
  simp only []
  split
  · split
    · rfl
    · exact beginStep_rootSide _
  · split
    · rfl
    · exact beginStep_rootSide _

theorem startDomain_rootSide (w : Work) (d : Nat) : (w.startDomain d).rootSide = w.rootSide := by
  unfold Work.startDomain
  simp only []
  split
  · rfl
  · split <;> rfl

theorem drawMs_rootSide (w : Work) (limit : Nat) : (w.drawMs limit).2.rootSide = w.rootSide := rfl

/-- Board A's clock can be the root: its PLL locks, and one of its attach sites is usable. -/
def Work.rootsByA (w : Work) (aLock : Bool) : Bool := aLock && (w.attachGood 25 || w.attachGood 24)

/-- The fallback to the host die's clock is tried. -/
def Work.triesHost (w : Work) (aLock : Bool) (refclk : Nat) : Bool :=
  !w.rootsByA aLock && bit refclk 1 && !bit refclk 2 && !(w.domain 36).faulted

/-- The root that step 2 chooses: 0 board A, 1 the host die, 0xFF none. -/
def Work.chosenRoot (w : Work) (aLock hostLock : Bool) (refclk : Nat) : Nat :=
  if w.rootsByA aLock then 0 else if w.triesHost aLock refclk && hostLock then 1 else 0xFF

theorem chosenRoot_eq (w : Work) (aLock hostLock : Bool) (refclk : Nat) :
    w.chosenRoot aLock hostLock refclk =
      if w.rootsByA aLock then 0
      else if bit refclk 1 && !bit refclk 2 && !(w.domain 36).faulted && hostLock then 1 else 0xFF := by
  unfold Work.chosenRoot Work.triesHost
  cases w.rootsByA aLock <;> rfl

/-- The fallback's domain comes up, or ramps on where its PLL does not lock. -/
def Work.hostPowered (w : Work) (aLock hostLock : Bool) (refclk : Nat) : Work :=
  if w.triesHost aLock refclk && hostLock then w.startDomain 36
  else if w.triesHost aLock refclk then w.startRamp 36 0x200 else w

theorem hostPowered_rootSide (w : Work) (aLock hostLock : Bool) (refclk : Nat) :
    (w.hostPowered aLock hostLock refclk).rootSide = w.rootSide := by
  unfold Work.hostPowered
  split
  · exact startDomain_rootSide w 36
  · split
    · exact startRamp_rootSide w 36 0x200
    · rfl

/-- The counter starts at 0 under the root that was chosen, and every instant before it lies at 0. -/
def Work.rootedBy (w : Work) (who refclk : Nat) : Work :=
  { w with
    clock := 0
    domains := w.domains.map (fun e => (e.1, { e.2 with
      mayEnableAt := e.2.mayEnableAt - w.now, rampAt := e.2.rampAt - w.now, pgAt := 0
      rails := e.2.rails.map (fun r => (r.1, { r.2 with lastAt := 0 })) }))
    boot := { w.boot with bootMs := w.bootNow, zeroAt := 0 }
    root := { w.root with who := who, running := decide (who ≠ 0xFF), refclk := refclk % 8 } }

/-- The panel as step 2 ends. -/
def Work.afterRoot (w : Work) (aLock hostLock : Bool) (refclk : Nat) : Work :=
  let drawn := (w.hostPowered aLock hostLock refclk).drawMs (if w.rootsByA aLock then 10 else 40)
  let who := w.chosenRoot aLock hostLock refclk
  ((drawn.2.rootedBy who refclk).journal 0x200 (ofBool (w.triesHost aLock refclk)) (if who = 0xFF then 2 else 1) drawn.1
    0).stepEnds drawn.1

theorem afterRoot_rootSide (w : Work) (aLock hostLock : Bool) (refclk : Nat) :
    (w.afterRoot aLock hostLock refclk).rootSide =
      ({ w.root with
        who := w.chosenRoot aLock hostLock refclk, running := decide (w.chosenRoot aLock hostLock refclk ≠ 0xFF)
        refclk := refclk % 8 }, w.coolFailPin) := by
  have hbefore : (w.hostPowered aLock hostLock refclk).rootSide = (w.root, w.coolFailPin) :=
    hostPowered_rootSide w aLock hostLock refclk
  simp only [Work.rootSide, Prod.mk.injEq] at hbefore
  obtain ⟨hroot, hpin⟩ := hbefore
  rw [Work.afterRoot, stepEnds_rootSide, ← hroot, ← hpin]
  rfl

theorem clockRoot_of_due {w : Work} (hdue : w.due 0x200 = true) (hpin : w.coolFailPin = false) (aLock hostLock : Bool)
    (refclk : Nat) : clockRoot aLock hostLock refclk w = w.afterRoot aLock hostLock refclk := by
  have hstill : (w.afterRoot aLock hostLock refclk).coolFailPin = false :=
    (congrArg Prod.snd (afterRoot_rootSide w aLock hostLock refclk)).trans hpin
  have hends : clockRoot aLock hostLock refclk w =
      if (w.afterRoot aLock hostLock refclk).coolFailPin then (w.afterRoot aLock hostLock refclk).suddenStop 0 0
      else w.afterRoot aLock hostLock refclk := by
    unfold clockRoot
    rw [hdue]
    rfl
  rw [hends, hstill]
  rfl

/-! #### Step 3 (R417) -/

theorem startDomain_of_on {w : Work} {d : Nat} (h : (w.domain d).st = .on) : w.startDomain d = w := if_pos h

section
variable {w : Work} (hdue : w.due 0x300 = true) (ok : Bool) (width rate : Nat)
include hdue

theorem startHost_of_skipped (hmark : w.boot.markOf 0x300 = 2) :
    startHost ok width rate w = (w.journal 0x300 2 3 0 0).stepEnds 0 := by
  unfold startHost
  rw [hdue, Bool.not_true, if_neg Bool.false_ne_true, if_pos hmark]

section
variable (hmark : w.boot.markOf 0x300 ≠ 2)
include hmark

theorem startHost_of_faulted (hfaulted : (w.domain 36).faulted = true) :
    startHost ok width rate w = (w.journal 0x300 0 2 0 0x93).stepEnds 0 := by
  unfold startHost
  rw [hdue, Bool.not_true, if_neg Bool.false_ne_true, if_neg hmark]
  simp only [hfaulted, if_true]

/-- The host die's domain is on, and its self-test decides. -/
theorem startHost_of_on (hfaulted : (w.domain 36).faulted = false) (hon : (w.domain 36).st = .on) :
    startHost ok width rate w =
      let drawn := w.drawMs 900
      if ok then
        ((({ drawn.2 with boot := { drawn.2.boot with hostReady := true } } : Work).readyChanged.cxlTrain width rate).journal
          0x300 0 1 drawn.1 0).stepEnds drawn.1
      else ((if drawn.2.root.who = 1 then drawn.2 else drawn.2.pullLow 36 .off).journal 0x300 0 2 drawn.1 0).stepEnds drawn.1 := by
  unfold startHost
  rw [hdue, Bool.not_true, if_neg Bool.false_ne_true, if_neg hmark, startDomain_of_on hon]
  simp only [hfaulted]
  rfl

end
end

/-- Settles O55: a low pin by its time, step 1 by the slots that the ROMs take, step 2 with what it leaves of the root, and each way of
step 3 have their own lemmas. -/
theorem startUpBegins : Obligations.StartUpBegins := by
  intro s lowNs straps refclk width rate aOk bOk hostLock ok fell w drawn b fresh rom alt order slotA slotB
  have hrom : w.romLooks bOk straps = rom := rfl
  have halt : (rom.2.boot.markOf 0x100 == 1) = alt := rfl
  have horder : rom.2.romOrder alt = order := rfl
  have hslotA : (if aOk then rom.2.bootSlot 0 order else none) = slotA := rfl
  have hslotB : (if bOk then rom.2.bootSlot 1 order else none) = slotB := rfl
  clear_value slotA slotB order alt rom
  refine ⟨?reset, ?short, fun hdue => ⟨?byA, ?byB, ?byNone⟩, ?root,
    fun hdue => ⟨?skipped, ?faulted, fun hmark hfaulted hon => ⟨?comes, ?fails⟩⟩⟩
  case reset => exact fun h => run_commit (panelRst_of_reset h w)
  case short =>
    rintro hfell hshort
    subst hfell
    exact run_commit (panelRst_of_short hshort w)
  case byA => exact fun n ha => run_commit (by
    rw [romSelfTest_of_due hdue hrom halt horder (hslotA.trans ha) hslotB, Work.ledBySlots])
  case byB => exact fun n ha hb => run_commit (by
    rw [romSelfTest_of_due hdue hrom halt horder (hslotA.trans ha) (hslotB.trans hb), Work.ledBySlots])
  case byNone => exact fun ha hb => run_commit (by
    rw [romSelfTest_of_due hdue hrom halt horder (hslotA.trans ha) (hslotB.trans hb), Work.ledBySlots])
  case root =>
    intro hdue hpin byA who
    have hside := congrArg Prod.fst (afterRoot_rootSide w aOk hostLock refclk)
    have hwho : w.chosenRoot aOk hostLock refclk = who := chosenRoot_eq w aOk hostLock refclk
    rw [hwho] at hside
    exact ⟨_, run_commit (clockRoot_of_due hdue hpin aOk hostLock refclk), congrArg Root.who hside, congrArg Root.running hside,
      congrArg Root.refclk hside⟩
  case skipped => exact fun hmark => run_commit (startHost_of_skipped hdue ok width rate hmark)
  case faulted => exact fun hmark hfaulted => run_commit (startHost_of_faulted hdue ok width rate hmark hfaulted)
  case comes =>
    exact fun hok => run_commit ((startHost_of_on hdue ok width rate hmark hfaulted hon).trans (if_pos hok))
  case fails =>
    exact fun hok =>
      run_commit ((startHost_of_on hdue ok width rate hmark hfaulted hon).trans (if_neg (ne_true_of_eq_false hok)))

end Sys2Proof.Machine
end

section
/-! ### Start-up of memory, bays and edge ports -/

namespace Sys2Proof.Machine

/-! #### Step 4 (R417) -/

theorem startPair_of_due {w : Work} {k : Nat} (hk : k < 8) (hdue : w.due (0x400 + k) = true) (west east : MemTest) :
    startPair k west east w = ((w.startMemory k west).startMemory (8 + k) east).stepEnds (max west.ms east.ms) := by
  refine if_neg ?_
  rintro (hover | hnot)
  · omega
  · rw [hdue] at hnot
    exact Bool.false_ne_true hnot

/-! #### Step 5 (R417 to R419) -/

/-- The step of a bay begins: it is due, and no other bay ramps. -/
structure BayBegins (w : Work) (b : Nat) : Prop where
  bay : b < 16
  due : w.due (0x500 + b) = true
  steady : w.rampsNow = false

theorem BayBegins.not_held {w : Work} {b : Nat} (h : BayBegins w b) :
    ¬(16 ≤ b ∨ (!w.due (0x500 + b)) = true ∨ w.rampsNow = true) := by
  obtain ⟨hbay, hdue, hsteady⟩ := h
  rw [hdue, hsteady]
  rintro (hover | hnot | hramps)
  · omega
  · exact Bool.false_ne_true hnot
  · exact Bool.false_ne_true hramps

theorem startBay_of_service {w : Work} {b : Nat} (hbegins : BayBegins w b) (hroot : b = w.rootBay) (hstays : w.serviceStays = true)
    (t : BayTest) : startBay b t w = ((w.unitsFailed b).journal (0x500 + b) 1 2 0 0).toService := by
  unfold startBay
  simp only []
  rw [if_neg hbegins.not_held, if_pos ⟨hroot, hstays⟩]

section
variable {w : Work} {b : Nat} (hbegins : BayBegins w b) (hserves : ¬(b = w.rootBay ∧ w.serviceStays = true)) (t : BayTest)
include hbegins hserves

theorem startBay_of_skipped (hmark : w.boot.markOf (0x500 + b) = 2) :
    startBay b t w = ((w.unitsFailed b).journal (0x500 + b) 2 3 0 0).stepEnds 0 := by
  unfold startBay
  simp only []
  rw [if_neg hbegins.not_held, if_neg hserves, if_pos hmark]

section
variable (hmark : w.boot.markOf (0x500 + b) ≠ 2)
include hmark

/-- A bay that has no way to the clock root fails. -/
theorem startBay_of_apart (hapart : w.hasPath b = false ∨ w.root.lost = true ∨ w.root.running = false) :
    startBay b t w = w.bayFails b 0 0 := by
  have hnone : (!w.hasPath b) = true ∨ w.root.lost = true ∨ (!w.root.running) = true := by simpa using hapart
  unfold startBay
  simp only []
  rw [if_neg hbegins.not_held, if_neg hserves, if_neg hmark, if_pos hnone]

section
variable (hpath : w.hasPath b = true) (hlost : w.root.lost = false) (hruns : w.root.running = true)
include hpath hlost hruns

theorem startBay_of_faulted (hfaulted : (w.domain b).faulted = true) : startBay b t w = w.bayFails b 0 0x93 := by
  have hjoined : ¬((!w.hasPath b) = true ∨ w.root.lost = true ∨ (!w.root.running) = true) := by simp [hpath, hlost, hruns]
  unfold startBay
  simp only []
  rw [if_neg hbegins.not_held, if_neg hserves, if_neg hmark, if_neg hjoined, if_pos hfaulted]

section
variable {t} (hfaulted : (w.domain b).faulted = false)
include hfaulted

theorem startBay_of_no_pg (hpg : t.pgOk = false) (hoff : (w.domain b).st ≠ .on) :
    startBay b t w = (w.startFault b).bayFails b t.ms 0x93 := by
  have hjoined : ¬((!w.hasPath b) = true ∨ w.root.lost = true ∨ (!w.root.running) = true) := by simp [hpath, hlost, hruns]
  have hnot : (!t.pgOk) = true ∧ (w.domain b).st ≠ .on := ⟨by rw [hpg]; rfl, hoff⟩
  unfold startBay
  simp only []
  rw [if_neg hbegins.not_held, if_neg hserves, if_neg hmark, if_neg hjoined, if_neg (ne_true_of_eq_false hfaulted), if_pos hnot]

/-- The bay is powered, and its tests decide. -/
theorem startBay_of_powered (hpg : t.pgOk = true ∨ (w.domain b).st = .on) :
    startBay b t w =
      if t.timedOut = true ∨ 10000 < t.ms then ((w.startDomain b).pullLow b .off).bayFails b t.ms 0
      else
        let found := ((w.startDomain b).bayResults b t).installMap
        if b = 8 ∧ found.root.who = 0 ∧ (found.activeSite boardASites).isNone
        then (found.loseRoot.keepRegs.pullLow b .off).bayFails b t.ms 0
        else ((found.joinTree.bayReady b).journal (0x500 + b) (w.boot.markOf (0x500 + b)) 1 t.ms 0).stepEnds t.ms := by
  have hjoined : ¬((!w.hasPath b) = true ∨ w.root.lost = true ∨ (!w.root.running) = true) := by simp [hpath, hlost, hruns]
  have hpowered : ¬((!t.pgOk) = true ∧ (w.domain b).st ≠ .on) := by
    rintro ⟨hnot, hoff⟩
    rcases hpg with hpg | hon
    · rw [hpg] at hnot
      exact Bool.false_ne_true hnot
    · exact hoff hon
  unfold startBay
  simp only []
  rw [if_neg hbegins.not_held, if_neg hserves, if_neg hmark, if_neg hjoined, if_neg (ne_true_of_eq_false hfaulted), if_neg hpowered]

end
end
end
end

/-! #### Step 6 (R319, R417) -/

/-- Ports that have failed, each once. -/
def Work.portsFail (v : Work) (l : List Nat) : Work :=
  ({ v with boot := { v.boot with
    failedPorts := v.boot.failedPorts ++ l.filter (fun k => !v.boot.failedPorts.contains k) } } : Work).readyChanged

/-- An edge's step ends: it began with the first of the four, and the start goes on by the longest. -/
def Work.edgeEnds (v : Work) (step mark outcome ms status : Nat) : Work :=
  ({ v with boot := { v.boot.record (v.bootNow - v.boot.edgeMs) step mark outcome ms status with
    edgeMs := max v.boot.edgeMs ms } } : Work).stepEnds (ms - v.boot.edgeMs)

/-- The edge's domain on and its ports brought up, halved on the alternate way. -/
def Work.edgeUp (w : Work) (e : Nat) (tests : List PortTest) : Work :=
  (tests.filter (fun t => (edgePorts (32 + e)).contains t.port)).foldl (fun v t =>
    v.bringUpPort t.port (if w.boot.markOf (0x600 + e) = 1 then halvedTest t else t)) (w.startDomain (32 + e))

/-- The ports of an edge that stand with a peer and are not up. -/
def Work.edgeDown (v : Work) (e : Nat) : List Nat := (edgePorts (32 + e)).filter (fun k => v.peerRole k != 0 && !v.portUp k)

/-- The longest of the tests. -/
def longestTest (tests : List PortTest) : Nat := tests.foldl (fun n t => max n t.ms) 0

section
variable {w : Work} {e : Nat} (he : e < 4) (hdue : w.due (0x600 + e) = true) (tests : List PortTest)
include he hdue

theorem edge_not_held : ¬(4 ≤ e ∨ (!w.due (0x600 + e)) = true) := by
  rw [hdue]
  rintro (hover | hnot)
  · omega
  · exact Bool.false_ne_true hnot

theorem startEdge_of_skipped (hmark : w.boot.markOf (0x600 + e) = 2) :
    startEdge e tests w = (w.portsFail (edgePorts (32 + e))).edgeEnds (0x600 + e) (w.boot.markOf (0x600 + e)) 3 0 0 := by
  unfold startEdge
  simp only []
  rw [if_neg (edge_not_held he hdue), if_pos hmark]
  rfl

theorem startEdge_of_faulted (hmark : w.boot.markOf (0x600 + e) ≠ 2) (hfaulted : (w.domain (32 + e)).faulted = true) :
    startEdge e tests w = (w.portsFail (edgePorts (32 + e))).edgeEnds (0x600 + e) (w.boot.markOf (0x600 + e)) 2 0 0x93 := by
  unfold startEdge
  simp only []
  rw [if_neg (edge_not_held he hdue), if_neg hmark, if_pos hfaulted]
  rfl

theorem startEdge_of_sound (hmark : w.boot.markOf (0x600 + e) ≠ 2) (hfaulted : (w.domain (32 + e)).faulted = false) :
    startEdge e tests w =
      ((w.edgeUp e tests).portsFail ((w.edgeUp e tests).edgeDown e)).joinLeaves.edgeEnds (0x600 + e) (w.boot.markOf (0x600 + e))
        (if (w.edgeUp e tests).edgeDown e = [] ∧ longestTest tests ≤ 30000 then 1 else 2) (longestTest tests) 0 := by
  unfold startEdge
  simp only []
  rw [if_neg (edge_not_held he hdue), if_neg hmark, if_neg (ne_true_of_eq_false hfaulted)]
  rfl

end

/-- Settles O56: step 4 brings up its pair, step 5 goes by what stands in the way of a bay and then by its tests, and step 6 by the
mark and the fault of its edge. -/
theorem startUpGoesOn : Obligations.StartUpGoesOn := by
  intro s k b e west east test tests w step on found edge ms ks up down fail ends
  have hms : longestTest tests = ms := rfl
  have hup : w.edgeUp e tests = up := rfl
  have hdown : up.edgeDown e = down := rfl
  have hfail : Work.portsFail = fail := rfl
  have hends : (fun v => Work.edgeEnds v (0x600 + e) (w.boot.markOf (0x600 + e))) = ends := rfl
  clear_value ends fail down up ms
  subst hends hfail hdown hup hms
  refine ⟨?pair, fun hbay hdue hsteady hserves => ?bay, ?service, fun he hdue => ⟨?edgeSkipped, ?edgeFaulted, ?edgeSound⟩⟩
  case pair => exact fun hk hdue => run_commit (startPair_of_due hk hdue west east)
  case service =>
    exact fun hbay hdue hsteady hroot hstays => run_commit (startBay_of_service ⟨hbay, hdue, hsteady⟩ hroot hstays test)
  case bay =>
    have hbegins : BayBegins w b := ⟨hbay, hdue, hsteady⟩
    refine ⟨?skipped, ?faulted, fun hmark hpath hlost hruns hfaulted => ⟨?dark, ?fails, ?passes⟩, ?apart⟩
    case skipped => exact fun hmark => run_commit (startBay_of_skipped hbegins hserves test hmark)
    case apart => exact fun hmark hapart => run_commit (startBay_of_apart hbegins hserves test hmark hapart)
    case faulted =>
      exact fun hmark hpath hlost hruns hfaulted =>
        run_commit (startBay_of_faulted hbegins hserves test hmark hpath hlost hruns hfaulted)
    case dark =>
      exact fun hpg hoff => run_commit (startBay_of_no_pg hbegins hserves hmark hpath hlost hruns hfaulted hpg hoff)
    case fails =>
      exact fun hpg hlate => run_commit
        ((startBay_of_powered hbegins hserves hmark hpath hlost hruns hfaulted hpg).trans (if_pos hlate))
    case passes =>
      intro hpg hdone hms
      have hintime : ¬(test.timedOut = true ∨ 10000 < test.ms) := by
        rw [hdone]
        rintro (hlate | hlate)
        · exact Bool.false_ne_true hlate
        · omega
      exact run_commit
        ((startBay_of_powered hbegins hserves hmark hpath hlost hruns hfaulted hpg).trans (if_neg hintime))
  case edgeSkipped => exact fun hmark => run_commit (startEdge_of_skipped he hdue tests hmark)
  case edgeFaulted => exact fun hmark hfaulted => run_commit (startEdge_of_faulted he hdue tests hmark hfaulted)
  case edgeSound => exact fun hmark hfaulted => run_commit (startEdge_of_sound he hdue tests hmark hfaulted)

end Sys2Proof.Machine
end

section
/-! ### Heartbeat, takeover and marks -/

namespace Sys2Proof.Machine

/-- Settles O57: the leader beats, the standby takes over, and a cleared mark joins those to be noted. -/
theorem sideboardsKeepWatch : Obligations.SideboardsKeepWatch := by
  refine fun s cause step => ⟨fun hlead hbegan => ?beat, fun hlead hstandby => ?takeover, ?mark⟩
  case beat => exact run_commit (f := heartbeat) (if_pos ⟨hlead, hbegan⟩)
  case takeover => exact run_commit (takeover_of_standby hlead hstandby cause)
  case mark => exact run_commit (f := clearMark step) rfl

end Sys2Proof.Machine
end

section
/-! ### Firmware, keys and attestation -/

namespace Sys2Proof.Machine

/-! #### Firmware (R430) -/

/-- The offset that a write under way has reached; 0 where none is, or where its second has passed. -/
def Work.nextOffset (w : Work) : Nat :=
  match w.boot.writing with
  | some (n, t) => if w.now ≤ t + 1000000000 then n else 0
  | none => 0

theorem firmwareWrite_of_order {w : Work} {offset : Nat} (h : offset = 0 ∨ offset = w.nextOffset) (data : List Byte) (more : Bool) :
    firmwareWrite offset data more w =
      let put := w.modSpare (fun x => if offset = 0 then { image := data } else { x with image := x.image ++ data })
      if more then ({ put with boot := { put.boot with writing := some (offset + data.length, w.now) } } : Work).accept
      else ({ put with boot := { put.boot with writing := none } } : Work).verifySpare.accept := by
  have hinOrder : ¬(offset ≠ 0 ∧ offset ≠ w.nextOffset) := fun ⟨hzero, hnext⟩ => h.elim hzero hnext
  exact if_neg hinOrder

theorem firmwareWrite_of_disorder {w : Work} {offset : Nat} (hzero : offset ≠ 0) (hnext : offset ≠ w.nextOffset) (data : List Byte)
    (more : Bool) : firmwareWrite offset data more w = w.refuse 0x7B := if_pos ⟨hzero, hnext⟩

theorem firmwareAbandon_of_writing {w : Work} {n t : Nat} (h : w.boot.writing = some (n, t)) :
    firmwareAbandon w =
      let gone := (w.reach (t + 1000000000)).modSpare (fun _ => {})
      { gone with boot := { gone.boot with writing := none } } := by
  unfold firmwareAbandon
  rw [h]

theorem activate_of_slot {slot : Nat} (h : slot < 2) (w : Work) :
    activate slot w = (({ w with boot := { w.boot with nextSlot := slot } } : Work).tellSecurity 0).accept :=
  if_neg (by omega)

theorem commitVersion_of_may {w : Work} {version : Nat} (h : w.mayCommit version = true) :
    commitVersion version w = (({ w with boot := { w.boot with burn := some version } } : Work).tellSecurity 0).accept := if_pos h

theorem commitVersion_of_may_not {w : Work} {version : Nat} (h : ¬w.mayCommit version = true) :
    commitVersion version w = (w.tellSecurity 0x81).accept := if_neg h

/-- What the last security command told reads in 0x8000.0D, through a burn too. -/
theorem burned_work_reg_told (s : State) (w : Work) (status : Nat) :
    (s.burned (w.tellSecurity status).accept).work.reg 0x8000 0x0D = status := reg_setReg w 0x8000 0x0D status

/-- Settles O58: a segment by its offset, and a commit by whether the version may be committed, which alone asks for a burn. -/
theorem firmwareIsUpdated : Obligations.FirmwareIsUpdated := by
  intro s offset slot version data more w next put
  refine ⟨?inOrder, ?outOfOrder, ?abandoned, ?activated, ?committed⟩
  case inOrder => exact fun h => run_commit (firmwareWrite_of_order (w := w) h data more)
  case outOfOrder => exact fun hzero hnext => run_commit (firmwareWrite_of_disorder (w := w) hzero hnext data more)
  case abandoned => exact fun n t h => run_commit (firmwareAbandon_of_writing h)
  case activated => exact fun h => run_commit (activate_of_slot h w)
  case committed =>
    intro hburn
    by_cases h : w.mayCommit version = true
    · refine ⟨_, runBurning_burned (commitVersion_of_may h), ?_, ?_⟩
      · rw [if_pos h]
        rfl
      · rw [burned_work_reg_told, if_pos h]
    · refine ⟨_, runBurning_burned (commitVersion_of_may_not h), ?_, ?_⟩
      · rw [if_neg h, burned_of_no_burn s (w := (w.tellSecurity 0x81).accept) hburn]
        rfl
      · rw [burned_work_reg_told, if_neg h]

/-! #### Operator keys (R432) -/

theorem keySlotWrite_of_form {data : List Byte} (hlen : data.length = 1572) (hslot : leAt data 0 1 < 8)
    (hzeros : allZero (slice data 1 3) = true) (p : Path) (w : Work) :
    keySlotWrite p data w =
      if w.mayWriteKey p (leAt data 0 1) then
        (({ w with boot := { w.boot with keys := tput w.boot.keys (leAt data 0 1) (data.drop 4) } } : Work).tellSecurity 0).accept
      else (w.tellSecurity 0x82).accept := by
  have hform : ¬(8 ≤ leAt data 0 1 ∨ (!allZero (slice data 1 3)) = true) := by simp [hslot, hzeros]
  unfold keySlotWrite
  simp only []
  rw [if_neg (not_not_intro hlen), if_neg hform]
  cases w.mayWriteKey p (leAt data 0 1) <;> rfl

/-- A path may clear a slot: it is a session of the owner's key, and slot 0 goes last. -/
theorem keySlotClear_of_slot {slot : Nat} (hslot : slot < 8) (p : Path) (w : Work) :
    keySlotClear p slot w =
      if w.ownerSession p = true ∧ (slot = 0 → w.boot.keys.any (fun e => e.1 != 0) = false)
      then (({ w with boot := { w.boot with keys := tdel w.boot.keys slot } } : Work).tellSecurity 0).accept
      else (w.tellSecurity 0x82).accept := by
  have hmay : ¬((!w.ownerSession p) = true ∨ slot = 0 ∧ w.boot.keys.any (fun e => e.1 != 0) = true) ↔
      w.ownerSession p = true ∧ (slot = 0 → w.boot.keys.any (fun e => e.1 != 0) = false) := by
    rw [not_or, not_and, Bool.not_eq_true, Bool.not_eq_true, Bool.not_eq_false']
  unfold keySlotClear
  rw [if_neg (Nat.not_le.mpr hslot), ← ite_not]
  exact if_congr hmay rfl rfl

/-! #### Attestation (R433) -/

section
variable {data : List Byte} {w : Work} (hlen : data.length = 32)
include hlen

theorem attest_of_busy (hbusy : w.now < w.boot.attestUntil) : attest data w = w.refuse 0x84 := by
  unfold attest
  rw [if_neg (not_not_intro hlen), if_pos hbusy]

theorem attest_of_free (hfree : w.boot.attestUntil ≤ w.now) :
    attest data w =
      let a := w.draw
      let b := a.2.draw
      let body := b.2.reportBody data
      let sig := (Config.falconSign (Config.shake256 body 64) a.1).take 1280
      (({ b.2 with boot := { b.2.boot with
        report := b.2.lastReport, attested := body ++ toBytes sig.length 2 ++ padTo 1280 sig
        attestUntil := b.2.now + b.1 % 50000001 } } : Work).tellSecurity 0).accept := by
  unfold attest
  rw [if_neg (not_not_intro hlen), if_neg (Nat.not_lt.mpr hfree)]

end

/-- Settles O59: each key command by whether its path may, and an attestation by whether another is being made. -/
theorem keysAndAttestation : Obligations.KeysAndAttestation := by
  intro s p data slot w k a b body sig
  refine ⟨?write, ?clear, fun hlen => ⟨?busy, ?free⟩⟩
  case write => exact fun hlen hslot hzeros => run_commit (keySlotWrite_of_form hlen hslot hzeros p w)
  case clear => exact fun hslot => run_commit (keySlotClear_of_slot hslot p w)
  case busy => exact fun hbusy => run_commit (attest_of_busy hlen hbusy)
  case free => exact fun hfree => run_commit (attest_of_free hlen hfree)

end Sys2Proof.Machine
end
